-- ==== Sys2Proof/Word.lean ====
section
/-! DEFINITION. The word types of the device. -/

namespace Sys2Proof

/-- A control register or scalar register: 64 bits (R4, Table 5.1). -/
abbrev Word := BitVec 64

/-- One byte (R2). -/
abbrev Byte := BitVec 8

/-- A long total L96 (Table 3.8). -/
abbrev L96 := BitVec 96

end Sys2Proof
end

