-- ==== Sys2Proof/Syntax.lean ====
section
/-! DEFINITION. The commands of the device: one constructor for each row of the table of operations and events
(opcode_table.json). A slot syllable is given as the issuing core sees it: its core, whether it is the last syllable
of its bundle, its predicate index and its 22 operand bits (R108). -/

namespace Sys2Proof

/-- One syllable of a bundle at a core (R107, R108): the core, whether this syllable completes its bundle (the
command then issues the bundle), the predicate index of bits 25:22 and the fields of bits 21:0. -/
structure Syl where
  n : Fin 64
  last : Bool
  pred : BitVec 4
  f : BitVec 22
deriving DecidableEq, Repr

/-- The four slots of a bundle (Table 5.2). -/
inductive SlotL where
  | s | m | a | v
deriving DecidableEq, Repr

/-- What the fetch of a bundle finds in instruction memory (R105): no error, a single-bit error, an uncorrectable
error. -/
inductive Ecc where
  | clean | single | uncorr
deriving DecidableEq, Repr

/-- The part of a 64-bit register that an aligned access names (R4): all of it, bytes 3:0 or bytes 7:4. -/
inductive AccSz where
  | w64 | lo | hi
deriving DecidableEq, Repr

/-- The register windows of R133. -/
inductive SeqReg where
  | sreg (i : Fin 64)
  | pred
  | kreg (i : Fin 4)
  | dreg (i : Fin 32) (w : Fin 4)
deriving DecidableEq, Repr

/-- An upset of nature at the write of an array result row: none; bits of one column's total flipped as the array
computes it (what R47 detects); one stored entry of an accumulator slot struck, correctably or not (R85). -/
inductive ArrayUpset where
  | none
  | column (col : Fin 258) (flip : L96)
  | entry (slot : Fin 16) (row : Fin 256) (col : Fin 258) (uncorr : Bool)
deriving DecidableEq, Repr

/-- What the decoding of memory words finds (R258): no error, corrected words, uncorrectable words that stay so after
one retry, each with their number; or an uncorrectable check burst, which makes all 32 words of the unit uncorrectable. -/
inductive EccOut where
  | clean
  | corrected (words : Nat)
  | uncorr (words : Nat)
  | checkBurst
deriving DecidableEq, Repr


/-- Engines with an ENABLE bit (Table 17.5). -/
inductive Engine where
  | core (n : Fin 64)
  | mc (c : Fin 16)
  | upd (c : Fin 16)
  | flash
  | att (q : Fin 16)
  | port (p : Fin 24)
  | eth (e : Fin 2)
  | cxl
deriving DecidableEq, Repr

/-- A received Ethernet frame (R406): with a bad FCS, an ICMPv6 neighbour solicitation, an ICMPv6 echo request, a UDP
datagram, or anything else. Addresses are IPv6. -/
inductive EthFrame where
  | badFcs
  | solicit (target src : Nat)
  | echo (dst src : Nat) (data : List Byte)
  | udp (dst src dport sport : Nat) (sumOk : Bool) (payload : List Byte)
  | other
deriving DecidableEq, Repr

/-- A transaction that arrives whole at this device: the next of a class on the loopback path, or one that came in on a
port with its class, header fields and data (Table 15.8). -/
inductive Arr where
  | loop (cls : Fin 3)
  | link (port : Fin 24) (cls : Fin 3) (src tag : BitVec 16) (sz : BitVec 8) (len : BitVec 16) (addr : BitVec 48)
      (data : List Byte)
deriving DecidableEq, Repr

/-- A reduce-add flit that arrives: the next of a class on the loopback path, or one of a packet from a port, its
entries starting at number pos of the packet (R388). -/
inductive RaddArr where
  | loop (cls : Fin 3)
  | link (port : Fin 24) (cls : Fin 3) (src tag : BitVec 16) (sz : BitVec 8) (base : BitVec 48) (pos : Nat)
      (entries : List L96) (last : Bool)
deriving DecidableEq, Repr

/-- The commands. -/
inductive Instr where
  /-- REGISTER_WRITE (R5). -/
  | registerWrite (addr : Nat) (size : Nat) (v : Word)
  /-- RC_READ (R6). -/
  | rcRead (addr : Nat) (size : Nat)
  /-- MIRROR_HOLD_RELEASE (R24). -/
  | mirrorHoldRelease (c : Fin 16)
  /-- NOP (R135). -/
  | nop (y : Syl) (slot : SlotL) (op : BitVec 6) (ecc : Ecc)
  /-- DELAYED_RESULT_WRITE (R111). -/
  | delayedResultWrite (n : Fin 64)
  /-- STALL_END (R116). -/
  | stallEnd (n : Fin 64)
  /-- WAIT_TIMEOUT (R117). -/
  | waitTimeout (n : Fin 64)
  /-- TIER_BOUND_EXPIRY (R245). -/
  | tierBoundExpiry (n : Fin 64)
  /-- DEFERRED_FAULT_DUE (R125). -/
  | deferredFaultDue (n : Fin 64)
  /-- CFS_COMPARE (R129). -/
  | cfsCompare (n : Fin 64) (upset : BitVec 32)
  /-- S_ADD (R139). -/
  | sAdd (y : Syl)
  /-- S_SUB (R139). -/
  | sSub (y : Syl)
  /-- S_AND (R139). -/
  | sAnd (y : Syl)
  /-- S_OR (R139). -/
  | sOr (y : Syl)
  /-- S_XOR (R139). -/
  | sXor (y : Syl)
  /-- S_SHL (R139). -/
  | sShl (y : Syl)
  /-- S_SHR (R139). -/
  | sShr (y : Syl)
  /-- S_SRA (R139). -/
  | sSra (y : Syl)
  /-- S_MIN (R139). -/
  | sMin (y : Syl)
  /-- S_MAX (R139). -/
  | sMax (y : Syl)
  /-- S_MINU (R139). -/
  | sMinu (y : Syl)
  /-- S_MAXU (R139). -/
  | sMaxu (y : Syl)
  /-- S_MUL (R139). -/
  | sMul (y : Syl)
  /-- S_MULHU (R139). -/
  | sMulhu (y : Syl)
  /-- S_SEL (R139). -/
  | sSel (y : Syl)
  /-- S_ADDI (R140). -/
  | sAddi (y : Syl)
  /-- S_ANDI (R140). -/
  | sAndi (y : Syl)
  /-- S_SHLI (R140). -/
  | sShli (y : Syl)
  /-- S_SHRI (R140). -/
  | sShri (y : Syl)
  /-- S_SRAI (R140). -/
  | sSrai (y : Syl)
  /-- S_LI (R140). -/
  | sLi (y : Syl)
  /-- S_LIH16 (R140). -/
  | sLih16 (y : Syl)
  /-- S_LIH32 (R140). -/
  | sLih32 (y : Syl)
  /-- S_LIH48 (R140). -/
  | sLih48 (y : Syl)
  /-- S_CMP (R141). -/
  | sCmp (y : Syl)
  /-- S_CMPI (R141). -/
  | sCmpi (y : Syl)
  /-- S_PLOG (R142). -/
  | sPlog (y : Syl)
  /-- S_RDP (R142). -/
  | sRdp (y : Syl)
  /-- S_WRP (R142). -/
  | sWrp (y : Syl)
  /-- S_LD (R143). -/
  | sLd (y : Syl)
  /-- S_ST (R143). -/
  | sSt (y : Syl)
  /-- S_BR (R144). -/
  | sBr (y : Syl)
  /-- S_BRL (R144). -/
  | sBrl (y : Syl)
  /-- S_BRR (R144). -/
  | sBrr (y : Syl)
  /-- S_BRK (R144). -/
  | sBrk (y : Syl)
  /-- S_LOOP (R145). -/
  | sLoop (y : Syl)
  /-- S_HALT (R121). -/
  | sHalt (y : Syl)
  /-- M_LD (R147). -/
  | mLd (y : Syl)
  /-- M_ST (R147). -/
  | mSt (y : Syl)
  /-- M_SOPEN (R148). -/
  | mSopen (y : Syl)
  /-- M_SCLOSE (R150). -/
  | mSclose (y : Syl)
  /-- M_LDS (R149). -/
  | mLds (y : Syl)
  /-- M_STS (R150). -/
  | mSts (y : Syl)
  /-- M_PUT (R153). -/
  | mPut (y : Syl)
  /-- M_GET (R153). -/
  | mGet (y : Syl)
  /-- M_RADD (R153). -/
  | mRadd (y : Syl)
  /-- M_FADD (R153). -/
  | mFadd (y : Syl)
  /-- M_MSG (R154). -/
  | mMsg (y : Syl)
  /-- M_FENCE (R153). -/
  | mFence (y : Syl)
  /-- M_CLAIMR (R158). -/
  | mClaimr (y : Syl)
  /-- M_CLAIM (R158). -/
  | mClaim (y : Syl)
  /-- CLAIM_ARRIVAL (R224). -/
  | claimArrival (w : Option (Fin 64 × AccSz × Word)) (fs : List Arr)
  /-- M_WAIT (R156). -/
  | mWait (y : Syl)
  /-- M_QSYNC (R157). -/
  | mQsync (y : Syl)
  /-- FABRIC_OP_COMPLETE (R152). -/
  | fabricOpComplete (n : Fin 64) (id : Nat)
  /-- COMP_WRITE (R155). -/
  | compWrite (n : Fin 64) (c : Fin 16) (v : BitVec 32)
  /-- A_WLD (R31). -/
  | aWld (y : Syl)
  /-- WEIGHT_LOAD_COMPLETE (R29). -/
  | weightLoadComplete (n : Fin 64)
  /-- A_MM (R34). -/
  | aMm (y : Syl)
  /-- MM_ROW_WRITE (R34). -/
  | mmRowWrite (n : Fin 64) (upset : ArrayUpset)
  /-- BCAST_STREAM_CLOSE (R37). -/
  | bcastStreamClose (q : Fin 16)
  /-- A_SADD (R89). -/
  | aSadd (y : Syl)
  /-- A_DRAIN (R90). -/
  | aDrain (y : Syl)
  /-- DRAIN_CHECK_VERDICT (R49). -/
  | drainCheckVerdict (n : Fin 64)
  /-- LICHEN_WRITE (R51). -/
  | lichenWrite (n : Fin 64) (col : Bool) (i : Fin 2) (sz : AccSz) (v : Word)
  /-- SR_STATE_WRITE (R78). -/
  | srStateWrite (n : Fin 64) (sz : AccSz) (v : Word)
  /-- ACC_WINDOW_READ (R83). -/
  | accWindowRead (n : Fin 64) (off : Nat) (size : Nat)
  /-- ACC_WINDOW_WRITE (R83). -/
  | accWindowWrite (n : Fin 64) (off : Nat) (size : Nat) (v : Word)
  /-- ACC_REMOTE_WRITE (R86). -/
  | accRemoteWrite (n : Fin 64) (sz : AccSz) (v : Word)
  /-- RADD_ADD_COMPLETE (R87). -/
  | raddAddComplete (n : Fin 64)
  /-- SEQ_START_GO (R128). -/
  | seqStartGo (n : Fin 64) (sz : AccSz) (v : Word)
  /-- CORE_ENABLE (R130). -/
  | coreEnable (n : Fin 64)
  /-- CORE_DISABLE (R130). -/
  | coreDisable (n : Fin 64)
  /-- CORE_CLOSE_DONE (R130). -/
  | coreCloseDone (n : Fin 64)
  /-- SEQ_REG_WRITE (R133). -/
  | seqRegWrite (n : Fin 64) (r : SeqReg) (sz : AccSz) (v : Word)
  /-- IMEM_PTR_WRITE (R133). -/
  | imemPtrWrite (n : Fin 64) (sz : AccSz) (v : Word)
  /-- IMEM_DATA_WRITE (R133). -/
  | imemDataWrite (n : Fin 64) (sz : AccSz) (v : Word)
  /-- IMEM_DATA_READ (R133). -/
  | imemDataRead (n : Fin 64) (sz : AccSz)
  /-- V_FOP (R179). -/
  | vFop (y : Syl)
  /-- V_FOPS (R179). -/
  | vFops (y : Syl)
  /-- V_IOP (R179). -/
  | vIop (y : Syl)
  /-- V_IOPS (R179). -/
  | vIops (y : Syl)
  /-- V_FADDI (R179). -/
  | vFaddi (y : Syl)
  /-- V_FMULI (R179). -/
  | vFmuli (y : Syl)
  /-- V_FMAXI (R179). -/
  | vFmaxi (y : Syl)
  /-- V_FMINI (R179). -/
  | vFmini (y : Syl)
  /-- V_IADDI (R179). -/
  | vIaddi (y : Syl)
  /-- V_FMA (R180). -/
  | vFma (y : Syl)
  /-- V_FMAS (R180). -/
  | vFmas (y : Syl)
  /-- V_FUN (R181). -/
  | vFun (y : Syl)
  /-- V_FCMP (R182). -/
  | vFcmp (y : Syl)
  /-- V_SEL (R183). -/
  | vSel (y : Syl)
  /-- V_MOV (R183). -/
  | vMov (y : Syl)
  /-- V_BCS (R183). -/
  | vBcs (y : Syl)
  /-- V_BCI (R183). -/
  | vBci (y : Syl)
  /-- V_CVT (R184). -/
  | vCvt (y : Syl)
  /-- V_SPLIT (R186). -/
  | vSplit (y : Syl)
  /-- V_LD (R187). -/
  | vLd (y : Syl)
  /-- V_ST (R187). -/
  | vSt (y : Syl)
  /-- V_RED (R191). -/
  | vRed (y : Syl)
  /-- V_STAT (R193). -/
  | vStat (y : Syl)
  /-- V_SMS (R194). -/
  | vSms (y : Syl)
  /-- V_SMN (R195). -/
  | vSmn (y : Syl)
  /-- V_NORM (R196). -/
  | vNorm (y : Syl)
  /-- V_EXT (R198). -/
  | vExt (y : Syl)
  /-- V_MSET (R190). -/
  | vMset (y : Syl)
  /-- V_BOXDEC (R333). -/
  | vBoxdec (y : Syl)
  /-- V_NMS (R337). -/
  | vNms (y : Syl)
  /-- NMS_COMPLETE (R340). -/
  | nmsComplete (n : Fin 64)
  /-- MREG_WRITE (R203). -/
  | mregWrite (n : Fin 64) (i : Fin 8) (w : Fin 4) (sz : AccSz) (v : Word)
  /-- VREG_DATA_ACCESS (R203). -/
  | vregDataAccess (n : Fin 64) (sz : AccSz) (v : Option Word)
  /-- LOAD_REQUEST (R212). -/
  | loadRequest
  /-- PLAN_LOAD (R218). -/
  | planLoad
  /-- WINDOW_WRITE (R222). -/
  | windowWrite (n : Fin 64) (i : Fin 256) (hi : Bool) (sz : AccSz) (v : Word)
  /-- CLAIM_SET_WRITE (R223). -/
  | claimSetWrite (i : Fin 64) (sz : AccSz) (v : Word)
  /-- PREFETCH_ISSUE (R235). -/
  | prefetchIssue (n : Fin 64) (d : Fin 32)
  /-- TRACKER_GRANT (R243). -/
  | trackerGrant (c : Fin 16)
  /-- TILE_ARRIVE (R235). -/
  | tileArrive (n : Fin 64) (d : Fin 32) (i : Fin 64)
  /-- TIER_TILE_FAIL (R245). -/
  | tierTileFail (n : Fin 64) (d : Fin 32) (i : Fin 64)
  /-- OUTPUT_TILE_WRITE (R241). -/
  | outputTileWrite (n : Fin 64) (d : Fin 32)
  /-- OUTPUT_TILE_COMPLETE (R241). -/
  | outputTileComplete (n : Fin 64) (d : Fin 32)
  /-- GUARD_REFETCH (R248). -/
  | guardRefetch (n : Fin 64)
  /-- MC_REQUEST_SERVICE (R260). -/
  | mcRequestService (id : Nat)
  /-- MC_READ_COMPLETE (R258). -/
  | mcReadComplete (id : Nat) (o : EccOut)
  /-- CHECKBIT_FILL (R261). -/
  | checkbitFill (c : Fin 16) (line : Nat)
  /-- BANK_REFRESH (R254). -/
  | bankRefresh (c : Fin 16)
  /-- MC_TRAINING (R254). -/
  | mcTraining (c : Fin 16) (good : BitVec 16)
  /-- SCRUB_READ (R262). -/
  | scrubRead (c : Fin 16) (o : EccOut)
  /-- SPARE_CMD_GO (R264). -/
  | spareCmdGo (c : Fin 16) (sz : AccSz) (v : Word)
  /-- SPARE_COPY_DONE (R264). -/
  | spareCopyDone (c : Fin 16) (bad : List Nat)
  /-- RETIRE_CMD_GO (R267). -/
  | retireCmdGo (c : Fin 16) (sz : AccSz) (v : Word)
  /-- RETIRE_COPY_DONE (R267). -/
  | retireCopyDone (c : Fin 16) (bad : List Nat)
  /-- MC_DISABLE (R442). -/
  | mcDisable (c : Fin 16)
  /-- ENGINE_ENABLE (R442). -/
  | engineEnable (e : Engine)
  /-- ENGINE_CLOSE_DONE (R442). -/
  | engineCloseDone (e : Engine)
  /-- FLASH_ENABLE (R270). -/
  | flashEnable
  /-- FLASH_MAP_LOAD_DONE (R270). -/
  | flashMapLoadDone (geom : Word) (dies : List Word)
  /-- FLASH_DISABLE (R442). -/
  | flashDisable
  /-- FLASH_REQUEST (R276). -/
  | flashRequest (id : Nat)
  /-- FLASH_READ_COMPLETE (R271). -/
  | flashReadComplete (id : Nat) (retries : Nat) (uncorr : Bool)
  /-- FLASH_WRITE_COMPLETE (R270). -/
  | flashWriteComplete (id : Nat)
  /-- GROWN_BAD_BLOCK (R274). -/
  | grownBadBlock (die : Fin 128) (bulk : Bool) (units : Nat)
  /-- READ_DISTURB_RELOCATE (R273). -/
  | readDisturbRelocate (die : Fin 128) (bulk : Bool) (units : Nat) (pe : BitVec 32)
  /-- WEAR_LEVEL_RELOCATE (R272). -/
  | wearLevelRelocate (die : Fin 128) (bulk : Bool) (units : Nat) (pe : BitVec 32)
  /-- GARBAGE_COLLECT (R499). -/
  | garbageCollect (die : Fin 128) (bulk : Bool) (units : Nat) (pe : BitVec 32)
  /-- SPILL_CREDIT (R275). -/
  | spillCredit
  /-- SPILL_BURST_WRITE (R275). -/
  | spillBurstWrite (sz : AccSz) (v : Word)
  /-- SPILL_RATE_WRITE (R277). -/
  | spillRateWrite (sz : AccSz) (v : Word)
  /-- MOSS_HEADER_ARRIVE (R290). -/
  | mossHeaderArrive (n : Fin 64) (d : Fin 32) (i : Fin 64)
  /-- MOSS_CONFIRM_ARRIVE (R290). -/
  | mossConfirmArrive (c : Fin 16) (n : Fin 64) (d : Fin 32) (i : Fin 64)
  /-- UPD_DOOR (R313). -/
  | updDoor (c : Fin 16) (k : BitVec 32)
  /-- UPDATE (R309). -/
  | update (c : Fin 16) (bad : List Nat)
  /-- FSTAT (R311). -/
  | fstat (c : Fin 16) (bad : List Nat)
  /-- GACC (R312). -/
  | gacc (c : Fin 16) (bad : List Nat)
  /-- UPD_COMMAND_COMPLETE (R316). -/
  | updCommandComplete (c : Fin 16)
  /-- UPD_RING_WRITE (R321). -/
  | updRingWrite (c : Fin 16) (sz : AccSz) (v : Word)
  /-- UPD_DISABLE (R319). -/
  | updDisable (c : Fin 16)
  /-- ATT_SDOOR (R347). -/
  | attSdoor (q : Fin 16) (k : BitVec 32)
  /-- ATT_CDOOR (R347). -/
  | attCdoor (q : Fin 16) (k : BitVec 32)
  /-- SET_LEAF (R348). -/
  | setLeaf (q : Fin 16)
  /-- SET_PAGE (R348). -/
  | setPage (q : Fin 16)
  /-- FREE_PAGE (R348). -/
  | freePage (q : Fin 16)
  /-- FREE_LEAF (R348). -/
  | freeLeaf (q : Fin 16)
  /-- SET_LEN (R348). -/
  | setLen (q : Fin 16)
  /-- RESET_SEQ (R348). -/
  | resetSeq (q : Fin 16)
  /-- STEP (R353). -/
  | attStep (q : Fin 16)
  /-- ATT_PAGE_ARRIVE (R356). -/
  | attPageArrive (q : Fin 16) (uncorr : Bool)
  /-- ATT_STEP_COMPLETE (R357). -/
  | attStepComplete (q : Fin 16)
  /-- ATT_CONFIG_WRITE (R362). -/
  | attConfigWrite (q : Fin 16) (off : Nat) (sz : AccSz) (v : Word)
  /-- ATT_DISABLE (R361). -/
  | attDisable (q : Fin 16)
  /-- FLIT_RECEIVE (R368). -/
  | flitReceive (p : Fin 24) (raw : List Byte)
  /-- FLIT_SLOT (R380). -/
  | flitSlot (p : Fin 24)
  /-- MARKER (R365). -/
  | marker (p : Fin 24)
  /-- NAK (R371). -/
  | nak (p : Fin 24) (sq : BitVec 10)
  /-- CREDIT (R372). -/
  | credit (p : Fin 24) (a : BitVec 16) (b : BitVec 16) (m : BitVec 16)
  /-- NEGOTIATE (R374). -/
  | negotiate (p : Fin 24) (vers : BitVec 32) (feat : BitVec 32) (node : BitVec 16) (a : BitVec 16) (b : BitVec 16) (m : BitVec 16)
  /-- NEG_ACK (R375). -/
  | negAck (p : Fin 24) (chosen : BitVec 16)
  /-- LANE_SWAP (R379). -/
  | laneSwap (p : Fin 24) (idx : BitVec 1) (lane : BitVec 5) (apply : Bool)
  /-- ACK_TIMEOUT_REPLAY (R371). -/
  | ackTimeoutReplay (p : Fin 24)
  /-- NEGOTIATE_RESEND (R374). -/
  | negotiateResend (p : Fin 24)
  /-- TRAIN_DONE (R373). -/
  | trainDone (p : Fin 24)
  /-- ALIGN_LOCK (R373). -/
  | alignLock (p : Fin 24)
  /-- LANE_LOCK_LOSS (R373). -/
  | laneLockLoss (p : Fin 24)
  /-- LINK_IDLE_TIMEOUT (R373). -/
  | linkIdleTimeout (p : Fin 24)
  /-- TRAIN_BACKOFF_EXPIRY (R373). -/
  | trainBackoffExpiry (p : Fin 24)
  /-- PORT_ENABLE (R373). -/
  | portEnable (p : Fin 24)
  /-- PORT_DISABLE (R402). -/
  | portDisable (p : Fin 24)
  /-- CLOSE_WAIT_EXPIRY (R402). -/
  | closeWaitExpiry (p : Fin 24)
  /-- LANE_SPARE_WRITE (R378). -/
  | laneSpareWrite (p : Fin 24) (sz : AccSz) (v : Word)
  /-- FAB_NODE_WRITE (R404). -/
  | fabNodeWrite (sz : AccSz) (v : Word)
  /-- SCHED_SWAP (R381). -/
  | schedSwap (p : Fin 24) (sz : AccSz) (v : Word)
  /-- SCHED_INSTALL (R381). -/
  | schedInstall (p : Fin 24)
  /-- FABRIC_TRACKER_GRANT (R387). -/
  | fabricTrackerGrant (id : Nat)
  /-- TRK_TIMEOUT (R387). -/
  | trkTimeout (id : Nat)
  /-- READ (R389). -/
  | read (t : Arr)
  /-- WRITE (R389). -/
  | write (t : Arr)
  /-- GET (R389). -/
  | get (t : Arr)
  /-- PUT (R389). -/
  | put (t : Arr)
  /-- FADD (R390). -/
  | fadd (t : Arr)
  /-- MSG (R392). -/
  | msg (t : Arr)
  /-- FENCE (R395). -/
  | fence (t : Arr)
  /-- CLAIM (R389). -/
  | fabClaim (t : Arr)
  /-- RADD (R397). -/
  | radd (t : RaddArr)
  /-- RADD_HELD_RELEASE (R397). -/
  | raddHeldRelease (p : Fin 25) (cls : Fin 3)
  /-- COMPLETION_RECEIVE (R391). -/
  | completionReceive (tag : BitVec 16) (status : BitVec 8) (v : Word) (data : List Byte)
  /-- ETH_FRAME_RECEIVE (R406). -/
  | ethFrameReceive (e : Fin 2) (f : EthFrame)
  /-- ETH_LINK_CHANGE (R405). -/
  | ethLinkChange (e : Fin 2) (link : Bool) (fec : Bool) (an : Bool) (corr : Nat) (bad : Nat)
  /-- ETH_DISABLE (R442). -/
  | ethDisable (e : Fin 2)
  /-- INGEST_DATA (R408). -/
  | ingestData (e : Fin 2) (src : Nat) (sport : Nat) (bs : List Byte)
  /-- INGEST_WRITE_COMPLETE (R409). -/
  | ingestWriteComplete (t : Fin 64)
  /-- INGEST_ACK_TIMER (R411). -/
  | ingestAckTimer (t : Fin 64)
  /-- ING_ENABLE (R412). -/
  | ingEnable (t : Fin 64) (sz : AccSz) (v : Word)
  /-- ING_CONFIG_WRITE (R427). -/
  | ingConfigWrite (t : Fin 64) (off : Nat) (sz : AccSz) (v : Word)
  /-- CXL_HOST_READ (R414). -/
  | cxlHostRead (a : Nat) (o : EccOut)
  /-- CXL_HOST_WRITE (R414). -/
  | cxlHostWrite (a : Nat) (v : BitVec 512) (be : BitVec 64) (poison : Bool)
  /-- IDENTIFY_MEMORY_DEVICE (R413). -/
  | identifyMemoryDevice
  /-- GET_HEALTH_INFO (R413). -/
  | getHealthInfo
  /-- GET_EVENT_RECORDS (R413). -/
  | getEventRecords
  /-- CLEAR_EVENT_RECORDS (R413). -/
  | clearEventRecords
  /-- GET_POISON_LIST (R414). -/
  | getPoisonList
  /-- CLEAR_POISON (R415). -/
  | clearPoison (a : Nat) (v : BitVec 512)
  /-- GET_TIMESTAMP (R413). -/
  | getTimestamp
  /-- SET_TIMESTAMP (R413). -/
  | setTimestamp (v : Nat)
  /-- CXL_MAILBOX_UNSUPPORTED (R413). -/
  | cxlMailboxUnsupported (op : BitVec 16)
  /-- CXL_WIN_WRITE (R416). -/
  | cxlWinWrite (size : Bool) (sz : AccSz) (v : Word)
  /-- HDM_DECODER_COMMIT (R416). -/
  | hdmDecoderCommit (commit : Bool)
  /-- PERST_N (R417). -/
  | perstN (low : Bool)
  /-- CXL_DISABLE (R417). -/
  | cxlDisable
  /-- I3C_ADDRESS_ASSIGN (R418). -/
  | i3cAddressAssign (addr : BitVec 7)
  /-- SET_ENDPOINT_ID (R418). -/
  | setEndpointId (eid : BitVec 8)
  /-- GETTID (R419). -/
  | gettid
  /-- GETPLDMVERSION (R419). -/
  | getpldmversion
  /-- GETPLDMTYPES (R419). -/
  | getpldmtypes
  /-- GETPLDMCOMMANDS (R419). -/
  | getpldmcommands
  /-- GETPDRREPOSITORYINFO (R419). -/
  | getpdrrepositoryinfo
  /-- GETPDR (R419). -/
  | getpdr (handle : BitVec 32)
  /-- GETNUMERICSENSORREADING (R420). -/
  | getnumericsensorreading (k : Fin 22)
  /-- GETSTATESENSORREADINGS (R420). -/
  | getstatesensorreadings
  /-- REQUESTUPDATE (R457). -/
  | requestupdate
  /-- ACTIVATEFIRMWARE (R457). -/
  | activatefirmware
  /-- PLDM_UNSUPPORTED (R419). -/
  | pldmUnsupported (typ : BitVec 6) (cmd : BitVec 8)
  /-- SENSOR_LIMIT_CROSS (R420). -/
  | sensorLimitCross (k : Fin 22)
  /-- GET_VERSION (R419). -/
  | getVersion
  /-- GET_CAPABILITIES (R419). -/
  | getCapabilities
  /-- NEGOTIATE_ALGORITHMS (R419). -/
  | negotiateAlgorithms
  /-- GET_DIGESTS (R419). -/
  | getDigests
  /-- GET_CERTIFICATE (R462). -/
  | getCertificate (off : BitVec 16) (len : BitVec 16)
  /-- CHALLENGE (R462). -/
  | challenge (m : List Byte)
  /-- GET_MEASUREMENTS (R462). -/
  | getMeasurements (m : List Byte)
  /-- SPDM_UNSUPPORTED (R419). -/
  | spdmUnsupported (code : BitVec 8)
  /-- GET_COSIG (R466). -/
  | getCosig
  /-- GET_NONCE (R467). -/
  | getNonce
  /-- UNLOCK (R469). -/
  | unlock (token : List Byte)
  /-- DBG_READ (R467). -/
  | dbgRead (addr : Word)
  /-- DBG_WRITE (R467). -/
  | dbgWrite (addr : Word) (v : Word)
  /-- STANDBY_POWER_ON (R455). -/
  | standbyPowerOn
  /-- MAIN_POWER_ON (R425). -/
  | mainPowerOn
  /-- MOD_RESET_ASSERT (R423). -/
  | modResetAssert
  /-- MOD_RESET_RELEASE (R425). -/
  | modResetRelease
  /-- SUPPLY_FAIL (R425). -/
  | supplyFail (standby : Bool)
  /-- REFCLK_LOSS (R445). -/
  | refclkLoss
  /-- JUNCTION_WARNING (R425). -/
  | junctionWarning (hot : Bool)
  /-- OVER_TEMPERATURE (R474). -/
  | overTemperature
  /-- INLET_HOT (R425). -/
  | inletHot (hot : Bool)
  /-- LOCKSTEP_MISMATCH (R429). -/
  | lockstepMismatch (k : Fin 4)
  /-- SRAM_ACCESS (R431). -/
  | sramAccess (k : Fin 4) (off : BitVec 23) (size : Nat) (v : Option Word) (o : Ecc)
  /-- APERTURE_ACCESS (R432). -/
  | apertureAccess (k : Fin 4) (a : BitVec 48) (v : Option Word)
  /-- SUP_FENCE (R432). -/
  | supFence (k : Fin 4) (v : Word)
  /-- MTIMER_EXPIRE (R433). -/
  | mtimerExpire (k : Fin 4)
  /-- EVENT_PULSE (R436). -/
  | eventPulse (i : Fin 512)
  /-- EVC_SWSET (R435). -/
  | evcSwset (sz : AccSz) (v : Word)
  /-- EVENT_ASSIGN (R438). -/
  | eventAssign (i : Fin 512)
  /-- TGT_CLAIM (R439). -/
  | tgtClaim (t : Fin 4) (sz : AccSz)
  /-- TGT_COMPLETE (R440). -/
  | tgtComplete (t : Fin 4) (sz : AccSz) (v : Word)
  /-- PKG_RST (R445). -/
  | pkgRst (sz : AccSz) (v : Word)
  /-- ROM_START (R456). -/
  | romStart
  /-- BOOT_ATTEMPT (R452). -/
  | bootAttempt (readable : Bool)
  /-- CONFIRM_BOOT (R456). -/
  | confirmBoot
  /-- ENROLL_OWNER (R461). -/
  | enrollOwner (arg : BitVec 32)
  /-- SET_OWNER_ONLY (R461). -/
  | setOwnerOnly
  /-- REVOKE_VENDOR (R461). -/
  | revokeVendor (arg : BitVec 32)
  /-- ADVANCE_SVN (R461). -/
  | advanceSvn (arg : BitVec 32)
  /-- SET_FLASH_WIN (R449). -/
  | setFlashWin (arg : BitVec 32)
  /-- SET_PLAN_MEAS (R462). -/
  | setPlanMeas
  /-- FUSE_LOCK (R461). -/
  | fuseLock
  /-- ACTION_LOCK (R470). -/
  | actionLock
  /-- ERASE_COMPLETE (R459). -/
  | eraseComplete
  /-- VOLT (R470). -/
  | volt
  /-- CLK (R470). -/
  | clk
  /-- TEMP (R470). -/
  | temp
  /-- MESH (R470). -/
  | mesh
  /-- SAFE_ENTER (R476). -/
  | safeEnter (sz : AccSz) (v : Word)
  /-- OPEN (R481). -/
  | openStep (step : BitVec 55)
  /-- JOURNAL_UPDATE (R481). -/
  | journalUpdate
  /-- COMMIT (R481). -/
  | commitStep
  /-- ABORT (R481). -/
  | abortStep
  /-- JRN_MARK (R482). -/
  | jrnMark (n : Fin 64) (pc : BitVec 14) (v : Word)
  /-- MARK_APPLY (R482). -/
  | markApply (n : Fin 64)
  /-- JOURNAL_DURABLE (R479). -/
  | journalDurable (ok : Bool)
  /-- MIRROR_START (R489). -/
  | mirrorStart
  /-- PAIR_RECV (R491). -/
  | pairRecv (src : Option (BitVec 16)) (v : Word)
  /-- PAIR_ACK (R490). -/
  | pairAck (src : Option (BitVec 16)) (v : Word)
  /-- PAIR_HB (R492). -/
  | pairHb (src : Option (BitVec 16)) (v : Word)
  /-- PAIR_PEER (R492). -/
  | pairPeer (src : Option (BitVec 16)) (v : Word)
  /-- HEARTBEAT_SEND (R492). -/
  | heartbeatSend
  /-- HEARTBEAT_TIMEOUT (R492). -/
  | heartbeatTimeout
  /-- CORE_SPARE (R496). -/
  | coreSpare (d : Fin 8) (sz : AccSz) (v : Word)
  /-- SUP_SPARE (R497). -/
  | supSpare (sz : AccSz) (v : Word)
  /-- ARB_REQUEST (R500). -/
  | arbRequest (code : Nat) (scope : Nat) (done : Bool)
  /-- ARB_START (R500). -/
  | arbStart (code : Nat) (scope : Nat)
  /-- ARB_CKPT_WRITE (R499). -/
  | arbCkptWrite (sz : AccSz) (v : Word)
  /-- SELF_TEST_TURN (R501). -/
  | selfTestTurn
  /-- SELF_TEST_DONE (R501). -/
  | selfTestDone (fail : Option (Nat × Nat))
  /-- SELF_TEST_OVERDUE (R502). -/
  | selfTestOverdue (u : Fin 96)
  /-- SEC_CMD_END (R472). -/
  | secCmdEnd (took : Bool)
  /-- CXL_LINK_CHANGE (R417). -/
  | cxlLinkChange (up : Bool) (width : BitVec 5) (rate : BitVec 3)
  /-- REFCLK_RETURN (R445). -/
  | refclkReturn
  /-- SUP_MSIP (R453). -/
  | supMsip (k : Fin 4) (v : Word)
  /-- DOE_DISCOVERY (R413). -/
  | doeDiscovery (index : BitVec 8)
  /-- CDAT (R413). -/
  | cdat (handle : BitVec 16)
  /-- ZQ_CALIBRATION (R254). -/
  | zqCalibration (c : Fin 16)
  /-- UPDATE_DATA_RELAY (R457). -/
  | updateDataRelay (off : BitVec 25) (data : List Byte)
deriving DecidableEq, Repr

end Sys2Proof
end

