-- ==== Sys2Proof/Decode.lean ====
section
/-! DEFINITION. The words of the table of commands. No row of opcode_table.json gives bits, so no word spells a command. -/

namespace Sys2Proof

/-- The command that a word of the table spells: none. -/
def decodeTableWord (_nbits _w : Nat) : Option Instr := none

end Sys2Proof
end

