-- ==== Sys2Proof/Config.lean ====
section
/-! DEFINITION. What the spec leaves open: uninterpreted constants. None has a body, so no proof can rest on a value
of one. Each is named in the assumption log. -/

namespace Sys2Proof.Config

/-- A fresh value of the width asked for, for a value that the spec leaves open; the argument is the counter `fresh`
of the state. -/
opaque freeNat : Nat → Nat

/-- The end of a bracket taken where no precision of the model decides a correctly rounded function (R181): a choice
for each function and operand, the same on every lane and device. -/
opaque roundUp : Nat → Bool

/-- ECDSA P-384 verification of a signature over bytes with a public key (FIPS 186-5). -/
opaque ecdsaVerify : List (BitVec 8) → List (BitVec 8) → List (BitVec 8) → Bool

/-- LMS verification (RFC 8554). -/
opaque lmsVerify : List (BitVec 8) → List (BitVec 8) → List (BitVec 8) → Bool

/-- The set of a check-bit cache line (R261 gives the ways and not the sets). -/
opaque cbcSet : Nat → Nat

/-- The row of a bank in which a unit index lies (chapter 10 gives no row size). -/
opaque rowOf : Nat → Nat

/-- VKEY[i]: the vendor key hashes written at manufacture, 48 bytes (Table 18.1). -/
opaque vkey : Nat → List (BitVec 8)

/-- The identity public key of a key generation, 96 bytes (R458): derived from UDS and GEN. -/
opaque idkPub : Nat → List (BitVec 8)

/-- The HSS public key of the attestation tree of a key generation, 60 bytes (R464). -/
opaque hssPub : Nat → List (BitVec 8)

/-- The HSS signature of a message with a leaf of a generation's tree, 5,236 bytes (R464, R465). -/
opaque hssSign : Nat → Nat → List (BitVec 8) → List (BitVec 8)

/-- SHA-384 of the boot ROM (Table 18.7). -/
opaque romDigest : List (BitVec 8)

end Sys2Proof.Config
end

