-- ==== Sys2Proof/Machine/Num.lean ====
section
/-! DEFINITION. Number formats, exact values, roundings, the chunk format C48 and the long total L96
(chapter 3, R54 to R77, R505). Values are exact: a finite value is a sign, a natural number and a power of two. -/

namespace Sys2Proof.Machine

/-- An exact value: (−1)^neg × m × 2^e, an infinity, or a NaN (payloads are not propagated, R57). -/
inductive XVal where
  | fin (neg : Bool) (m : Nat) (e : Int)
  | inf (neg : Bool)
  | nan
deriving DecidableEq, Repr

/-- Rounding modes: nearest-even, toward zero (R74), upward on magnitudes (a_chk of R45), stochastic with its
32-bit draw (R76). -/
inductive RMode where
  | rne | rtz | rup
  | sto (r : Nat)
deriving DecidableEq, Repr

/-- Status of one conversion (R74): overflow, invalid, inexact. -/
structure CvtFlags where
  ovf : Bool
  inv : Bool
  inx : Bool
deriving DecidableEq, Repr

def CvtFlags.none : CvtFlags := ⟨false, false, false⟩
def CvtFlags.or (a b : CvtFlags) : CvtFlags := ⟨a.ovf || b.ovf, a.inv || b.inv, a.inx || b.inx⟩

/-! ### Bit helpers -/

/-- Bits hi to lo of a natural number. -/
def bitsOf (x hi lo : Nat) : Nat := (x >>> lo) % 2 ^ (hi + 1 - lo)

/-- Bit i of a natural number. -/
def bitOf (x i : Nat) : Bool := x.testBit i

def b2n (b : Bool) : Nat := if b then 1 else 0

/-- Sign extension of a w-bit field to an integer. -/
def sextInt (w x : Nat) : Int := if 2 ^ (w - 1) ≤ x % 2 ^ w then (x % 2 ^ w : Nat) - (2 ^ w : Nat) else (x % 2 ^ w : Nat)

/-- The w-bit two's complement pattern of an integer. -/
def toPat (w : Nat) (x : Int) : Nat := (x % (2 ^ w : Nat)).toNat

/-! ### Rounding -/

/-- m / 2^sh rounded to an integer in a mode; the second component says the rounding was inexact. -/
def roundShift (md : RMode) (m sh : Nat) : Nat × Bool :=
  if sh = 0 then (m, false) else
  let i := m >>> sh
  let rem := m - (i <<< sh)
  let half := 1 <<< (sh - 1)
  let up : Bool := match md with
    | .rne => decide (half < rem) || (rem == half && i % 2 == 1)
    | .rtz => false
    | .rup => rem != 0
    | .sto r => decide (r < (rem <<< 32) >>> sh)
  (if up then i + 1 else i, rem != 0)

/-- m × 2^e rounded to the grid of p significand bits and smallest quantum 2^qmin: the integer n, its quantum
exponent q and whether the rounding was inexact. -/
def roundGrid (p : Nat) (qmin : Int) (md : RMode) (m : Nat) (e : Int) : Nat × Int × Bool :=
  if m = 0 then (0, qmin, false) else
  let q := max qmin ((Nat.log2 m : Int) + e - (p - 1 : Nat))
  if q ≤ e then (m <<< (e - q).toNat, q, false)
  else let r := roundShift md m (q - e).toNat; (r.1, q, r.2)

/-! ### Float formats (Tables 3.2 and 3.3) -/

/-- A float format: exponent bits, fraction bits, bias, and whether it is E4M3 (no infinity, all-ones exponent
finite but for the NaN). -/
structure FFmt where
  eb : Nat
  fb : Nat
  bias : Int
  e4m3 : Bool
deriving DecidableEq, Repr

def fBF16 : FFmt := ⟨8, 7, 127, false⟩
def fFP16 : FFmt := ⟨5, 10, 15, false⟩
def fFP32 : FFmt := ⟨8, 23, 127, false⟩
def fE4M3 : FFmt := ⟨4, 3, 7, true⟩
def fE5M2 : FFmt := ⟨5, 2, 15, false⟩

def FFmt.width (f : FFmt) : Nat := 1 + f.eb + f.fb
def FFmt.signBit (f : FFmt) : Nat := f.eb + f.fb
def FFmt.expMax (f : FFmt) : Nat := 2 ^ f.eb - 1
/-- The exponent of the smallest quantum (subnormal spacing). -/
def FFmt.qmin (f : FFmt) : Int := 1 - f.bias - f.fb
/-- Canonical quiet NaN (R57). -/
def FFmt.nan (f : FFmt) : Nat :=
  if f.e4m3 then 0x7F else (f.expMax <<< f.fb) + 2 ^ (f.fb - 1)
def FFmt.infBits (f : FFmt) (neg : Bool) : Nat := (b2n neg <<< f.signBit) + (f.expMax <<< f.fb)
/-- Largest finite magnitude pattern. -/
def FFmt.maxFin (f : FFmt) : Nat := if f.e4m3 then 0x7E else (f.expMax <<< f.fb) - 1

/-- The value of an encoding (R54 to R56). -/
def FFmt.dec (f : FFmt) (x : Nat) : XVal :=
  let neg := bitOf x f.signBit
  let e := bitsOf x (f.signBit - 1) f.fb
  let fr := x % 2 ^ f.fb
  if e = f.expMax then
    if f.e4m3 then (if fr = 7 then .nan else .fin neg (8 + fr) ((e : Int) - f.bias - f.fb))
    else if fr = 0 then .inf neg else .nan
  else if e = 0 then .fin neg fr f.qmin
  else .fin neg (2 ^ f.fb + fr) ((e : Int) - f.bias - f.fb)

/-- A signalling NaN encoding (Table 3.3). -/
def FFmt.snan (f : FFmt) (x : Nat) : Bool :=
  if f.e4m3 then false else
  bitsOf x (f.signBit - 1) f.fb == f.expMax && x % 2 ^ f.fb != 0 && !(bitOf x (f.fb - 1))

/-- Pattern of a finite value n × 2^q already on the grid; none where it lies beyond the largest finite value. -/
def FFmt.encGrid (f : FFmt) (neg : Bool) (n : Nat) (q : Int) : Option Nat :=
  let s := b2n neg <<< f.signBit
  if n = 0 then some s else
  let l := Nat.log2 n
  if l < f.fb then some (s + n)
  else
    let n' := n >>> (l - f.fb)
    let ex := q + (l : Int) + f.bias
    if ex < 1 then some (s + n)
    else
      let body := (ex.toNat <<< f.fb) + (n' - 2 ^ f.fb)
      if body ≤ f.maxFin then some (s + body) else none

/-- Conversion of an exact value to a float format with one rounding (R74, Table 3.9). -/
def FFmt.cvt (f : FFmt) (md : RMode) (v : XVal) : Nat × CvtFlags :=
  match v with
  | .nan => (f.nan, CvtFlags.none)
  | .inf neg =>
    if f.e4m3 then ((b2n neg <<< f.signBit) + f.maxFin, ⟨true, false, true⟩)
    else (f.infBits neg, CvtFlags.none)
  | .fin neg m e =>
    let r := roundGrid (f.fb + 1) f.qmin md m e
    match f.encGrid neg r.1 r.2.1 with
    | some x => (x, ⟨false, false, r.2.2⟩)
    | none =>
      let x := if f.e4m3 || md == .rtz then (b2n neg <<< f.signBit) + f.maxFin else f.infBits neg
      (x, ⟨true, false, true⟩)

/-- Conversion to a w-bit two's complement integer with one rounding (Table 3.9). -/
def cvtInt (w : Nat) (md : RMode) (v : XVal) : Nat × CvtFlags :=
  let lim (neg : Bool) : Nat := if neg then 2 ^ (w - 1) else 2 ^ (w - 1) - 1
  match v with
  | .nan => (0, ⟨false, true, false⟩)
  | .inf neg => (lim neg, ⟨true, false, true⟩)
  | .fin neg m e =>
    let r : Nat × Bool := if 0 ≤ e then (m <<< e.toNat, false) else roundShift md m (-e).toNat
    if lim neg < r.1 then (lim neg, ⟨true, false, true⟩)
    else (toPat w (if neg then -(r.1 : Int) else r.1), ⟨false, false, r.2⟩)

/-! ### Exact arithmetic -/

def XVal.isNan : XVal → Bool
  | .nan => true
  | _ => false
def XVal.isFin : XVal → Bool
  | .fin .. => true
  | _ => false
def XVal.isZero : XVal → Bool
  | .fin _ m _ => m == 0
  | _ => false
def XVal.isInf : XVal → Bool
  | .inf _ => true
  | _ => false
def XVal.neg? : XVal → Bool
  | .fin n _ _ => n
  | .inf n => n
  | .nan => false
def XVal.negate : XVal → XVal
  | .fin n m e => .fin (!n) m e
  | .inf n => .inf (!n)
  | .nan => .nan
def XVal.abs : XVal → XVal
  | .fin _ m e => .fin false m e
  | .inf _ => .inf false
  | .nan => .nan
def XVal.zero (neg : Bool) : XVal := .fin neg 0 0
def XVal.one : XVal := .fin false 1 0
def XVal.ofInt (i : Int) : XVal := .fin (decide (i < 0)) i.natAbs 0
def XVal.ofNat (i : Nat) : XVal := .fin false i 0

/-- The signed integer of a finite value in units of 2^q, q ≤ e. -/
def signedAt (neg : Bool) (m : Nat) (e q : Int) : Int :=
  let a : Int := (m <<< (e - q).toNat : Nat)
  if neg then -a else a

/-- Exact product (R59, R60); the flag is the invalid operation ∞ × ±0. -/
def XVal.mul (a b : XVal) : XVal × Bool :=
  match a, b with
  | .nan, _ => (.nan, false)
  | _, .nan => (.nan, false)
  | .inf n, y => if y.isZero then (.nan, true) else (.inf (n != y.neg?), false)
  | x, .inf n => if x.isZero then (.nan, true) else (.inf (x.neg? != n), false)
  | .fin n m e, .fin n' m' e' => (.fin (n != n') (m * m') (e + e'), false)

/-- Exact sum with the special-value and zero-sign rules of R62 and R64; the flag is the invalid operation ∞ − ∞. -/
def XVal.add (a b : XVal) : XVal × Bool :=
  match a, b with
  | .nan, _ => (.nan, false)
  | _, .nan => (.nan, false)
  | .inf n, .inf n' => if n = n' then (.inf n, false) else (.nan, true)
  | .inf n, _ => (.inf n, false)
  | _, .inf n => (.inf n, false)
  | .fin n m e, .fin n' m' e' =>
    let q := min e e'
    let t := signedAt n m e q + signedAt n' m' e' q
    if t = 0 then (.fin (n && n' && m == 0 && m' == 0) 0 0, false)
    else (.fin (decide (t < 0)) t.natAbs q, false)

/-- Exact comparison of finite or infinite values: −1, 0, 1; none if either is a NaN. -/
def XVal.cmp (a b : XVal) : Option Int :=
  match a, b with
  | .nan, _ => none
  | _, .nan => none
  | .inf n, .inf n' => some (if n = n' then 0 else if n then -1 else 1)
  | .inf n, _ => some (if n then -1 else 1)
  | _, .inf n => some (if n then 1 else -1)
  | .fin n m e, .fin n' m' e' =>
    let q := min e e'
    let t := signedAt n m e q - signedAt n' m' e' q
    some (if t < 0 then -1 else if t = 0 then 0 else 1)

/-- a < b, false where either is a NaN. -/
def XVal.lt (a b : XVal) : Bool := a.cmp b == some (-1)

/-- Quotient of finite nonzero-divisor magnitudes, kept to more than 80 bits with a sticky lowest bit, so that one
rounding of at most 66 bits of it is the rounding of the exact quotient. -/
def divSticky (m : Nat) (e : Int) (m' : Nat) (e' : Int) : Nat × Int :=
  if m = 0 then (0, 0) else
  let s := 96 + Nat.log2 m'
  let n := m <<< s
  let q := n / m'
  (2 * q + b2n (n % m' != 0), e - s - e' - 1)

/-- Quotient as in IEEE 754 (R98): 0/0 and ∞/∞ are invalid; the third component is division of a nonzero finite by
zero. -/
def XVal.div (a b : XVal) : XVal × Bool × Bool :=
  match a, b with
  | .nan, _ => (.nan, false, false)
  | _, .nan => (.nan, false, false)
  | .inf _, .inf _ => (.nan, true, false)
  | .inf n, y => (.inf (n != y.neg?), false, false)
  | x, .inf n => (.fin (x.neg? != n) 0 0, false, false)
  | .fin n m e, .fin n' m' e' =>
    if m' = 0 then (if m = 0 then (.nan, true, false) else (.inf (n != n'), false, true))
    else let r := divSticky m e m' e'; (.fin (n != n') r.1 r.2, false, false)

/-! ### C48 and L96 rounding (R63, R65, R66, R505) -/

/-- Nearest-even rounding to p significand bits with normal exponents emin to emax and no subnormals: the value,
overflow to infinity, inexact. -/
def rneNorm (p : Nat) (emin emax : Int) (v : XVal) : XVal × Bool × Bool :=
  match v with
  | .fin neg m e =>
    if m = 0 then (.fin neg 0 0, false, false)
    else
      let l : Int := (Nat.log2 m : Int) + e
      if l < emin then
        if l = emin - 1 ∧ m ≠ 2 ^ Nat.log2 m then (.fin neg 1 emin, false, true)
        else (.fin neg 0 0, false, true)
      else
        let r := roundGrid p (l - (p - 1 : Nat)) .rne m e
        let l' : Int := (Nat.log2 r.1 : Int) + r.2.1
        if emax < l' then (.inf neg, true, true) else (.fin neg r.1 r.2.1, false, r.2.2)
  | w => (w, false, false)

def rneC48 (v : XVal) : XVal × Bool × Bool := rneNorm 38 (-510) 511 v
def rne64 (v : XVal) : XVal × Bool × Bool := rneNorm 64 (-16382) 16383 v

/-- A long total taken apart: value, status bits, PCOUNT (R65). -/
structure Tot where
  v : XVal
  ovf : Bool
  inv : Bool
  inx : Bool
  stk : Bool
  pc : Nat
deriving DecidableEq, Repr

def Tot.zero : Tot := ⟨.fin false 0 0, false, false, false, false, 0⟩
def Tot.nanInv (t : Tot) : Tot := { t with v := .nan, inv := true }

/-- EXP 0 with SIG nonzero, or EXP 1 to 32,766 with SIG bit 63 clear (R65). -/
def L96.nonCanonical (x : L96) : Bool :=
  let n := x.toNat
  let ex := bitsOf n 78 64
  let sig := n % 2 ^ 64
  (ex == 0 && sig != 0) || (ex != 0 && ex != 0x7FFF && !(bitOf sig 63))

/-- The total an operation takes from an entry: a non-canonical entry gives the canonical NaN total with INV (R65). -/
def L96.dec (x : L96) : Tot :=
  let n := x.toNat
  let ex := bitsOf n 78 64
  let sig := n % 2 ^ 64
  let neg := bitOf n 79
  let t : Tot := ⟨.nan, bitOf n 83, bitOf n 82, bitOf n 81, bitOf n 80, bitsOf n 95 84⟩
  if L96.nonCanonical x then { t with inv := true }
  else if ex = 0 then { t with v := .fin neg 0 0 }
  else if ex = 0x7FFF then (if sig = 0 then { t with v := .inf neg } else t)
  else { t with v := .fin neg sig ((ex : Int) - 16383 - 63) }

/-- The entry of a total whose value is on the L96 grid. -/
def Tot.enc (t : Tot) : L96 :=
  let st := (b2n t.ovf <<< 83) + (b2n t.inv <<< 82) + (b2n t.inx <<< 81) + (b2n t.stk <<< 80)
    + ((min t.pc 4095) <<< 84)
  let body : Nat := match t.v with
    | .nan => (0x7FFF <<< 64) + 0xC000000000000000
    | .inf neg => (b2n neg <<< 79) + (0x7FFF <<< 64)
    | .fin neg m e =>
      if m = 0 then b2n neg <<< 79
      else
        let l := Nat.log2 m
        let sig := if l ≤ 63 then m <<< (63 - l) else m >>> (l - 63)
        (b2n neg <<< 79) + ((e + l + 16383).toNat <<< 64) + sig
  BitVec.ofNat 96 (st + body)

/-- A long total of an exact value with one rounding, no status but that of the rounding, PCOUNT 1. -/
def Tot.ofX (v : XVal) (inv : Bool) : Tot :=
  let r := rne64 v
  ⟨r.1, r.2.1, inv, r.2.2, false, 1⟩

/-- Addition of two long totals (R66). -/
def Tot.add (a b : Tot) : Tot :=
  let s := a.v.add b.v
  let r := rne64 s.1
  ⟨r.1, a.ovf || b.ovf || r.2.1, a.inv || b.inv || s.2, a.inx || b.inx || r.2.2, a.stk || b.stk,
    min 4095 (a.pc + b.pc)⟩

/-- Addition of entries as stored (R66). -/
def L96.add (a b : L96) : L96 := (Tot.add (L96.dec a) (L96.dec b)).enc

/-- Magnitude of a total (its status and PCOUNT kept). -/
def Tot.abs (t : Tot) : Tot := { t with v := t.v.abs }

/-- The canonical NaN total with INV that stands for an uncorrectable entry (R85). -/
def L96.nanInv : L96 := (Tot.nanInv Tot.zero).enc

/-! ### Group sums and chunks (R61, R62, R64) -/

/-- A partial sum with the status that travels beside it (R63). -/
structure Part where
  v : XVal
  stk : Bool
  inx : Bool
  inv : Bool
deriving DecidableEq, Repr

/-- One product: its exact value and its INV (Table 3.5). -/
abbrev Prod1 := XVal × Bool

/-- Exponent ⌊log2 |p|⌋ of the largest magnitude among finite nonzero products. -/
def maxExp : List Prod1 → Option Int
  | [] => none
  | p :: ps =>
    match p.1, maxExp ps with
    | .fin _ m e, r =>
      if m = 0 then r else
      let l : Int := (Nat.log2 m : Int) + e
      match r with
      | none => some l
      | some l' => some (max l l')
    | _, r => r

/-- A product truncated toward zero to a multiple of 2^q, as an integer in units of 2^q, and whether bits were lost. -/
def truncAt (q : Int) (p : Prod1) : Int × Bool :=
  match p.1 with
  | .fin neg m e =>
    let r : Nat × Bool := if q ≤ e then (m <<< (e - q).toNat, false) else
      let sh := (q - e).toNat; (m >>> sh, (m >>> sh) <<< sh != m)
    (if neg then -(r.1 : Int) else r.1, r.2)
  | _ => (0, false)

/-- The group sum G of R62. -/
def groupSum (ps : List Prod1) : Part :=
  let inv := ps.any (·.2)
  if ps.any (·.1.isNan) then ⟨.nan, false, false, inv⟩
  else
    let pinf := ps.any (fun p => p.1 == .inf false)
    let ninf := ps.any (fun p => p.1 == .inf true)
    if pinf && ninf then ⟨.nan, false, false, true⟩
    else if pinf then ⟨.inf false, false, false, inv⟩
    else if ninf then ⟨.inf true, false, false, inv⟩
    else match maxExp ps with
      | none => ⟨.fin (ps.all (·.1.neg?)) 0 0, false, false, inv⟩
      | some e =>
        let q := e - 57
        let ts := ps.map (truncAt q)
        let t : Int := ts.foldl (fun a x => a + x.1) 0
        let stk := ts.any (·.2)
        if t = 0 then ⟨.fin false 0 0, stk, stk, inv⟩
        else
          let r := rneC48 (.fin (decide (t < 0)) t.natAbs q)
          ⟨r.1, stk, stk || r.2.2, inv⟩

/-- Adding a further group sum into an open chunk (R64). -/
def chunkAdd (c g : Part) : Part :=
  let s := c.v.add g.v
  let r := rneC48 s.1
  ⟨r.1, c.stk || g.stk, c.inx || g.inx || r.2.2, c.inv || g.inv || s.2⟩

/-- Consecutive pieces of k elements (the last may be shorter); fuel bounds the number of pieces. -/
def piecesOf {α : Type} (k : Nat) : Nat → List α → List (List α)
  | 0, _ => []
  | _, [] => []
  | fuel + 1, xs => xs.take k :: piecesOf k fuel (xs.drop k)

/-- The chunks of one column of one pass: products of enabled reduction indices in order, group size g, K groups. -/
def chunksOfProducts (g k : Nat) (ps : List Prod1) : List Part :=
  let gs := (piecesOf g ps.length ps).map groupSum
  (piecesOf k gs.length gs).map fun c => match c with
    | [] => ⟨.fin false 0 0, false, false, false⟩
    | h :: t => t.foldl chunkAdd h

/-- A chunk as a long total with PCOUNT 1 (R66). -/
def Part.tot (c : Part) : Tot := ⟨c.v, false, c.inv, c.inx, c.stk, 1⟩

/-- Promotion of the chunks of one pass (R66): fresh totals start from the first chunk exactly. -/
def promote (acc : Bool) (old : L96) (cs : List Part) : L96 :=
  match acc, cs with
  | false, [] => Tot.zero.enc
  | false, c :: r => (r.foldl (fun l x => Tot.add l x.tot) c.tot).enc
  | true, [] => old
  | true, cs => (cs.foldl (fun l x => Tot.add l x.tot) (L96.dec old)).enc

/-! ### Stochastic rounding draws (R77) -/

def rsrMix (z : Nat) : Nat :=
  let m64 := 2 ^ 64
  let z := z ^^^ (z >>> 32)
  let z := (z * 0xA3B195354A39B70D) % m64
  let z := z ^^^ (z >>> 29)
  let z := (z * 0x8C2F63D15E974A6B) % m64
  z ^^^ (z >>> 32)

/-- Draw k under state s. -/
def rsrDraw (s k : Nat) : Nat := rsrMix ((s + k * 0x6A09E667F3BCC909) % 2 ^ 64) >>> 32

/-! ### Splitting an FP32 value into BF16 pieces (R72) -/

def bf16OfX (v : XVal) : Nat := (fBF16.cvt .rne v).1

/-- Pieces h, m, l of an FP32 pattern. -/
def split3 (x : Nat) : Nat × Nat × Nat :=
  match fFP32.dec x with
  | .nan => (fBF16.nan, 0, 0)
  | .inf neg => (fBF16.infBits neg, 0, 0)
  | .fin neg m e =>
    if m = 0 then (b2n neg <<< 15, b2n neg <<< 15, b2n neg <<< 15)
    else
      let v : XVal := .fin neg m e
      let h0 := fBF16.cvt .rne v
      let h := if h0.2.ovf then (b2n neg <<< 15) + fBF16.maxFin else h0.1
      let r1 := (v.add (fBF16.dec h).negate).1
      let md := if r1.isZero then 0 else bf16OfX r1
      let r2 := (r1.add (fBF16.dec md).negate).1
      let lo := if r2.isZero then 0 else bf16OfX r2
      (h, md, lo)

end Sys2Proof.Machine
end

