-- ==== Sys2Proof/Machine/CoreTypes.lean ====
section
/-! DEFINITION. The state of a compute core that is not a control register (chapters 2, 4, 5, 6, 7, 9, 11): bundle
latch, held bundle, memories, output slots, weight slots, tile registers, streams, fabric request queue. -/

namespace Sys2Proof.Machine

/-- A place of contiguous bytes: an offset in the core memory of a core, wrapping modulo 16 MiB (R137), or a
supervisor physical address. -/
inductive Place where
  | core (n off : Nat)
  | flat (a : Nat)
deriving DecidableEq, Repr

/-- A weight tile in a weight slot (R28, R32, R44, R45). w lists for each enabled reduction index the raw codes of
its Nt columns (for a diagonal tile the one row is the diagonal), ex for each BX4 block the exponents of its columns,
wchk and achk the FP32 checksum weights of each reduction index. -/
structure WTile where
  fmt : Nat
  kt : Nat
  nt : Nat
  diag : Bool
  w : List (List Nat)
  ex : List (List Nat)
  wchk : List Nat
  achk : List Nat
deriving DecidableEq, Repr

/-- Reset contents of a weight slot: every cell +0 (R29). -/
def WTile.reset : WTile := ⟨0, 0, 0, false, [], [], [], []⟩

/-- An A.MM as issued: its control word (Table 6.16), its slot and flags, and the weight tile it uses. -/
structure MMDesc where
  u : Nat
  origin : Nat
  slot : Nat
  ac : Bool
  g : Nat
  k : Nat
  v : Nat
  pass : Nat
  afmt : Nat
  conv : Bool
  taps : Nat
  dly : Nat
  ch : Nat
  bc : Nat
  skew : Nat
  base : Nat
  rs : Nat
  ps : Nat
  tile : WTile
deriving DecidableEq, Repr

/-- A deferred fault (R125): code, slot code of FAULT_REC, originating bundle if any, FAULT_INFO, issue order. -/
structure DefFault where
  code : Nat
  slot : Nat
  origin : Option Nat
  info : Nat
  ord : Nat
deriving DecidableEq, Repr

/-- A tile register or a snapshot of one: element (r, l) at key r × 256 + l, zero where nothing is listed. -/
abbrev Tile := List (Nat × BitVec 32)

/-- States of a staging slot (Table 9.4). -/
inductive SlotSt where
  | empty | requested | ready | stale | denied | failed
deriving DecidableEq, Repr

/-- A staging slot of an input stream (R233 to R235, R245, R248, R296). -/
structure StgSlot where
  st : SlotSt
  gen : Nat             -- told apart from earlier fetches into the slot
  tile : Nat            -- tile whose requests it holds or is to hold
  freeAt : Nat          -- first cycle in which the requests of its next tile may issue (R235)
  readyAt : Nat         -- first cycle in which a READY slot counts as ready (R235, Table 9.6)
  issuedAt : Nat        -- cycle of the first request (R249)
  left : List Nat       -- 256-byte units (or transactions) still to be delivered
  allData : Bool        -- data returned, check bits awaited (Table 9.5)
  hdrIn : Bool          -- moss headers arrived (R290)
  refetch : Bool        -- requests of a refetch, at planned demand priority (R248)
  guardAt : Option Nat  -- cycle in which the fixed part of the refetch began (R248)
  fkind : Nat           -- KIND of TIER_ERR for a FAILED slot
  fstatus : Nat         -- fabric completion status for KIND 0b010
  conf : List Nat       -- confidences of the eight blocks (R296)
  marks : List Nat      -- blocks predicted zero in the present fetch (R296)
deriving DecidableEq, Repr

def StgSlot.reset : StgSlot := ⟨.empty, 0, 0, 0, 0, 0, [], false, false, false, none, 0, 0, List.replicate 8 0, []⟩

/-- An open stream (R148, R229, R233). -/
structure Stream where
  out : Bool
  ctr : Nat
  desc : BitVec 256
  base : Nat             -- staging base, local address
  openId : Nat           -- tells apart successive openings of one number
  taken : Nat            -- tiles taken or placed
  stopped : Bool
  slots : List StgSlot
deriving DecidableEq, Repr

/-- An output tile placed and not yet counted (R150, R241). -/
structure OutTile where
  d : Nat
  openId : Nat
  tile : Nat
  ctr : Nat
  desc : BitVec 256
  staged : Nat           -- local address of its staging slot
  visible : Nat          -- cycle from which its bytes stand in staging
  suppressed : Bool      -- a claimed write with a stale epoch (R160)
  started : Bool
  left : List Nat        -- writes not yet completed
  refused : Option (Nat × Nat)   -- KIND and FSTATUS of TIER_ERR
  syl : Nat              -- the M.STS that placed it
deriving DecidableEq, Repr

/-- Kinds of fabric operation (Table 6.11). -/
inductive FqKind where
  | put | get | radd | fadd | msg | fence | claimr
deriving DecidableEq, Repr

/-- One operation of the fabric request queue (R151 to R153). -/
structure FqOp where
  id : Nat
  kind : FqKind
  sz : Nat
  cls : Nat
  ctr : Nat
  addr : Nat           -- global address
  val : Nat            -- operand of fetch-add and message
  dst : Nat            -- core memory offset of a result
  data : List Byte     -- bytes read from core memory so far
  readyAt : Nat        -- cycle from which it can be sent
  bundle : Nat
  opcode : Nat
  suppressed : Bool
  sent : Bool
  syl : Nat            -- the syllable that made it
deriving DecidableEq, Repr

/-- The classes of stall that hold a bundle (Table 5.3). -/
structure StallMask where
  acc : Bool
  tier : Bool
  wait : Bool
deriving DecidableEq, Repr

/-- A bundle held at issue (R116): when it was first held, the first cycle whose stall is not yet counted, the classes
of the last evaluation, the cycles each explicit or tier wait has lasted. -/
structure Held where
  bundle : List Instr
  since : Nat
  upto : Nat
  mask : StallMask
  waited : Nat
  tierWaited : Nat
  awaited : Option (Nat × Nat)  -- stream and slot that a tier stall awaits (R244)
deriving DecidableEq, Repr

/-- What the control syllables of the issuing bundle ask of the sequencer (R118 to R121). -/
structure Ctl where
  taken : Option Nat
  skip : Option Nat
  halt : Bool
deriving DecidableEq, Repr

/-- An operation of a slot in flight, for the holds of R94: slot index 0 to 17, fill or drain, write offset of row 0,
issue cycle, last cycle. -/
structure SlotOp where
  slot : Nat
  drain : Bool
  off : Nat
  u : Nat
  last : Nat
deriving DecidableEq, Repr

/-- The state of one core beside its control registers. -/
structure Core where
  latch : List Instr
  held : Option Held
  nextIssue : Nat                -- earliest cycle in which the next bundle may issue
  pastEnd : Bool                    -- the next bundle would be 16,384 (R122)
  branch : Option (Nat × Nat)    -- delay slots still to issue, branch target (R118)
  ctl : Ctl
  dueFaults : List DefFault      -- deferred faults that have come due
  imem : List (Nat × BitVec 128)
  imemErr : List (Nat × Nat)     -- 1 single-bit, 2 uncorrectable (R105)
  imemHeld : Option (Nat × Word) -- bundle address and held low half (R133)
  activeSlot : Bool              -- physical weight slot now active (R29)
  wtiles : WTile × WTile         -- physical weight slots 0 and 1
  wvalid : Bool × Bool
  loadFree : Nat                 -- first cycle in which the load path is free (R31)
  mmFree : Nat                   -- first cycle in which the array is free (R34)
  portFree : Nat                 -- first cycle in which the slot port is free (R88)
  moveFree : Nat                 -- first cycle in which the move path is free (R146)
  vecFree : Nat                  -- first cycle in which a tile operation may issue (R200)
  vecDone : Nat                  -- first cycle in which no V-slot operation is in flight
  nmsDone : Nat                  -- first cycle in which no V.NMS is in flight (R339)
  slotOps : List SlotOp
  slots : List (Nat × L96)       -- entry (slot, row, column) at ((slot × 256) + row) × 258 + column
  sigs : List (Nat × Nat)        -- storage signatures at slot × 258 + column (R48)
  accErr : List (Nat × Nat)      -- entry key to 1 single-bit, 2 uncorrectable (R85)
  accHeld : Option (Nat × List Nat)  -- window entry and words held (R83)
  raddUntil : List (Nat × Nat)   -- slot index to the cycle at which its accepted additions are complete (R87)
  vregs : List (Nat × BitVec 32) -- element (v, r, l) at (v × 32 + r) × 256 + l
  streams : List (Nat × Stream)
  placed : List OutTile
  openCount : Nat
  fq : List FqOp
  fqCount : Nat
  issued : Nat                   -- bundles issued since reset, the issue order of R124
  cur : Nat                      -- the syllable whose work is being added (issue order × 4 + slot)
  closing : List Nat             -- syllables in flight when STATE became CLOSING (R443)
  wfail : Option Nat             -- first syllable since the step opened whose tile write failed or was suppressed (R482)
  compCyc : List (Nat × (Nat × Nat))  -- COMP counter to the cycle of its last increments and their sum (R155)
deriving DecidableEq, Repr

def Core.reset : Core :=
  { latch := [], held := none, nextIssue := 0, pastEnd := false, branch := none, ctl := ⟨none, none, false⟩,
    dueFaults := [], imem := [], imemErr := [], imemHeld := none, activeSlot := false,
    wtiles := (WTile.reset, WTile.reset), wvalid := (false, false), loadFree := 0, mmFree := 0, portFree := 0,
    moveFree := 0, vecFree := 0, vecDone := 0, nmsDone := 0, slotOps := [], slots := [], sigs := [],
    accErr := [], accHeld := none, raddUntil := [], vregs := [], streams := [], placed := [], openCount := 0, fq := [],
    fqCount := 0, issued := 0, cur := 0, closing := [], wfail := none, compCyc := [] }

/-- The broadcast stream of a quartet (R37, R38): sender, issue cycle, V, and the buffered vectors with the cycle in
which each was placed. -/
structure Bcast where
  sender : Nat
  us : Nat
  v : Nat
  buf : List (Nat × List Byte)
deriving DecidableEq, Repr

def Bcast.reset : Bcast := ⟨0, 0, 0, []⟩

/-- Statistics or softmax record work and the other operations with a fixed latency that are in flight. Each becomes
due in a cycle and then has its effect (R111, R113). -/
inductive LateOp where
  | sreg (r : Nat) (v : Word)
  | pred (p : Nat) (v : Bool)
  | preds (v : Nat)
  | mregs (i : Nat) (v : BitVec 256)
  | mem (p : Place) (bs : List Byte)
  /-- a store to a control register by the bundle at pc. -/
  | regStore (pc : Nat) (addr : Nat) (size : Nat) (v : Word)
  | compInc (c : Nat) (k : Nat)
  /-- row moves: (source, destination) of the rows still to be read, row size, issue cycle, row number. -/
  | moveRows (rows : List (Place × Place)) (b u r : Nat)
  | mossMove (src dst : Place) (u : Nat)
  /-- rows of a fabric operation still to be read from core memory. -/
  | fqRows (id : Nat) (off b u r : Nat)
  | fqDone (id : Nat)
  | claimLocal (rd ci : Nat)
  | claimBack (rd ci epoch idx : Nat)
  | wldLine (u : Nat) (i : Nat) (fmt kt nt : Nat) (tr diag : Bool) (base : Nat) (got : List (List Byte))
      (exps : List (List Byte))
  | mmVec (m : MMDesc) (j : Nat) (hist : List (List Byte))
  /-- col and flip: bits of one column's total flipped as the array computes it. -/
  | mmRow (m : MMDesc) (row : Nat) (vecs : List (List Byte)) (col : Nat) (flip : L96)
  | bcastClose (q us : Nat)
  /-- pc is the bundle address of the A.SADD. -/
  | saddRow (slot pc : Nat) (u v j base stride : Nat)
  | saddAdd (slot pc j : Nat) (entries : List L96) (last : Nat)
  | drainRec (u j base ws : Nat) (acc fin : Bool) (vals : List XVal)
  | drainStat (flags : Nat)
  | drainDone (slot : Nat) (origin : Nat) (ord : Nat) (fails : List (Nat × Nat)) (skips : Nat)
  | deferred (d : DefFault)
  | cfsCompare (origin ord : Nat)
  | vwrite (vd : Nat) (t : Tile) (stat : Nat)
  | vstat (bits : Nat)
  | vldRows (vt fmt rm ir : Nat) (mask : BitVec 256) (base stride : Nat) (u i : Nat) (got : Tile) (stat : Nat)
  | vldMoss (vt fmt base u i : Nat) (hs : List Nat) (got : Tile) (bad stat : Nat)
  | statRecs (ax acc fin : Bool) (mask : BitVec 256) (base : Nat) (t : Tile)
  | smsRecs (init : Bool) (mask : BitVec 256) (base : Nat) (t : Tile)
  | smnRecs (vd : Nat) (lse : Bool) (mask : BitVec 256) (base : Nat) (t : Tile)
  | normRecs (vd : Nat) (rms : Bool) (mask : BitVec 256) (base eps : Nat) (t : Tile)
  | boxRead (vd : Nat) (clip : Bool) (mask : BitVec 256) (params : List Nat) (t : Tile) (u k : Nat) (out : Tile) (stat : Nat)
  | nmsRead (vd : Nat) (cm : Bool) (size : Nat) (mask : BitVec 256) (params : List Nat) (t : Tile) (u i : Nat)
      (scores classes : List Nat)
  | raddDone (slot : Nat)
  | engineOn (ctl : Nat)
deriving DecidableEq, Repr

/-- An operation in flight: its core, the cycle in which it has its effect, and the order of effects within one cycle
(0 writes that have become visible, 1 reads of the cycle, 2 receivers of the broadcast). -/
structure Late where
  n : Nat
  syl : Nat
  due : Nat
  phase : Nat
  op : LateOp
deriving DecidableEq, Repr

end Sys2Proof.Machine
end

