-- ==== Sys2Proof/Machine/FabTypes.lean ====
section
/-! DEFINITION. The state of the fabric switch and its ports that is not a control register (chapter 15): transactions
issued by this device, flits, egress queues, retry and receive state, credits, trackers, schedules, reduce-add. -/

namespace Sys2Proof.Machine

/-- Who issued a transaction, so that its completion reaches the right place. A core's fabric request (its queue
identity), a tier engine's tile read (core, opening, slot number, generation of the slot, part of the tile) or output
tile (core, opening, tile, part), the supervisor's aperture or fence (supervisor core), the mirror, or a unit that does
not use the completion. -/
inductive TxOwner where
  | core (n id : Nat)
  | tierIn (n openId slot gen part : Nat)
  | tierOut (n openId tile part : Nat)
  | aperture (k : Nat)
  | fence (k : Nat)
  | mirror (step : Nat)
  | unit
deriving DecidableEq, Repr

/-- Where a transaction of this device stands: waiting to be sent, sent on a port with a tracker (the cycle in which it
times out, whether it is a reissue), on the loopback path, or complete with status, value and data. -/
inductive TxState where
  | waiting
  | sent (port tag deadline : Nat) (again : Bool)
  | loop
  | done (status value : Nat) (data : List Byte)
deriving DecidableEq, Repr

/-- A transaction issued by this device (R387 to R389). -/
structure TxReq where
  id : Nat
  owner : TxOwner
  cls : Nat
  node : Nat
  op : Nat
  sz : Nat
  len : Nat
  addr : Nat
  data : List Byte
  st : TxState
  since : Nat            -- cycle from which it waits
  again : Bool           -- reissued after a timeout (R387)
deriving DecidableEq, Repr

/-- A flit without link fields (Table 15.1): destination, class, kind, payload bytes used. -/
structure Flit where
  dest : Nat
  cls : Nat
  kind : Nat
  payload : List Byte
deriving DecidableEq, Repr

/-- A packet in an egress queue: its flits still to be sent, whether the first has been sent, the ingress port of a
pass-through packet, the transaction it carries for this device. -/
structure Pkt where
  dest : Nat
  cls : Nat
  flits : List Flit
  started : Bool
  ingress : Option Nat
  req : Option Nat
deriving DecidableEq, Repr

/-- A partly received packet of one class at an ingress port: its flits so far, its egress (none: this device, or no
route), entries of a reduce-add packet so far. -/
structure RxPkt where
  cls : Nat
  dest : Nat
  flits : List Flit
  egress : Option Nat
  pos : Nat
deriving DecidableEq, Repr

/-- CONTROL flits waiting to be sent (Table 15.2). -/
inductive CtlMsg where
  | nak (seq : Nat)
  | credit (p b m : Nat)
  | negotiate
  | negAck (chosen : Nat)
  | laneSwap (idx lane : Nat) (apply : Bool)
deriving DecidableEq, Repr

/-- The partner's NEGOTIATE flit (Table 15.4). -/
structure Nego where
  vers : Nat
  feat : Nat
  node : Nat
  cp : Nat
  cb : Nat
  cm : Nat
deriving DecidableEq, Repr

/-- A reduce-add flit at its destination (R388, R397): its class, source node, tag, tile size code and address of its
packet's header, the number of its first entry in the packet, its entries, whether it ends its packet. The source of a
loopback transaction is this device and its tag is the transaction. -/
structure RaddFlit where
  cls : Nat
  src : Nat
  tag : Nat
  sz : Nat
  base : Nat
  pos : Nat
  entries : List L96
  last : Bool
deriving DecidableEq, Repr

/-- A transaction that has arrived whole at this device (Tables 15.8 and 15.9): ingress port, class, header fields,
data. -/
structure TxnIn where
  port : Nat
  cls : Nat
  src : Nat
  tag : Nat
  op : Nat
  sz : Nat
  len : Nat
  addr : Nat
  data : List Byte
deriving DecidableEq, Repr

/-- What waits in the ingress buffers of a port whose class is stopped by a held reduce-add flit (R397, R398): the held
flits, flits behind them, and transactions behind them. -/
inductive Waiting where
  | radd (f : RaddFlit)
  | flit (f : Flit)
  | txn (t : TxnIn)
deriving DecidableEq, Repr

/-- What an egress sent in its last slot. -/
inductive TxOut where
  | none
  | idle
  | marker
  | ctl (m : CtlMsg)
  | flit (seq : Nat) (f : Flit)
  | replay (seq : Nat) (f : Flit)
deriving DecidableEq, Repr

/-- The state of one port. -/
structure Port where
  rxNeg : Option Nego
  rxNegAck : Option Nat
  running : Nat              -- chosen version, major × 256 + minor
  feats : Nat
  adv : Word                 -- PORT_ADV as latched at training
  downAt : Option Nat        -- cycle of the last return to DOWN (the back-off runs from it)
  txSeq : Nat
  retry : List (Nat × Flit)
  replay : List (Nat × Flit)
  replays : Nat              -- replays since the ACK advanced
  ackAt : Nat
  rxExp : Nat
  rxAny : Bool               -- a sequenced flit has been received in order
  rxDrop : Bool              -- discarding until the expected number arrives
  lastGood : Nat
  credits : Nat × Nat × Nat
  owed : Nat × Nat × Nat     -- credits to be returned
  ctl : List CtlMsg
  q : List Pkt
  rx : List RxPkt
  trk : List (Nat × Nat)     -- tracker to transaction
  sinceMark : Nat
  slot : Nat                 -- position in the frame
  flen : Nat
  codes : List (Nat × Word)  -- words of the schedule in use, all-MGMT-coded where not listed
  lanes : Word               -- the lane map in use
  swap : Option (Nat × Bool) -- markers still to pass before a lane swap, echo received
  held : List Waiting        -- ingress buffers behind held reduce-add flits, in order of arrival
  closeAt : Option Nat       -- cycle in which the closing wait ends
  tx : TxOut
  laneWait : Option Word     -- a LANE_SPARE write that waits for the maintenance arbiter
deriving DecidableEq, Repr

def Port.reset : Port :=
  { rxNeg := none, rxNegAck := none, running := 0, feats := 0, adv := 0#64, downAt := none, txSeq := 0, retry := [], replay := [],
    replays := 0, ackAt := 0, rxExp := 0, rxAny := false, rxDrop := false, lastGood := 0, credits := (0, 0, 0),
    owed := (0, 0, 0), ctl := [], q := [], rx := [], trk := [], sinceMark := 0, slot := 0, flen := 64, codes := [],
    lanes := 0#64, swap := none, held := [], closeAt := none, tx := .none, laneWait := none }

/-- The status so far of a reduce-add packet (R393, R399): source, tag, port, first refused status. -/
structure RaddPk where
  src : Nat
  tag : Nat
  port : Nat
  cls : Nat
  status : Nat
deriving DecidableEq, Repr

/-- A reduction entry in use (Table 15.12), as latched when its slot opened: its index, rows, contributors (node,
port). -/
structure RedEntry where
  idx : Nat
  rows : Nat
  who : List (Nat × Nat)
deriving DecidableEq, Repr

/-- The switch beside its ports. -/
structure Fab where
  txs : List TxReq           -- transactions of this device, in the order accepted
  count : Nat                -- transactions accepted since reset
  ports : List (Nat × Port)
  radd : List RaddPk
  red : List (Nat × Option RedEntry)  -- core × 16 + slot to the entry latched at its last opening
deriving DecidableEq, Repr

def Fab.reset : Fab := ⟨[], 0, [], [], []⟩

end Sys2Proof.Machine
end

