-- ==== Sys2Proof/Machine/SMap.lean ====
section
/-! DEFINITION. Sparse maps from addresses or numbers to values, as lists of pairs in one canonical form: keys strictly
rising, no entry equal to what an unlisted key reads as. -/

namespace Sys2Proof.Machine

/-- The value at a key; d gives what an unlisted key reads as. -/
def look {α : Type} (d : Nat → α) : List (Nat × α) → Nat → α
  | [], k => d k
  | (a, x) :: m, k => if a = k then x else look d m k

/-- The map without a key. -/
def dropKey {α : Type} (k : Nat) : List (Nat × α) → List (Nat × α)
  | [] => []
  | (a, x) :: m => if a = k then dropKey k m else (a, x) :: dropKey k m

/-- A new key put in its place. -/
def insKey {α : Type} (k : Nat) (v : α) : List (Nat × α) → List (Nat × α)
  | [] => [(k, v)]
  | (a, x) :: m => if k < a then (k, v) :: (a, x) :: m else (a, x) :: insKey k v m

/-- The map with a key set; an entry that would equal the default is left out. -/
def put {α : Type} [DecidableEq α] (d : Nat → α) (m : List (Nat × α)) (k : Nat) (v : α) : List (Nat × α) :=
  if v = d k then dropKey k m else insKey k v (dropKey k m)

/-- The canonical form: every key above b, keys rising, no default entries. -/
def wfFrom {α : Type} [DecidableEq α] (d : Nat → α) : Option Nat → List (Nat × α) → Bool
  | _, [] => true
  | none, (a, x) :: m => decide (x ≠ d a) && wfFrom d (some a) m
  | some b, (a, x) :: m => decide (b < a) && decide (x ≠ d a) && wfFrom d (some a) m

/-- The canonical form of a sparse map. -/
def wfMap {α : Type} [DecidableEq α] (d : Nat → α) (m : List (Nat × α)) : Bool := wfFrom d none m

end Sys2Proof.Machine
end

