-- ==== Sys2Proof/Machine/MemTypes.lean ====
section
/-! DEFINITION. The state of the memory controllers, the flash controller and the maintenance arbiter that is not a
control register (chapters 9, 10, 11, 19). -/

namespace Sys2Proof.Machine

/-- Where a tier engine's request belongs: core, stream number, opening, slot index, fetch into the slot (gen), tile. -/
structure TierTag where
  n : Nat
  d : Nat
  openId : Nat
  slot : Nat
  gen : Nat
  tile : Nat
deriving DecidableEq, Repr

/-- A request at a memory controller: in its queue, or read with its check bits decoded or awaited (R258, R261). -/
inductive McSt where
  | queued
  | data (bs : List Byte) (chk : Bool)
deriving DecidableEq, Repr

/-- A request for one 256-byte unit (R243). wr lists the bytes of a write as segments (offset in the unit, bytes); a
read has none. hold: the unit of a moss tile is held until its confirmation (R290); conf: 0 none yet, 1 release, 2
drop; skip: SKIP mark (R297). -/
structure McReq where
  id : Nat
  c : Nat
  unit : Nat
  tag : TierTag
  bg : Bool
  demand : Bool
  wr : List (Nat × List Byte)
  hold : Bool
  skip : Bool
  conf : Nat
  st : McSt
deriving DecidableEq, Repr

/-- An entry of a row error table (R263). -/
structure RowErr where
  sub : Nat
  bank : Nat
  row : Nat
  count : Nat
deriving DecidableEq, Repr

/-- A confirmation of a moss tile on its way to a controller (R290). -/
structure Confirm where
  c : Nat
  tag : TierTag
  units : List Nat
deriving DecidableEq, Repr

/-- The memory controllers. -/
structure Mc where
  wait : List McReq                    -- requests waiting for a tracker
  reqs : List McReq                    -- requests holding trackers, in order of arrival
  count : Nat
  rr : List (Nat × Nat)                -- controller × 4 + priority to the core granted last, plus 1
  cbc : List (Nat × List Nat)          -- controller × 64 + set to its lines, most recently used first
  poison : List (Nat × Bool)           -- poisoned units (R259)
  rows : List (Nat × List RowErr)      -- row error tables, oldest entry first
  remap : List (Nat × Nat)             -- row (controller, subchannel, bank, row) to spare row + 1 (R264)
  used : List (Nat × Nat)              -- bank to spare rows allocated
  confs : List Confirm
  closing : List Nat                   -- requests that held trackers when their controller began to close
  refreshes : List (Nat × Nat)         -- per-bank refreshes performed (R254)
  zq : List (Nat × Nat)                -- ZQ calibrations performed (R254)
deriving DecidableEq, Repr

def Mc.reset : Mc := ⟨[], [], 0, [], [], [], [], [], [], [], [], [], []⟩

/-- A request of a tier engine at the flash controller (R268, R276): read of one 16 KiB unit, delivering the 256-byte
units named, or one whole write of an output tile. arrived: it holds a tracker. -/
structure FlReq where
  id : Nat
  tag : TierTag
  lunit : Nat
  units : List Nat
  wr : List (Nat × List Byte)    -- (address, bytes)
  arrived : Bool
deriving DecidableEq, Repr

/-- The flash controller. -/
structure Flash where
  reqs : List FlReq
  count : Nat
  bad : List (Nat × Bool)        -- logical units whose reads fail until written again (R271)
  frac : Nat                     -- fraction of a byte of credit, in millionths (R275)
  refused : Bool                 -- a refusal since the balance was last at or above 16 KiB (R268)
  closing : List Nat
deriving DecidableEq, Repr

def Flash.reset : Flash := ⟨[], 0, [], 0, false, []⟩

/-- A maintenance activity: its code (Table 19.12) and its scope (24-bit channel as controller × 8 + channel,
controller, flash die, 0 for the device, port, or unit under test). -/
structure MaintAct where
  code : Nat
  scope : Nat
deriving DecidableEq, Repr

/-- The maintenance arbiter: activities running, and waiting in the order of their requests. -/
structure Arb where
  run : List MaintAct
  wait : List MaintAct
deriving DecidableEq, Repr

def Arb.reset : Arb := ⟨[], []⟩

end Sys2Proof.Machine
end

