-- ==== Sys2Proof/Machine/Regs.lean ====
section
/-! DEFINITION. The control registers of the device: the address of every register of the spec's register
tables (R3: 0x7F00_0000_0000 plus block offset plus register offset; Table 17.6 for the supervisors' private
registers) and every named field of it (Tables 2.5 to 19.19). Addresses are supervisor physical addresses
(Table 17.1), of which the local addresses are the first part. -/

namespace Sys2Proof.Machine

/-- A field of a control register: the register's address and the field's highest and lowest bit. -/
structure Fld where
  addr : Nat
  hi : Nat
  lo : Nat
deriving DecidableEq, Repr

namespace R

/-- ARRAY_CONF (Table 2.5, R53). -/
abbrev ARRAY_CONF (n : Nat) : Nat := 0x7f0001004000 + n * 0x10000
/-- ARRAY_STATE (Table 2.6, R53). -/
abbrev ARRAY_STATE (n : Nat) : Nat := 0x7f0001004008 + n * 0x10000
/-- LICHEN_ROW (Table 2.7, R53). -/
abbrev LICHEN_ROW (n i : Nat) : Nat := 0x7f0001004010 + n * 0x10000 + i * 0x8
/-- LICHEN_COL (Table 2.7, R53). -/
abbrev LICHEN_COL (n i : Nat) : Nat := 0x7f0001004020 + n * 0x10000 + i * 0x8
/-- CHK_FAIL_COUNT (Table 2.8, R53). -/
abbrev CHK_FAIL_COUNT (n : Nat) : Nat := 0x7f0001004030 + n * 0x10000
/-- CHK_SKIP_COUNT (Table 2.8, R53). -/
abbrev CHK_SKIP_COUNT (n : Nat) : Nat := 0x7f0001004040 + n * 0x10000
/-- CHK_LAST (Table 2.9, R53). -/
abbrev CHK_LAST (n : Nat) : Nat := 0x7f0001004038 + n * 0x10000
/-- GATED_MAC_COUNT (Table 2.10, R53). -/
abbrev GATED_MAC_COUNT (n : Nat) : Nat := 0x7f0001004048 + n * 0x10000
/-- SR_STATE (Table 3.10, R78). -/
abbrev SR_STATE (n : Nat) : Nat := 0x7f0001004100 + n * 0x10000
/-- SLOT_STATE (Table 4.9, R103). -/
abbrev SLOT_STATE (n : Nat) : Nat := 0x7f0001004200 + n * 0x10000
/-- ACC_REMOTE (Table 4.10, R103). -/
abbrev ACC_REMOTE (n : Nat) : Nat := 0x7f0001004208 + n * 0x10000
/-- ACC_HOLD_COUNT (Table 4.11, R103). -/
abbrev ACC_HOLD_COUNT (n : Nat) : Nat := 0x7f0001004210 + n * 0x10000
/-- ACC_CE_COUNT (Table 4.11, R103). -/
abbrev ACC_CE_COUNT (n : Nat) : Nat := 0x7f0001004228 + n * 0x10000
/-- ACC_UE_COUNT (Table 4.11, R103). -/
abbrev ACC_UE_COUNT (n : Nat) : Nat := 0x7f0001004230 + n * 0x10000
/-- ACC_REMOTE_REFUSED (Table 4.11, R103). -/
abbrev ACC_REMOTE_REFUSED (n : Nat) : Nat := 0x7f0001004240 + n * 0x10000
/-- ACC_HOLD_CYCLES (Table 4.12, R103). -/
abbrev ACC_HOLD_CYCLES (n : Nat) : Nat := 0x7f0001004218 + n * 0x10000
/-- DRAIN_STATUS (Table 4.13, R103). -/
abbrev DRAIN_STATUS (n : Nat) : Nat := 0x7f0001004220 + n * 0x10000
/-- ACC_ERR_LAST (Table 4.14, R103). -/
abbrev ACC_ERR_LAST (n : Nat) : Nat := 0x7f0001004238 + n * 0x10000
/-- SREG (Table 5.7, R134). -/
abbrev SREG (n i : Nat) : Nat := 0x7f0001000000 + n * 0x10000 + i * 0x8
/-- PRED (Table 5.8, R134). -/
abbrev PRED (n : Nat) : Nat := 0x7f0001000200 + n * 0x10000
/-- KREG (Table 5.9, R134). -/
abbrev KREG (n i : Nat) : Nat := 0x7f0001000210 + n * 0x10000 + i * 0x8
/-- DREG (Table 5.10, R134). -/
abbrev DREG (n i w : Nat) : Nat := 0x7f0001000400 + n * 0x10000 + i * 0x20 + w * 0x8
/-- SEQ_CTRL (Table 5.11, R134). -/
abbrev SEQ_CTRL (n : Nat) : Nat := 0x7f0001001000 + n * 0x10000
/-- SEQ_START (Table 5.12, R134). -/
abbrev SEQ_START (n : Nat) : Nat := 0x7f0001001008 + n * 0x10000
/-- SEQ_STATUS (Table 5.13, R134). -/
abbrev SEQ_STATUS (n : Nat) : Nat := 0x7f0001001010 + n * 0x10000
/-- FAULT_REC (Table 5.14, R134). -/
abbrev FAULT_REC (n : Nat) : Nat := 0x7f0001001018 + n * 0x10000
/-- FAULT_INFO (Table 5.15, R134). -/
abbrev FAULT_INFO (n : Nat) : Nat := 0x7f0001001020 + n * 0x10000
/-- WAIT_LIMIT (Table 5.16, R134). -/
abbrev WAIT_LIMIT (n : Nat) : Nat := 0x7f0001001028 + n * 0x10000
/-- CYCLE_COUNT (Table 5.17, R134). -/
abbrev CYCLE_COUNT (n : Nat) : Nat := 0x7f0001001030 + n * 0x10000
/-- BUNDLE_COUNT (Table 5.17, R134). -/
abbrev BUNDLE_COUNT (n : Nat) : Nat := 0x7f0001001038 + n * 0x10000
/-- STALL_TOTAL (Table 5.18, R134). -/
abbrev STALL_TOTAL (n : Nat) : Nat := 0x7f0001001040 + n * 0x10000
/-- STALL_TIER (Table 5.18, R134). -/
abbrev STALL_TIER (n : Nat) : Nat := 0x7f0001001048 + n * 0x10000
/-- STALL_WAIT (Table 5.18, R134). -/
abbrev STALL_WAIT (n : Nat) : Nat := 0x7f0001001050 + n * 0x10000
/-- CFS_FETCH (Table 5.19, R134). -/
abbrev CFS_FETCH (n : Nat) : Nat := 0x7f0001001058 + n * 0x10000
/-- CFS_CHECK (Table 5.19, R134). -/
abbrev CFS_CHECK (n : Nat) : Nat := 0x7f0001001060 + n * 0x10000
/-- IMEM_PTR (Table 5.20, R134). -/
abbrev IMEM_PTR (n : Nat) : Nat := 0x7f0001001068 + n * 0x10000
/-- IMEM_DATA (Table 5.20, R134). -/
abbrev IMEM_DATA (n : Nat) : Nat := 0x7f0001001070 + n * 0x10000
/-- IMEM_CE_COUNT (Table 5.20, R134). -/
abbrev IMEM_CE_COUNT (n : Nat) : Nat := 0x7f0001001078 + n * 0x10000
/-- COMP (Table 6.20, R170). -/
abbrev COMP (n i : Nat) : Nat := 0x7f0001001100 + n * 0x10000 + i * 0x8
/-- CLAIM_CUR (Table 6.21, R170). -/
abbrev CLAIM_CUR (n : Nat) : Nat := 0x7f0001001180 + n * 0x10000
/-- CLAIM_STALE (Table 6.22, R170). -/
abbrev CLAIM_STALE (n : Nat) : Nat := 0x7f0001001188 + n * 0x10000
/-- MOVE_ERR_COUNT (Table 6.22, R170). -/
abbrev MOVE_ERR_COUNT (n : Nat) : Nat := 0x7f00010011a8 + n * 0x10000
/-- STREAM_STATE (Table 6.23, R170). -/
abbrev STREAM_STATE (n : Nat) : Nat := 0x7f0001001190 + n * 0x10000
/-- MOVE_STATE (Table 6.24, R170). -/
abbrev MOVE_STATE (n : Nat) : Nat := 0x7f0001001198 + n * 0x10000
/-- MOVE_ERR (Table 6.25, R170). -/
abbrev MOVE_ERR (n : Nat) : Nat := 0x7f00010011a0 + n * 0x10000
/-- VEC_STATUS (Table 7.12, R204). -/
abbrev VEC_STATUS (n : Nat) : Nat := 0x7f0001004400 + n * 0x10000
/-- VEC_STATE (Table 7.15, R204). -/
abbrev VEC_STATE (n : Nat) : Nat := 0x7f0001004408 + n * 0x10000
/-- MREG (Table 7.16, R204). -/
abbrev MREG (n i w : Nat) : Nat := 0x7f0001004440 + n * 0x10000 + i * 0x20 + w * 0x8
/-- VREG_PTR (Table 7.17, R204). -/
abbrev VREG_PTR (n : Nat) : Nat := 0x7f0001004540 + n * 0x10000
/-- VREG_DATA (Table 7.17, R204). -/
abbrev VREG_DATA (n : Nat) : Nat := 0x7f0001004548 + n * 0x10000
/-- WINDOW_LO (Table 8.10, R222). -/
abbrev WINDOW_LO (n i : Nat) : Nat := 0x7f0001002000 + n * 0x10000 + i * 0x10
/-- WINDOW_HI (Table 8.10, R222). -/
abbrev WINDOW_HI (n i : Nat) : Nat := 0x7f0001002008 + n * 0x10000 + i * 0x10
/-- WIN_STATUS (Table 8.11, R222). -/
abbrev WIN_STATUS (n : Nat) : Nat := 0x7f0001003000 + n * 0x10000
/-- CLAIM_STATE (Table 8.12, R225). -/
abbrev CLAIM_STATE (i : Nat) : Nat := 0x7f0000280000 + i * 0x10
/-- CLAIM_SET (Table 8.13, R225). -/
abbrev CLAIM_SET (i : Nat) : Nat := 0x7f0000280008 + i * 0x10
/-- TIER_BOUND (Table 9.9, R252). -/
abbrev TIER_BOUND (n i : Nat) : Nat := 0x7f0001005000 + n * 0x10000 + i * 0x8
/-- LPDDR_LATE (Table 9.10, R252). -/
abbrev LPDDR_LATE (n : Nat) : Nat := 0x7f0001005020 + n * 0x10000
/-- CHECKBIT_MISS (Table 9.10, R252). -/
abbrev CHECKBIT_MISS (n : Nat) : Nat := 0x7f0001005028 + n * 0x10000
/-- FLASH_LATE (Table 9.10, R252). -/
abbrev FLASH_LATE (n : Nat) : Nat := 0x7f0001005030 + n * 0x10000
/-- FABRIC_LATE (Table 9.10, R252). -/
abbrev FABRIC_LATE (n : Nat) : Nat := 0x7f0001005038 + n * 0x10000
/-- GUARD_STALL (Table 9.10, R252). -/
abbrev GUARD_STALL (n : Nat) : Nat := 0x7f0001005040 + n * 0x10000
/-- EXTENT_STALL (Table 9.10, R252). -/
abbrev EXTENT_STALL (n : Nat) : Nat := 0x7f0001005048 + n * 0x10000
/-- TIER_FAIL (Table 9.11, R252). -/
abbrev TIER_FAIL (n : Nat) : Nat := 0x7f0001005050 + n * 0x10000
/-- PREFETCH_STOP (Table 9.11, R252). -/
abbrev PREFETCH_STOP (n : Nat) : Nat := 0x7f0001005058 + n * 0x10000
/-- GUARD_REFETCH (Table 9.11, R252). -/
abbrev GUARD_REFETCH (n : Nat) : Nat := 0x7f0001005060 + n * 0x10000
/-- CR_REFETCH (Table 9.11, R252). -/
abbrev CR_REFETCH (n : Nat) : Nat := 0x7f0001005068 + n * 0x10000
/-- TIER_ERR_COUNT (Table 9.11, R252). -/
abbrev TIER_ERR_COUNT (n : Nat) : Nat := 0x7f0001005070 + n * 0x10000
/-- TIER_ERR (Table 9.12, R252). -/
abbrev TIER_ERR (n : Nat) : Nat := 0x7f0001005078 + n * 0x10000
/-- STREAM_PROG (Table 9.13, R252). -/
abbrev STREAM_PROG (n i : Nat) : Nat := 0x7f0001005100 + n * 0x10000 + i * 0x8
/-- MC_CTRL (Table 10.3, R278). -/
abbrev MC_CTRL (n : Nat) : Nat := 0x7f0000600000 + n * 0x10000
/-- MC_STATUS (Table 10.3, R278). -/
abbrev MC_STATUS (n : Nat) : Nat := 0x7f0000600008 + n * 0x10000
/-- MC_CE_COUNT (Table 10.4, R278). -/
abbrev MC_CE_COUNT (n : Nat) : Nat := 0x7f0000600010 + n * 0x10000
/-- MC_UE_COUNT (Table 10.4, R278). -/
abbrev MC_UE_COUNT (n : Nat) : Nat := 0x7f0000600018 + n * 0x10000
/-- CBC_HIT (Table 10.4, R278). -/
abbrev CBC_HIT (n : Nat) : Nat := 0x7f0000600020 + n * 0x10000
/-- CBC_MISS (Table 10.4, R278). -/
abbrev CBC_MISS (n : Nat) : Nat := 0x7f0000600028 + n * 0x10000
/-- MC_ERR_LAST (Table 10.5, R278). -/
abbrev MC_ERR_LAST (n : Nat) : Nat := 0x7f0000600030 + n * 0x10000
/-- SCRUB_CTRL (Table 10.6, R278). -/
abbrev SCRUB_CTRL (n : Nat) : Nat := 0x7f0000600040 + n * 0x10000
/-- SCRUB_STATUS (Table 10.6, R278). -/
abbrev SCRUB_STATUS (n : Nat) : Nat := 0x7f0000600048 + n * 0x10000
/-- SPARE_CMD (Table 10.6, R278). -/
abbrev SPARE_CMD (n : Nat) : Nat := 0x7f0000600050 + n * 0x10000
/-- SPARE_STATUS (Table 10.6, R278). -/
abbrev SPARE_STATUS (n : Nat) : Nat := 0x7f0000600058 + n * 0x10000
/-- RETIRE_CMD (Table 10.6, R278). -/
abbrev RETIRE_CMD (n : Nat) : Nat := 0x7f0000600060 + n * 0x10000
/-- RETIRE_STATUS (Table 10.6, R278). -/
abbrev RETIRE_STATUS (n : Nat) : Nat := 0x7f0000600068 + n * 0x10000
/-- FL_CTRL (Table 10.7, R279). -/
abbrev FL_CTRL : Nat := 0x7f0000800000
/-- FL_STATUS (Table 10.7, R279). -/
abbrev FL_STATUS : Nat := 0x7f0000800008
/-- FL_GEOM (Table 10.7, R279). -/
abbrev FL_GEOM : Nat := 0x7f0000800010
/-- SPILL_RATE (Table 10.8, R279). -/
abbrev SPILL_RATE : Nat := 0x7f0000800020
/-- SPILL_BURST (Table 10.8, R279). -/
abbrev SPILL_BURST : Nat := 0x7f0000800028
/-- SPILL_BALANCE (Table 10.8, R279). -/
abbrev SPILL_BALANCE : Nat := 0x7f0000800030
/-- SPILL_REFUSED (Table 10.8, R279). -/
abbrev SPILL_REFUSED : Nat := 0x7f0000800038
/-- FL_RETRY (Table 10.8, R279). -/
abbrev FL_RETRY : Nat := 0x7f0000800040
/-- FL_UE (Table 10.8, R279). -/
abbrev FL_UE : Nat := 0x7f0000800048
/-- FL_RELOC (Table 10.8, R279). -/
abbrev FL_RELOC : Nat := 0x7f0000800050
/-- FL_GROWN_BAD (Table 10.8, R279). -/
abbrev FL_GROWN_BAD : Nat := 0x7f0000800058
/-- FL_ERR_LAST (Table 10.9, R279). -/
abbrev FL_ERR_LAST : Nat := 0x7f0000800060
/-- FL_DIE (Table 10.9, R279). -/
abbrev FL_DIE (i : Nat) : Nat := 0x7f0000801000 + i * 0x8
/-- PRED_CTRL (Table 11.8, R302). -/
abbrev PRED_CTRL (n : Nat) : Nat := 0x7f0001005200 + n * 0x10000
/-- PRED_HIT (Table 11.9, R302). -/
abbrev PRED_HIT (n : Nat) : Nat := 0x7f0001005208 + n * 0x10000
/-- PRED_MISS (Table 11.9, R302). -/
abbrev PRED_MISS (n : Nat) : Nat := 0x7f0001005210 + n * 0x10000
/-- PRED_SKIP_BYTES (Table 11.9, R302). -/
abbrev PRED_SKIP_BYTES (n : Nat) : Nat := 0x7f0001005218 + n * 0x10000
/-- MOSS_BAD (Table 11.9, R302). -/
abbrev MOSS_BAD (n : Nat) : Nat := 0x7f0001005220 + n * 0x10000
/-- MC_SKIP_SAVED (Table 11.10, R302). -/
abbrev MC_SKIP_SAVED (n : Nat) : Nat := 0x7f0000600070 + n * 0x10000
/-- UPD_CTRL (Table 12.6, R321). -/
abbrev UPD_CTRL (n : Nat) : Nat := 0x7f0000608000 + n * 0x10000
/-- UPD_RING (Table 12.6, R321). -/
abbrev UPD_RING (n : Nat) : Nat := 0x7f0000608008 + n * 0x10000
/-- UPD_PTR (Table 12.7, R321). -/
abbrev UPD_PTR (n : Nat) : Nat := 0x7f0000608010 + n * 0x10000
/-- UPD_DOOR (Table 12.7, R321). -/
abbrev UPD_DOOR (n : Nat) : Nat := 0x7f0000608018 + n * 0x10000
/-- UPD_STATUS (Table 12.8, R321). -/
abbrev UPD_STATUS (n : Nat) : Nat := 0x7f0000608020 + n * 0x10000
/-- UPD_LAST (Table 12.9, R321). -/
abbrev UPD_LAST (n : Nat) : Nat := 0x7f0000608028 + n * 0x10000
/-- UPD_PARAMS (Table 12.10, R321). -/
abbrev UPD_PARAMS (n : Nat) : Nat := 0x7f0000608030 + n * 0x10000
/-- UPD_NONFINITE (Table 12.10, R321). -/
abbrev UPD_NONFINITE (n : Nat) : Nat := 0x7f0000608038 + n * 0x10000
/-- UPD_UE (Table 12.10, R321). -/
abbrev UPD_UE (n : Nat) : Nat := 0x7f0000608040 + n * 0x10000
/-- MIRROR_HOLD (Table 12.10, R321). -/
abbrev MIRROR_HOLD (n : Nat) : Nat := 0x7f0000608048 + n * 0x10000
/-- UPD_CLOSE (Table 12.10, R321). -/
abbrev UPD_CLOSE (n : Nat) : Nat := 0x7f0000608050 + n * 0x10000
/-- ATT_CTRL (Table 14.10, R362). -/
abbrev ATT_CTRL (n : Nat) : Nat := 0x7f0000a00000 + n * 0x10000
/-- ATT_CONF (Table 14.10, R362). -/
abbrev ATT_CONF (n : Nat) : Nat := 0x7f0000a00008 + n * 0x10000
/-- ATT_FERN (Table 14.10, R362). -/
abbrev ATT_FERN (n : Nat) : Nat := 0x7f0000a00010 + n * 0x10000
/-- ATT_SRING (Table 14.11, R362). -/
abbrev ATT_SRING (n : Nat) : Nat := 0x7f0000a00020 + n * 0x10000
/-- ATT_CRING (Table 14.11, R362). -/
abbrev ATT_CRING (n : Nat) : Nat := 0x7f0000a00038 + n * 0x10000
/-- ATT_RRING (Table 14.11, R362). -/
abbrev ATT_RRING (n : Nat) : Nat := 0x7f0000a00050 + n * 0x10000
/-- ATT_SPTR (Table 14.12, R362). -/
abbrev ATT_SPTR (n : Nat) : Nat := 0x7f0000a00028 + n * 0x10000
/-- ATT_CPTR (Table 14.12, R362). -/
abbrev ATT_CPTR (n : Nat) : Nat := 0x7f0000a00040 + n * 0x10000
/-- ATT_RPTR (Table 14.12, R362). -/
abbrev ATT_RPTR (n : Nat) : Nat := 0x7f0000a00058 + n * 0x10000
/-- ATT_SDOOR (Table 14.12, R362). -/
abbrev ATT_SDOOR (n : Nat) : Nat := 0x7f0000a00030 + n * 0x10000
/-- ATT_CDOOR (Table 14.12, R362). -/
abbrev ATT_CDOOR (n : Nat) : Nat := 0x7f0000a00048 + n * 0x10000
/-- ATT_STATUS (Table 14.13, R362). -/
abbrev ATT_STATUS (n : Nat) : Nat := 0x7f0000a00060 + n * 0x10000
/-- ATT_STALL (Table 14.14, R362). -/
abbrev ATT_STALL (n : Nat) : Nat := 0x7f0000a00068 + n * 0x10000
/-- COMMIT_WAIT (Table 14.14, R362). -/
abbrev COMMIT_WAIT (n : Nat) : Nat := 0x7f0000a00070 + n * 0x10000
/-- ATT_MISS (Table 14.14, R362). -/
abbrev ATT_MISS (n : Nat) : Nat := 0x7f0000a00078 + n * 0x10000
/-- ATT_CLOSE (Table 14.14, R362). -/
abbrev ATT_CLOSE (n : Nat) : Nat := 0x7f0000a00080 + n * 0x10000
/-- SEQ_STATE (Table 14.14, R362). -/
abbrev SEQ_STATE (n i : Nat) : Nat := 0x7f0000a01000 + n * 0x10000 + i * 0x8
/-- PORT_CTRL (Table 15.16, R403). -/
abbrev PORT_CTRL (n : Nat) : Nat := 0x7f0000400000 + n * 0x10000
/-- PORT_STATUS (Table 15.16, R403). -/
abbrev PORT_STATUS (n : Nat) : Nat := 0x7f0000400008 + n * 0x10000
/-- PORT_ADV (Table 15.17, R403). -/
abbrev PORT_ADV (n : Nat) : Nat := 0x7f0000400010 + n * 0x10000
/-- LANE_SPARE (Table 15.17, R403). -/
abbrev LANE_SPARE (n : Nat) : Nat := 0x7f0000400018 + n * 0x10000
/-- PORT_CONF (Table 15.18, R403). -/
abbrev PORT_CONF (n : Nat) : Nat := 0x7f0000400020 + n * 0x10000
/-- TRK_USE (Table 15.18, R403). -/
abbrev TRK_USE (n : Nat) : Nat := 0x7f0000400028 + n * 0x10000
/-- PORT_CLOSE (Table 15.18, R403). -/
abbrev PORT_CLOSE (n : Nat) : Nat := 0x7f0000400030 + n * 0x10000
/-- FLIT_CORR (Table 15.19, R403). -/
abbrev FLIT_CORR (n : Nat) : Nat := 0x7f0000400040 + n * 0x10000
/-- FLIT_UNCORR (Table 15.19, R403). -/
abbrev FLIT_UNCORR (n : Nat) : Nat := 0x7f0000400048 + n * 0x10000
/-- REPLAY_COUNT (Table 15.19, R403). -/
abbrev REPLAY_COUNT (n : Nat) : Nat := 0x7f0000400050 + n * 0x10000
/-- STOMP_COUNT (Table 15.19, R403). -/
abbrev STOMP_COUNT (n : Nat) : Nat := 0x7f0000400058 + n * 0x10000
/-- FAILOVER_COUNT (Table 15.19, R403). -/
abbrev FAILOVER_COUNT (n : Nat) : Nat := 0x7f0000400060 + n * 0x10000
/-- RADD_HOLD (Table 15.19, R403). -/
abbrev RADD_HOLD (n : Nat) : Nat := 0x7f0000400068 + n * 0x10000
/-- TRK_FULL (Table 15.19, R403). -/
abbrev TRK_FULL (n : Nat) : Nat := 0x7f0000400070 + n * 0x10000
/-- LINK_DOWN_COUNT (Table 15.19, R403). -/
abbrev LINK_DOWN_COUNT (n : Nat) : Nat := 0x7f0000400078 + n * 0x10000
/-- SCHED_CTRL (Table 15.20, R403). -/
abbrev SCHED_CTRL (n : Nat) : Nat := 0x7f0000400080 + n * 0x10000
/-- SCHED (Table 15.20, R403). -/
abbrev SCHED (n i : Nat) : Nat := 0x7f0000401000 + n * 0x10000 + i * 0x8
/-- FAB_NODE (Table 15.21, R404). -/
abbrev FAB_NODE : Nat := 0x7f0000580000
/-- FAB_STATUS (Table 15.21, R404). -/
abbrev FAB_STATUS : Nat := 0x7f0000580008
/-- FAB_VER (Table 15.21, R404). -/
abbrev FAB_VER : Nat := 0x7f0000580010
/-- ROUTE (Table 15.22, R404). -/
abbrev ROUTE (i : Nat) : Nat := 0x7f0000590000 + i * 0x8
/-- REDUCE (Table 15.22, R404). -/
abbrev REDUCE (i w : Nat) : Nat := 0x7f00005b0000 + i * 0x40 + w * 0x8
/-- RED_STATE (Table 15.22, R404). -/
abbrev RED_STATE (i : Nat) : Nat := 0x7f00005b1000 + i * 0x8
/-- ETH_CTRL (Table 16.9, R427). -/
abbrev ETH_CTRL (n : Nat) : Nat := 0x7f0000c00000 + n * 0x1000
/-- ETH_STATUS (Table 16.9, R427). -/
abbrev ETH_STATUS (n : Nat) : Nat := 0x7f0000c00008 + n * 0x1000
/-- ETH_MAC (Table 16.9, R427). -/
abbrev ETH_MAC (n : Nat) : Nat := 0x7f0000c00010 + n * 0x1000
/-- ETH_UDP (Table 16.9, R427). -/
abbrev ETH_UDP (n : Nat) : Nat := 0x7f0000c00028 + n * 0x1000
/-- ETH_CLOSE (Table 16.9, R427). -/
abbrev ETH_CLOSE (n : Nat) : Nat := 0x7f0000c00030 + n * 0x1000
/-- ETH_IP (Table 16.9, R427). -/
abbrev ETH_IP (n i : Nat) : Nat := 0x7f0000c00018 + n * 0x1000 + i * 0x8
/-- RX_FRAMES (Table 16.10, R427). -/
abbrev RX_FRAMES (n : Nat) : Nat := 0x7f0000c00040 + n * 0x1000
/-- RX_FCS_ERR (Table 16.10, R427). -/
abbrev RX_FCS_ERR (n : Nat) : Nat := 0x7f0000c00048 + n * 0x1000
/-- RX_OTHER (Table 16.10, R427). -/
abbrev RX_OTHER (n : Nat) : Nat := 0x7f0000c00050 + n * 0x1000
/-- ING_FORMAT (Table 16.10, R427). -/
abbrev ING_FORMAT (n : Nat) : Nat := 0x7f0000c00058 + n * 0x1000
/-- ING_FILTER (Table 16.10, R427). -/
abbrev ING_FILTER (n : Nat) : Nat := 0x7f0000c00060 + n * 0x1000
/-- ING_BOUNDS (Table 16.10, R427). -/
abbrev ING_BOUNDS (n : Nat) : Nat := 0x7f0000c00068 + n * 0x1000
/-- ING_WINDOW (Table 16.10, R427). -/
abbrev ING_WINDOW (n : Nat) : Nat := 0x7f0000c00070 + n * 0x1000
/-- ING_DUP (Table 16.10, R427). -/
abbrev ING_DUP (n : Nat) : Nat := 0x7f0000c00078 + n * 0x1000
/-- FEC_CORR (Table 16.10, R427). -/
abbrev FEC_CORR (n : Nat) : Nat := 0x7f0000c00080 + n * 0x1000
/-- FEC_UNCORR (Table 16.10, R427). -/
abbrev FEC_UNCORR (n : Nat) : Nat := 0x7f0000c00088 + n * 0x1000
/-- ING_CTRL (Table 16.11, R427). -/
abbrev ING_CTRL (i : Nat) : Nat := 0x7f0000c02000 + i * 0x40
/-- ING_BASE (Table 16.11, R427). -/
abbrev ING_BASE (i : Nat) : Nat := 0x7f0000c02008 + i * 0x40
/-- ING_SIZE (Table 16.11, R427). -/
abbrev ING_SIZE (i : Nat) : Nat := 0x7f0000c02010 + i * 0x40
/-- ING_NOTIFY (Table 16.11, R427). -/
abbrev ING_NOTIFY (i : Nat) : Nat := 0x7f0000c02028 + i * 0x40
/-- ING_NVAL (Table 16.11, R427). -/
abbrev ING_NVAL (i : Nat) : Nat := 0x7f0000c02030 + i * 0x40
/-- ING_STATE (Table 16.11, R427). -/
abbrev ING_STATE (i : Nat) : Nat := 0x7f0000c02038 + i * 0x40
/-- ING_SRC (Table 16.11, R427). -/
abbrev ING_SRC (i w : Nat) : Nat := 0x7f0000c02018 + i * 0x40 + w * 0x8
/-- CXL_CTRL (Table 16.12, R427). -/
abbrev CXL_CTRL : Nat := 0x7f0000c04000
/-- CXL_STATUS (Table 16.12, R427). -/
abbrev CXL_STATUS : Nat := 0x7f0000c04008
/-- CXL_WIN_BASE (Table 16.12, R427). -/
abbrev CXL_WIN_BASE : Nat := 0x7f0000c04010
/-- CXL_WIN_SIZE (Table 16.12, R427). -/
abbrev CXL_WIN_SIZE : Nat := 0x7f0000c04018
/-- CXL_CLOSE (Table 16.12, R427). -/
abbrev CXL_CLOSE : Nat := 0x7f0000c04020
/-- PWR_STATUS (Table 16.12, R427). -/
abbrev PWR_STATUS : Nat := 0x7f0000c05000
/-- SUP_MTIME (Table 17.6, R446). -/
abbrev SUP_MTIME (n : Nat) : Nat := 0x1000300000000 + n * 0x1000
/-- SUP_MTIMECMP (Table 17.6, R446). -/
abbrev SUP_MTIMECMP (n : Nat) : Nat := 0x1000300000008 + n * 0x1000
/-- SUP_MSIP (Table 17.6, R446). -/
abbrev SUP_MSIP (n : Nat) : Nat := 0x1000300000010 + n * 0x1000
/-- SUP_FABWIN (Table 17.6, R446). -/
abbrev SUP_FABWIN (n : Nat) : Nat := 0x1000300000018 + n * 0x1000
/-- SUP_FABERR (Table 17.6, R446). -/
abbrev SUP_FABERR (n : Nat) : Nat := 0x1000300000020 + n * 0x1000
/-- SUP_FENCE (Table 17.6, R446). -/
abbrev SUP_FENCE (n : Nat) : Nat := 0x1000300000028 + n * 0x1000
/-- ID_ORDER_LO (Table 17.7, R446). -/
abbrev ID_ORDER_LO : Nat := 0x7f0000000000
/-- ID_ORDER_HI (Table 17.7, R446). -/
abbrev ID_ORDER_HI : Nat := 0x7f0000000008
/-- ID_STEP (Table 17.7, R446). -/
abbrev ID_STEP : Nat := 0x7f0000000010
/-- ID_SERIAL (Table 17.7, R446). -/
abbrev ID_SERIAL : Nat := 0x7f0000000018
/-- ID_CONF (Table 17.7, R446). -/
abbrev ID_CONF : Nat := 0x7f0000000020
/-- CLK_STATUS (Table 17.8, R446). -/
abbrev CLK_STATUS : Nat := 0x7f0000100000
/-- RST_CAUSE (Table 17.8, R446). -/
abbrev RST_CAUSE : Nat := 0x7f0000100008
/-- RST_CTRL (Table 17.8, R446). -/
abbrev RST_CTRL : Nat := 0x7f0000100010
/-- SRAM_CE (Table 17.8, R446). -/
abbrev SRAM_CE : Nat := 0x7f0000100018
/-- SRAM_UE (Table 17.8, R446). -/
abbrev SRAM_UE : Nat := 0x7f0000100020
/-- SUP_STATUS (Table 17.8, R446). -/
abbrev SUP_STATUS (i : Nat) : Nat := 0x7f0000100100 + i * 0x8
/-- EVC_CTRL (Table 17.9, R446). -/
abbrev EVC_CTRL : Nat := 0x7f0000200000
/-- EVC_SWSET (Table 17.9, R446). -/
abbrev EVC_SWSET : Nat := 0x7f0000200008
/-- EVC_MERGED (Table 17.9, R446). -/
abbrev EVC_MERGED : Nat := 0x7f0000200010
/-- SRC_CFG (Table 17.9, R446). -/
abbrev SRC_CFG (i : Nat) : Nat := 0x7f0000201000 + i * 0x8
/-- PEND (Table 17.9, R446). -/
abbrev PEND (i : Nat) : Nat := 0x7f0000202000 + i * 0x8
/-- RAW (Table 17.9, R446). -/
abbrev RAW (i : Nat) : Nat := 0x7f0000202100 + i * 0x8
/-- INSERV (Table 17.9, R446). -/
abbrev INSERV (i : Nat) : Nat := 0x7f0000202200 + i * 0x8
/-- TGT_CTRL (Table 17.9, R446). -/
abbrev TGT_CTRL (i : Nat) : Nat := 0x7f0000203000 + i * 0x100
/-- TGT_CLAIM (Table 17.9, R446). -/
abbrev TGT_CLAIM (i : Nat) : Nat := 0x7f0000203008 + i * 0x100
/-- TGT_COMPLETE (Table 17.9, R446). -/
abbrev TGT_COMPLETE (i : Nat) : Nat := 0x7f0000203010 + i * 0x100
/-- TGT_STATUS (Table 17.9, R446). -/
abbrev TGT_STATUS (i : Nat) : Nat := 0x7f0000203018 + i * 0x100
/-- SEC_STATUS (Table 18.13, R473). -/
abbrev SEC_STATUS : Nat := 0x7f0000300000
/-- SEC_CMD (Table 18.13, R473). -/
abbrev SEC_CMD : Nat := 0x7f0000300008
/-- SEC_DATA (Table 18.13, R473). -/
abbrev SEC_DATA (i : Nat) : Nat := 0x7f0000300010 + i * 0x8
/-- SEC_LOCK (Table 18.14, R473). -/
abbrev SEC_LOCK : Nat := 0x7f0000300040
/-- DIKE_ACTION (Table 18.14, R473). -/
abbrev DIKE_ACTION : Nat := 0x7f0000300048
/-- DIKE_ALARM (Table 18.14, R473). -/
abbrev DIKE_ALARM : Nat := 0x7f0000300050
/-- SVN_MIN (Table 18.14, R473). -/
abbrev SVN_MIN : Nat := 0x7f0000300058
/-- LMS_NEXT (Table 18.14, R473). -/
abbrev LMS_NEXT : Nat := 0x7f0000300060
/-- IMG_DIGEST (Table 18.15, R473). -/
abbrev IMG_DIGEST (i : Nat) : Nat := 0x7f0000300080 + i * 0x8
/-- IDK_PUB (Table 18.15, R473). -/
abbrev IDK_PUB (i : Nat) : Nat := 0x7f00003000c0 + i * 0x8
/-- SEC_IANA (Table 18.15, R473). -/
abbrev SEC_IANA : Nat := 0x7f0000300120
/-- BOOT_REC (Table 18.15, R473). -/
abbrev BOOT_REC : Nat := 0x7f0000300128
/-- SAFE_STATUS (Table 19.15, R504). -/
abbrev SAFE_STATUS : Nat := 0x7f0000b00000
/-- SAFE_CTRL (Table 19.15, R504). -/
abbrev SAFE_CTRL : Nat := 0x7f0000b00008
/-- SAFE_MORE (Table 19.15, R504). -/
abbrev SAFE_MORE : Nat := 0x7f0000b00010
/-- SMEM_CE (Table 19.15, R504). -/
abbrev SMEM_CE : Nat := 0x7f0000b00018
/-- SMEM_UE (Table 19.15, R504). -/
abbrev SMEM_UE : Nat := 0x7f0000b00020
/-- JRN_CFG (Table 19.16, R504). -/
abbrev JRN_CFG : Nat := 0x7f0000b00040
/-- JRN_BASE (Table 19.16, R504). -/
abbrev JRN_BASE : Nat := 0x7f0000b00048
/-- JRN_LBASE (Table 19.16, R504). -/
abbrev JRN_LBASE : Nat := 0x7f0000b00050
/-- JRN_CMD (Table 19.16, R504). -/
abbrev JRN_CMD : Nat := 0x7f0000b00058
/-- JRN_STATUS (Table 19.16, R504). -/
abbrev JRN_STATUS : Nat := 0x7f0000b00060
/-- JRN_DROP (Table 19.16, R504). -/
abbrev JRN_DROP : Nat := 0x7f0000b00068
/-- JRN_REFUSED (Table 19.16, R504). -/
abbrev JRN_REFUSED : Nat := 0x7f0000b00070
/-- JRN_LAST (Table 19.16, R504). -/
abbrev JRN_LAST (i : Nat) : Nat := 0x7f0000b01000 + i * 0x8
/-- JRN_MARK (Table 19.16, R504). -/
abbrev JRN_MARK (n : Nat) : Nat := 0x7f0001005400 + n * 0x10000
/-- PAIR_CTRL (Table 19.17, R504). -/
abbrev PAIR_CTRL : Nat := 0x7f0000b00100
/-- PAIR_STATUS (Table 19.17, R504). -/
abbrev PAIR_STATUS : Nat := 0x7f0000b00108
/-- CONFIRMED (Table 19.17, R504). -/
abbrev CONFIRMED : Nat := 0x7f0000b00110
/-- PEER_CONFIRMED (Table 19.17, R504). -/
abbrev PEER_CONFIRMED : Nat := 0x7f0000b00118
/-- PAIR_RECV (Table 19.17, R504). -/
abbrev PAIR_RECV : Nat := 0x7f0000b00120
/-- PAIR_ACK (Table 19.17, R504). -/
abbrev PAIR_ACK : Nat := 0x7f0000b00128
/-- PAIR_HB (Table 19.17, R504). -/
abbrev PAIR_HB : Nat := 0x7f0000b00130
/-- PAIR_PEER (Table 19.17, R504). -/
abbrev PAIR_PEER : Nat := 0x7f0000b00138
/-- MIR_FAIL (Table 19.17, R504). -/
abbrev MIR_FAIL : Nat := 0x7f0000b00140
/-- ARB_CTRL (Table 19.18, R504). -/
abbrev ARB_CTRL : Nat := 0x7f0000b00200
/-- ARB_OVERRIDE (Table 19.18, R504). -/
abbrev ARB_OVERRIDE : Nat := 0x7f0000b00208
/-- ARB_WAIT (Table 19.18, R504). -/
abbrev ARB_WAIT (i : Nat) : Nat := 0x7f0000b00210 + i * 0x8
/-- ST_CTRL (Table 19.19, R504). -/
abbrev ST_CTRL : Nat := 0x7f0000b00300
/-- ST_STATUS (Table 19.19, R504). -/
abbrev ST_STATUS : Nat := 0x7f0000b00308
/-- ST_RESULT (Table 19.19, R504). -/
abbrev ST_RESULT : Nat := 0x7f0000b00310
/-- SUP_SPARE (Table 19.19, R504). -/
abbrev SUP_SPARE : Nat := 0x7f0000b00440
/-- SPARE_ERR (Table 19.19, R504). -/
abbrev SPARE_ERR : Nat := 0x7f0000b00448
/-- CORE_SPARE (Table 19.19, R504). -/
abbrev CORE_SPARE (i : Nat) : Nat := 0x7f0000b00400 + i * 0x8
/-- CORE_CLOSE (Table 17.5, R443). -/
abbrev CORE_CLOSE (n : Nat) : Nat := 0x7f0001005300 + n * 0x10000
/-- MC_CLOSE (Table 17.5, R443). -/
abbrev MC_CLOSE (n : Nat) : Nat := 0x7f0000600078 + n * 0x10000
/-- FL_CLOSE (Table 17.5, R443). -/
abbrev FL_CLOSE : Nat := 0x7f0000800068
end R

namespace F

abbrev ARRAY_CONF_GATE_DIS (n : Nat) : Fld := ⟨R.ARRAY_CONF n, 8, 8⟩
abbrev ARRAY_CONF_CHK_TOL (n : Nat) : Fld := ⟨R.ARRAY_CONF n, 4, 0⟩
abbrev ARRAY_STATE_MAP_ERR (n : Nat) : Fld := ⟨R.ARRAY_STATE n, 8, 8⟩
abbrev ARRAY_STATE_BCAST_SENDER (n : Nat) : Fld := ⟨R.ARRAY_STATE n, 7, 6⟩
abbrev ARRAY_STATE_BCAST_OPEN (n : Nat) : Fld := ⟨R.ARRAY_STATE n, 5, 5⟩
abbrev ARRAY_STATE_MM_BUSY (n : Nat) : Fld := ⟨R.ARRAY_STATE n, 4, 4⟩
abbrev ARRAY_STATE_LOAD_BUSY (n : Nat) : Fld := ⟨R.ARRAY_STATE n, 3, 3⟩
abbrev ARRAY_STATE_SHD_VALID (n : Nat) : Fld := ⟨R.ARRAY_STATE n, 2, 2⟩
abbrev ARRAY_STATE_ACT_VALID (n : Nat) : Fld := ⟨R.ARRAY_STATE n, 1, 1⟩
abbrev ARRAY_STATE_ACTIVE_SLOT (n : Nat) : Fld := ⟨R.ARRAY_STATE n, 0, 0⟩
abbrev LICHEN_ROW_VALID (n i : Nat) : Fld := ⟨R.LICHEN_ROW n i, 15, 15⟩
abbrev LICHEN_ROW_LOGICAL (n i : Nat) : Fld := ⟨R.LICHEN_ROW n i, 8, 0⟩
abbrev LICHEN_COL_VALID (n i : Nat) : Fld := ⟨R.LICHEN_COL n i, 15, 15⟩
abbrev LICHEN_COL_LOGICAL (n i : Nat) : Fld := ⟨R.LICHEN_COL n i, 8, 0⟩
abbrev CHK_FAIL_COUNT_COUNT (n : Nat) : Fld := ⟨R.CHK_FAIL_COUNT n, 31, 0⟩
abbrev CHK_SKIP_COUNT_COUNT (n : Nat) : Fld := ⟨R.CHK_SKIP_COUNT n, 31, 0⟩
abbrev CHK_LAST_VALID (n : Nat) : Fld := ⟨R.CHK_LAST n, 63, 63⟩
abbrev CHK_LAST_KIND (n : Nat) : Fld := ⟨R.CHK_LAST n, 62, 60⟩
abbrev CHK_LAST_SLOT (n : Nat) : Fld := ⟨R.CHK_LAST n, 52, 48⟩
abbrev CHK_LAST_BUNDLE (n : Nat) : Fld := ⟨R.CHK_LAST n, 29, 16⟩
abbrev CHK_LAST_INDEX (n : Nat) : Fld := ⟨R.CHK_LAST n, 8, 0⟩
abbrev GATED_MAC_COUNT_COUNT (n : Nat) : Fld := ⟨R.GATED_MAC_COUNT n, 63, 0⟩
abbrev SR_STATE_STATE (n : Nat) : Fld := ⟨R.SR_STATE n, 63, 0⟩
abbrev SLOT_STATE_ACC_BUSY (n : Nat) : Fld := ⟨R.SLOT_STATE n, 19, 4⟩
abbrev SLOT_STATE_PONG_BUSY (n : Nat) : Fld := ⟨R.SLOT_STATE n, 3, 3⟩
abbrev SLOT_STATE_PING_BUSY (n : Nat) : Fld := ⟨R.SLOT_STATE n, 2, 2⟩
abbrev SLOT_STATE_PORT_BUSY (n : Nat) : Fld := ⟨R.SLOT_STATE n, 1, 1⟩
abbrev SLOT_STATE_HOLDING (n : Nat) : Fld := ⟨R.SLOT_STATE n, 0, 0⟩
abbrev ACC_REMOTE_ACTIVE (n : Nat) : Fld := ⟨R.ACC_REMOTE n, 31, 16⟩
abbrev ACC_REMOTE_OPEN (n : Nat) : Fld := ⟨R.ACC_REMOTE n, 15, 0⟩
abbrev ACC_HOLD_COUNT_COUNT (n : Nat) : Fld := ⟨R.ACC_HOLD_COUNT n, 31, 0⟩
abbrev ACC_CE_COUNT_COUNT (n : Nat) : Fld := ⟨R.ACC_CE_COUNT n, 31, 0⟩
abbrev ACC_UE_COUNT_COUNT (n : Nat) : Fld := ⟨R.ACC_UE_COUNT n, 31, 0⟩
abbrev ACC_REMOTE_REFUSED_COUNT (n : Nat) : Fld := ⟨R.ACC_REMOTE_REFUSED n, 31, 0⟩
abbrev ACC_HOLD_CYCLES_COUNT (n : Nat) : Fld := ⟨R.ACC_HOLD_CYCLES n, 63, 0⟩
abbrev DRAIN_STATUS_EMPTY (n : Nat) : Fld := ⟨R.DRAIN_STATUS n, 7, 7⟩
abbrev DRAIN_STATUS_T_OVF (n : Nat) : Fld := ⟨R.DRAIN_STATUS n, 6, 6⟩
abbrev DRAIN_STATUS_T_INV (n : Nat) : Fld := ⟨R.DRAIN_STATUS n, 5, 5⟩
abbrev DRAIN_STATUS_T_INX (n : Nat) : Fld := ⟨R.DRAIN_STATUS n, 4, 4⟩
abbrev DRAIN_STATUS_T_STK (n : Nat) : Fld := ⟨R.DRAIN_STATUS n, 3, 3⟩
abbrev DRAIN_STATUS_D_OVF (n : Nat) : Fld := ⟨R.DRAIN_STATUS n, 2, 2⟩
abbrev DRAIN_STATUS_D_INV (n : Nat) : Fld := ⟨R.DRAIN_STATUS n, 1, 1⟩
abbrev DRAIN_STATUS_D_INX (n : Nat) : Fld := ⟨R.DRAIN_STATUS n, 0, 0⟩
abbrev ACC_ERR_LAST_VALID (n : Nat) : Fld := ⟨R.ACC_ERR_LAST n, 63, 63⟩
abbrev ACC_ERR_LAST_SOURCE (n : Nat) : Fld := ⟨R.ACC_ERR_LAST n, 62, 61⟩
abbrev ACC_ERR_LAST_SLOT (n : Nat) : Fld := ⟨R.ACC_ERR_LAST n, 23, 20⟩
abbrev ACC_ERR_LAST_ROW (n : Nat) : Fld := ⟨R.ACC_ERR_LAST n, 16, 9⟩
abbrev ACC_ERR_LAST_COLUMN (n : Nat) : Fld := ⟨R.ACC_ERR_LAST n, 8, 0⟩
abbrev SREG_VALUE (n i : Nat) : Fld := ⟨R.SREG n i, 63, 0⟩
abbrev PRED_PRED (n : Nat) : Fld := ⟨R.PRED n, 15, 1⟩
abbrev PRED_P0 (n : Nat) : Fld := ⟨R.PRED n, 0, 0⟩
abbrev KREG_END (n i : Nat) : Fld := ⟨R.KREG n i, 61, 48⟩
abbrev KREG_START (n i : Nat) : Fld := ⟨R.KREG n i, 45, 32⟩
abbrev KREG_COUNT (n i : Nat) : Fld := ⟨R.KREG n i, 31, 0⟩
abbrev DREG_BITS (n i w : Nat) : Fld := ⟨R.DREG n i w, 63, 0⟩
abbrev SEQ_CTRL_STATE (n : Nat) : Fld := ⟨R.SEQ_CTRL n, 2, 1⟩
abbrev SEQ_CTRL_ENABLE (n : Nat) : Fld := ⟨R.SEQ_CTRL n, 0, 0⟩
abbrev SEQ_START_ADDR (n : Nat) : Fld := ⟨R.SEQ_START n, 29, 16⟩
abbrev SEQ_START_GO (n : Nat) : Fld := ⟨R.SEQ_START n, 0, 0⟩
abbrev SEQ_STATUS_START_IGN (n : Nat) : Fld := ⟨R.SEQ_STATUS n, 31, 31⟩
abbrev SEQ_STATUS_PC (n : Nat) : Fld := ⟨R.SEQ_STATUS n, 29, 16⟩
abbrev SEQ_STATUS_KDEPTH (n : Nat) : Fld := ⟨R.SEQ_STATUS n, 10, 8⟩
abbrev SEQ_STATUS_STALL (n : Nat) : Fld := ⟨R.SEQ_STATUS n, 6, 4⟩
abbrev SEQ_STATUS_RUN (n : Nat) : Fld := ⟨R.SEQ_STATUS n, 2, 0⟩
abbrev FAULT_REC_VALID (n : Nat) : Fld := ⟨R.FAULT_REC n, 63, 63⟩
abbrev FAULT_REC_MULTI (n : Nat) : Fld := ⟨R.FAULT_REC n, 62, 62⟩
abbrev FAULT_REC_SLOT (n : Nat) : Fld := ⟨R.FAULT_REC n, 61, 60⟩
abbrev FAULT_REC_KIND (n : Nat) : Fld := ⟨R.FAULT_REC n, 59, 58⟩
abbrev FAULT_REC_ORIGIN (n : Nat) : Fld := ⟨R.FAULT_REC n, 45, 32⟩
abbrev FAULT_REC_ADDR (n : Nat) : Fld := ⟨R.FAULT_REC n, 29, 16⟩
abbrev FAULT_REC_CODE (n : Nat) : Fld := ⟨R.FAULT_REC n, 7, 0⟩
abbrev FAULT_INFO_INFO (n : Nat) : Fld := ⟨R.FAULT_INFO n, 63, 0⟩
abbrev WAIT_LIMIT_LIMIT (n : Nat) : Fld := ⟨R.WAIT_LIMIT n, 31, 0⟩
abbrev CYCLE_COUNT_COUNT (n : Nat) : Fld := ⟨R.CYCLE_COUNT n, 63, 0⟩
abbrev BUNDLE_COUNT_COUNT (n : Nat) : Fld := ⟨R.BUNDLE_COUNT n, 63, 0⟩
abbrev STALL_TOTAL_COUNT (n : Nat) : Fld := ⟨R.STALL_TOTAL n, 63, 0⟩
abbrev STALL_TIER_COUNT (n : Nat) : Fld := ⟨R.STALL_TIER n, 63, 0⟩
abbrev STALL_WAIT_COUNT (n : Nat) : Fld := ⟨R.STALL_WAIT n, 63, 0⟩
abbrev CFS_FETCH_WCOUNT (n : Nat) : Fld := ⟨R.CFS_FETCH n, 43, 32⟩
abbrev CFS_FETCH_SIG (n : Nat) : Fld := ⟨R.CFS_FETCH n, 31, 0⟩
abbrev CFS_CHECK_WCOUNT (n : Nat) : Fld := ⟨R.CFS_CHECK n, 43, 32⟩
abbrev CFS_CHECK_SIG (n : Nat) : Fld := ⟨R.CFS_CHECK n, 31, 0⟩
abbrev IMEM_PTR_HALF (n : Nat) : Fld := ⟨R.IMEM_PTR n, 14, 0⟩
abbrev IMEM_DATA_DATA (n : Nat) : Fld := ⟨R.IMEM_DATA n, 63, 0⟩
abbrev IMEM_CE_COUNT_COUNT (n : Nat) : Fld := ⟨R.IMEM_CE_COUNT n, 31, 0⟩
abbrev COMP_COUNT (n i : Nat) : Fld := ⟨R.COMP n i, 31, 0⟩
abbrev CLAIM_CUR_VALID (n : Nat) : Fld := ⟨R.CLAIM_CUR n, 63, 63⟩
abbrev CLAIM_CUR_CTR (n : Nat) : Fld := ⟨R.CLAIM_CUR n, 37, 32⟩
abbrev CLAIM_CUR_EPOCH (n : Nat) : Fld := ⟨R.CLAIM_CUR n, 31, 0⟩
abbrev CLAIM_STALE_COUNT (n : Nat) : Fld := ⟨R.CLAIM_STALE n, 31, 0⟩
abbrev MOVE_ERR_COUNT_COUNT (n : Nat) : Fld := ⟨R.MOVE_ERR_COUNT n, 31, 0⟩
abbrev STREAM_STATE_OUT (n : Nat) : Fld := ⟨R.STREAM_STATE n, 63, 32⟩
abbrev STREAM_STATE_OPEN (n : Nat) : Fld := ⟨R.STREAM_STATE n, 31, 0⟩
abbrev MOVE_STATE_MOVE_BUSY (n : Nat) : Fld := ⟨R.MOVE_STATE n, 7, 7⟩
abbrev MOVE_STATE_FQ_DEPTH (n : Nat) : Fld := ⟨R.MOVE_STATE n, 6, 0⟩
abbrev MOVE_ERR_VALID (n : Nat) : Fld := ⟨R.MOVE_ERR n, 63, 63⟩
abbrev MOVE_ERR_BUNDLE (n : Nat) : Fld := ⟨R.MOVE_ERR n, 45, 32⟩
abbrev MOVE_ERR_OPCODE (n : Nat) : Fld := ⟨R.MOVE_ERR n, 13, 8⟩
abbrev MOVE_ERR_STATUS (n : Nat) : Fld := ⟨R.MOVE_ERR n, 7, 0⟩
abbrev VEC_STATUS_NAN_ROW (n : Nat) : Fld := ⟨R.VEC_STATUS n, 7, 7⟩
abbrev VEC_STATUS_INF_SPLIT (n : Nat) : Fld := ⟨R.VEC_STATUS n, 6, 6⟩
abbrev VEC_STATUS_MASKED_ROW (n : Nat) : Fld := ⟨R.VEC_STATUS n, 5, 5⟩
abbrev VEC_STATUS_EMPTY (n : Nat) : Fld := ⟨R.VEC_STATUS n, 4, 4⟩
abbrev VEC_STATUS_DZ (n : Nat) : Fld := ⟨R.VEC_STATUS n, 3, 3⟩
abbrev VEC_STATUS_INV (n : Nat) : Fld := ⟨R.VEC_STATUS n, 2, 2⟩
abbrev VEC_STATUS_OVF (n : Nat) : Fld := ⟨R.VEC_STATUS n, 1, 1⟩
abbrev VEC_STATUS_INX (n : Nat) : Fld := ⟨R.VEC_STATUS n, 0, 0⟩
abbrev VEC_STATE_INFLIGHT (n : Nat) : Fld := ⟨R.VEC_STATE n, 1, 1⟩
abbrev VEC_STATE_BUSY (n : Nat) : Fld := ⟨R.VEC_STATE n, 0, 0⟩
abbrev MREG_BITS (n i w : Nat) : Fld := ⟨R.MREG n i w, 63, 0⟩
abbrev VREG_PTR_WORD (n : Nat) : Fld := ⟨R.VREG_PTR n, 14, 0⟩
abbrev VREG_DATA_DATA (n : Nat) : Fld := ⟨R.VREG_DATA n, 63, 0⟩
abbrev WINDOW_LO_BITS (n i : Nat) : Fld := ⟨R.WINDOW_LO n i, 63, 0⟩
abbrev WINDOW_HI_BITS (n i : Nat) : Fld := ⟨R.WINDOW_HI n i, 63, 0⟩
abbrev WIN_STATUS_LOCK_ERR (n : Nat) : Fld := ⟨R.WIN_STATUS n, 0, 0⟩
abbrev CLAIM_STATE_EPOCH (i : Nat) : Fld := ⟨R.CLAIM_STATE i, 63, 32⟩
abbrev CLAIM_STATE_NEXT (i : Nat) : Fld := ⟨R.CLAIM_STATE i, 31, 0⟩
abbrev CLAIM_SET_LIMIT (i : Nat) : Fld := ⟨R.CLAIM_SET i, 63, 32⟩
abbrev CLAIM_SET_NEXT (i : Nat) : Fld := ⟨R.CLAIM_SET i, 31, 0⟩
abbrev TIER_BOUND_BOUND (n i : Nat) : Fld := ⟨R.TIER_BOUND n i, 31, 0⟩
abbrev LPDDR_LATE_COUNT (n : Nat) : Fld := ⟨R.LPDDR_LATE n, 63, 0⟩
abbrev CHECKBIT_MISS_COUNT (n : Nat) : Fld := ⟨R.CHECKBIT_MISS n, 63, 0⟩
abbrev FLASH_LATE_COUNT (n : Nat) : Fld := ⟨R.FLASH_LATE n, 63, 0⟩
abbrev FABRIC_LATE_COUNT (n : Nat) : Fld := ⟨R.FABRIC_LATE n, 63, 0⟩
abbrev GUARD_STALL_COUNT (n : Nat) : Fld := ⟨R.GUARD_STALL n, 63, 0⟩
abbrev EXTENT_STALL_COUNT (n : Nat) : Fld := ⟨R.EXTENT_STALL n, 63, 0⟩
abbrev TIER_FAIL_COUNT (n : Nat) : Fld := ⟨R.TIER_FAIL n, 31, 0⟩
abbrev PREFETCH_STOP_COUNT (n : Nat) : Fld := ⟨R.PREFETCH_STOP n, 31, 0⟩
abbrev GUARD_REFETCH_COUNT (n : Nat) : Fld := ⟨R.GUARD_REFETCH n, 31, 0⟩
abbrev CR_REFETCH_COUNT (n : Nat) : Fld := ⟨R.CR_REFETCH n, 31, 0⟩
abbrev TIER_ERR_COUNT_COUNT (n : Nat) : Fld := ⟨R.TIER_ERR_COUNT n, 31, 0⟩
abbrev TIER_ERR_VALID (n : Nat) : Fld := ⟨R.TIER_ERR n, 63, 63⟩
abbrev TIER_ERR_KIND (n : Nat) : Fld := ⟨R.TIER_ERR n, 62, 60⟩
abbrev TIER_ERR_TIER (n : Nat) : Fld := ⟨R.TIER_ERR n, 59, 58⟩
abbrev TIER_ERR_OUT (n : Nat) : Fld := ⟨R.TIER_ERR n, 57, 57⟩
abbrev TIER_ERR_STREAM (n : Nat) : Fld := ⟨R.TIER_ERR n, 52, 48⟩
abbrev TIER_ERR_FSTATUS (n : Nat) : Fld := ⟨R.TIER_ERR n, 47, 40⟩
abbrev TIER_ERR_TILE (n : Nat) : Fld := ⟨R.TIER_ERR n, 31, 0⟩
abbrev STREAM_PROG_FAILED (n i : Nat) : Fld := ⟨R.STREAM_PROG n i, 41, 41⟩
abbrev STREAM_PROG_STOPPED (n i : Nat) : Fld := ⟨R.STREAM_PROG n i, 40, 40⟩
abbrev STREAM_PROG_STAGED (n i : Nat) : Fld := ⟨R.STREAM_PROG n i, 39, 32⟩
abbrev STREAM_PROG_TILE (n i : Nat) : Fld := ⟨R.STREAM_PROG n i, 31, 0⟩
abbrev MC_CTRL_BG_LIMIT (n : Nat) : Fld := ⟨R.MC_CTRL n, 25, 16⟩
abbrev MC_CTRL_STATE (n : Nat) : Fld := ⟨R.MC_CTRL n, 2, 1⟩
abbrev MC_CTRL_ENABLE (n : Nat) : Fld := ⟨R.MC_CTRL n, 0, 0⟩
abbrev MC_STATUS_RESERVE (n : Nat) : Fld := ⟨R.MC_STATUS n, 25, 25⟩
abbrev MC_STATUS_TRAINED (n : Nat) : Fld := ⟨R.MC_STATUS n, 24, 24⟩
abbrev MC_STATUS_BG_USE (n : Nat) : Fld := ⟨R.MC_STATUS n, 19, 10⟩
abbrev MC_STATUS_ALL_USE (n : Nat) : Fld := ⟨R.MC_STATUS n, 9, 0⟩
abbrev MC_CE_COUNT_COUNT (n : Nat) : Fld := ⟨R.MC_CE_COUNT n, 63, 0⟩
abbrev MC_UE_COUNT_COUNT (n : Nat) : Fld := ⟨R.MC_UE_COUNT n, 63, 0⟩
abbrev CBC_HIT_COUNT (n : Nat) : Fld := ⟨R.CBC_HIT n, 63, 0⟩
abbrev CBC_MISS_COUNT (n : Nat) : Fld := ⟨R.CBC_MISS n, 63, 0⟩
abbrev MC_ERR_LAST_VALID (n : Nat) : Fld := ⟨R.MC_ERR_LAST n, 63, 63⟩
abbrev MC_ERR_LAST_SOURCE (n : Nat) : Fld := ⟨R.MC_ERR_LAST n, 62, 60⟩
abbrev MC_ERR_LAST_SUBCH (n : Nat) : Fld := ⟨R.MC_ERR_LAST n, 59, 56⟩
abbrev MC_ERR_LAST_UNIT (n : Nat) : Fld := ⟨R.MC_ERR_LAST n, 24, 0⟩
abbrev SCRUB_CTRL_EN (n : Nat) : Fld := ⟨R.SCRUB_CTRL n, 16, 16⟩
abbrev SCRUB_CTRL_ROW_CE_LIMIT (n : Nat) : Fld := ⟨R.SCRUB_CTRL n, 15, 8⟩
abbrev SCRUB_CTRL_PERIOD (n : Nat) : Fld := ⟨R.SCRUB_CTRL n, 7, 0⟩
abbrev SCRUB_STATUS_PASSES (n : Nat) : Fld := ⟨R.SCRUB_STATUS n, 63, 32⟩
abbrev SCRUB_STATUS_SUBCH (n : Nat) : Fld := ⟨R.SCRUB_STATUS n, 31, 28⟩
abbrev SCRUB_STATUS_UNIT (n : Nat) : Fld := ⟨R.SCRUB_STATUS n, 24, 0⟩
abbrev SPARE_CMD_SUBCH (n : Nat) : Fld := ⟨R.SPARE_CMD n, 40, 37⟩
abbrev SPARE_CMD_BANK (n : Nat) : Fld := ⟨R.SPARE_CMD n, 36, 33⟩
abbrev SPARE_CMD_ROW (n : Nat) : Fld := ⟨R.SPARE_CMD n, 32, 1⟩
abbrev SPARE_CMD_GO (n : Nat) : Fld := ⟨R.SPARE_CMD n, 0, 0⟩
abbrev SPARE_STATUS_CAND (n : Nat) : Fld := ⟨R.SPARE_STATUS n, 63, 63⟩
abbrev SPARE_STATUS_C_SUBCH (n : Nat) : Fld := ⟨R.SPARE_STATUS n, 62, 59⟩
abbrev SPARE_STATUS_C_BANK (n : Nat) : Fld := ⟨R.SPARE_STATUS n, 58, 55⟩
abbrev SPARE_STATUS_C_ROW (n : Nat) : Fld := ⟨R.SPARE_STATUS n, 54, 23⟩
abbrev SPARE_STATUS_RESULT (n : Nat) : Fld := ⟨R.SPARE_STATUS n, 3, 2⟩
abbrev SPARE_STATUS_BUSY (n : Nat) : Fld := ⟨R.SPARE_STATUS n, 0, 0⟩
abbrev RETIRE_CMD_SUBCH (n : Nat) : Fld := ⟨R.RETIRE_CMD n, 4, 1⟩
abbrev RETIRE_CMD_GO (n : Nat) : Fld := ⟨R.RETIRE_CMD n, 0, 0⟩
abbrev RETIRE_STATUS_RET_ERR (n : Nat) : Fld := ⟨R.RETIRE_STATUS n, 63, 63⟩
abbrev RETIRE_STATUS_STATE (n : Nat) : Fld := ⟨R.RETIRE_STATUS n, 62, 61⟩
abbrev RETIRE_STATUS_SUBCH (n : Nat) : Fld := ⟨R.RETIRE_STATUS n, 60, 57⟩
abbrev RETIRE_STATUS_PTR (n : Nat) : Fld := ⟨R.RETIRE_STATUS n, 24, 0⟩
abbrev FL_CTRL_STATE : Fld := ⟨R.FL_CTRL, 2, 1⟩
abbrev FL_CTRL_ENABLE : Fld := ⟨R.FL_CTRL, 0, 0⟩
abbrev FL_STATUS_MAP_READY : Fld := ⟨R.FL_STATUS, 2, 2⟩
abbrev FL_STATUS_BULK_RO : Fld := ⟨R.FL_STATUS, 1, 1⟩
abbrev FL_STATUS_SPILL_RO : Fld := ⟨R.FL_STATUS, 0, 0⟩
abbrev FL_GEOM_BLOCKS : Fld := ⟨R.FL_GEOM, 63, 48⟩
abbrev FL_GEOM_PAGES : Fld := ⟨R.FL_GEOM, 47, 32⟩
abbrev FL_GEOM_PAGE_KIB : Fld := ⟨R.FL_GEOM, 31, 16⟩
abbrev FL_GEOM_PLANES : Fld := ⟨R.FL_GEOM, 15, 8⟩
abbrev FL_GEOM_DIES : Fld := ⟨R.FL_GEOM, 7, 0⟩
abbrev SPILL_RATE_RATE : Fld := ⟨R.SPILL_RATE, 63, 0⟩
abbrev SPILL_BURST_BURST : Fld := ⟨R.SPILL_BURST, 63, 0⟩
abbrev SPILL_BALANCE_BALANCE : Fld := ⟨R.SPILL_BALANCE, 63, 0⟩
abbrev SPILL_REFUSED_COUNT : Fld := ⟨R.SPILL_REFUSED, 31, 0⟩
abbrev FL_RETRY_COUNT : Fld := ⟨R.FL_RETRY, 63, 0⟩
abbrev FL_UE_COUNT : Fld := ⟨R.FL_UE, 63, 0⟩
abbrev FL_RELOC_COUNT : Fld := ⟨R.FL_RELOC, 63, 0⟩
abbrev FL_GROWN_BAD_COUNT : Fld := ⟨R.FL_GROWN_BAD, 63, 0⟩
abbrev FL_ERR_LAST_VALID : Fld := ⟨R.FL_ERR_LAST, 63, 63⟩
abbrev FL_ERR_LAST_REGION : Fld := ⟨R.FL_ERR_LAST, 62, 62⟩
abbrev FL_ERR_LAST_LUNIT : Fld := ⟨R.FL_ERR_LAST, 41, 0⟩
abbrev FL_DIE_PE_MAX (i : Nat) : Fld := ⟨R.FL_DIE i, 63, 48⟩
abbrev FL_DIE_PE_MIN (i : Nat) : Fld := ⟨R.FL_DIE i, 47, 32⟩
abbrev FL_DIE_SPARE_BULK (i : Nat) : Fld := ⟨R.FL_DIE i, 31, 16⟩
abbrev FL_DIE_SPARE_SPILL (i : Nat) : Fld := ⟨R.FL_DIE i, 15, 2⟩
abbrev FL_DIE_STATE (i : Nat) : Fld := ⟨R.FL_DIE i, 1, 0⟩
abbrev PRED_CTRL_THR (n : Nat) : Fld := ⟨R.PRED_CTRL n, 2, 1⟩
abbrev PRED_CTRL_EN (n : Nat) : Fld := ⟨R.PRED_CTRL n, 0, 0⟩
abbrev PRED_HIT_COUNT (n : Nat) : Fld := ⟨R.PRED_HIT n, 63, 0⟩
abbrev PRED_MISS_COUNT (n : Nat) : Fld := ⟨R.PRED_MISS n, 63, 0⟩
abbrev PRED_SKIP_BYTES_COUNT (n : Nat) : Fld := ⟨R.PRED_SKIP_BYTES n, 63, 0⟩
abbrev MOSS_BAD_COUNT (n : Nat) : Fld := ⟨R.MOSS_BAD n, 63, 0⟩
abbrev MC_SKIP_SAVED_COUNT (n : Nat) : Fld := ⟨R.MC_SKIP_SAVED n, 63, 0⟩
abbrev UPD_CTRL_STATE (n : Nat) : Fld := ⟨R.UPD_CTRL n, 2, 1⟩
abbrev UPD_CTRL_ENABLE (n : Nat) : Fld := ⟨R.UPD_CTRL n, 0, 0⟩
abbrev UPD_RING_LOG2N (n : Nat) : Fld := ⟨R.UPD_RING n, 51, 48⟩
abbrev UPD_RING_BASE (n : Nat) : Fld := ⟨R.UPD_RING n, 47, 0⟩
abbrev UPD_PTR_TAIL (n : Nat) : Fld := ⟨R.UPD_PTR n, 63, 32⟩
abbrev UPD_PTR_HEAD (n : Nat) : Fld := ⟨R.UPD_PTR n, 31, 0⟩
abbrev UPD_DOOR_ADD (n : Nat) : Fld := ⟨R.UPD_DOOR n, 31, 0⟩
abbrev UPD_STATUS_CUR_GID (n : Nat) : Fld := ⟨R.UPD_STATUS n, 15, 8⟩
abbrev UPD_STATUS_RING_ERR (n : Nat) : Fld := ⟨R.UPD_STATUS n, 3, 3⟩
abbrev UPD_STATUS_HOLDING (n : Nat) : Fld := ⟨R.UPD_STATUS n, 2, 2⟩
abbrev UPD_STATUS_FACTORS (n : Nat) : Fld := ⟨R.UPD_STATUS n, 1, 1⟩
abbrev UPD_STATUS_BUSY (n : Nat) : Fld := ⟨R.UPD_STATUS n, 0, 0⟩
abbrev UPD_LAST_VALID (n : Nat) : Fld := ⟨R.UPD_LAST n, 63, 63⟩
abbrev UPD_LAST_GID (n : Nat) : Fld := ⟨R.UPD_LAST n, 55, 48⟩
abbrev UPD_LAST_INDEX (n : Nat) : Fld := ⟨R.UPD_LAST n, 39, 0⟩
abbrev UPD_PARAMS_COUNT (n : Nat) : Fld := ⟨R.UPD_PARAMS n, 63, 0⟩
abbrev UPD_NONFINITE_COUNT (n : Nat) : Fld := ⟨R.UPD_NONFINITE n, 63, 0⟩
abbrev UPD_UE_COUNT (n : Nat) : Fld := ⟨R.UPD_UE n, 63, 0⟩
abbrev MIRROR_HOLD_HOLDS (n : Nat) : Fld := ⟨R.MIRROR_HOLD n, 63, 48⟩
abbrev MIRROR_HOLD_CYCLES (n : Nat) : Fld := ⟨R.MIRROR_HOLD n, 47, 0⟩
abbrev UPD_CLOSE_DONE (n : Nat) : Fld := ⟨R.UPD_CLOSE n, 63, 32⟩
abbrev UPD_CLOSE_ABANDONED (n : Nat) : Fld := ⟨R.UPD_CLOSE n, 31, 0⟩
abbrev ATT_CTRL_STATE (n : Nat) : Fld := ⟨R.ATT_CTRL n, 2, 1⟩
abbrev ATT_CTRL_ENABLE (n : Nat) : Fld := ⟨R.ATT_CTRL n, 0, 0⟩
abbrev ATT_CONF_CL (n : Nat) : Fld := ⟨R.ATT_CONF n, 33, 33⟩
abbrev ATT_CONF_DCODE (n : Nat) : Fld := ⟨R.ATT_CONF n, 32, 31⟩
abbrev ATT_CONF_HKV (n : Nat) : Fld := ⟨R.ATT_CONF n, 26, 22⟩
abbrev ATT_CONF_H (n : Nat) : Fld := ⟨R.ATT_CONF n, 21, 15⟩
abbrev ATT_CONF_FERN_KIB (n : Nat) : Fld := ⟨R.ATT_CONF n, 14, 0⟩
abbrev ATT_FERN_BASE (n : Nat) : Fld := ⟨R.ATT_FERN n, 47, 0⟩
abbrev ATT_SRING_LOG2N (n : Nat) : Fld := ⟨R.ATT_SRING n, 51, 48⟩
abbrev ATT_SRING_BASE (n : Nat) : Fld := ⟨R.ATT_SRING n, 47, 0⟩
abbrev ATT_CRING_LOG2N (n : Nat) : Fld := ⟨R.ATT_CRING n, 51, 48⟩
abbrev ATT_CRING_BASE (n : Nat) : Fld := ⟨R.ATT_CRING n, 47, 0⟩
abbrev ATT_RRING_LOG2N (n : Nat) : Fld := ⟨R.ATT_RRING n, 51, 48⟩
abbrev ATT_RRING_BASE (n : Nat) : Fld := ⟨R.ATT_RRING n, 47, 0⟩
abbrev ATT_SPTR_TAIL (n : Nat) : Fld := ⟨R.ATT_SPTR n, 63, 32⟩
abbrev ATT_SPTR_HEAD (n : Nat) : Fld := ⟨R.ATT_SPTR n, 31, 0⟩
abbrev ATT_CPTR_TAIL (n : Nat) : Fld := ⟨R.ATT_CPTR n, 63, 32⟩
abbrev ATT_CPTR_HEAD (n : Nat) : Fld := ⟨R.ATT_CPTR n, 31, 0⟩
abbrev ATT_RPTR_REL_TAIL (n : Nat) : Fld := ⟨R.ATT_RPTR n, 63, 32⟩
abbrev ATT_RPTR_REL_HEAD (n : Nat) : Fld := ⟨R.ATT_RPTR n, 31, 0⟩
abbrev ATT_SDOOR_ADD (n : Nat) : Fld := ⟨R.ATT_SDOOR n, 31, 0⟩
abbrev ATT_CDOOR_ADD (n : Nat) : Fld := ⟨R.ATT_CDOOR n, 31, 0⟩
abbrev ATT_STATUS_CONF_ERR (n : Nat) : Fld := ⟨R.ATT_STATUS n, 13, 13⟩
abbrev ATT_STATUS_C_RING_ERR (n : Nat) : Fld := ⟨R.ATT_STATUS n, 12, 12⟩
abbrev ATT_STATUS_S_RING_ERR (n : Nat) : Fld := ⟨R.ATT_STATUS n, 11, 11⟩
abbrev ATT_STATUS_MASK_ERR (n : Nat) : Fld := ⟨R.ATT_STATUS n, 10, 10⟩
abbrev ATT_STATUS_UNCORR (n : Nat) : Fld := ⟨R.ATT_STATUS n, 9, 9⟩
abbrev ATT_STATUS_PAGE_MISSING (n : Nat) : Fld := ⟨R.ATT_STATUS n, 8, 8⟩
abbrev ATT_STATUS_NAN_ROW (n : Nat) : Fld := ⟨R.ATT_STATUS n, 7, 7⟩
abbrev ATT_STATUS_INF_SPLIT (n : Nat) : Fld := ⟨R.ATT_STATUS n, 6, 6⟩
abbrev ATT_STATUS_MASKED_ROW (n : Nat) : Fld := ⟨R.ATT_STATUS n, 5, 5⟩
abbrev ATT_STATUS_INV (n : Nat) : Fld := ⟨R.ATT_STATUS n, 4, 4⟩
abbrev ATT_STATUS_INX (n : Nat) : Fld := ⟨R.ATT_STATUS n, 3, 3⟩
abbrev ATT_STATUS_PINNING (n : Nat) : Fld := ⟨R.ATT_STATUS n, 2, 2⟩
abbrev ATT_STATUS_COMMIT_WAITING (n : Nat) : Fld := ⟨R.ATT_STATUS n, 1, 1⟩
abbrev ATT_STATUS_STEP_BUSY (n : Nat) : Fld := ⟨R.ATT_STATUS n, 0, 0⟩
abbrev ATT_STALL_COUNT (n : Nat) : Fld := ⟨R.ATT_STALL n, 63, 0⟩
abbrev COMMIT_WAIT_COUNT (n : Nat) : Fld := ⟨R.COMMIT_WAIT n, 63, 0⟩
abbrev ATT_MISS_COUNT (n : Nat) : Fld := ⟨R.ATT_MISS n, 63, 0⟩
abbrev ATT_CLOSE_DONE (n : Nat) : Fld := ⟨R.ATT_CLOSE n, 63, 32⟩
abbrev ATT_CLOSE_ABANDONED (n : Nat) : Fld := ⟨R.ATT_CLOSE n, 31, 0⟩
abbrev SEQ_STATE_HELD (n i : Nat) : Fld := ⟨R.SEQ_STATE n i, 63, 63⟩
abbrev SEQ_STATE_LEN (n i : Nat) : Fld := ⟨R.SEQ_STATE n i, 52, 32⟩
abbrev SEQ_STATE_GEN (n i : Nat) : Fld := ⟨R.SEQ_STATE n i, 31, 0⟩
abbrev PORT_CTRL_STATE (n : Nat) : Fld := ⟨R.PORT_CTRL n, 2, 1⟩
abbrev PORT_CTRL_ENABLE (n : Nat) : Fld := ⟨R.PORT_CTRL n, 0, 0⟩
abbrev PORT_STATUS_PARTNER (n : Nat) : Fld := ⟨R.PORT_STATUS n, 63, 48⟩
abbrev PORT_STATUS_VER_MAJOR (n : Nat) : Fld := ⟨R.PORT_STATUS n, 47, 44⟩
abbrev PORT_STATUS_VER_MINOR (n : Nat) : Fld := ⟨R.PORT_STATUS n, 43, 40⟩
abbrev PORT_STATUS_FEAT_NEG (n : Nat) : Fld := ⟨R.PORT_STATUS n, 39, 8⟩
abbrev PORT_STATUS_NODE_UNSET (n : Nat) : Fld := ⟨R.PORT_STATUS n, 5, 5⟩
abbrev PORT_STATUS_VER_ERR (n : Nat) : Fld := ⟨R.PORT_STATUS n, 4, 4⟩
abbrev PORT_STATUS_MAP_ERR (n : Nat) : Fld := ⟨R.PORT_STATUS n, 3, 3⟩
abbrev PORT_STATUS_LSTATE (n : Nat) : Fld := ⟨R.PORT_STATUS n, 2, 0⟩
abbrev PORT_ADV_FEAT_ADV (n : Nat) : Fld := ⟨R.PORT_ADV n, 63, 32⟩
abbrev PORT_ADV_VER_ADV (n : Nat) : Fld := ⟨R.PORT_ADV n, 31, 0⟩
abbrev LANE_SPARE_VALID1 (n : Nat) : Fld := ⟨R.LANE_SPARE n, 15, 15⟩
abbrev LANE_SPARE_LOGICAL1 (n : Nat) : Fld := ⟨R.LANE_SPARE n, 12, 8⟩
abbrev LANE_SPARE_VALID0 (n : Nat) : Fld := ⟨R.LANE_SPARE n, 7, 7⟩
abbrev LANE_SPARE_LOGICAL0 (n : Nat) : Fld := ⟨R.LANE_SPARE n, 4, 0⟩
abbrev PORT_CONF_TRK_TIMEOUT (n : Nat) : Fld := ⟨R.PORT_CONF n, 63, 32⟩
abbrev PORT_CONF_CLOSE_WAIT (n : Nat) : Fld := ⟨R.PORT_CONF n, 31, 0⟩
abbrev TRK_USE_USE (n : Nat) : Fld := ⟨R.TRK_USE n, 9, 0⟩
abbrev PORT_CLOSE_DONE (n : Nat) : Fld := ⟨R.PORT_CLOSE n, 63, 32⟩
abbrev PORT_CLOSE_ABANDONED (n : Nat) : Fld := ⟨R.PORT_CLOSE n, 31, 0⟩
abbrev FLIT_CORR_COUNT (n : Nat) : Fld := ⟨R.FLIT_CORR n, 63, 0⟩
abbrev FLIT_UNCORR_COUNT (n : Nat) : Fld := ⟨R.FLIT_UNCORR n, 63, 0⟩
abbrev REPLAY_COUNT_COUNT (n : Nat) : Fld := ⟨R.REPLAY_COUNT n, 63, 0⟩
abbrev STOMP_COUNT_COUNT (n : Nat) : Fld := ⟨R.STOMP_COUNT n, 63, 0⟩
abbrev FAILOVER_COUNT_COUNT (n : Nat) : Fld := ⟨R.FAILOVER_COUNT n, 63, 0⟩
abbrev RADD_HOLD_COUNT (n : Nat) : Fld := ⟨R.RADD_HOLD n, 63, 0⟩
abbrev TRK_FULL_COUNT (n : Nat) : Fld := ⟨R.TRK_FULL n, 63, 0⟩
abbrev LINK_DOWN_COUNT_COUNT (n : Nat) : Fld := ⟨R.LINK_DOWN_COUNT n, 63, 0⟩
abbrev SCHED_CTRL_FLEN_CUR (n : Nat) : Fld := ⟨R.SCHED_CTRL n, 44, 32⟩
abbrev SCHED_CTRL_SWAP (n : Nat) : Fld := ⟨R.SCHED_CTRL n, 16, 16⟩
abbrev SCHED_CTRL_FLEN (n : Nat) : Fld := ⟨R.SCHED_CTRL n, 12, 0⟩
abbrev SCHED_CODES (n i : Nat) : Fld := ⟨R.SCHED n i, 63, 0⟩
abbrev FAB_NODE_NODE : Fld := ⟨R.FAB_NODE, 15, 0⟩
abbrev FAB_STATUS_NODE_ERR : Fld := ⟨R.FAB_STATUS, 0, 0⟩
abbrev FAB_VER_FEAT : Fld := ⟨R.FAB_VER, 63, 32⟩
abbrev FAB_VER_VER : Fld := ⟨R.FAB_VER, 31, 0⟩
abbrev ROUTE_ENTRIES (i : Nat) : Fld := ⟨R.ROUTE i, 63, 0⟩
abbrev REDUCE_BYTES (i w : Nat) : Fld := ⟨R.REDUCE i w, 63, 0⟩
abbrev RED_STATE_TURN (i : Nat) : Fld := ⟨R.RED_STATE i, 35, 32⟩
abbrev RED_STATE_COUNT_RX (i : Nat) : Fld := ⟨R.RED_STATE i, 16, 0⟩
abbrev ETH_CTRL_MEDIA (n : Nat) : Fld := ⟨R.ETH_CTRL n, 3, 3⟩
abbrev ETH_CTRL_STATE (n : Nat) : Fld := ⟨R.ETH_CTRL n, 2, 1⟩
abbrev ETH_CTRL_ENABLE (n : Nat) : Fld := ⟨R.ETH_CTRL n, 0, 0⟩
abbrev ETH_STATUS_AN_DONE (n : Nat) : Fld := ⟨R.ETH_STATUS n, 2, 2⟩
abbrev ETH_STATUS_FEC_LOCK (n : Nat) : Fld := ⟨R.ETH_STATUS n, 1, 1⟩
abbrev ETH_STATUS_LINK (n : Nat) : Fld := ⟨R.ETH_STATUS n, 0, 0⟩
abbrev ETH_MAC_MAC (n : Nat) : Fld := ⟨R.ETH_MAC n, 47, 0⟩
abbrev ETH_UDP_PORT (n : Nat) : Fld := ⟨R.ETH_UDP n, 15, 0⟩
abbrev ETH_CLOSE_DONE (n : Nat) : Fld := ⟨R.ETH_CLOSE n, 63, 32⟩
abbrev ETH_CLOSE_ABANDONED (n : Nat) : Fld := ⟨R.ETH_CLOSE n, 31, 0⟩
abbrev ETH_IP_ADDR (n i : Nat) : Fld := ⟨R.ETH_IP n i, 63, 0⟩
abbrev RX_FRAMES_COUNT (n : Nat) : Fld := ⟨R.RX_FRAMES n, 63, 0⟩
abbrev RX_FCS_ERR_COUNT (n : Nat) : Fld := ⟨R.RX_FCS_ERR n, 63, 0⟩
abbrev RX_OTHER_COUNT (n : Nat) : Fld := ⟨R.RX_OTHER n, 63, 0⟩
abbrev ING_FORMAT_COUNT (n : Nat) : Fld := ⟨R.ING_FORMAT n, 63, 0⟩
abbrev ING_FILTER_COUNT (n : Nat) : Fld := ⟨R.ING_FILTER n, 63, 0⟩
abbrev ING_BOUNDS_COUNT (n : Nat) : Fld := ⟨R.ING_BOUNDS n, 63, 0⟩
abbrev ING_WINDOW_COUNT (n : Nat) : Fld := ⟨R.ING_WINDOW n, 63, 0⟩
abbrev ING_DUP_COUNT (n : Nat) : Fld := ⟨R.ING_DUP n, 63, 0⟩
abbrev FEC_CORR_COUNT (n : Nat) : Fld := ⟨R.FEC_CORR n, 63, 0⟩
abbrev FEC_UNCORR_COUNT (n : Nat) : Fld := ⟨R.FEC_UNCORR n, 63, 0⟩
abbrev ING_CTRL_CFG_ERR (i : Nat) : Fld := ⟨R.ING_CTRL i, 16, 16⟩
abbrev ING_CTRL_PREFIX (i : Nat) : Fld := ⟨R.ING_CTRL i, 15, 8⟩
abbrev ING_CTRL_PORTS (i : Nat) : Fld := ⟨R.ING_CTRL i, 2, 1⟩
abbrev ING_CTRL_ENABLE (i : Nat) : Fld := ⟨R.ING_CTRL i, 0, 0⟩
abbrev ING_BASE_BASE (i : Nat) : Fld := ⟨R.ING_BASE i, 47, 0⟩
abbrev ING_SIZE_SIZE (i : Nat) : Fld := ⟨R.ING_SIZE i, 39, 0⟩
abbrev ING_NOTIFY_ADDR (i : Nat) : Fld := ⟨R.ING_NOTIFY i, 63, 0⟩
abbrev ING_NVAL_VALUE (i : Nat) : Fld := ⟨R.ING_NVAL i, 31, 0⟩
abbrev ING_STATE_HELD (i : Nat) : Fld := ⟨R.ING_STATE i, 40, 32⟩
abbrev ING_STATE_ACKED (i : Nat) : Fld := ⟨R.ING_STATE i, 31, 0⟩
abbrev ING_SRC_ADDR (i w : Nat) : Fld := ⟨R.ING_SRC i w, 63, 0⟩
abbrev CXL_CTRL_STATE : Fld := ⟨R.CXL_CTRL, 2, 1⟩
abbrev CXL_CTRL_ENABLE : Fld := ⟨R.CXL_CTRL, 0, 0⟩
abbrev CXL_STATUS_WIDTH : Fld := ⟨R.CXL_STATUS, 11, 7⟩
abbrev CXL_STATUS_RATE : Fld := ⟨R.CXL_STATUS, 6, 4⟩
abbrev CXL_STATUS_WIN_PENDING : Fld := ⟨R.CXL_STATUS, 2, 2⟩
abbrev CXL_STATUS_COMMITTED : Fld := ⟨R.CXL_STATUS, 1, 1⟩
abbrev CXL_STATUS_LINK : Fld := ⟨R.CXL_STATUS, 0, 0⟩
abbrev CXL_WIN_BASE_BASE : Fld := ⟨R.CXL_WIN_BASE, 47, 0⟩
abbrev CXL_WIN_SIZE_SIZE : Fld := ⟨R.CXL_WIN_SIZE, 40, 0⟩
abbrev CXL_CLOSE_DONE : Fld := ⟨R.CXL_CLOSE, 63, 32⟩
abbrev CXL_CLOSE_ABANDONED : Fld := ⟨R.CXL_CLOSE, 31, 0⟩
abbrev PWR_STATUS_SAFE : Fld := ⟨R.PWR_STATUS, 5, 5⟩
abbrev PWR_STATUS_REFCLK_LOSS : Fld := ⟨R.PWR_STATUS, 4, 4⟩
abbrev PWR_STATUS_INLET_HOT : Fld := ⟨R.PWR_STATUS, 3, 3⟩
abbrev PWR_STATUS_JUNCTION_HOT : Fld := ⟨R.PWR_STATUS, 2, 2⟩
abbrev PWR_STATUS_SUPPLY : Fld := ⟨R.PWR_STATUS, 1, 1⟩
abbrev PWR_STATUS_PWR_GOOD : Fld := ⟨R.PWR_STATUS, 0, 0⟩
abbrev SUP_MTIME_TIME (n : Nat) : Fld := ⟨R.SUP_MTIME n, 63, 0⟩
abbrev SUP_MTIMECMP_CMP (n : Nat) : Fld := ⟨R.SUP_MTIMECMP n, 63, 0⟩
abbrev SUP_MSIP_MSIP (n : Nat) : Fld := ⟨R.SUP_MSIP n, 0, 0⟩
abbrev SUP_FABWIN_CLASS (n : Nat) : Fld := ⟨R.SUP_FABWIN n, 17, 16⟩
abbrev SUP_FABWIN_NODE (n : Nat) : Fld := ⟨R.SUP_FABWIN n, 15, 0⟩
abbrev SUP_FABERR_VALID (n : Nat) : Fld := ⟨R.SUP_FABERR n, 63, 63⟩
abbrev SUP_FABERR_STATUS (n : Nat) : Fld := ⟨R.SUP_FABERR n, 55, 48⟩
abbrev SUP_FABERR_ADDR (n : Nat) : Fld := ⟨R.SUP_FABERR n, 47, 0⟩
abbrev SUP_FENCE_FENCE (n : Nat) : Fld := ⟨R.SUP_FENCE n, 0, 0⟩
abbrev ID_ORDER_LO_CHARS : Fld := ⟨R.ID_ORDER_LO, 63, 0⟩
abbrev ID_ORDER_HI_CHARS : Fld := ⟨R.ID_ORDER_HI, 31, 0⟩
abbrev ID_STEP_STEP : Fld := ⟨R.ID_STEP, 15, 0⟩
abbrev ID_SERIAL_SERIAL : Fld := ⟨R.ID_SERIAL, 63, 0⟩
abbrev ID_CONF_FLASH_TIB : Fld := ⟨R.ID_CONF, 23, 16⟩
abbrev ID_CONF_LPDDR_GIB_DIV8 : Fld := ⟨R.ID_CONF, 15, 8⟩
abbrev ID_CONF_CORES : Fld := ⟨R.ID_CONF, 7, 0⟩
abbrev CLK_STATUS_REF_OK : Fld := ⟨R.CLK_STATUS, 1, 1⟩
abbrev CLK_STATUS_PLL_LOCK : Fld := ⟨R.CLK_STATUS, 0, 0⟩
abbrev RST_CAUSE_SAFE : Fld := ⟨R.RST_CAUSE, 3, 3⟩
abbrev RST_CAUSE_SOFT : Fld := ⟨R.RST_CAUSE, 2, 2⟩
abbrev RST_CAUSE_PIN : Fld := ⟨R.RST_CAUSE, 1, 1⟩
abbrev RST_CAUSE_POWER : Fld := ⟨R.RST_CAUSE, 0, 0⟩
abbrev RST_CTRL_PKG_RST : Fld := ⟨R.RST_CTRL, 0, 0⟩
abbrev SRAM_CE_COUNT : Fld := ⟨R.SRAM_CE, 63, 0⟩
abbrev SRAM_UE_COUNT : Fld := ⟨R.SRAM_UE, 63, 0⟩
abbrev SUP_STATUS_SPARE (i : Nat) : Fld := ⟨R.SUP_STATUS i, 3, 3⟩
abbrev SUP_STATUS_LOCKSTEP_ERR (i : Nat) : Fld := ⟨R.SUP_STATUS i, 2, 2⟩
abbrev SUP_STATUS_STOPPED (i : Nat) : Fld := ⟨R.SUP_STATUS i, 1, 1⟩
abbrev SUP_STATUS_RUNNING (i : Nat) : Fld := ⟨R.SUP_STATUS i, 0, 0⟩
abbrev EVC_CTRL_GROUP_SPLIT : Fld := ⟨R.EVC_CTRL, 3, 0⟩
abbrev EVC_SWSET_ID : Fld := ⟨R.EVC_SWSET, 8, 0⟩
abbrev EVC_MERGED_COUNT : Fld := ⟨R.EVC_MERGED, 63, 0⟩
abbrev SRC_CFG_PRIO (i : Nat) : Fld := ⟨R.SRC_CFG i, 15, 8⟩
abbrev SRC_CFG_TARGETS (i : Nat) : Fld := ⟨R.SRC_CFG i, 7, 4⟩
abbrev SRC_CFG_MODE (i : Nat) : Fld := ⟨R.SRC_CFG i, 1, 1⟩
abbrev SRC_CFG_EN (i : Nat) : Fld := ⟨R.SRC_CFG i, 0, 0⟩
abbrev PEND_PEND (i : Nat) : Fld := ⟨R.PEND i, 63, 0⟩
abbrev RAW_RAW (i : Nat) : Fld := ⟨R.RAW i, 63, 0⟩
abbrev INSERV_INSERV (i : Nat) : Fld := ⟨R.INSERV i, 63, 0⟩
abbrev TGT_CTRL_EN (i : Nat) : Fld := ⟨R.TGT_CTRL i, 8, 8⟩
abbrev TGT_CTRL_THRESHOLD (i : Nat) : Fld := ⟨R.TGT_CTRL i, 7, 0⟩
abbrev TGT_CLAIM_ID (i : Nat) : Fld := ⟨R.TGT_CLAIM i, 9, 0⟩
abbrev TGT_COMPLETE_ID (i : Nat) : Fld := ⟨R.TGT_COMPLETE i, 8, 0⟩
abbrev TGT_STATUS_COMP_ERR (i : Nat) : Fld := ⟨R.TGT_STATUS i, 31, 31⟩
abbrev TGT_STATUS_LINE (i : Nat) : Fld := ⟨R.TGT_STATUS i, 28, 28⟩
abbrev TGT_STATUS_DEPTH (i : Nat) : Fld := ⟨R.TGT_STATUS i, 27, 24⟩
abbrev TGT_STATUS_TOP_ID (i : Nat) : Fld := ⟨R.TGT_STATUS i, 16, 8⟩
abbrev TGT_STATUS_TOP_GROUP (i : Nat) : Fld := ⟨R.TGT_STATUS i, 7, 0⟩
abbrev SEC_STATUS_GEN : Fld := ⟨R.SEC_STATUS, 23, 19⟩
abbrev SEC_STATUS_POLICY : Fld := ⟨R.SEC_STATUS, 18, 17⟩
abbrev SEC_STATUS_KEYS_VALID : Fld := ⟨R.SEC_STATUS, 16, 16⟩
abbrev SEC_STATUS_DEBUG_OPEN : Fld := ⟨R.SEC_STATUS, 15, 15⟩
abbrev SEC_STATUS_ERASING : Fld := ⟨R.SEC_STATUS, 14, 14⟩
abbrev SEC_STATUS_RUN_KEY : Fld := ⟨R.SEC_STATUS, 12, 10⟩
abbrev SEC_STATUS_RUN_SLOT : Fld := ⟨R.SEC_STATUS, 9, 8⟩
abbrev SEC_STATUS_VREVOKE : Fld := ⟨R.SEC_STATUS, 7, 4⟩
abbrev SEC_CMD_RESULT : Fld := ⟨R.SEC_CMD, 63, 56⟩
abbrev SEC_CMD_OP : Fld := ⟨R.SEC_CMD, 47, 40⟩
abbrev SEC_CMD_ARG : Fld := ⟨R.SEC_CMD, 39, 8⟩
abbrev SEC_CMD_GO : Fld := ⟨R.SEC_CMD, 0, 0⟩
abbrev SEC_DATA_BYTES (i : Nat) : Fld := ⟨R.SEC_DATA i, 63, 0⟩
abbrev SEC_LOCK_ACTION_LOCK : Fld := ⟨R.SEC_LOCK, 1, 1⟩
abbrev SEC_LOCK_FUSE_LOCK : Fld := ⟨R.SEC_LOCK, 0, 0⟩
abbrev DIKE_ACTION_ACTION : Fld := ⟨R.DIKE_ACTION, 11, 0⟩
abbrev DIKE_ALARM_ALARM : Fld := ⟨R.DIKE_ALARM, 5, 0⟩
abbrev SVN_MIN_MIN : Fld := ⟨R.SVN_MIN, 6, 0⟩
abbrev LMS_NEXT_LEAF : Fld := ⟨R.LMS_NEXT, 25, 0⟩
abbrev IMG_DIGEST_BYTES (i : Nat) : Fld := ⟨R.IMG_DIGEST i, 63, 0⟩
abbrev IDK_PUB_BYTES (i : Nat) : Fld := ⟨R.IDK_PUB i, 63, 0⟩
abbrev SEC_IANA_NUMBER : Fld := ⟨R.SEC_IANA, 31, 0⟩
abbrev BOOT_REC_ATTEMPTS : Fld := ⟨R.BOOT_REC, 63, 32⟩
abbrev BOOT_REC_CAUSE : Fld := ⟨R.BOOT_REC, 31, 24⟩
abbrev BOOT_REC_STEP : Fld := ⟨R.BOOT_REC, 23, 16⟩
abbrev BOOT_REC_STATE : Fld := ⟨R.BOOT_REC, 15, 13⟩
abbrev BOOT_REC_LAST_SLOT : Fld := ⟨R.BOOT_REC, 12, 11⟩
abbrev BOOT_REC_PREF : Fld := ⟨R.BOOT_REC, 10, 9⟩
abbrev BOOT_REC_INFLIGHT : Fld := ⟨R.BOOT_REC, 8, 8⟩
abbrev BOOT_REC_AUTH_FAILS : Fld := ⟨R.BOOT_REC, 5, 3⟩
abbrev BOOT_REC_LAST_ALARM : Fld := ⟨R.BOOT_REC, 2, 0⟩
abbrev SAFE_STATUS_ACTIVE : Fld := ⟨R.SAFE_STATUS, 63, 63⟩
abbrev SAFE_STATUS_UNIT : Fld := ⟨R.SAFE_STATUS, 23, 8⟩
abbrev SAFE_STATUS_CAUSE : Fld := ⟨R.SAFE_STATUS, 7, 0⟩
abbrev SAFE_CTRL_ENTER : Fld := ⟨R.SAFE_CTRL, 8, 8⟩
abbrev SAFE_CTRL_ESC : Fld := ⟨R.SAFE_CTRL, 3, 0⟩
abbrev SAFE_MORE_COUNT : Fld := ⟨R.SAFE_MORE, 63, 0⟩
abbrev SMEM_CE_COUNT : Fld := ⟨R.SMEM_CE, 63, 0⟩
abbrev SMEM_UE_COUNT : Fld := ⟨R.SMEM_UE, 63, 0⟩
abbrev JRN_CFG_JN : Fld := ⟨R.JRN_CFG, 27, 24⟩
abbrev JRN_CFG_NTILES : Fld := ⟨R.JRN_CFG, 20, 0⟩
abbrev JRN_BASE_ADDR : Fld := ⟨R.JRN_BASE, 63, 0⟩
abbrev JRN_LBASE_ADDR : Fld := ⟨R.JRN_LBASE, 63, 0⟩
abbrev JRN_CMD_RESULT : Fld := ⟨R.JRN_CMD, 63, 62⟩
abbrev JRN_CMD_OP : Fld := ⟨R.JRN_CMD, 59, 56⟩
abbrev JRN_CMD_STEP_ARG : Fld := ⟨R.JRN_CMD, 55, 1⟩
abbrev JRN_CMD_GO : Fld := ⟨R.JRN_CMD, 0, 0⟩
abbrev JRN_STATUS_COPY_ERR : Fld := ⟨R.JRN_STATUS, 55, 55⟩
abbrev JRN_STATUS_STATE : Fld := ⟨R.JRN_STATUS, 54, 52⟩
abbrev JRN_STATUS_FLAGS : Fld := ⟨R.JRN_STATUS, 51, 48⟩
abbrev JRN_STATUS_STEP : Fld := ⟨R.JRN_STATUS, 47, 0⟩
abbrev JRN_DROP_COUNT : Fld := ⟨R.JRN_DROP, 63, 0⟩
abbrev JRN_REFUSED_COUNT : Fld := ⟨R.JRN_REFUSED, 63, 0⟩
abbrev JRN_LAST_VALID (i : Nat) : Fld := ⟨R.JRN_LAST i, 63, 63⟩
abbrev JRN_LAST_BUNDLE (i : Nat) : Fld := ⟨R.JRN_LAST i, 45, 32⟩
abbrev JRN_LAST_TILE (i : Nat) : Fld := ⟨R.JRN_LAST i, 19, 0⟩
abbrev JRN_MARK_TILE (n : Nat) : Fld := ⟨R.JRN_MARK n, 19, 0⟩
abbrev PAIR_CTRL_ROLE : Fld := ⟨R.PAIR_CTRL, 41, 40⟩
abbrev PAIR_CTRL_PORTS : Fld := ⟨R.PAIR_CTRL, 39, 16⟩
abbrev PAIR_CTRL_PARTNER : Fld := ⟨R.PAIR_CTRL, 15, 0⟩
abbrev PAIR_STATUS_MIR_WAIT : Fld := ⟨R.PAIR_STATUS, 2, 2⟩
abbrev PAIR_STATUS_MIR_BUSY : Fld := ⟨R.PAIR_STATUS, 1, 1⟩
abbrev PAIR_STATUS_PEER_LOST : Fld := ⟨R.PAIR_STATUS, 0, 0⟩
abbrev CONFIRMED_STEP : Fld := ⟨R.CONFIRMED, 63, 0⟩
abbrev PEER_CONFIRMED_STEP : Fld := ⟨R.PEER_CONFIRMED, 63, 0⟩
abbrev PAIR_RECV_VALUE : Fld := ⟨R.PAIR_RECV, 63, 0⟩
abbrev PAIR_ACK_VALUE : Fld := ⟨R.PAIR_ACK, 63, 0⟩
abbrev PAIR_HB_VALUE : Fld := ⟨R.PAIR_HB, 63, 0⟩
abbrev PAIR_PEER_VALUE : Fld := ⟨R.PAIR_PEER, 63, 0⟩
abbrev MIR_FAIL_COUNT : Fld := ⟨R.MIR_FAIL, 63, 0⟩
abbrev ARB_CTRL_CKPT : Fld := ⟨R.ARB_CTRL, 0, 0⟩
abbrev ARB_OVERRIDE_COUNT : Fld := ⟨R.ARB_OVERRIDE, 63, 0⟩
abbrev ARB_WAIT_COUNT (i : Nat) : Fld := ⟨R.ARB_WAIT i, 63, 0⟩
abbrev ST_CTRL_EN : Fld := ⟨R.ST_CTRL, 8, 8⟩
abbrev ST_CTRL_PERIOD : Fld := ⟨R.ST_CTRL, 7, 0⟩
abbrev ST_STATUS_OVERDUE : Fld := ⟨R.ST_STATUS, 9, 9⟩
abbrev ST_STATUS_BUSY : Fld := ⟨R.ST_STATUS, 8, 8⟩
abbrev ST_STATUS_UNIT : Fld := ⟨R.ST_STATUS, 7, 0⟩
abbrev ST_RESULT_VALID : Fld := ⟨R.ST_RESULT, 63, 63⟩
abbrev ST_RESULT_UNIT : Fld := ⟨R.ST_RESULT, 55, 48⟩
abbrev ST_RESULT_KIND : Fld := ⟨R.ST_RESULT, 47, 44⟩
abbrev ST_RESULT_INDEX : Fld := ⟨R.ST_RESULT, 31, 0⟩
abbrev SUP_SPARE_CORE : Fld := ⟨R.SUP_SPARE, 2, 1⟩
abbrev SUP_SPARE_GO : Fld := ⟨R.SUP_SPARE, 0, 0⟩
abbrev SPARE_ERR_MAP_ERR : Fld := ⟨R.SPARE_ERR, 0, 0⟩
abbrev CORE_SPARE_VALID (i : Nat) : Fld := ⟨R.CORE_SPARE i, 8, 8⟩
abbrev CORE_SPARE_CORE (i : Nat) : Fld := ⟨R.CORE_SPARE i, 5, 0⟩
abbrev CORE_CLOSE_DONE (n : Nat) : Fld := ⟨R.CORE_CLOSE n, 63, 32⟩
abbrev CORE_CLOSE_ABANDONED (n : Nat) : Fld := ⟨R.CORE_CLOSE n, 31, 0⟩
abbrev MC_CLOSE_DONE (n : Nat) : Fld := ⟨R.MC_CLOSE n, 63, 32⟩
abbrev MC_CLOSE_ABANDONED (n : Nat) : Fld := ⟨R.MC_CLOSE n, 31, 0⟩
abbrev FL_CLOSE_DONE : Fld := ⟨R.FL_CLOSE, 63, 32⟩
abbrev FL_CLOSE_ABANDONED : Fld := ⟨R.FL_CLOSE, 31, 0⟩

end F

end Sys2Proof.Machine
end

