-- ==== Sys2Proof/Machine/RegTable.lean ====
section
/-! DEFINITION. The register tables as data: for every register its places (base, and up to three counts and
strides), its fields with their access types (Table 0.2) and its reset value (R9). Fields whose Reset entry is
Kept, Fuse, Record or Fixed without a number take here the value that the assumption log names (notes 3 and 4). -/

namespace Sys2Proof.Machine

/-- Access types of Table 0.2. -/
inductive Acc where
  | ro | rw | rc | w1c | w1s
deriving DecidableEq, Repr

/-- One field of a register table: bits hi to lo and the access type. -/
structure FieldDesc where
  hi : Nat
  lo : Nat
  acc : Acc
deriving DecidableEq, Repr

/-- One row group of a register table. The register stands at base + a * sA + b * sB + c * sC for a < nA, b < nB,
c < nC. -/
structure RegDesc where
  base : Nat
  nA : Nat
  sA : Nat
  nB : Nat
  sB : Nat
  nC : Nat
  sC : Nat
  reset : Word
  fields : List FieldDesc
deriving DecidableEq, Repr


def regTable_core_0 : List RegDesc :=
  [⟨0x7f0001004000, 64, 0x10000, 1, 0x0, 1, 0x0, 0x14#64, [⟨8, 8, .rw⟩, ⟨4, 0, .rw⟩]⟩ /- ARRAY_CONF -/,
   ⟨0x7f0001004008, 64, 0x10000, 1, 0x0, 1, 0x0, 0x0#64, [⟨8, 8, .w1c⟩, ⟨7, 6, .ro⟩, ⟨5, 5, .ro⟩, ⟨4, 4, .ro⟩, ⟨3, 3, .ro⟩, ⟨2, 2, .ro⟩, ⟨1, 1, .ro⟩, ⟨0, 0, .ro⟩]⟩ /- ARRAY_STATE -/,
   ⟨0x7f0001004010, 64, 0x10000, 2, 0x8, 1, 0x0, 0x0#64, [⟨15, 15, .rw⟩, ⟨8, 0, .rw⟩]⟩ /- LICHEN_ROW -/,
   ⟨0x7f0001004020, 64, 0x10000, 2, 0x8, 1, 0x0, 0x0#64, [⟨15, 15, .rw⟩, ⟨8, 0, .rw⟩]⟩ /- LICHEN_COL -/,
   ⟨0x7f0001004030, 64, 0x10000, 1, 0x0, 1, 0x0, 0x0#64, [⟨31, 0, .rc⟩]⟩ /- CHK_FAIL_COUNT -/,
   ⟨0x7f0001004040, 64, 0x10000, 1, 0x0, 1, 0x0, 0x0#64, [⟨31, 0, .rc⟩]⟩ /- CHK_SKIP_COUNT -/,
   ⟨0x7f0001004038, 64, 0x10000, 1, 0x0, 1, 0x0, 0x0#64, [⟨63, 63, .w1c⟩, ⟨62, 60, .ro⟩, ⟨52, 48, .ro⟩, ⟨29, 16, .ro⟩, ⟨8, 0, .ro⟩]⟩ /- CHK_LAST -/,
   ⟨0x7f0001004048, 64, 0x10000, 1, 0x0, 1, 0x0, 0x0#64, [⟨63, 0, .rc⟩]⟩ /- GATED_MAC_COUNT -/,
   ⟨0x7f0001004100, 64, 0x10000, 1, 0x0, 1, 0x0, 0x0#64, [⟨63, 0, .rw⟩]⟩ /- SR_STATE -/,
   ⟨0x7f0001004200, 64, 0x10000, 1, 0x0, 1, 0x0, 0x0#64, [⟨19, 4, .ro⟩, ⟨3, 3, .ro⟩, ⟨2, 2, .ro⟩, ⟨1, 1, .ro⟩, ⟨0, 0, .ro⟩]⟩ /- SLOT_STATE -/,
   ⟨0x7f0001004208, 64, 0x10000, 1, 0x0, 1, 0x0, 0x0#64, [⟨31, 16, .ro⟩, ⟨15, 0, .rw⟩]⟩ /- ACC_REMOTE -/,
   ⟨0x7f0001004210, 64, 0x10000, 1, 0x0, 1, 0x0, 0x0#64, [⟨31, 0, .rc⟩]⟩ /- ACC_HOLD_COUNT -/]

def regTable_core_1 : List RegDesc :=
  [⟨0x7f0001004228, 64, 0x10000, 1, 0x0, 1, 0x0, 0x0#64, [⟨31, 0, .rc⟩]⟩ /- ACC_CE_COUNT -/,
   ⟨0x7f0001004230, 64, 0x10000, 1, 0x0, 1, 0x0, 0x0#64, [⟨31, 0, .rc⟩]⟩ /- ACC_UE_COUNT -/,
   ⟨0x7f0001004240, 64, 0x10000, 1, 0x0, 1, 0x0, 0x0#64, [⟨31, 0, .rc⟩]⟩ /- ACC_REMOTE_REFUSED -/,
   ⟨0x7f0001004218, 64, 0x10000, 1, 0x0, 1, 0x0, 0x0#64, [⟨63, 0, .rc⟩]⟩ /- ACC_HOLD_CYCLES -/,
   ⟨0x7f0001004220, 64, 0x10000, 1, 0x0, 1, 0x0, 0x0#64, [⟨7, 7, .w1c⟩, ⟨6, 6, .w1c⟩, ⟨5, 5, .w1c⟩, ⟨4, 4, .w1c⟩, ⟨3, 3, .w1c⟩, ⟨2, 2, .w1c⟩, ⟨1, 1, .w1c⟩, ⟨0, 0, .w1c⟩]⟩ /- DRAIN_STATUS -/,
   ⟨0x7f0001004238, 64, 0x10000, 1, 0x0, 1, 0x0, 0x0#64, [⟨63, 63, .w1c⟩, ⟨62, 61, .ro⟩, ⟨23, 20, .ro⟩, ⟨16, 9, .ro⟩, ⟨8, 0, .ro⟩]⟩ /- ACC_ERR_LAST -/,
   ⟨0x7f0001000000, 64, 0x10000, 64, 0x8, 1, 0x0, 0x0#64, [⟨63, 0, .rw⟩]⟩ /- SREG -/,
   ⟨0x7f0001000200, 64, 0x10000, 1, 0x0, 1, 0x0, 0x1#64, [⟨15, 1, .rw⟩, ⟨0, 0, .ro⟩]⟩ /- PRED -/,
   ⟨0x7f0001000210, 64, 0x10000, 4, 0x8, 1, 0x0, 0x0#64, [⟨61, 48, .rw⟩, ⟨45, 32, .rw⟩, ⟨31, 0, .rw⟩]⟩ /- KREG -/,
   ⟨0x7f0001000400, 64, 0x10000, 32, 0x20, 4, 0x8, 0x0#64, [⟨63, 0, .rw⟩]⟩ /- DREG -/,
   ⟨0x7f0001001000, 64, 0x10000, 1, 0x0, 1, 0x0, 0x0#64, [⟨2, 1, .ro⟩, ⟨0, 0, .rw⟩]⟩ /- SEQ_CTRL -/,
   ⟨0x7f0001001008, 64, 0x10000, 1, 0x0, 1, 0x0, 0x0#64, [⟨29, 16, .rw⟩, ⟨0, 0, .w1s⟩]⟩ /- SEQ_START -/]

def regTable_core_2 : List RegDesc :=
  [⟨0x7f0001001010, 64, 0x10000, 1, 0x0, 1, 0x0, 0x0#64, [⟨31, 31, .w1c⟩, ⟨29, 16, .ro⟩, ⟨10, 8, .ro⟩, ⟨6, 4, .ro⟩, ⟨2, 0, .ro⟩]⟩ /- SEQ_STATUS -/,
   ⟨0x7f0001001018, 64, 0x10000, 1, 0x0, 1, 0x0, 0x0#64, [⟨63, 63, .w1c⟩, ⟨62, 62, .w1c⟩, ⟨61, 60, .ro⟩, ⟨59, 58, .ro⟩, ⟨45, 32, .ro⟩, ⟨29, 16, .ro⟩, ⟨7, 0, .ro⟩]⟩ /- FAULT_REC -/,
   ⟨0x7f0001001020, 64, 0x10000, 1, 0x0, 1, 0x0, 0x0#64, [⟨63, 0, .ro⟩]⟩ /- FAULT_INFO -/,
   ⟨0x7f0001001028, 64, 0x10000, 1, 0x0, 1, 0x0, 0x1000000#64, [⟨31, 0, .rw⟩]⟩ /- WAIT_LIMIT -/,
   ⟨0x7f0001001030, 64, 0x10000, 1, 0x0, 1, 0x0, 0x0#64, [⟨63, 0, .ro⟩]⟩ /- CYCLE_COUNT -/,
   ⟨0x7f0001001038, 64, 0x10000, 1, 0x0, 1, 0x0, 0x0#64, [⟨63, 0, .rc⟩]⟩ /- BUNDLE_COUNT -/,
   ⟨0x7f0001001040, 64, 0x10000, 1, 0x0, 1, 0x0, 0x0#64, [⟨63, 0, .rc⟩]⟩ /- STALL_TOTAL -/,
   ⟨0x7f0001001048, 64, 0x10000, 1, 0x0, 1, 0x0, 0x0#64, [⟨63, 0, .rc⟩]⟩ /- STALL_TIER -/,
   ⟨0x7f0001001050, 64, 0x10000, 1, 0x0, 1, 0x0, 0x0#64, [⟨63, 0, .rc⟩]⟩ /- STALL_WAIT -/,
   ⟨0x7f0001001058, 64, 0x10000, 1, 0x0, 1, 0x0, 0xffffffff#64, [⟨43, 32, .ro⟩, ⟨31, 0, .ro⟩]⟩ /- CFS_FETCH -/,
   ⟨0x7f0001001060, 64, 0x10000, 1, 0x0, 1, 0x0, 0xffffffff#64, [⟨43, 32, .ro⟩, ⟨31, 0, .ro⟩]⟩ /- CFS_CHECK -/,
   ⟨0x7f0001001068, 64, 0x10000, 1, 0x0, 1, 0x0, 0x0#64, [⟨14, 0, .rw⟩]⟩ /- IMEM_PTR -/]

def regTable_core_3 : List RegDesc :=
  [⟨0x7f0001001070, 64, 0x10000, 1, 0x0, 1, 0x0, 0x0#64, [⟨63, 0, .rw⟩]⟩ /- IMEM_DATA -/,
   ⟨0x7f0001001078, 64, 0x10000, 1, 0x0, 1, 0x0, 0x0#64, [⟨31, 0, .rc⟩]⟩ /- IMEM_CE_COUNT -/,
   ⟨0x7f0001001100, 64, 0x10000, 16, 0x8, 1, 0x0, 0x0#64, [⟨31, 0, .rw⟩]⟩ /- COMP -/,
   ⟨0x7f0001001180, 64, 0x10000, 1, 0x0, 1, 0x0, 0x0#64, [⟨63, 63, .ro⟩, ⟨37, 32, .ro⟩, ⟨31, 0, .ro⟩]⟩ /- CLAIM_CUR -/,
   ⟨0x7f0001001188, 64, 0x10000, 1, 0x0, 1, 0x0, 0x0#64, [⟨31, 0, .rc⟩]⟩ /- CLAIM_STALE -/,
   ⟨0x7f00010011a8, 64, 0x10000, 1, 0x0, 1, 0x0, 0x0#64, [⟨31, 0, .rc⟩]⟩ /- MOVE_ERR_COUNT -/,
   ⟨0x7f0001001190, 64, 0x10000, 1, 0x0, 1, 0x0, 0x0#64, [⟨63, 32, .ro⟩, ⟨31, 0, .ro⟩]⟩ /- STREAM_STATE -/,
   ⟨0x7f0001001198, 64, 0x10000, 1, 0x0, 1, 0x0, 0x0#64, [⟨7, 7, .ro⟩, ⟨6, 0, .ro⟩]⟩ /- MOVE_STATE -/,
   ⟨0x7f00010011a0, 64, 0x10000, 1, 0x0, 1, 0x0, 0x0#64, [⟨63, 63, .w1c⟩, ⟨45, 32, .ro⟩, ⟨13, 8, .ro⟩, ⟨7, 0, .ro⟩]⟩ /- MOVE_ERR -/,
   ⟨0x7f0001004400, 64, 0x10000, 1, 0x0, 1, 0x0, 0x0#64, [⟨7, 7, .w1c⟩, ⟨6, 6, .w1c⟩, ⟨5, 5, .w1c⟩, ⟨4, 4, .w1c⟩, ⟨3, 3, .w1c⟩, ⟨2, 2, .w1c⟩, ⟨1, 1, .w1c⟩, ⟨0, 0, .w1c⟩]⟩ /- VEC_STATUS -/,
   ⟨0x7f0001004408, 64, 0x10000, 1, 0x0, 1, 0x0, 0x0#64, [⟨1, 1, .ro⟩, ⟨0, 0, .ro⟩]⟩ /- VEC_STATE -/,
   ⟨0x7f0001004440, 64, 0x10000, 4, 0x8, 1, 0x0, 0xffffffffffffffff#64, [⟨63, 0, .ro⟩]⟩ /- MREG -/]

def regTable_core_4 : List RegDesc :=
  [⟨0x7f0001004460, 64, 0x10000, 7, 0x20, 4, 0x8, 0x0#64, [⟨63, 0, .rw⟩]⟩ /- MREG -/,
   ⟨0x7f0001004540, 64, 0x10000, 1, 0x0, 1, 0x0, 0x0#64, [⟨14, 0, .rw⟩]⟩ /- VREG_PTR -/,
   ⟨0x7f0001004548, 64, 0x10000, 1, 0x0, 1, 0x0, 0x0#64, [⟨63, 0, .rw⟩]⟩ /- VREG_DATA -/,
   ⟨0x7f0001002000, 64, 0x10000, 256, 0x10, 1, 0x0, 0x0#64, [⟨63, 0, .rw⟩]⟩ /- WINDOW_LO -/,
   ⟨0x7f0001002008, 64, 0x10000, 256, 0x10, 1, 0x0, 0x0#64, [⟨63, 0, .rw⟩]⟩ /- WINDOW_HI -/,
   ⟨0x7f0001003000, 64, 0x10000, 1, 0x0, 1, 0x0, 0x0#64, [⟨0, 0, .w1c⟩]⟩ /- WIN_STATUS -/,
   ⟨0x7f0001005000, 64, 0x10000, 1, 0x0, 1, 0x0, 0x10000#64, [⟨31, 0, .rw⟩]⟩ /- TIER_BOUND -/,
   ⟨0x7f0001005008, 64, 0x10000, 1, 0x0, 1, 0x0, 0x1000000#64, [⟨31, 0, .rw⟩]⟩ /- TIER_BOUND -/,
   ⟨0x7f0001005010, 64, 0x10000, 1, 0x0, 1, 0x0, 0x100000#64, [⟨31, 0, .rw⟩]⟩ /- TIER_BOUND -/,
   ⟨0x7f0001005018, 64, 0x10000, 1, 0x0, 1, 0x0, 0x1000#64, [⟨31, 0, .rw⟩]⟩ /- TIER_BOUND -/,
   ⟨0x7f0001005020, 64, 0x10000, 1, 0x0, 1, 0x0, 0x0#64, [⟨63, 0, .rc⟩]⟩ /- LPDDR_LATE -/,
   ⟨0x7f0001005028, 64, 0x10000, 1, 0x0, 1, 0x0, 0x0#64, [⟨63, 0, .rc⟩]⟩ /- CHECKBIT_MISS -/]

def regTable_core_5 : List RegDesc :=
  [⟨0x7f0001005030, 64, 0x10000, 1, 0x0, 1, 0x0, 0x0#64, [⟨63, 0, .rc⟩]⟩ /- FLASH_LATE -/,
   ⟨0x7f0001005038, 64, 0x10000, 1, 0x0, 1, 0x0, 0x0#64, [⟨63, 0, .rc⟩]⟩ /- FABRIC_LATE -/,
   ⟨0x7f0001005040, 64, 0x10000, 1, 0x0, 1, 0x0, 0x0#64, [⟨63, 0, .rc⟩]⟩ /- GUARD_STALL -/,
   ⟨0x7f0001005048, 64, 0x10000, 1, 0x0, 1, 0x0, 0x0#64, [⟨63, 0, .rc⟩]⟩ /- EXTENT_STALL -/,
   ⟨0x7f0001005050, 64, 0x10000, 1, 0x0, 1, 0x0, 0x0#64, [⟨31, 0, .rc⟩]⟩ /- TIER_FAIL -/,
   ⟨0x7f0001005058, 64, 0x10000, 1, 0x0, 1, 0x0, 0x0#64, [⟨31, 0, .rc⟩]⟩ /- PREFETCH_STOP -/,
   ⟨0x7f0001005060, 64, 0x10000, 1, 0x0, 1, 0x0, 0x0#64, [⟨31, 0, .rc⟩]⟩ /- GUARD_REFETCH -/,
   ⟨0x7f0001005068, 64, 0x10000, 1, 0x0, 1, 0x0, 0x0#64, [⟨31, 0, .rc⟩]⟩ /- CR_REFETCH -/,
   ⟨0x7f0001005070, 64, 0x10000, 1, 0x0, 1, 0x0, 0x0#64, [⟨31, 0, .rc⟩]⟩ /- TIER_ERR_COUNT -/,
   ⟨0x7f0001005078, 64, 0x10000, 1, 0x0, 1, 0x0, 0x0#64, [⟨63, 63, .w1c⟩, ⟨62, 60, .ro⟩, ⟨59, 58, .ro⟩, ⟨57, 57, .ro⟩, ⟨52, 48, .ro⟩, ⟨47, 40, .ro⟩, ⟨31, 0, .ro⟩]⟩ /- TIER_ERR -/,
   ⟨0x7f0001005100, 64, 0x10000, 32, 0x8, 1, 0x0, 0x0#64, [⟨41, 41, .ro⟩, ⟨40, 40, .ro⟩, ⟨39, 32, .ro⟩, ⟨31, 0, .ro⟩]⟩ /- STREAM_PROG -/,
   ⟨0x7f0001005200, 64, 0x10000, 1, 0x0, 1, 0x0, 0x5#64, [⟨2, 1, .rw⟩, ⟨0, 0, .rw⟩]⟩ /- PRED_CTRL -/]

def regTable_core_6 : List RegDesc :=
  [⟨0x7f0001005208, 64, 0x10000, 1, 0x0, 1, 0x0, 0x0#64, [⟨63, 0, .rc⟩]⟩ /- PRED_HIT -/,
   ⟨0x7f0001005210, 64, 0x10000, 1, 0x0, 1, 0x0, 0x0#64, [⟨63, 0, .rc⟩]⟩ /- PRED_MISS -/,
   ⟨0x7f0001005218, 64, 0x10000, 1, 0x0, 1, 0x0, 0x0#64, [⟨63, 0, .rc⟩]⟩ /- PRED_SKIP_BYTES -/,
   ⟨0x7f0001005220, 64, 0x10000, 1, 0x0, 1, 0x0, 0x0#64, [⟨63, 0, .rc⟩]⟩ /- MOSS_BAD -/,
   ⟨0x7f0001005400, 64, 0x10000, 1, 0x0, 1, 0x0, 0x0#64, [⟨19, 0, .rw⟩]⟩ /- JRN_MARK -/,
   ⟨0x7f0001005300, 64, 0x10000, 1, 0x0, 1, 0x0, 0x0#64, [⟨63, 32, .ro⟩, ⟨31, 0, .ro⟩]⟩ /- CORE_CLOSE -/]

/-- The registers of the core blocks. -/
def regTable_core : List RegDesc :=
  regTable_core_0 ++ regTable_core_1 ++ regTable_core_2 ++ regTable_core_3 ++ regTable_core_4 ++ regTable_core_5 ++ regTable_core_6

def regTable_evc_0 : List RegDesc :=
  [⟨0x7f0000280000, 1, 0x0, 64, 0x10, 1, 0x0, 0x0#64, [⟨63, 32, .ro⟩, ⟨31, 0, .ro⟩]⟩ /- CLAIM_STATE -/,
   ⟨0x7f0000280008, 1, 0x0, 64, 0x10, 1, 0x0, 0x0#64, [⟨63, 32, .rw⟩, ⟨31, 0, .rw⟩]⟩ /- CLAIM_SET -/,
   ⟨0x7f0000200000, 1, 0x0, 1, 0x0, 1, 0x0, 0x0#64, [⟨3, 0, .rw⟩]⟩ /- EVC_CTRL -/,
   ⟨0x7f0000200008, 1, 0x0, 1, 0x0, 1, 0x0, 0x0#64, [⟨8, 0, .rw⟩]⟩ /- EVC_SWSET -/,
   ⟨0x7f0000200010, 1, 0x0, 1, 0x0, 1, 0x0, 0x0#64, [⟨63, 0, .rc⟩]⟩ /- EVC_MERGED -/,
   ⟨0x7f0000201000, 1, 0x0, 512, 0x8, 1, 0x0, 0x0#64, [⟨15, 8, .rw⟩, ⟨7, 4, .rw⟩, ⟨1, 1, .rw⟩, ⟨0, 0, .rw⟩]⟩ /- SRC_CFG -/,
   ⟨0x7f0000202000, 1, 0x0, 8, 0x8, 1, 0x0, 0x0#64, [⟨63, 0, .w1c⟩]⟩ /- PEND -/,
   ⟨0x7f0000202100, 1, 0x0, 8, 0x8, 1, 0x0, 0x0#64, [⟨63, 0, .w1c⟩]⟩ /- RAW -/,
   ⟨0x7f0000202200, 1, 0x0, 8, 0x8, 1, 0x0, 0x0#64, [⟨63, 0, .ro⟩]⟩ /- INSERV -/,
   ⟨0x7f0000203000, 1, 0x0, 4, 0x100, 1, 0x0, 0x0#64, [⟨8, 8, .rw⟩, ⟨7, 0, .rw⟩]⟩ /- TGT_CTRL -/,
   ⟨0x7f0000203008, 1, 0x0, 4, 0x100, 1, 0x0, 0x3ff#64, [⟨9, 0, .rc⟩]⟩ /- TGT_CLAIM -/,
   ⟨0x7f0000203010, 1, 0x0, 4, 0x100, 1, 0x0, 0x0#64, [⟨8, 0, .rw⟩]⟩ /- TGT_COMPLETE -/]

def regTable_evc_1 : List RegDesc :=
  [⟨0x7f0000203018, 1, 0x0, 4, 0x100, 1, 0x0, 0x0#64, [⟨31, 31, .w1c⟩, ⟨28, 28, .ro⟩, ⟨27, 24, .ro⟩, ⟨16, 8, .ro⟩, ⟨7, 0, .ro⟩]⟩ /- TGT_STATUS -/]

/-- The registers of the evc block. -/
def regTable_evc : List RegDesc :=
  regTable_evc_0 ++ regTable_evc_1

def regTable_mc_0 : List RegDesc :=
  [⟨0x7f0000600000, 16, 0x10000, 1, 0x0, 1, 0x0, 0x800000#64, [⟨25, 16, .rw⟩, ⟨2, 1, .ro⟩, ⟨0, 0, .rw⟩]⟩ /- MC_CTRL -/,
   ⟨0x7f0000600008, 16, 0x10000, 1, 0x0, 1, 0x0, 0x0#64, [⟨25, 25, .ro⟩, ⟨24, 24, .ro⟩, ⟨19, 10, .ro⟩, ⟨9, 0, .ro⟩]⟩ /- MC_STATUS -/,
   ⟨0x7f0000600010, 16, 0x10000, 1, 0x0, 1, 0x0, 0x0#64, [⟨63, 0, .rc⟩]⟩ /- MC_CE_COUNT -/,
   ⟨0x7f0000600018, 16, 0x10000, 1, 0x0, 1, 0x0, 0x0#64, [⟨63, 0, .rc⟩]⟩ /- MC_UE_COUNT -/,
   ⟨0x7f0000600020, 16, 0x10000, 1, 0x0, 1, 0x0, 0x0#64, [⟨63, 0, .rc⟩]⟩ /- CBC_HIT -/,
   ⟨0x7f0000600028, 16, 0x10000, 1, 0x0, 1, 0x0, 0x0#64, [⟨63, 0, .rc⟩]⟩ /- CBC_MISS -/,
   ⟨0x7f0000600030, 16, 0x10000, 1, 0x0, 1, 0x0, 0x0#64, [⟨63, 63, .w1c⟩, ⟨62, 60, .ro⟩, ⟨59, 56, .ro⟩, ⟨24, 0, .ro⟩]⟩ /- MC_ERR_LAST -/,
   ⟨0x7f0000600040, 16, 0x10000, 1, 0x0, 1, 0x0, 0x10418#64, [⟨16, 16, .rw⟩, ⟨15, 8, .rw⟩, ⟨7, 0, .rw⟩]⟩ /- SCRUB_CTRL -/,
   ⟨0x7f0000600048, 16, 0x10000, 1, 0x0, 1, 0x0, 0x0#64, [⟨63, 32, .ro⟩, ⟨31, 28, .ro⟩, ⟨24, 0, .ro⟩]⟩ /- SCRUB_STATUS -/,
   ⟨0x7f0000600050, 16, 0x10000, 1, 0x0, 1, 0x0, 0x0#64, [⟨40, 37, .rw⟩, ⟨36, 33, .rw⟩, ⟨32, 1, .rw⟩, ⟨0, 0, .w1s⟩]⟩ /- SPARE_CMD -/,
   ⟨0x7f0000600058, 16, 0x10000, 1, 0x0, 1, 0x0, 0x0#64, [⟨63, 63, .w1c⟩, ⟨62, 59, .ro⟩, ⟨58, 55, .ro⟩, ⟨54, 23, .ro⟩, ⟨3, 2, .ro⟩, ⟨0, 0, .ro⟩]⟩ /- SPARE_STATUS -/,
   ⟨0x7f0000600060, 16, 0x10000, 1, 0x0, 1, 0x0, 0x0#64, [⟨4, 1, .rw⟩, ⟨0, 0, .w1s⟩]⟩ /- RETIRE_CMD -/]

def regTable_mc_1 : List RegDesc :=
  [⟨0x7f0000600068, 16, 0x10000, 1, 0x0, 1, 0x0, 0x0#64, [⟨63, 63, .w1c⟩, ⟨62, 61, .ro⟩, ⟨60, 57, .ro⟩, ⟨24, 0, .ro⟩]⟩ /- RETIRE_STATUS -/,
   ⟨0x7f0000600070, 16, 0x10000, 1, 0x0, 1, 0x0, 0x0#64, [⟨63, 0, .rc⟩]⟩ /- MC_SKIP_SAVED -/,
   ⟨0x7f0000608000, 16, 0x10000, 1, 0x0, 1, 0x0, 0x0#64, [⟨2, 1, .ro⟩, ⟨0, 0, .rw⟩]⟩ /- UPD_CTRL -/,
   ⟨0x7f0000608008, 16, 0x10000, 1, 0x0, 1, 0x0, 0x0#64, [⟨51, 48, .rw⟩, ⟨47, 0, .rw⟩]⟩ /- UPD_RING -/,
   ⟨0x7f0000608010, 16, 0x10000, 1, 0x0, 1, 0x0, 0x0#64, [⟨63, 32, .ro⟩, ⟨31, 0, .rw⟩]⟩ /- UPD_PTR -/,
   ⟨0x7f0000608018, 16, 0x10000, 1, 0x0, 1, 0x0, 0x0#64, [⟨31, 0, .rw⟩]⟩ /- UPD_DOOR -/,
   ⟨0x7f0000608020, 16, 0x10000, 1, 0x0, 1, 0x0, 0x0#64, [⟨15, 8, .ro⟩, ⟨3, 3, .w1c⟩, ⟨2, 2, .ro⟩, ⟨1, 1, .ro⟩, ⟨0, 0, .ro⟩]⟩ /- UPD_STATUS -/,
   ⟨0x7f0000608028, 16, 0x10000, 1, 0x0, 1, 0x0, 0x0#64, [⟨63, 63, .w1c⟩, ⟨55, 48, .ro⟩, ⟨39, 0, .ro⟩]⟩ /- UPD_LAST -/,
   ⟨0x7f0000608030, 16, 0x10000, 1, 0x0, 1, 0x0, 0x0#64, [⟨63, 0, .rc⟩]⟩ /- UPD_PARAMS -/,
   ⟨0x7f0000608038, 16, 0x10000, 1, 0x0, 1, 0x0, 0x0#64, [⟨63, 0, .rc⟩]⟩ /- UPD_NONFINITE -/,
   ⟨0x7f0000608040, 16, 0x10000, 1, 0x0, 1, 0x0, 0x0#64, [⟨63, 0, .rc⟩]⟩ /- UPD_UE -/,
   ⟨0x7f0000608048, 16, 0x10000, 1, 0x0, 1, 0x0, 0x0#64, [⟨63, 48, .rc⟩, ⟨47, 0, .rc⟩]⟩ /- MIRROR_HOLD -/]

def regTable_mc_2 : List RegDesc :=
  [⟨0x7f0000608050, 16, 0x10000, 1, 0x0, 1, 0x0, 0x0#64, [⟨63, 32, .ro⟩, ⟨31, 0, .ro⟩]⟩ /- UPD_CLOSE -/,
   ⟨0x7f0000600078, 16, 0x10000, 1, 0x0, 1, 0x0, 0x0#64, [⟨63, 32, .ro⟩, ⟨31, 0, .ro⟩]⟩ /- MC_CLOSE -/]

/-- The registers of the mc blocks. -/
def regTable_mc : List RegDesc :=
  regTable_mc_0 ++ regTable_mc_1 ++ regTable_mc_2

def regTable_flash_0 : List RegDesc :=
  [⟨0x7f0000800000, 1, 0x0, 1, 0x0, 1, 0x0, 0x0#64, [⟨2, 1, .ro⟩, ⟨0, 0, .rw⟩]⟩ /- FL_CTRL -/,
   ⟨0x7f0000800008, 1, 0x0, 1, 0x0, 1, 0x0, 0x0#64, [⟨2, 2, .ro⟩, ⟨1, 1, .ro⟩, ⟨0, 0, .ro⟩]⟩ /- FL_STATUS -/,
   ⟨0x7f0000800010, 1, 0x0, 1, 0x0, 1, 0x0, 0x0#64, [⟨63, 48, .ro⟩, ⟨47, 32, .ro⟩, ⟨31, 16, .ro⟩, ⟨15, 8, .ro⟩, ⟨7, 0, .ro⟩]⟩ /- FL_GEOM -/,
   ⟨0x7f0000800020, 1, 0x0, 1, 0x0, 1, 0x0, 0x2faf0800#64, [⟨63, 0, .rw⟩]⟩ /- SPILL_RATE -/,
   ⟨0x7f0000800028, 1, 0x0, 1, 0x0, 1, 0x0, 0x40000000000#64, [⟨63, 0, .rw⟩]⟩ /- SPILL_BURST -/,
   ⟨0x7f0000800030, 1, 0x0, 1, 0x0, 1, 0x0, 0x40000000000#64, [⟨63, 0, .ro⟩]⟩ /- SPILL_BALANCE -/,
   ⟨0x7f0000800038, 1, 0x0, 1, 0x0, 1, 0x0, 0x0#64, [⟨31, 0, .rc⟩]⟩ /- SPILL_REFUSED -/,
   ⟨0x7f0000800040, 1, 0x0, 1, 0x0, 1, 0x0, 0x0#64, [⟨63, 0, .rc⟩]⟩ /- FL_RETRY -/,
   ⟨0x7f0000800048, 1, 0x0, 1, 0x0, 1, 0x0, 0x0#64, [⟨63, 0, .rc⟩]⟩ /- FL_UE -/,
   ⟨0x7f0000800050, 1, 0x0, 1, 0x0, 1, 0x0, 0x0#64, [⟨63, 0, .rc⟩]⟩ /- FL_RELOC -/,
   ⟨0x7f0000800058, 1, 0x0, 1, 0x0, 1, 0x0, 0x0#64, [⟨63, 0, .rc⟩]⟩ /- FL_GROWN_BAD -/,
   ⟨0x7f0000800060, 1, 0x0, 1, 0x0, 1, 0x0, 0x0#64, [⟨63, 63, .w1c⟩, ⟨62, 62, .ro⟩, ⟨41, 0, .ro⟩]⟩ /- FL_ERR_LAST -/]

def regTable_flash_1 : List RegDesc :=
  [⟨0x7f0000801000, 1, 0x0, 128, 0x8, 1, 0x0, 0x0#64, [⟨63, 48, .ro⟩, ⟨47, 32, .ro⟩, ⟨31, 16, .ro⟩, ⟨15, 2, .ro⟩, ⟨1, 0, .ro⟩]⟩ /- FL_DIE -/,
   ⟨0x7f0000800068, 1, 0x0, 1, 0x0, 1, 0x0, 0x0#64, [⟨63, 32, .ro⟩, ⟨31, 0, .ro⟩]⟩ /- FL_CLOSE -/]

/-- The registers of the flash block. -/
def regTable_flash : List RegDesc :=
  regTable_flash_0 ++ regTable_flash_1

def regTable_att_0 : List RegDesc :=
  [⟨0x7f0000a00000, 16, 0x10000, 1, 0x0, 1, 0x0, 0x0#64, [⟨2, 1, .ro⟩, ⟨0, 0, .rw⟩]⟩ /- ATT_CTRL -/,
   ⟨0x7f0000a00008, 16, 0x10000, 1, 0x0, 1, 0x0, 0x0#64, [⟨33, 33, .rw⟩, ⟨32, 31, .rw⟩, ⟨26, 22, .rw⟩, ⟨21, 15, .rw⟩, ⟨14, 0, .rw⟩]⟩ /- ATT_CONF -/,
   ⟨0x7f0000a00010, 16, 0x10000, 1, 0x0, 1, 0x0, 0x0#64, [⟨47, 0, .rw⟩]⟩ /- ATT_FERN -/,
   ⟨0x7f0000a00020, 16, 0x10000, 1, 0x0, 1, 0x0, 0x0#64, [⟨51, 48, .rw⟩, ⟨47, 0, .rw⟩]⟩ /- ATT_SRING -/,
   ⟨0x7f0000a00038, 16, 0x10000, 1, 0x0, 1, 0x0, 0x0#64, [⟨51, 48, .rw⟩, ⟨47, 0, .rw⟩]⟩ /- ATT_CRING -/,
   ⟨0x7f0000a00050, 16, 0x10000, 1, 0x0, 1, 0x0, 0x0#64, [⟨51, 48, .rw⟩, ⟨47, 0, .rw⟩]⟩ /- ATT_RRING -/,
   ⟨0x7f0000a00028, 16, 0x10000, 1, 0x0, 1, 0x0, 0x0#64, [⟨63, 32, .ro⟩, ⟨31, 0, .rw⟩]⟩ /- ATT_SPTR -/,
   ⟨0x7f0000a00040, 16, 0x10000, 1, 0x0, 1, 0x0, 0x0#64, [⟨63, 32, .ro⟩, ⟨31, 0, .rw⟩]⟩ /- ATT_CPTR -/,
   ⟨0x7f0000a00058, 16, 0x10000, 1, 0x0, 1, 0x0, 0x0#64, [⟨63, 32, .ro⟩, ⟨31, 0, .rw⟩]⟩ /- ATT_RPTR -/,
   ⟨0x7f0000a00030, 16, 0x10000, 1, 0x0, 1, 0x0, 0x0#64, [⟨31, 0, .rw⟩]⟩ /- ATT_SDOOR -/,
   ⟨0x7f0000a00048, 16, 0x10000, 1, 0x0, 1, 0x0, 0x0#64, [⟨31, 0, .rw⟩]⟩ /- ATT_CDOOR -/,
   ⟨0x7f0000a00060, 16, 0x10000, 1, 0x0, 1, 0x0, 0x0#64, [⟨13, 13, .w1c⟩, ⟨12, 12, .w1c⟩, ⟨11, 11, .w1c⟩, ⟨10, 10, .w1c⟩, ⟨9, 9, .w1c⟩, ⟨8, 8, .w1c⟩, ⟨7, 7, .w1c⟩, ⟨6, 6, .w1c⟩, ⟨5, 5, .w1c⟩, ⟨4, 4, .w1c⟩, ⟨3, 3, .w1c⟩, ⟨2, 2, .ro⟩, ⟨1, 1, .ro⟩, ⟨0, 0, .ro⟩]⟩ /- ATT_STATUS -/]

def regTable_att_1 : List RegDesc :=
  [⟨0x7f0000a00068, 16, 0x10000, 1, 0x0, 1, 0x0, 0x0#64, [⟨63, 0, .rc⟩]⟩ /- ATT_STALL -/,
   ⟨0x7f0000a00070, 16, 0x10000, 1, 0x0, 1, 0x0, 0x0#64, [⟨63, 0, .rc⟩]⟩ /- COMMIT_WAIT -/,
   ⟨0x7f0000a00078, 16, 0x10000, 1, 0x0, 1, 0x0, 0x0#64, [⟨63, 0, .rc⟩]⟩ /- ATT_MISS -/,
   ⟨0x7f0000a00080, 16, 0x10000, 1, 0x0, 1, 0x0, 0x0#64, [⟨63, 32, .ro⟩, ⟨31, 0, .ro⟩]⟩ /- ATT_CLOSE -/,
   ⟨0x7f0000a01000, 16, 0x10000, 64, 0x8, 1, 0x0, 0x0#64, [⟨63, 63, .ro⟩, ⟨52, 32, .ro⟩, ⟨31, 0, .ro⟩]⟩ /- SEQ_STATE -/]

/-- The registers of the att blocks. -/
def regTable_att : List RegDesc :=
  regTable_att_0 ++ regTable_att_1

def regTable_port_0 : List RegDesc :=
  [⟨0x7f0000400000, 24, 0x10000, 1, 0x0, 1, 0x0, 0x0#64, [⟨2, 1, .ro⟩, ⟨0, 0, .rw⟩]⟩ /- PORT_CTRL -/,
   ⟨0x7f0000400008, 24, 0x10000, 1, 0x0, 1, 0x0, 0xffff000000000000#64, [⟨63, 48, .ro⟩, ⟨47, 44, .ro⟩, ⟨43, 40, .ro⟩, ⟨39, 8, .ro⟩, ⟨5, 5, .ro⟩, ⟨4, 4, .w1c⟩, ⟨3, 3, .w1c⟩, ⟨2, 0, .ro⟩]⟩ /- PORT_STATUS -/,
   ⟨0x7f0000400010, 24, 0x10000, 1, 0x0, 1, 0x0, 0x300000007#64, [⟨63, 32, .rw⟩, ⟨31, 0, .rw⟩]⟩ /- PORT_ADV -/,
   ⟨0x7f0000400018, 24, 0x10000, 1, 0x0, 1, 0x0, 0x0#64, [⟨15, 15, .rw⟩, ⟨12, 8, .rw⟩, ⟨7, 7, .rw⟩, ⟨4, 0, .rw⟩]⟩ /- LANE_SPARE -/,
   ⟨0x7f0000400020, 24, 0x10000, 1, 0x0, 1, 0x0, 0x8000000010000#64, [⟨63, 32, .rw⟩, ⟨31, 0, .rw⟩]⟩ /- PORT_CONF -/,
   ⟨0x7f0000400028, 24, 0x10000, 1, 0x0, 1, 0x0, 0x0#64, [⟨9, 0, .ro⟩]⟩ /- TRK_USE -/,
   ⟨0x7f0000400030, 24, 0x10000, 1, 0x0, 1, 0x0, 0x0#64, [⟨63, 32, .ro⟩, ⟨31, 0, .ro⟩]⟩ /- PORT_CLOSE -/,
   ⟨0x7f0000400040, 24, 0x10000, 1, 0x0, 1, 0x0, 0x0#64, [⟨63, 0, .rc⟩]⟩ /- FLIT_CORR -/,
   ⟨0x7f0000400048, 24, 0x10000, 1, 0x0, 1, 0x0, 0x0#64, [⟨63, 0, .rc⟩]⟩ /- FLIT_UNCORR -/,
   ⟨0x7f0000400050, 24, 0x10000, 1, 0x0, 1, 0x0, 0x0#64, [⟨63, 0, .rc⟩]⟩ /- REPLAY_COUNT -/,
   ⟨0x7f0000400058, 24, 0x10000, 1, 0x0, 1, 0x0, 0x0#64, [⟨63, 0, .rc⟩]⟩ /- STOMP_COUNT -/,
   ⟨0x7f0000400060, 24, 0x10000, 1, 0x0, 1, 0x0, 0x0#64, [⟨63, 0, .rc⟩]⟩ /- FAILOVER_COUNT -/]

def regTable_port_1 : List RegDesc :=
  [⟨0x7f0000400068, 24, 0x10000, 1, 0x0, 1, 0x0, 0x0#64, [⟨63, 0, .rc⟩]⟩ /- RADD_HOLD -/,
   ⟨0x7f0000400070, 24, 0x10000, 1, 0x0, 1, 0x0, 0x0#64, [⟨63, 0, .rc⟩]⟩ /- TRK_FULL -/,
   ⟨0x7f0000400078, 24, 0x10000, 1, 0x0, 1, 0x0, 0x0#64, [⟨63, 0, .rc⟩]⟩ /- LINK_DOWN_COUNT -/,
   ⟨0x7f0000400080, 24, 0x10000, 1, 0x0, 1, 0x0, 0x4000000040#64, [⟨44, 32, .ro⟩, ⟨16, 16, .w1s⟩, ⟨12, 0, .rw⟩]⟩ /- SCHED_CTRL -/,
   ⟨0x7f0000401000, 24, 0x10000, 128, 0x8, 1, 0x0, 0xaaaaaaaaaaaaaaaa#64, [⟨63, 0, .rw⟩]⟩ /- SCHED -/]

/-- The registers of the port blocks. -/
def regTable_port : List RegDesc :=
  regTable_port_0 ++ regTable_port_1

def regTable_fab_0 : List RegDesc :=
  [⟨0x7f0000580000, 1, 0x0, 1, 0x0, 1, 0x0, 0xffff#64, [⟨15, 0, .rw⟩]⟩ /- FAB_NODE -/,
   ⟨0x7f0000580008, 1, 0x0, 1, 0x0, 1, 0x0, 0x0#64, [⟨0, 0, .w1c⟩]⟩ /- FAB_STATUS -/,
   ⟨0x7f0000580010, 1, 0x0, 1, 0x0, 1, 0x0, 0x300000007#64, [⟨63, 32, .ro⟩, ⟨31, 0, .ro⟩]⟩ /- FAB_VER -/,
   ⟨0x7f0000590000, 1, 0x0, 16384, 0x8, 1, 0x0, 0x0#64, [⟨63, 0, .rw⟩]⟩ /- ROUTE -/,
   ⟨0x7f00005b0000, 1, 0x0, 64, 0x40, 8, 0x8, 0x0#64, [⟨63, 0, .rw⟩]⟩ /- REDUCE -/,
   ⟨0x7f00005b1000, 1, 0x0, 64, 0x8, 1, 0x0, 0x0#64, [⟨35, 32, .ro⟩, ⟨16, 0, .ro⟩]⟩ /- RED_STATE -/]

/-- The registers of the fab block. -/
def regTable_fab : List RegDesc :=
  regTable_fab_0

def regTable_eth_0 : List RegDesc :=
  [⟨0x7f0000c00000, 2, 0x1000, 1, 0x0, 1, 0x0, 0x0#64, [⟨3, 3, .rw⟩, ⟨2, 1, .ro⟩, ⟨0, 0, .rw⟩]⟩ /- ETH_CTRL -/,
   ⟨0x7f0000c00008, 2, 0x1000, 1, 0x0, 1, 0x0, 0x0#64, [⟨2, 2, .ro⟩, ⟨1, 1, .ro⟩, ⟨0, 0, .ro⟩]⟩ /- ETH_STATUS -/,
   ⟨0x7f0000c00010, 2, 0x1000, 1, 0x0, 1, 0x0, 0x0#64, [⟨47, 0, .ro⟩]⟩ /- ETH_MAC -/,
   ⟨0x7f0000c00028, 2, 0x1000, 1, 0x0, 1, 0x0, 0x4e47#64, [⟨15, 0, .rw⟩]⟩ /- ETH_UDP -/,
   ⟨0x7f0000c00030, 2, 0x1000, 1, 0x0, 1, 0x0, 0x0#64, [⟨63, 32, .ro⟩, ⟨31, 0, .ro⟩]⟩ /- ETH_CLOSE -/,
   ⟨0x7f0000c00018, 2, 0x1000, 2, 0x8, 1, 0x0, 0x0#64, [⟨63, 0, .rw⟩]⟩ /- ETH_IP -/,
   ⟨0x7f0000c00040, 2, 0x1000, 1, 0x0, 1, 0x0, 0x0#64, [⟨63, 0, .rc⟩]⟩ /- RX_FRAMES -/,
   ⟨0x7f0000c00048, 2, 0x1000, 1, 0x0, 1, 0x0, 0x0#64, [⟨63, 0, .rc⟩]⟩ /- RX_FCS_ERR -/,
   ⟨0x7f0000c00050, 2, 0x1000, 1, 0x0, 1, 0x0, 0x0#64, [⟨63, 0, .rc⟩]⟩ /- RX_OTHER -/,
   ⟨0x7f0000c00058, 2, 0x1000, 1, 0x0, 1, 0x0, 0x0#64, [⟨63, 0, .rc⟩]⟩ /- ING_FORMAT -/,
   ⟨0x7f0000c00060, 2, 0x1000, 1, 0x0, 1, 0x0, 0x0#64, [⟨63, 0, .rc⟩]⟩ /- ING_FILTER -/,
   ⟨0x7f0000c00068, 2, 0x1000, 1, 0x0, 1, 0x0, 0x0#64, [⟨63, 0, .rc⟩]⟩ /- ING_BOUNDS -/]

def regTable_eth_1 : List RegDesc :=
  [⟨0x7f0000c00070, 2, 0x1000, 1, 0x0, 1, 0x0, 0x0#64, [⟨63, 0, .rc⟩]⟩ /- ING_WINDOW -/,
   ⟨0x7f0000c00078, 2, 0x1000, 1, 0x0, 1, 0x0, 0x0#64, [⟨63, 0, .rc⟩]⟩ /- ING_DUP -/,
   ⟨0x7f0000c00080, 2, 0x1000, 1, 0x0, 1, 0x0, 0x0#64, [⟨63, 0, .rc⟩]⟩ /- FEC_CORR -/,
   ⟨0x7f0000c00088, 2, 0x1000, 1, 0x0, 1, 0x0, 0x0#64, [⟨63, 0, .rc⟩]⟩ /- FEC_UNCORR -/]

/-- The registers of the eth blocks. -/
def regTable_eth : List RegDesc :=
  regTable_eth_0 ++ regTable_eth_1

def regTable_out_0 : List RegDesc :=
  [⟨0x7f0000c02000, 1, 0x0, 64, 0x40, 1, 0x0, 0x0#64, [⟨16, 16, .w1c⟩, ⟨15, 8, .rw⟩, ⟨2, 1, .rw⟩, ⟨0, 0, .rw⟩]⟩ /- ING_CTRL -/,
   ⟨0x7f0000c02008, 1, 0x0, 64, 0x40, 1, 0x0, 0x0#64, [⟨47, 0, .rw⟩]⟩ /- ING_BASE -/,
   ⟨0x7f0000c02010, 1, 0x0, 64, 0x40, 1, 0x0, 0x0#64, [⟨39, 0, .rw⟩]⟩ /- ING_SIZE -/,
   ⟨0x7f0000c02028, 1, 0x0, 64, 0x40, 1, 0x0, 0x0#64, [⟨63, 0, .rw⟩]⟩ /- ING_NOTIFY -/,
   ⟨0x7f0000c02030, 1, 0x0, 64, 0x40, 1, 0x0, 0x0#64, [⟨31, 0, .rw⟩]⟩ /- ING_NVAL -/,
   ⟨0x7f0000c02038, 1, 0x0, 64, 0x40, 1, 0x0, 0x0#64, [⟨40, 32, .ro⟩, ⟨31, 0, .ro⟩]⟩ /- ING_STATE -/,
   ⟨0x7f0000c02018, 1, 0x0, 64, 0x40, 2, 0x8, 0x0#64, [⟨63, 0, .rw⟩]⟩ /- ING_SRC -/,
   ⟨0x7f0000c04000, 1, 0x0, 1, 0x0, 1, 0x0, 0x0#64, [⟨2, 1, .ro⟩, ⟨0, 0, .rw⟩]⟩ /- CXL_CTRL -/,
   ⟨0x7f0000c04008, 1, 0x0, 1, 0x0, 1, 0x0, 0x0#64, [⟨11, 7, .ro⟩, ⟨6, 4, .ro⟩, ⟨2, 2, .ro⟩, ⟨1, 1, .ro⟩, ⟨0, 0, .ro⟩]⟩ /- CXL_STATUS -/,
   ⟨0x7f0000c04010, 1, 0x0, 1, 0x0, 1, 0x0, 0x0#64, [⟨47, 0, .rw⟩]⟩ /- CXL_WIN_BASE -/,
   ⟨0x7f0000c04018, 1, 0x0, 1, 0x0, 1, 0x0, 0x0#64, [⟨40, 0, .rw⟩]⟩ /- CXL_WIN_SIZE -/,
   ⟨0x7f0000c04020, 1, 0x0, 1, 0x0, 1, 0x0, 0x0#64, [⟨63, 32, .ro⟩, ⟨31, 0, .ro⟩]⟩ /- CXL_CLOSE -/]

def regTable_out_1 : List RegDesc :=
  [⟨0x7f0000c05000, 1, 0x0, 1, 0x0, 1, 0x0, 0x0#64, [⟨5, 5, .ro⟩, ⟨4, 4, .ro⟩, ⟨3, 3, .ro⟩, ⟨2, 2, .ro⟩, ⟨1, 1, .ro⟩, ⟨0, 0, .ro⟩]⟩ /- PWR_STATUS -/]

/-- The registers of the out block. -/
def regTable_out : List RegDesc :=
  regTable_out_0 ++ regTable_out_1

def regTable_sup_0 : List RegDesc :=
  [⟨0x1000300000000, 4, 0x1000, 1, 0x0, 1, 0x0, 0x0#64, [⟨63, 0, .rw⟩]⟩ /- SUP_MTIME -/,
   ⟨0x1000300000008, 4, 0x1000, 1, 0x0, 1, 0x0, 0xffffffffffffffff#64, [⟨63, 0, .rw⟩]⟩ /- SUP_MTIMECMP -/,
   ⟨0x1000300000010, 4, 0x1000, 1, 0x0, 1, 0x0, 0x0#64, [⟨0, 0, .rw⟩]⟩ /- SUP_MSIP -/,
   ⟨0x1000300000018, 4, 0x1000, 1, 0x0, 1, 0x0, 0x2ffff#64, [⟨17, 16, .rw⟩, ⟨15, 0, .rw⟩]⟩ /- SUP_FABWIN -/,
   ⟨0x1000300000020, 4, 0x1000, 1, 0x0, 1, 0x0, 0x0#64, [⟨63, 63, .w1c⟩, ⟨55, 48, .ro⟩, ⟨47, 0, .ro⟩]⟩ /- SUP_FABERR -/,
   ⟨0x1000300000028, 4, 0x1000, 1, 0x0, 1, 0x0, 0x0#64, [⟨0, 0, .w1s⟩]⟩ /- SUP_FENCE -/]

/-- The registers of the sup blocks. -/
def regTable_sup : List RegDesc :=
  regTable_sup_0

def regTable_id_0 : List RegDesc :=
  [⟨0x7f0000000000, 1, 0x0, 1, 0x0, 1, 0x0, 0x343658502d584452#64, [⟨63, 0, .ro⟩]⟩ /- ID_ORDER_LO -/,
   ⟨0x7f0000000008, 1, 0x0, 1, 0x0, 1, 0x0, 0x3554312d#64, [⟨31, 0, .ro⟩]⟩ /- ID_ORDER_HI -/,
   ⟨0x7f0000000010, 1, 0x0, 1, 0x0, 1, 0x0, 0x3042#64, [⟨15, 0, .ro⟩]⟩ /- ID_STEP -/,
   ⟨0x7f0000000018, 1, 0x0, 1, 0x0, 1, 0x0, 0x0#64, [⟨63, 0, .ro⟩]⟩ /- ID_SERIAL -/,
   ⟨0x7f0000000020, 1, 0x0, 1, 0x0, 1, 0x0, 0x20c040#64, [⟨23, 16, .ro⟩, ⟨15, 8, .ro⟩, ⟨7, 0, .ro⟩]⟩ /- ID_CONF -/]

/-- The registers of the id block. -/
def regTable_id : List RegDesc :=
  regTable_id_0

def regTable_clk_0 : List RegDesc :=
  [⟨0x7f0000100000, 1, 0x0, 1, 0x0, 1, 0x0, 0x3#64, [⟨1, 1, .ro⟩, ⟨0, 0, .ro⟩]⟩ /- CLK_STATUS -/,
   ⟨0x7f0000100008, 1, 0x0, 1, 0x0, 1, 0x0, 0x0#64, [⟨3, 3, .w1c⟩, ⟨2, 2, .w1c⟩, ⟨1, 1, .w1c⟩, ⟨0, 0, .w1c⟩]⟩ /- RST_CAUSE -/,
   ⟨0x7f0000100010, 1, 0x0, 1, 0x0, 1, 0x0, 0x0#64, [⟨0, 0, .w1s⟩]⟩ /- RST_CTRL -/,
   ⟨0x7f0000100018, 1, 0x0, 1, 0x0, 1, 0x0, 0x0#64, [⟨63, 0, .rc⟩]⟩ /- SRAM_CE -/,
   ⟨0x7f0000100020, 1, 0x0, 1, 0x0, 1, 0x0, 0x0#64, [⟨63, 0, .rc⟩]⟩ /- SRAM_UE -/,
   ⟨0x7f0000100100, 1, 0x0, 4, 0x8, 1, 0x0, 0x0#64, [⟨3, 3, .ro⟩, ⟨2, 2, .w1c⟩, ⟨1, 1, .ro⟩, ⟨0, 0, .ro⟩]⟩ /- SUP_STATUS -/]

/-- The registers of the clk block. -/
def regTable_clk : List RegDesc :=
  regTable_clk_0

def regTable_dike_0 : List RegDesc :=
  [⟨0x7f0000300000, 1, 0x0, 1, 0x0, 1, 0x0, 0x0#64, [⟨23, 19, .ro⟩, ⟨18, 17, .ro⟩, ⟨16, 16, .ro⟩, ⟨15, 15, .ro⟩, ⟨14, 14, .ro⟩, ⟨12, 10, .ro⟩, ⟨9, 8, .ro⟩, ⟨7, 4, .ro⟩]⟩ /- SEC_STATUS -/,
   ⟨0x7f0000300008, 1, 0x0, 1, 0x0, 1, 0x0, 0x0#64, [⟨63, 56, .ro⟩, ⟨47, 40, .rw⟩, ⟨39, 8, .rw⟩, ⟨0, 0, .w1s⟩]⟩ /- SEC_CMD -/,
   ⟨0x7f0000300010, 1, 0x0, 6, 0x8, 1, 0x0, 0x0#64, [⟨63, 0, .rw⟩]⟩ /- SEC_DATA -/,
   ⟨0x7f0000300040, 1, 0x0, 1, 0x0, 1, 0x0, 0x0#64, [⟨1, 1, .w1s⟩, ⟨0, 0, .w1s⟩]⟩ /- SEC_LOCK -/,
   ⟨0x7f0000300048, 1, 0x0, 1, 0x0, 1, 0x0, 0x85#64, [⟨11, 0, .rw⟩]⟩ /- DIKE_ACTION -/,
   ⟨0x7f0000300050, 1, 0x0, 1, 0x0, 1, 0x0, 0x0#64, [⟨5, 0, .w1c⟩]⟩ /- DIKE_ALARM -/,
   ⟨0x7f0000300058, 1, 0x0, 1, 0x0, 1, 0x0, 0x0#64, [⟨6, 0, .ro⟩]⟩ /- SVN_MIN -/,
   ⟨0x7f0000300060, 1, 0x0, 1, 0x0, 1, 0x0, 0x0#64, [⟨25, 0, .ro⟩]⟩ /- LMS_NEXT -/,
   ⟨0x7f0000300080, 1, 0x0, 6, 0x8, 1, 0x0, 0x0#64, [⟨63, 0, .ro⟩]⟩ /- IMG_DIGEST -/,
   ⟨0x7f00003000c0, 1, 0x0, 12, 0x8, 1, 0x0, 0x0#64, [⟨63, 0, .ro⟩]⟩ /- IDK_PUB -/,
   ⟨0x7f0000300120, 1, 0x0, 1, 0x0, 1, 0x0, 0x0#64, [⟨31, 0, .ro⟩]⟩ /- SEC_IANA -/,
   ⟨0x7f0000300128, 1, 0x0, 1, 0x0, 1, 0x0, 0x200#64, [⟨63, 32, .ro⟩, ⟨31, 24, .ro⟩, ⟨23, 16, .ro⟩, ⟨15, 13, .ro⟩, ⟨12, 11, .ro⟩, ⟨10, 9, .ro⟩, ⟨8, 8, .ro⟩, ⟨5, 3, .ro⟩, ⟨2, 0, .ro⟩]⟩ /- BOOT_REC -/]

/-- The registers of the dike block. -/
def regTable_dike : List RegDesc :=
  regTable_dike_0

def regTable_maint_0 : List RegDesc :=
  [⟨0x7f0000b00000, 1, 0x0, 1, 0x0, 1, 0x0, 0x0#64, [⟨63, 63, .ro⟩, ⟨23, 8, .ro⟩, ⟨7, 0, .ro⟩]⟩ /- SAFE_STATUS -/,
   ⟨0x7f0000b00008, 1, 0x0, 1, 0x0, 1, 0x0, 0x0#64, [⟨8, 8, .w1s⟩, ⟨3, 0, .rw⟩]⟩ /- SAFE_CTRL -/,
   ⟨0x7f0000b00010, 1, 0x0, 1, 0x0, 1, 0x0, 0x0#64, [⟨63, 0, .rc⟩]⟩ /- SAFE_MORE -/,
   ⟨0x7f0000b00018, 1, 0x0, 1, 0x0, 1, 0x0, 0x0#64, [⟨63, 0, .rc⟩]⟩ /- SMEM_CE -/,
   ⟨0x7f0000b00020, 1, 0x0, 1, 0x0, 1, 0x0, 0x0#64, [⟨63, 0, .rc⟩]⟩ /- SMEM_UE -/,
   ⟨0x7f0000b00040, 1, 0x0, 1, 0x0, 1, 0x0, 0x0#64, [⟨27, 24, .rw⟩, ⟨20, 0, .rw⟩]⟩ /- JRN_CFG -/,
   ⟨0x7f0000b00048, 1, 0x0, 1, 0x0, 1, 0x0, 0x0#64, [⟨63, 0, .rw⟩]⟩ /- JRN_BASE -/,
   ⟨0x7f0000b00050, 1, 0x0, 1, 0x0, 1, 0x0, 0x0#64, [⟨63, 0, .rw⟩]⟩ /- JRN_LBASE -/,
   ⟨0x7f0000b00058, 1, 0x0, 1, 0x0, 1, 0x0, 0x0#64, [⟨63, 62, .ro⟩, ⟨59, 56, .rw⟩, ⟨55, 1, .rw⟩, ⟨0, 0, .w1s⟩]⟩ /- JRN_CMD -/,
   ⟨0x7f0000b00060, 1, 0x0, 1, 0x0, 1, 0x0, 0x0#64, [⟨55, 55, .w1c⟩, ⟨54, 52, .ro⟩, ⟨51, 48, .ro⟩, ⟨47, 0, .ro⟩]⟩ /- JRN_STATUS -/,
   ⟨0x7f0000b00068, 1, 0x0, 1, 0x0, 1, 0x0, 0x0#64, [⟨63, 0, .rc⟩]⟩ /- JRN_DROP -/,
   ⟨0x7f0000b00070, 1, 0x0, 1, 0x0, 1, 0x0, 0x0#64, [⟨63, 0, .rc⟩]⟩ /- JRN_REFUSED -/]

def regTable_maint_1 : List RegDesc :=
  [⟨0x7f0000b01000, 1, 0x0, 64, 0x8, 1, 0x0, 0x0#64, [⟨63, 63, .ro⟩, ⟨45, 32, .ro⟩, ⟨19, 0, .ro⟩]⟩ /- JRN_LAST -/,
   ⟨0x7f0000b00100, 1, 0x0, 1, 0x0, 1, 0x0, 0xffff#64, [⟨41, 40, .rw⟩, ⟨39, 16, .rw⟩, ⟨15, 0, .rw⟩]⟩ /- PAIR_CTRL -/,
   ⟨0x7f0000b00108, 1, 0x0, 1, 0x0, 1, 0x0, 0x0#64, [⟨2, 2, .ro⟩, ⟨1, 1, .ro⟩, ⟨0, 0, .ro⟩]⟩ /- PAIR_STATUS -/,
   ⟨0x7f0000b00110, 1, 0x0, 1, 0x0, 1, 0x0, 0x0#64, [⟨63, 0, .ro⟩]⟩ /- CONFIRMED -/,
   ⟨0x7f0000b00118, 1, 0x0, 1, 0x0, 1, 0x0, 0x0#64, [⟨63, 0, .ro⟩]⟩ /- PEER_CONFIRMED -/,
   ⟨0x7f0000b00120, 1, 0x0, 1, 0x0, 1, 0x0, 0x0#64, [⟨63, 0, .rw⟩]⟩ /- PAIR_RECV -/,
   ⟨0x7f0000b00128, 1, 0x0, 1, 0x0, 1, 0x0, 0x0#64, [⟨63, 0, .rw⟩]⟩ /- PAIR_ACK -/,
   ⟨0x7f0000b00130, 1, 0x0, 1, 0x0, 1, 0x0, 0x0#64, [⟨63, 0, .rw⟩]⟩ /- PAIR_HB -/,
   ⟨0x7f0000b00138, 1, 0x0, 1, 0x0, 1, 0x0, 0x0#64, [⟨63, 0, .rw⟩]⟩ /- PAIR_PEER -/,
   ⟨0x7f0000b00140, 1, 0x0, 1, 0x0, 1, 0x0, 0x0#64, [⟨63, 0, .rc⟩]⟩ /- MIR_FAIL -/,
   ⟨0x7f0000b00200, 1, 0x0, 1, 0x0, 1, 0x0, 0x0#64, [⟨0, 0, .rw⟩]⟩ /- ARB_CTRL -/,
   ⟨0x7f0000b00208, 1, 0x0, 1, 0x0, 1, 0x0, 0x0#64, [⟨63, 0, .rc⟩]⟩ /- ARB_OVERRIDE -/]

def regTable_maint_2 : List RegDesc :=
  [⟨0x7f0000b00210, 1, 0x0, 11, 0x8, 1, 0x0, 0x0#64, [⟨63, 0, .rc⟩]⟩ /- ARB_WAIT -/,
   ⟨0x7f0000b00300, 1, 0x0, 1, 0x0, 1, 0x0, 0x118#64, [⟨8, 8, .rw⟩, ⟨7, 0, .rw⟩]⟩ /- ST_CTRL -/,
   ⟨0x7f0000b00308, 1, 0x0, 1, 0x0, 1, 0x0, 0x0#64, [⟨9, 9, .w1c⟩, ⟨8, 8, .ro⟩, ⟨7, 0, .ro⟩]⟩ /- ST_STATUS -/,
   ⟨0x7f0000b00310, 1, 0x0, 1, 0x0, 1, 0x0, 0x0#64, [⟨63, 63, .w1c⟩, ⟨55, 48, .ro⟩, ⟨47, 44, .ro⟩, ⟨31, 0, .ro⟩]⟩ /- ST_RESULT -/,
   ⟨0x7f0000b00440, 1, 0x0, 1, 0x0, 1, 0x0, 0x0#64, [⟨2, 1, .rw⟩, ⟨0, 0, .w1s⟩]⟩ /- SUP_SPARE -/,
   ⟨0x7f0000b00448, 1, 0x0, 1, 0x0, 1, 0x0, 0x0#64, [⟨0, 0, .w1c⟩]⟩ /- SPARE_ERR -/,
   ⟨0x7f0000b00400, 1, 0x0, 8, 0x8, 1, 0x0, 0x0#64, [⟨8, 8, .rw⟩, ⟨5, 0, .rw⟩]⟩ /- CORE_SPARE -/]

/-- The registers of the maint block. -/
def regTable_maint : List RegDesc :=
  regTable_maint_0 ++ regTable_maint_1 ++ regTable_maint_2

/-- The registers of the block in which an address lies (the blocks' offsets are those of the chapters). -/
def regTableAt (a : Nat) : List RegDesc :=
  if a < 0x7F0000000000 then []
  else if a < 0x7F0000100000 then regTable_id
  else if a < 0x7F0000200000 then regTable_clk
  else if a < 0x7F0000300000 then regTable_evc
  else if a < 0x7F0000400000 then regTable_dike
  else if a < 0x7F0000580000 then regTable_port
  else if a < 0x7F0000600000 then regTable_fab
  else if a < 0x7F0000700000 then regTable_mc
  else if a < 0x7F0000900000 then regTable_flash
  else if a < 0x7F0000B00000 then regTable_att
  else if a < 0x7F0000C00000 then regTable_maint
  else if a < 0x7F0000C02000 then regTable_eth
  else if a < 0x7F0001000000 then regTable_out
  else if a < 0x7F0001400000 then regTable_core
  else if a < 0x1000300000000 then []
  else if a < 0x1000300004000 then regTable_sup
  else []

/-- Whether an address is one of the places of a register. -/
def RegDesc.covers (d : RegDesc) (a : Nat) : Bool :=
  let r := a - d.base
  let ia := if d.sA = 0 then 0 else r / d.sA
  let r1 := r - ia * d.sA
  let ib := if d.sB = 0 then 0 else r1 / d.sB
  let r2 := r1 - ib * d.sB
  let ic := if d.sC = 0 then 0 else r2 / d.sC
  decide (d.base ≤ a) && decide (ia < d.nA) && decide (ib < d.nB) && decide (ic < d.nC) && decide (r2 - ic * d.sC = 0)

/-- The register at an address, if one is assigned there (R4: an unassigned offset reads zero and ignores writes). -/
def regAt (a : Nat) : Option RegDesc :=
  (regTableAt a).find? fun d => d.covers a

/-- The value of a control register after module reset (R9); zero at an unassigned offset (R4). -/
def regReset (a : Nat) : Word :=
  match regAt a with
  | some d => d.reset
  | none => 0#64

end Sys2Proof.Machine
end

