-- ==== Sys2Proof/Machine/UnitTypes.lean ====
section
/-! DEFINITION. The state of the update units, attention engines, outside interfaces, supervisor complex, security
perimeter, journal, pair and loader that is not a control register (chapters 8, 12, 14, 16, 17, 18, 19). -/

namespace Sys2Proof.Machine

/-! ### Update units (chapter 12) -/

/-- A group descriptor (Table 12.3). -/
structure Group where
  gid : Nat
  rule : Nat
  mfmt : Nat
  count : Nat
  rows : Nat
  cols : Nat
  grad : Nat
  gaccum : Nat
  master : Nat
  resid : Nat
  mom1 : Nat
  mom2 : Nat
  work : Nat
  hdr : Nat
  part : Nat
deriving DecidableEq, Repr

/-- A command record (Table 12.4) with its address. -/
structure UpdRec where
  addr : Nat
  op : Nat
  gid : Nat
  flags : Nat
  step : Nat
  lr : Nat
  wd : Nat
  b1 : Nat
  b2 : Nat
  eps : Nat
  gscale : Nat
  src : Nat
  notify : Nat
  nval : Nat
deriving DecidableEq, Repr

/-- The command in progress: held by R24 since a cycle, or with its writes made and its status byte. -/
structure UpdCur where
  cmd : UpdRec
  held : Option Nat
  status : Nat
deriving DecidableEq, Repr

structure Upd where
  groups : List Group
  cur : Option UpdCur
deriving DecidableEq, Repr

def Upd.reset : Upd := ⟨[], none⟩

/-! ### Attention engines (chapter 14) -/

/-- A softmax row of a step (R356): the running record of Table 7.13, the totals O and OI of each dimension. -/
structure AttRow where
  rcd : List Byte
  o : List L96
  oi : List L96
deriving DecidableEq, Repr

/-- A step in progress (Table 14.5, R353 to R358). -/
structure AttStep where
  addr : Nat
  nseq : Nat
  q : Nat
  flags : Nat
  scale : Nat
  qbase : Nat
  obase : Nat
  lbase : Nat
  masktab : Nat
  notify : Nat
  nval : Nat
  sids : List Nat
  qnm : List Nat
  pinEnd : Nat           -- first cycle after the pinning (R360)
  i : Nat                -- batch slot visited next
  p : Nat                -- page visited next
  j : Nat                -- partial pages of the slot met so far (R355)
  busyEnd : Nat          -- cycle in which the work on the pages delivered so far ends
  missing : List Nat     -- missing batch slots
  rows : List (Nat × AttRow)
deriving DecidableEq, Repr

structure Att where
  cur : Option AttStep
  rel : List Nat               -- release entries held until the step's last read (R350)
  waitFrom : Option Nat        -- cycle from which the head commit waits (R349)
deriving DecidableEq, Repr

def Att.reset : Att := ⟨none, [], none⟩

/-! ### Outside interfaces (chapter 16) -/

/-- An accepted DATA datagram of an ingest stream: sequence number (0 for one accepted before the stream was last
enabled), MARK, port, address and bytes, whether its writes have completed. -/
structure IngDat where
  seq : Nat
  mark : Bool
  port : Nat
  addr : Nat
  data : List Byte
  written : Bool
deriving DecidableEq, Repr

/-- An ingest stream beside its registers (R408 to R411): accepted datagrams, the source of the latest accepted DATA
(IPv6 address, UDP port, receiving port), accepted DATA since the last ACK, the cycle of its timer. -/
structure Ing where
  got : List IngDat
  src : Nat × Nat × Nat
  since : Nat
  timer : Option Nat
deriving DecidableEq, Repr

def Ing.reset : Ing := ⟨[], (0, 0, 0), 0, none⟩

/-- What an Ethernet port sent (R406, R411): port, destination address and port, ACK contents, or an answer. -/
inductive EthTx where
  | none
  | ack (port ip udp stream acked : Nat) (bits : Nat)
  | advert (port ip : Nat)
  | echo (port ip : Nat) (data : List Byte)
deriving DecidableEq, Repr

/-- The CXL port and its mailbox (R413 to R417). -/
structure Cxl where
  held : Option (Option Word × Option Word)   -- window writes held (base, size)
  listed : List Nat                           -- poisoned units met by host reads
  events : List Nat                           -- event records (contents are free values)
  clock : Option (Nat × Nat)                  -- timestamp set, and the cycle of setting
deriving DecidableEq, Repr

def Cxl.reset : Cxl := ⟨none, [], [], none⟩

/-- The management endpoint and the module's inputs (R418 to R425, R457). -/
structure Mgt where
  addr : Option Nat            -- dynamic I3C address
  eid : Option Nat             -- MCTP endpoint ID
  standby : Bool
  main : Bool
  applied : Bool               -- the main input was applied since the last release from reset
  refclk : Bool
  resetN : Bool                -- MOD_RESET_N
  inReset : Bool               -- the package is in reset or unpowered
  perst : Bool                 -- PERST_N low
  update : Option Nat          -- slot a firmware update writes: 1 A, 2 B
  spareSel : Option Nat        -- supervisor core that the reserve pair serves from the next reset (R497)
deriving DecidableEq, Repr

def Mgt.reset : Mgt := ⟨none, none, true, true, false, true, true, false, false, none, none⟩

structure Outside where
  ing : List (Nat × Ing)
  eth : EthTx
  cxl : Cxl
  mgt : Mgt
deriving DecidableEq, Repr

def Outside.reset : Outside := ⟨[], .none, Cxl.reset, Mgt.reset⟩

/-! ### Supervisor complex (chapter 17) and security perimeter (chapter 18) -/

/-- A supervisor core beside its registers: machine timer interrupt pending, waiting in the ROM, last address the ROM
jumped to. -/
structure Sup where
  mtip : Bool
  inRom : Bool
  start : Option Nat
deriving DecidableEq, Repr

def Sup.reset : Sup := ⟨false, true, none⟩

/-- The dike and the boot ROM beside their registers (R447 to R472). -/
structure Dike where
  owner : List Byte            -- OWNER_HASH
  plan : List Byte             -- measurement 4
  nonce : Option (List Byte)
  signed : Option (Option (Nat × List Byte))   -- last signed response since reset: leaf and co-signature, or no leaf left
  unlocking : Bool             -- an erasure that an UNLOCK waits for
  thenReset : Bool             -- an erasure that a reset follows
  cmdAlarm : Bool              -- an alarm was raised while the dike command runs
  alarmAt : Option Nat         -- cycle of the last alarm since reset
  romStarted : Bool            -- the ROM has started since the release from reset
  rom : Bool                   -- the attempt loop runs on supervisor core 0
  waitEnd : Option Nat         -- cycle in which the wait before the next attempt ends
  svn : Nat                    -- SVN of the running image
  entry : Option Nat           -- address at which the accepted image was started
  win : Nat                    -- open flash window: 0 none, 1 A or B, 2 service record, 3 certificate store
  winSlot : Nat                -- the slot of window 1: 1 A, 2 B
deriving DecidableEq, Repr

def Dike.reset : Dike := ⟨[], [], none, none, false, false, false, none, false, true, none, 0, none, 0, 0⟩

/-! ### Journal, pair, self-test, loader (chapters 8 and 19) -/

/-- A change of the journal on its way to both copies (R479). -/
inductive JChg where
  | start (step : Nat)
  | update (step : Nat)
  | commit (step flags : Nat)
  | abort (step : Nat)
  | fault (step : Nat)
  | lost (step : Nat)
  | mark (step n tile bundle : Nat)
  | frec
  | confirm (m : Nat)
  | ack (m : Nat)
deriving DecidableEq, Repr

/-- A queued mark (R482): tile, bundle address of its store, syllable of the store. -/
structure JMark where
  tile : Nat
  bundle : Nat
  syl : Nat
deriving DecidableEq, Repr

/-- A mirror in progress (R489): its step, PUTs issued, turn of the candidate ports, phase (0 PUTs, 1 FENCE sent,
2 WRITE sent). -/
structure Mirror where
  step : Nat
  next : Nat
  turn : Nat
  phase : Nat
deriving DecidableEq, Repr

structure Jrn where
  opened : Bool                     -- a step has been opened since the plan was loaded
  bits : List (Nat × Bool)          -- tile bits of the latest step
  queue : List JChg
  marks : List (Nat × List JMark)
  regions : List (Nat × Nat × Nat)  -- LBASE, SIZE, POFF
  recvBase : Nat
  recvSize : Nat
  peerBase : Nat
  peerSize : Nat
  hbUs : Nat
  hbTimeout : Nat
  mirrors : List Nat                -- committed steps waiting to be mirrored
  mir : Option Mirror
  hbNext : Nat                      -- cycle of the next heartbeat
  hbCount : Nat
  hbSeen : Nat                      -- cycle of the last heartbeat from the partner
  safeAt : Nat                      -- cycle in which the safe state was entered
deriving DecidableEq, Repr

def Jrn.reset : Jrn :=
  ⟨false, [], [], [], [], 0, 0, 0, 0, 0, 0, [], none, 0, 0, 0, 0⟩

/-- The rotating self-test (R501, R502): turn, unit under test with its start, times of the last tests. -/
structure SelfTest where
  turn : Nat
  run : Option (Nat × Nat)
  last : List (Nat × Nat)
deriving DecidableEq, Repr

def SelfTest.reset : SelfTest := ⟨0, none, []⟩

/-- A buffer declaration (Table 8.5). -/
structure Buf where
  base : Nat
  size : Nat
  excl : Bool
deriving DecidableEq, Repr

/-- A load request (Table 8.6). -/
structure LoadReq where
  seq : Nat
  flags : Nat
  image : Nat
  limit : Nat
  notify : Nat
  nval : Nat
deriving DecidableEq, Repr

/-- The plan loader (R209 to R218): last SEQ handled, the plan loaded, a request latched, the request in progress. -/
structure Ldr where
  seq : Nat
  plan : Nat
  latched : Bool
  loading : Bool         -- verified; engines closing or being written (R218)
  part : Bool            -- a sequence was stopped early (R215)
  req : Option LoadReq
deriving DecidableEq, Repr

def Ldr.reset : Ldr := ⟨0, 0, false, false, false, none⟩

end Sys2Proof.Machine
end

