-- ==== Sys2Proof/Machine/State.lean ====
section
/-! DEFINITION. The state of the device as plain data, its reset value, and the reasons a step can stop. -/

namespace Sys2Proof.Machine

/-- Answers of the management endpoint and the CXL port (chapters 16 and 18). content holds what the standards named
there define and the spec does not repeat: a free value. -/
inductive Msg where
  | content (v : Nat)
  | data (b : List Byte)
  | poison (b : List Byte)
  | list (l : List Nat)
  | unsupportedPldmCmd
  | spdmBusy
  | spdmUnsupportedRequest
  | signed (gen : Nat) (message : List Byte) (blocks : List (List Byte)) (leaf : Option Nat)
  | mailboxUnsupported
  | unsupportedRequest
  | unavailable
  | event (sensor : Nat)
deriving DecidableEq, Repr

/-- What the last access or request was answered (R4, R132): nothing yet, done, a value read, the access error. -/
inductive Reply where
  | none
  | ok
  | value (v : Word)
  | bytes (b : List Byte)
  | accessError
  | msg (m : Msg)
deriving DecidableEq, Repr

/-- Faults of the model: there are none. What the spec calls a fault is recorded in State; an access that no range takes
is answered in `reply`. -/
inductive Fault where
deriving DecidableEq, Repr

/-- Refusals of the model. -/
inductive Refusal where
  /-- An instruction without a meaning in this model. Safe. -/
  | notModelled (mnemonic : String)
deriving DecidableEq, Repr

/-- The event controller beside its registers (R438 to R440): target + 1 to which a source is assigned (0 none), the
round-robin pointer of a source, and each target's stack of claimed sources with their groups, top first. PEND, RAW
and INSERV are control registers. -/
structure Evc where
  assigned : List (Nat × Nat)
  ptr : List (Nat × Nat)
  stk : List (Nat × List (Nat × Nat))
deriving DecidableEq, Repr

def Evc.reset : Evc := ⟨[], [], []⟩

/-- The state. -/
structure State where
  now : Nat                     -- ACLK cycles since module reset (R11)
  fresh : Nat                   -- counter of free values (the model's own)
  pending : List Instr          -- commands waiting, first in, first out
  csr : List (Nat × Word)       -- control registers by supervisor physical address
  mem : List Host.Cell          -- addressed memory by supervisor physical address
  cores : List (Nat × Core)
  late : List Late              -- operations in flight, in the order of their effects
  bcast : List (Nat × Bcast)    -- broadcast streams of the quartets
  reply : Reply
  evc : Evc
  fab : Fab
  mc : Mc
  fl : Flash
  arb : Arb
  upd : List (Nat × Upd)
  att : List (Nat × Att)
  out : Outside
  sup : List (Nat × Sup)
  dike : Dike
  jrn : Jrn
  st : SelfTest
  ldr : Ldr
deriving DecidableEq, Repr

/-- The machine right after module reset. -/
def State.reset : State :=
  { now := 0, fresh := 0, pending := [], csr := [], mem := [], cores := [], late := [], bcast := [], reply := .none,
    evc := Evc.reset, fab := Fab.reset,
    mc := Mc.reset, fl := Flash.reset, arb := Arb.reset, upd := [], att := [], out := Outside.reset, sup := [],
    dike := Dike.reset, jrn := Jrn.reset, st := SelfTest.reset, ldr := Ldr.reset }

end Sys2Proof.Machine
end

