-- ==== Sys2Proof/Machine/Ops.lean ====
section
/-! DEFINITION. The named operations over registers, memory, cores, operations in flight and event sources. -/

namespace Sys2Proof.Machine

/-! ### Control registers -/

/-- A control register as stored. -/
def State.reg (s : State) (a : Nat) : Word := look regReset s.csr a

/-- A control register set. -/
def State.setReg (s : State) (a : Nat) (v : Word) : State := { s with csr := put regReset s.csr a v }

/-- Bits hi to lo of a word. -/
def getBits (w : Word) (hi lo : Nat) : Nat := bitsOf w.toNat hi lo

/-- A word with bits hi to lo replaced by the low bits of v. -/
def setBits (w : Word) (hi lo : Nat) (v : Nat) : Word :=
  let mask : Word := BitVec.ofNat 64 ((2 ^ (hi + 1 - lo) - 1) <<< lo)
  (w &&& ~~~mask) ||| (BitVec.ofNat 64 (v <<< lo) &&& mask)

/-- A field of a control register. -/
def State.fld (s : State) (f : Fld) : Nat := getBits (s.reg f.addr) f.hi f.lo

/-- A field of a control register set. -/
def State.setFld (s : State) (f : Fld) (v : Nat) : State := s.setReg f.addr (setBits (s.reg f.addr) f.hi f.lo v)

/-- A one-bit field. -/
def State.flag (s : State) (f : Fld) : Bool := s.fld f != 0

/-- A counter field raised by k, saturating at all ones (R10). -/
def State.incFld (s : State) (f : Fld) (k : Nat) : State :=
  s.setFld f (min (s.fld f + k) (2 ^ (f.hi + 1 - f.lo) - 1))

/-- A field with bits ORed in. -/
def State.orFld (s : State) (f : Fld) (v : Nat) : State := s.setFld f (s.fld f ||| v)

/-! ### Memory -/

/-- What an address that nothing has written reads as. -/
def memDefault (_ : Nat) : Byte := 0#8

def State.byte (s : State) (a : Nat) : Byte := look memDefault s.mem a
def State.setByte (s : State) (a : Nat) (b : Byte) : State := { s with mem := put memDefault s.mem a b }

/-- The canonical form of memory. -/
abbrev Memory.wf (m : List Host.Cell) : Bool := wfMap memDefault m

def coreMemBase : Nat := 0x210000000000
def coreMemSize : Nat := 0x1000000
def stackBase : Nat := 0x200000000000
def stackEnd : Nat := 0x2000A0000000
def lpddrEnd : Nat := 0x015000000000
def flashBase : Nat := 0x400000000000
def flashEnd : Nat := 0x600000000000
def ctlBase : Nat := 0x7F0000000000
def ctlEnd : Nat := 0x800000000000
def accWinBase : Nat := 0x220000000000

/-- The address of byte i of a place. -/
def Place.addr (p : Place) (i : Nat) : Nat :=
  match p with
  | .core n off => coreMemBase + n * coreMemSize + (off + i) % coreMemSize
  | .flat a => a + i

def Place.plus (p : Place) (k : Nat) : Place :=
  match p with
  | .core n off => .core n ((off + k) % coreMemSize)
  | .flat a => .flat (a + k)

/-- k bytes from byte i of a place. -/
def State.readAt (s : State) (p : Place) (i : Nat) : Nat → List Byte
  | 0 => []
  | k + 1 => s.byte (p.addr i) :: s.readAt p (i + 1) k

def State.readBytes (s : State) (p : Place) (k : Nat) : List Byte := s.readAt p 0 k

def State.writeAt (s : State) (p : Place) (i : Nat) : List Byte → State
  | [] => s
  | b :: bs => (s.setByte (p.addr i) b).writeAt p (i + 1) bs

def State.writeBytes (s : State) (p : Place) (bs : List Byte) : State := s.writeAt p 0 bs

/-- Little-endian value of bytes (R2). -/
def leNat : List Byte → Nat
  | [] => 0
  | b :: bs => b.toNat + 256 * leNat bs

/-- The k little-endian bytes of a value. -/
def leBytes : Nat → Nat → List Byte
  | 0, _ => []
  | k + 1, v => BitVec.ofNat 8 v :: leBytes k (v / 256)

def State.readLE (s : State) (p : Place) (k : Nat) : Nat := leNat (s.readBytes p k)

/-! ### Cores -/

def State.core (s : State) (n : Nat) : Core := look (fun _ => Core.reset) s.cores n
def State.setCore (s : State) (n : Nat) (c : Core) : State :=
  { s with cores := put (fun _ => Core.reset) s.cores n c }

/-- Scalar register i of core n. -/
def State.sr (s : State) (n i : Nat) : Word := s.reg (R.SREG n i)
def State.setSr (s : State) (n i : Nat) (v : Word) : State := s.setReg (R.SREG n i) v

/-- Predicate i of core n; p0 is always 1 (Table 5.1). -/
def State.pr (s : State) (n i : Nat) : Bool := i == 0 || (s.reg (R.PRED n)).getLsbD i
/-- A predicate written; writes to p0 are ignored (R104). -/
def State.setPr (s : State) (n i : Nat) (v : Bool) : State :=
  if i = 0 then s else s.setFld ⟨R.PRED n, i, i⟩ (b2n v)

/-- Descriptor register d of core n. -/
def State.descr (s : State) (n d : Nat) : BitVec 256 :=
  (s.reg (R.DREG n d 3)) ++ (s.reg (R.DREG n d 2)) ++ (s.reg (R.DREG n d 1)) ++ (s.reg (R.DREG n d 0))

/-- Mask register i of core n; m0 is all ones (Table 7.1). -/
def State.mask (s : State) (n i : Nat) : BitVec 256 :=
  if i = 0 then BitVec.allOnes 256
  else (s.reg (R.MREG n i 3)) ++ (s.reg (R.MREG n i 2)) ++ (s.reg (R.MREG n i 1)) ++ (s.reg (R.MREG n i 0))
def State.setMask (s : State) (n i : Nat) (v : BitVec 256) : State :=
  if i = 0 then s
  else (((s.setReg (R.MREG n i 0) (v.extractLsb' 0 64)).setReg (R.MREG n i 1) (v.extractLsb' 64 64)).setReg
    (R.MREG n i 2) (v.extractLsb' 128 64)).setReg (R.MREG n i 3) (v.extractLsb' 192 64)

/-- A tile-moving write of core n, issued as syllable y, failed, was refused or was suppressed (R482). -/
def State.tileFail (s : State) (n y : Nat) : State :=
  let c := s.core n
  s.setCore n { c with wfail := some (match c.wfail with | some z => min z y | none => y) }

/-- A float or integer of the next free value (opaque). -/
def State.freeVal (s : State) : Nat × State := (Config.freeNat s.fresh, { s with fresh := s.fresh + 1 })

/-! ### Operations in flight -/

/-- The order of effects: cycle, then phase, then core number. -/
def Late.before (a b : Late) : Bool :=
  decide (a.due < b.due) || (a.due == b.due && (decide (a.phase < b.phase) || (a.phase == b.phase && decide (a.n < b.n))))

/-- An operation in flight added after those of equal place, so that of two writes in one cycle the later-issued
stands (R112). -/
def insertLate (l : Late) : List Late → List Late
  | [] => [l]
  | x :: xs => if l.before x then l :: x :: xs else x :: insertLate l xs

def State.pushLate (s : State) (n due phase : Nat) (op : LateOp) : State :=
  { s with late := insertLate ⟨n, (s.core n).cur, due, phase, op⟩ s.late }

/-! ### Event sources (R435, R436) -/

def pendFld (i : Nat) : Fld := ⟨R.PEND (i / 64), i % 64, i % 64⟩
def rawFld (i : Nat) : Fld := ⟨R.RAW (i / 64), i % 64, i % 64⟩
def inservFld (i : Nat) : Fld := ⟨R.INSERV (i / 64), i % 64, i % 64⟩

/-- Target + 1 to which a source is assigned; 0 for none. -/
def State.assignedTo (s : State) (i : Nat) : Nat := look (fun _ => 0) s.evc.assigned i
/-- The round-robin pointer of a source; it resets to 3 (R438). -/
def State.rrPtr (s : State) (i : Nat) : Nat := look (fun _ => 3) s.evc.ptr i
def State.tgtStack (s : State) (t : Nat) : List (Nat × Nat) := look (fun _ => []) s.evc.stk t

/-- A target is eligible for a source: its bit in TARGETS is set and its EN is 1 (R438). -/
def State.eligible (s : State) (i t : Nat) : Bool :=
  (s.fld (F.SRC_CFG_TARGETS i)).testBit t && s.flag (F.TGT_CTRL_EN t)

/-- The assignment of R438: a source in service is assigned at its completion (R440); a pending source without an eligible target of its own takes the first eligible target
after its pointer. -/
def State.assignSource (s : State) (i : Nat) : State :=
  let a := s.assignedTo i
  if !(s.flag (pendFld i)) || s.flag (inservFld i) then
    { s with evc := { s.evc with assigned := put (fun _ => 0) s.evc.assigned i 0 } }
  else if a != 0 && s.eligible i (a - 1) then s
  else
    let p := s.rrPtr i
    match [p + 1, p + 2, p + 3, p + 4].find? (fun t => s.eligible i (t % 4)) with
    | some t => { s with evc := { s.evc with
        assigned := put (fun _ => 0) s.evc.assigned i (t % 4 + 1)
        ptr := put (fun _ => 3) s.evc.ptr i (t % 4) } }
    | none => { s with evc := { s.evc with assigned := put (fun _ => 0) s.evc.assigned i 0 } }

/-- PEND of a level source that is not in service equals RAW (R436). -/
def State.levelSync (s : State) (i : Nat) : State :=
  if s.flag (F.SRC_CFG_MODE i) && !(s.flag (inservFld i)) then
    (s.setFld (pendFld i) (s.fld (rawFld i))).assignSource i
  else s

/-- A one-cycle pulse of a source (R435, R436): RAW is set; an edge source becomes pending, or its pulse is merged and
counted when it is pending already; a level source follows RAW. The source is assigned in the same cycle (R438). -/
def State.raise (s : State) (i : Nat) : State :=
  let s1 := s.setFld (rawFld i) 1
  if s1.flag (F.SRC_CFG_MODE i) then s1.levelSync i
  else if s1.flag (pendFld i) then s1.incFld F.EVC_MERGED_COUNT 1
  else (s1.setFld (pendFld i) 1).assignSource i

end Sys2Proof.Machine
end

