-- ==== Sys2Proof/Machine/Operands.lean ====
section
/-! DEFINITION. The operand forms of the slots (R108, R109, R136 to R138, R219), fault conditions, and the results
with a latency (R111). -/

namespace Sys2Proof.Machine

/-- Bits hi to lo of a syllable's fields. -/
def fb (y : Syl) (hi lo : Nat) : Nat := bitsOf y.f.toNat hi lo

/-- The syllable as its 32-bit word (R108). -/
def sylWord (op : Nat) (y : Syl) : Nat := (op <<< 26) + (y.pred.toNat <<< 22) + y.f.toNat

/-- A fault condition: its code (Table 5.4) and FAULT_INFO. -/
abbrev FaultC := Nat × Nat

/-- One condition of a check list. -/
def faultIf (c : Bool) (code info : Nat) : List FaultC := if c then [(code, info)] else []

/-- The scalar register named by bits hi to lo. -/
def srF (y : Syl) (s : State) (hi lo : Nat) : Word := s.sr y.n (fb y hi lo)

/-- A result for scalar register rd that becomes visible after latency l (R111). -/
def writeSr (y : Syl) (u l rd : Nat) (v : Word) (s : State) : State := s.pushLate y.n (u + l) 0 (.sreg rd v)

/-- A predicate result with latency 1. -/
def writePr (y : Syl) (u pd : Nat) (v : Bool) (s : State) : State := s.pushLate y.n (u + 1) 0 (.pred pd v)

/-- A core memory offset operand: bits 23:6 of a scalar register, in units of 64 bytes (R137). -/
def coreOff (w : Word) : Nat := bitsOf w.toNat 23 6 * 64

/-- A tier address is for this device when its node is 0xFFFF or the device's own node ID (R138). -/
def State.nodeLocal (s : State) (node : Nat) : Bool := node == 0xFFFF || node == s.fld F.FAB_NODE_NODE

def inRange (a len lo hi : Nat) : Bool := decide (lo ≤ a) && decide (a + len ≤ hi)

/-- The permission bits of a window entry (Table 8.9). -/
def permRD : Nat := 32
def permWR : Nat := 33
def permRADD : Nat := 34
def permATOM : Nat := 35
def permMSG : Nat := 36

/-- Entry i of the window table of core n, as LO and HI words. -/
def State.winLo (s : State) (n i : Nat) : Word := s.reg (R.WINDOW_LO n i)
def State.winHi (s : State) (n i : Nat) : Word := s.reg (R.WINDOW_HI n i)

/-- Whether a window entry grants a permission for granule g of a node (R219). -/
def winGrants (lo hi : Word) (node g perm : Nat) : Bool :=
  let base := getBits lo 26 0
  let count := getBits hi 26 0
  let enode := getBits hi 63 48
  let mask := getBits hi 47 32
  decide (base ≤ g) && decide (g < base + count) && lo.getLsbD perm &&
    (if enode = 0xFFFF then node == 0xFFFF else node != 0xFFFF && (node ^^^ enode) &&& mask == 0)

/-- Whether any entry of the window table of core n grants a permission for one granule (R219). -/
def State.granule (s : State) (n node g perm : Nat) : Bool :=
  (List.range 256).any fun i => winGrants (s.winLo n i) (s.winHi n i) node g perm

/-- Every granule that len bytes at local address a touch is permitted (R219). -/
def State.granted (s : State) (n node a len perm : Nat) : Bool :=
  let node' := if node == s.fld F.FAB_NODE_NODE then 0xFFFF else node
  let g0 := a / 0x200000
  let g1 := (a + (len - 1)) / 0x200000
  (List.range (g1 + 1 - g0)).all fun i => s.granule n node' ((g0 + i) % 2 ^ 27) perm

/-- A store of len bytes at local address a touches a protected fern region (R346): an attention engine whose STATE is
ON or CLOSING protects FERN_BASE to FERN_BASE + FERN_KIB × 4 KiB − 1. -/
def State.fernTouched (s : State) (a len : Nat) : Bool :=
  (List.range 16).any fun q =>
    let st := s.fld (F.ATT_CTRL_STATE q)
    let b := s.fld (F.ATT_FERN_BASE q)
    let l := s.fld (F.ATT_CONF_FERN_KIB q) * 4096
    (st == 1 || st == 2) && decide (a < b + l) && decide (b < a + len) && decide (0 < len)

/-- Row bytes of the SZ codes (Table 6.9). -/
def szBytes (sz : Nat) : Nat :=
  match sz with
  | 0 => 8
  | 1 => 128
  | 2 => 256
  | 3 => 512
  | 4 => 1024
  | _ => 3072

/-- Transfer cycles T of the SZ codes (Table 6.9): 32 rows at 512 bytes per cycle, at least one cycle. -/
def szCycles (sz : Nat) : Nat := max 1 (32 * szBytes sz / 512)

/-- Signed comparison helpers of Table 6.6. -/
def condHolds (cond : Nat) (a b : Word) : Bool :=
  match cond with
  | 0 => a == b
  | 1 => a != b
  | 2 => a.slt b
  | 3 => !(a.slt b)
  | 4 => a.ult b
  | 5 => !(a.ult b)
  | 6 => a &&& b != 0
  | _ => a &&& b == 0

end Sys2Proof.Machine
end

