-- ==== Sys2Proof/Machine/RegAccess.lean ====
section
/-! DEFINITION. Access to control registers by access type (R4 to R10) and the registers of a core's control block
whose reads are views of the core's state or whose writes have a rule of their own. -/

namespace Sys2Proof

/-! ### Access types (Table 0.2) -/

/-- The bits of a register that an access names (R4). -/
def AccSz.mask : AccSz → Word
  | .w64 => BitVec.allOnes 64
  | .lo => 0xFFFFFFFF#64
  | .hi => 0xFFFFFFFF00000000#64

/-- Written data moved to the bits it is for. -/
def AccSz.place (sz : AccSz) (v : Word) : Word :=
  match sz with
  | .w64 => v
  | .lo => v &&& 0xFFFFFFFF#64
  | .hi => v <<< 32

/-- The data a read returns. -/
def AccSz.get (sz : AccSz) (w : Word) : Word :=
  match sz with
  | .w64 => w
  | .lo => w &&& 0xFFFFFFFF#64
  | .hi => w >>> 32

/-- A register value with the accessed bits replaced. -/
def AccSz.merge (sz : AccSz) (old v : Word) : Word := (old &&& ~~~sz.mask) ||| (sz.place v &&& sz.mask)

end Sys2Proof

namespace Sys2Proof.Machine

/-- The register address and part that an aligned 32-bit or 64-bit access names (R4). -/
def accOf (a size : Nat) : Option (Nat × AccSz) :=
  if size = 8 ∧ a % 8 = 0 then some (a, .w64)
  else if size = 4 ∧ a % 8 = 0 then some (a, .lo)
  else if size = 4 ∧ a % 8 = 4 then some (a - 4, .hi)
  else none

def FieldDesc.mask (f : FieldDesc) : Word := BitVec.ofNat 64 ((2 ^ (f.hi + 1 - f.lo) - 1) <<< f.lo)

/-- The effect of a software write on one field (R5). -/
def FieldDesc.write (f : FieldDesc) (m data w : Word) : Word :=
  let fm := f.mask &&& m
  match f.acc with
  | .rw => (w &&& ~~~fm) ||| (data &&& fm)
  | .w1c => w &&& ~~~(data &&& fm)
  | .w1s => w ||| (data &&& fm)
  | .ro => w
  | .rc => w

/-- A register value after a software write, field by field (R5, R8). -/
def RegDesc.write (d : RegDesc) (sz : AccSz) (old v : Word) : Word :=
  d.fields.foldl (fun w f => f.write sz.mask (sz.place v) w) old

/-- A register value after a read: the accessed RC fields are cleared (R5, R6). -/
def RegDesc.afterRead (d : RegDesc) (sz : AccSz) (old : Word) : Word :=
  d.fields.foldl (fun w f => if f.acc = .rc then w &&& ~~~(f.mask &&& sz.mask) else w) old

/-- A software write by access type; ignored at an unassigned offset (R4, R5). -/
def State.writeByType (s : State) (a : Nat) (sz : AccSz) (v : Word) : State :=
  match regAt a with
  | none => s
  | some d => s.setReg a (d.write sz (s.reg a) v)

/-- The RC fields of a register cleared by a read. -/
def State.clearRead (s : State) (a : Nat) (sz : AccSz) : State :=
  match regAt a with
  | none => s
  | some d => s.setReg a (d.afterRead sz (s.reg a))

/-! ### Engine states (R442) -/

/-- STATE of an engine's control register, bits 2:1. -/
def State.engState (s : State) (ctl : Nat) : Nat := getBits (s.reg ctl) 2 1
def State.setEngState (s : State) (ctl v : Nat) : State := s.setFld ⟨ctl, 2, 1⟩ v
def State.setEnable (s : State) (ctl v : Nat) : State := s.setFld ⟨ctl, 0, 0⟩ v

/-- Setting ENABLE of an OFF engine makes its STATE ON in the next cycle (R442). Core number 64 stands for the engines. -/
def State.engineEnable (s : State) (ctl : Nat) : State :=
  if s.engState ctl = 0 ∧ getBits (s.reg ctl) 0 0 = 0 then
    (s.setEnable ctl 1).pushLate 64 (s.now + 1) 0 (.engineOn ctl)
  else s

def coreState (s : State) (n : Nat) : Nat := s.fld (F.SEQ_CTRL_STATE n)
def coreRun (s : State) (n : Nat) : Nat := s.fld (F.SEQ_STATUS_RUN n)

def runIDLE : Nat := 0
def runRUNNING : Nat := 1
def runSTALLED : Nat := 2
def runDONE : Nat := 3
def runFAULT : Nat := 4

/-- RUN is IDLE, DONE or FAULT (R128, R133, R203). -/
def coreIdle (s : State) (n : Nat) : Bool :=
  coreRun s n == runIDLE || coreRun s n == runDONE || coreRun s n == runFAULT

/-! ### Views of the core block -/

def State.bcastOf (s : State) (q : Nat) : Bcast := look (fun _ => Bcast.reset) s.bcast q
/-- The quartet stream is open in cycle u (R37). -/
def Bcast.openAt (b : Bcast) (u : Nat) : Bool := b.v != 0 && decide (b.us ≤ u) && decide (u < b.us + b.v)

/-- A fill or drain of a slot is in flight in cycle u (Table 4.9). -/
def Core.slotBusy (c : Core) (u slot : Nat) : Bool := c.slotOps.any fun o => o.slot == slot && decide (u ≤ o.last)

/-- Remote additions into ACC slot i incomplete in cycle u, or OPEN set (R87). -/
def accActive (s : State) (n i : Nat) : Bool :=
  (s.fld (F.ACC_REMOTE_OPEN n)).testBit i ||
    decide (s.now < look (fun _ => 0) (s.core n).raddUntil i)

def foldBits (k : Nat) (f : Nat → Bool) : Nat :=
  (List.range k).foldl (fun a i => a + (if f i then 2 ^ i else 0)) 0

def Stream.stagedCount (t : Stream) (now : Nat) : Nat :=
  (t.slots.filter fun x => (x.st == .ready) && decide (x.readyAt ≤ now)).length

def Core.stream (c : Core) (d : Nat) : Option Stream := (c.streams.find? fun p => p.1 == d).map (·.2)
def Core.setStream (c : Core) (d : Nat) (t : Stream) : Core :=
  { c with streams := if c.streams.any (fun p => p.1 == d) then c.streams.map (fun p => if p.1 == d then (d, t) else p)
      else c.streams ++ [(d, t)] }
def Core.dropStream (c : Core) (d : Nat) : Core := { c with streams := c.streams.filter fun p => p.1 != d }

/-- Output tiles of an opening placed and not yet counted. -/
def Core.placedOf (c : Core) (openId : Nat) : Nat := (c.placed.filter fun t => t.openId == openId).length

/-- STREAM_PROG[d] (Table 9.13): of the present or the last opening of stream d. -/
def streamProg (s : State) (n d : Nat) (raw : Word) : Word :=
  match (s.core n).stream d with
  | none => raw
  | some t =>
    let staged := if t.out then (s.core n).placedOf t.openId else t.stagedCount s.now
    setBits (setBits (setBits (setBits raw 41 41 (b2n (t.slots.any fun x => x.st == .failed))) 40 40 (b2n t.stopped))
      39 32 staged) 31 0 t.taken

/-- The half of instruction memory named by a half-bundle index. -/
def Core.imemHalf (c : Core) (h : Nat) : Word :=
  let b := look (fun _ => 0#128) c.imem (h / 2)
  if h % 2 = 0 then b.extractLsb' 0 64 else b.extractLsb' 64 64

/-- The word of the tile registers named by VREG_PTR.WORD (Table 7.17). -/
def Core.vregWord (c : Core) (w : Nat) : Word :=
  let k := (w / 4096) * 8192 + (w / 128 % 32) * 256 + 2 * (w % 128)
  (look (fun _ => 0#32) c.vregs (k + 1)) ++ (look (fun _ => 0#32) c.vregs k)

/-- Syllables in flight at core n (R443). -/
def State.inFlight (s : State) (n : Nat) (syl : Nat) : Bool := s.late.any fun l => l.n == n && l.syl == syl

def closeDone (s : State) (n : Nat) (raw : Word) : Word :=
  let k := ((s.core n).closing.filter fun y => !(s.inFlight n y)).length
  setBits raw 63 32 (min (getBits raw 63 32 + k) (2 ^ 32 - 1))

/-- A register of the control block of core n as a read returns it: the stored value with its views (Tables 2.6, 4.9,
4.10, 5.17, 5.20, 6.23, 6.24, 7.15 to 7.17, 9.13). -/
def coreView (s : State) (n off : Nat) (raw : Word) : Word :=
  let c := s.core n
  let u := s.now
  if off = 0x4008 then
    let b := s.bcastOf (n / 4)
    let open? := b.openAt u
    let act := if c.activeSlot then c.wvalid.2 else c.wvalid.1
    let shd := if c.activeSlot then c.wvalid.1 else c.wvalid.2
    setBits raw 7 0 ((if open? then (b.sender % 4) * 64 + 32 else 0) + 16 * b2n (decide (u < c.mmFree)) +
      8 * b2n (decide (u < c.loadFree)) + 4 * b2n shd + 2 * b2n act + b2n c.activeSlot)
  else if off = 0x4200 then
    setBits raw 19 0 ((foldBits 16 fun i => c.slotBusy u (2 + i)) * 16 + 8 * b2n (c.slotBusy u 1) +
      4 * b2n (c.slotBusy u 0) + 2 * b2n (decide (u < c.portFree)) +
      b2n (match c.held with | some h => h.mask.acc | none => false))
  else if off = 0x4208 then setBits raw 31 16 (foldBits 16 fun i => accActive s n i)
  else if off = 0x1030 then BitVec.ofNat 64 u
  else if off = 0x1070 then c.imemHalf (getBits (s.reg (R.IMEM_PTR n)) 14 0)
  else if off = 0x1190 then
    let opened (d : Nat) := (c.stream d).isSome
    let outs (d : Nat) := match c.stream d with | some t => t.out | none => false
    BitVec.ofNat 64 (foldBits 32 opened + 2 ^ 32 * foldBits 32 outs)
  else if off = 0x1198 then BitVec.ofNat 64 (128 * b2n (decide (u < c.moveFree)) + c.fq.length)
  else if off = 0x4408 then
    BitVec.ofNat 64 (2 * b2n (decide (u < max c.vecDone c.nmsDone)) + b2n (decide (u < c.vecFree)))
  else if 0x4440 ≤ off ∧ off < 0x4460 then BitVec.allOnes 64
  else if off = 0x4548 then c.vregWord (getBits (s.reg (R.VREG_PTR n)) 14 0)
  else if 0x5100 ≤ off ∧ off < 0x5200 then streamProg s n ((off - 0x5100) / 8) raw
  else if off = 0x5300 then closeDone s n raw
  else if off = 0x5400 then 0#64
  else if off = 0x1008 then setBits raw 0 0 0
  else raw

/-- The base address of the control block of core n. -/
def coreBlock (n : Nat) : Nat := 0x7F0001000000 + n * 0x10000

/-- A read of a register of the control block of core n: its data and the state after it (RC fields cleared,
IMEM_DATA and VREG_DATA advanced on 64-bit accesses). -/
def coreRead (s : State) (n off : Nat) (sz : AccSz) : Word × State :=
  let a := coreBlock n + off
  let v := sz.get (coreView s n off (s.reg a))
  let s1 :=
    if off = 0x1070 then
      (if sz = .w64 then s.setFld (F.IMEM_PTR_HALF n) (s.fld (F.IMEM_PTR_HALF n) + 1) else s)
    else if off = 0x4548 then
      (if sz = .w64 then s.setFld (F.VREG_PTR_WORD n) (s.fld (F.VREG_PTR_WORD n) + 1) else s)
    else s.clearRead a sz
  (v, s1)

/-! ### Writes with rules of their own in the core block -/

/-- R51: a lichen register write. -/
def lichenWrite (s : State) (n : Nat) (col : Bool) (i : Nat) (sz : AccSz) (v : Word) : State :=
  let a := if col then R.LICHEN_COL n i else R.LICHEN_ROW n i
  let other := s.reg (if col then R.LICHEN_COL n (1 - i) else R.LICHEN_ROW n (1 - i))
  let new := match regAt a with
    | some d => d.write sz (s.reg a) v
    | none => s.reg a
  let logical := getBits new 8 0
  let clash := getBits new 15 15 == 1 && getBits other 15 15 == 1 && getBits other 8 0 == logical
  if coreState s n ≠ 0 ∨ 256 < logical ∨ clash then s.setFld (F.ARRAY_STATE_MAP_ERR n) 1
  else s.setReg a new

/-- R78: a write of SR_STATE stands over an advance of the same cycle. -/
def srStateWrite (s : State) (n : Nat) (sz : AccSz) (v : Word) : State :=
  s.setReg (R.SR_STATE n) (sz.merge (s.reg (R.SR_STATE n)) v)

/-- R133: the register windows accept writes only while RUN is IDLE, DONE or FAULT. -/
def seqRegAddr (n : Nat) : SeqReg → Nat
  | .sreg i => R.SREG n i
  | .pred => R.PRED n
  | .kreg i => R.KREG n i
  | .dreg i w => R.DREG n i w

def seqRegWrite (s : State) (n : Nat) (r : SeqReg) (sz : AccSz) (v : Word) : State :=
  if coreIdle s n then { s.writeByType (seqRegAddr n r) sz v with reply := .ok }
  else { s with reply := .accessError }

/-- R133: a write of IMEM_PTR sets HALF and discards a held low half. -/
def imemPtrWrite (s : State) (n : Nat) (sz : AccSz) (v : Word) : State :=
  (s.writeByType (R.IMEM_PTR n) sz v).setCore n { s.core n with imemHeld := none }

/-- A bundle written whole with new check bits: any error at its address is gone (R105, R133). -/
def Core.putBundle (c : Core) (b : Nat) (lo hi : Word) : Core :=
  { c with imem := put (fun _ => 0#128) c.imem b (hi ++ lo), imemErr := put (fun _ => 0) c.imemErr b 0,
           imemHeld := none }

/-- R133: a write of IMEM_DATA. -/
def imemDataWrite (s : State) (n : Nat) (sz : AccSz) (v : Word) : State :=
  if coreIdle s n then
    let c := s.core n
    let h := s.fld (F.IMEM_PTR_HALF n)
    let b := h / 2
    let c1 :=
      if h % 2 = 0 then
        let old := match c.imemHeld with
          | some (b', w) => if b' = b then w else c.imemHalf h
          | none => c.imemHalf h
        { c with imemHeld := some (b, sz.merge old v) }
      else
        let lo := match c.imemHeld with
          | some (b', w) => if b' = b then w else c.imemHalf (2 * b)
          | none => c.imemHalf (2 * b)
        c.putBundle b lo (sz.merge (c.imemHalf h) v)
    let s1 := s.setCore n c1
    { (if sz = .w64 then s1.setFld (F.IMEM_PTR_HALF n) (h + 1) else s1) with reply := .ok }
  else { s with reply := .accessError }

/-- R155: increments of a COMP counter in the present cycle. -/
def compAdd (s : State) (n c k : Nat) : State :=
  let co := s.core n
  let old := look (fun _ => (0, 0)) co.compCyc c
  let sum := if old.1 = s.now then old.2 + k else k
  (s.setFld (F.COMP_COUNT n c) ((s.fld (F.COMP_COUNT n c) + k) % 2 ^ 32)).setCore n
    { co with compCyc := put (fun _ => (0, 0)) co.compCyc c (s.now, sum) }

/-- R155: a write of a COMP counter made in cycle u: the written value plus the increments of that cycle. -/
def compWrite (s : State) (n c u : Nat) (sz : AccSz) (v : Word) : State :=
  let r := look (fun _ => (0, 0)) (s.core n).compCyc c
  let inc := if r.1 = u then r.2 else 0
  match sz with
  | .hi => s
  | _ => s.setFld (F.COMP_COUNT n c) ((getBits v 31 0 + inc) % 2 ^ 32)

/-- R203: a mask window write. -/
def vecIdle (s : State) (n : Nat) : Bool :=
  coreIdle s n && decide (max (s.core n).vecDone (s.core n).nmsDone ≤ s.now)

def mregWrite (s : State) (n i w : Nat) (sz : AccSz) (v : Word) : State :=
  if vecIdle s n then
    { (if i = 0 then s else s.writeByType (R.MREG n i w) sz v) with reply := .ok }
  else { s with reply := .accessError }

/-- R203: a write of VREG_DATA. -/
def vregDataWrite (s : State) (n : Nat) (sz : AccSz) (v : Word) : State :=
  if vecIdle s n then
    let c := s.core n
    let w := s.fld (F.VREG_PTR_WORD n)
    let new := sz.merge (c.vregWord w) v
    let k := (w / 4096) * 8192 + (w / 128 % 32) * 256 + 2 * (w % 128)
    let vr := put (fun _ => 0#32) (put (fun _ => 0#32) c.vregs k (new.extractLsb' 0 32)) (k + 1) (new.extractLsb' 32 32)
    let s1 := s.setCore n { c with vregs := vr }
    { (if sz = .w64 then s1.setFld (F.VREG_PTR_WORD n) (w + 1) else s1) with reply := .ok }
  else { s with reply := .accessError }

/-- R222: a window table write is accepted only while the core's STATE is OFF. -/
def windowWrite (s : State) (n i : Nat) (hi : Bool) (sz : AccSz) (v : Word) : State :=
  if coreState s n = 0 then s.writeByType (if hi then R.WINDOW_HI n i else R.WINDOW_LO n i) sz v
  else s.setFld (F.WIN_STATUS_LOCK_ERR n) 1

/-! ### Enable, start and closing of a core (R128, R130) -/

/-- R128: a write of SEQ_START, in which GO is accepted or ignored. -/
def seqStartWrite (s : State) (n : Nat) (sz : AccSz) (v : Word) : State :=
  let s1 := s.writeByType (R.SEQ_START n) sz v
  if !(s1.flag (F.SEQ_START_GO n)) then s1
  else
    let s2 := s1.setFld (F.SEQ_START_GO n) 0
    if coreState s n = 1 ∧ coreIdle s n = true ∧ s.flag (F.FAULT_REC_VALID n) = false then
      let s3 := (((s2.setFld (F.SEQ_STATUS_PC n) (s2.fld (F.SEQ_START_ADDR n))).setFld (F.SEQ_STATUS_KDEPTH n) 0).setFld
        (F.SEQ_STATUS_STALL n) 0).setFld (F.SEQ_STATUS_RUN n) runRUNNING
      let s4 := ((s3.setReg (R.CFS_FETCH n) 0xFFFFFFFF#64).setReg (R.CFS_CHECK n) 0xFFFFFFFF#64).setFld
        (F.CLAIM_CUR_VALID n) 0
      let c := s4.core n
      s4.setCore n { c with branch := none, pastEnd := false, held := none, latch := [],
                            nextIssue := max c.nextIssue (s.now + 1) }
    else s2.setFld (F.SEQ_STATUS_START_IGN n) 1

/-- Held window words are discarded when STATE leaves OFF (R83). -/
def coreEnable (s : State) (n : Nat) : State :=
  if coreState s n = 0 ∧ s.fld (F.SEQ_CTRL_ENABLE n) = 0 then
    (s.engineEnable (R.SEQ_CTRL n)).setCore n { (s.engineEnable (R.SEQ_CTRL n)).core n with accHeld := none }
  else s

/-- An input tile whose requests have issued and whose data has not all been delivered. -/
def StgSlot.undelivered (x : StgSlot) : Bool := x.st == .requested || (x.st == .stale && !x.left.isEmpty)

/-- Work of a fabric operation, which counts through the operation itself (R443). -/
def LateOp.ofQueue : LateOp → Bool
  | .fqRows .. => true
  | .fqDone _ => true
  | _ => false

/-- R130, R251, R443: the core closes: no further bundle issues, undelivered tier fetches are discarded and counted as
abandoned, the counts start. -/
def coreDisable (s : State) (n : Nat) : State :=
  if coreState s n = 1 ∧ s.fld (F.SEQ_CTRL_ENABLE n) = 1 then
    let c := s.core n
    let ab := (c.streams.map fun p => if p.2.out then 0 else (p.2.slots.filter (·.undelivered)).length).foldl (· + ·) 0
    let syls := ((s.late.filter fun l => l.n == n && !l.op.ofQueue).map (·.syl)).eraseDups
    let s1 := ((s.setEnable (R.SEQ_CTRL n) 0).setEngState (R.SEQ_CTRL n) 2).setFld (F.SEQ_STATUS_STALL n) 0
    let s2 := s1.setReg (R.CORE_CLOSE n) (BitVec.ofNat 64 ab)
    let s3 := s2.setCore n { c with held := none, latch := [], dueFaults := [], closing := syls,
                                    streams := c.streams.filter fun p => p.2.out }
    -- a deferred fault that no bundle has met is recorded now (R125)
    c.dueFaults.foldl (fun st d => st.pushLate n st.now 0 (.deferred d)) s3
  else s

/-- R130: the last operation in flight of a closing core has completed. -/
def coreCloseDone (s : State) (n : Nat) : State :=
  let c := s.core n
  if coreState s n = 2 ∧ (s.late.any fun l => l.n == n) = false ∧ c.fq = [] ∧ c.placed = [] then
    let s1 := s.setReg (R.CORE_CLOSE n) (closeDone s n (s.reg (R.CORE_CLOSE n)))
    (((s1.setEngState (R.SEQ_CTRL n) 0).setFld (F.SEQ_STATUS_RUN n) runIDLE).setCore n { c with closing := [], streams := [] }).raise n
  else s

/-! ### The accumulator window (R82 to R84) -/

/-- Columns of a slot row (Table 4.1). -/
def slotCols : Nat := 258
/-- Key of the entry of a slot (0 PING, 1 PONG, 2 + i ACC[i]) at a row and column. -/
def entryKey (slot row col : Nat) : Nat := (slot * 256 + row) * slotCols + col

def Core.entry (c : Core) (slot row col : Nat) : L96 := look (fun _ => 0#96) c.slots (entryKey slot row col)

/-- fold(v): the sum modulo 2^32 of the three 32-bit words of an entry (R48). -/
def foldEntry (v : L96) : Nat := (getW v 0 + getW v 1 + getW v 2) % 2 ^ 32
where getW (v : L96) (i : Nat) : Nat := bitsOf v.toNat (32 * i + 31) (32 * i)

/-- An entry written; PING and PONG keep their storage signatures (R48), and an entry written whole has new check
bits (R85). -/
def Core.setEntry (c : Core) (slot row col : Nat) (v : L96) : Core :=
  let k := entryKey slot row col
  let c1 := { c with slots := put (fun _ => 0#96) c.slots k v, accErr := put (fun _ => 0) c.accErr k 0 }
  if slot < 2 then
    let sk := slot * slotCols + col
    let sig := look (fun _ => 0) c.sigs sk
    { c1 with sigs := put (fun _ => 0) c.sigs sk ((sig + foldEntry v + (2 ^ 32 - foldEntry (c.entry slot row col))) % 2 ^ 32) }
  else c1

/-- The sum of entries in order and the sum of their magnitudes, as long totals (R84, R86, R89). -/
def sumEntries (es : List L96) : Tot :=
  match es with
  | [] => Tot.zero
  | e :: r => r.foldl (fun t x => Tot.add t (L96.dec x)) (L96.dec e)
def sumAbsEntries (es : List L96) : Tot :=
  match es with
  | [] => Tot.zero
  | e :: r => r.foldl (fun t x => Tot.add t (L96.dec x).abs) (L96.dec e).abs

/-- R84: the check side store of a row recomputed from its 256 entries. -/
def Core.recheckRow (c : Core) (slot row : Nat) : Core :=
  let es := (List.range 256).map fun j => c.entry slot row j
  (c.setEntry slot row 256 (sumEntries es).enc).setEntry slot row 257 (sumAbsEntries es).enc

/-- Entry of the accumulator window at an offset (R82): slot, row, column, byte within the entry. -/
def winEntry (off : Nat) : Nat × Nat × Nat × Nat :=
  (off / 0xC0000, off % 0xC0000 / 0xC00, off % 0xC00 / 12, off % 12)

/-- The bytes of the window at an offset. -/
def Core.winByte (c : Core) (off : Nat) : Byte :=
  let e := winEntry off
  BitVec.ofNat 8 (bitsOf (c.entry (2 + e.1) e.2.1 e.2.2.1).toNat (8 * e.2.2.2 + 7) (8 * e.2.2.2))

def Core.winNat (c : Core) (off : Nat) : Nat → Nat
  | 0 => 0
  | k + 1 => (c.winByte off).toNat + 256 * c.winNat (off + 1) k

/-- R83: a supervisor or debug read of the window. -/
def accWindowRead (s : State) (n off size : Nat) : State :=
  if coreState s n ≠ 0 ∨ ¬ ((size = 4 ∧ off % 4 = 0) ∨ (size = 8 ∧ off % 8 = 0)) ∨ 0xC00000 < off + size then
    { s with reply := .accessError }
  else
    let c := s.core n
    let keyAt (o : Nat) : Nat := let e := winEntry o; entryKey (2 + e.1) e.2.1 e.2.2.1
    let keys := [keyAt off, keyAt (off + size - 1)].eraseDups
    let errOf (k : Nat) : Nat := look (fun _ => 0) c.accErr k
    let ces := (keys.filter fun k => errOf k == 1).length
    let ues := (keys.filter fun k => errOf k == 2).length
    let c1 := { c with accErr := (keys.filter fun k => errOf k == 1).foldl (fun m k => put (fun _ => 0) m k 0) c.accErr }
    let s1 := (s.setCore n c1).incFld (F.ACC_CE_COUNT_COUNT n) ces
    if ues = 0 then { s1 with reply := .value (BitVec.ofNat 64 (c.winNat off size)) }
    else { (s1.incFld (F.ACC_UE_COUNT_COUNT n) ues).raise n with reply := .accessError }

/-- R83, R84: a supervisor or debug write of the window. -/
def accWindowWrite (s : State) (n off size : Nat) (v : Word) : State :=
  let c := s.core n
  let e := winEntry off
  let ent := off - e.2.2.2
  let w := getBits v 31 0
  let refuse : State := { s.setCore n { c with accHeld := none } with reply := .accessError }
  if coreState s n ≠ 0 ∨ size ≠ 4 ∨ off % 4 ≠ 0 ∨ 0xC00000 < off + size then refuse
  else if e.2.2.2 = 0 then { s.setCore n { c with accHeld := some (ent, [w]) } with reply := .ok }
  else match c.accHeld with
    | some (en, ws) =>
      if en = ent ∧ e.2.2.2 = 4 * ws.length then
        if ws.length = 1 then { s.setCore n { c with accHeld := some (ent, ws ++ [w]) } with reply := .ok }
        else
          let val : L96 := BitVec.ofNat 96 (ws.getD 0 0 + 2 ^ 32 * ws.getD 1 0 + 2 ^ 64 * w)
          let c1 := ({ c with accHeld := none }.setEntry (2 + e.1) e.2.1 e.2.2.1 val).recheckRow (2 + e.1) e.2.1
          { s.setCore n c1 with reply := .ok }
      else refuse
    | none => refuse

end Sys2Proof.Machine
end

