-- ==== Sys2Proof/Machine/Flags.lean ====
section
/-! DEFINITION. Status and flag computations: fault records (R123 to R125, R127), accumulator errors (R85), statistics
records and their finalisation (R97, R98), the bits of VEC_STATUS and DRAIN_STATUS. -/

namespace Sys2Proof.Machine

/-! ### Fault records -/

/-- FAULT_REC and FAULT_INFO of a fault (Tables 5.14 and 5.15); a fault that comes while VALID is 1 only sets MULTI. -/
def recordFault (s : State) (n code slot kind origin addr info : Nat) (multi : Bool) : State :=
  if s.flag (F.FAULT_REC_VALID n) then s.setFld (F.FAULT_REC_MULTI n) 1
  else
    (s.setReg (R.FAULT_REC n) (BitVec.ofNat 64 (2 ^ 63 + 2 ^ 62 * b2n multi + 2 ^ 60 * (slot % 4) + 2 ^ 58 * kind +
      2 ^ 32 * (origin % 2 ^ 14) + 2 ^ 16 * (addr % 2 ^ 14) + code))).setReg (R.FAULT_INFO n) (BitVec.ofNat 64 info)

/-- Slot numbers of FAULT_REC.SLOT. -/
def slotNo : SlotL → Nat
  | .s => 0
  | .m => 1
  | .a => 2
  | .v => 3

/-! ### Accumulator entries with their error code (R85) -/

/-- The signed bits of ACC_ERR_LAST (Table 4.14). -/
def accErrLast (src slot row col : Nat) : Nat := 2 ^ 63 + 2 ^ 61 * src + 2 ^ 20 * slot + 2 ^ 9 * row + col

def cACC_UNCORR : Nat := 0x1C
def cARRAY_CHECK : Nat := 0x15

/-- A checked read of an entry (R85): a single-bit error is corrected and counted; an uncorrectable entry reads as the
canonical NaN total with INV, is counted and recorded, raises the core's event and arms the deferred fault due in the
cycle after the operation's last. src names the reader in ACC_ERR_LAST. -/
def readEntry (s : State) (n slot row col src : Nat) (origin : Option Nat) (ord last : Nat) : L96 × State :=
  let c := s.core n
  let k := entryKey slot row col
  match look (fun _ => 0) c.accErr k with
  | 0 => (c.entry slot row col, s)
  | 1 =>
    (c.entry slot row col,
      (s.setCore n { c with accErr := put (fun _ => 0) c.accErr k 0 }).incFld (F.ACC_CE_COUNT_COUNT n) 1)
  | _ =>
    let s1 := (s.setCore n (c.setEntry slot row col L96.nanInv)).incFld (F.ACC_UE_COUNT_COUNT n) 1
    let s2 := if s1.flag (F.ACC_ERR_LAST_VALID n) then s1
      else s1.setReg (R.ACC_ERR_LAST n) (BitVec.ofNat 64 (accErrLast src (slot - 2) row col))
    let s3 := (s2.raise n).pushLate n (last + 1) 0
      (.deferred ⟨cACC_UNCORR, 2, origin, (s2.reg (R.ACC_ERR_LAST n)).toNat, ord⟩)
    (L96.nanInv, s3)

/-! ### Statistics records (R97, R98, Table 4.5) -/

/-- A statistics record taken apart. -/
structure StatRec where
  sum : Tot
  ssq : Tot
  count : Nat
deriving DecidableEq, Repr

def StatRec.zero : StatRec := ⟨Tot.zero, Tot.zero, 0⟩

/-- A value, taken exactly, and its exact square added to a record in order (R97). -/
def StatRec.addValue (r : StatRec) (v : XVal) : StatRec :=
  { r with sum := r.sum.add (Tot.ofX v false), ssq := r.ssq.add ⟨(v.mul v).1, false, false, false, false, 1⟩ }

/-- The finalisation of R98: MEAN and VAR as FP32 patterns, invalid operation, empty. -/
structure StatFin where
  mean : Nat
  var : Nat
  inv : Bool
  empty : Bool
  inx : Bool
  ovf : Bool
deriving DecidableEq, Repr

def XVal.negOrZero (v : XVal) : XVal := if v.neg? then .fin false 0 0 else v

/-- m and v of R98 with their invalid operations. -/
def statMoments (sum ssq : Tot) (n : Nat) : XVal × XVal × Bool :=
  let nn := XVal.ofNat n
  let q := sum.v.div nn
  let m := (rne64 q.1).1
  let p := m.mul sum.v
  let d := ssq.v.add (rne64 p.1).1.negate
  let e := (rne64 d.1).1.div nn
  (m, ((rne64 e.1).1).negOrZero, q.2.1 || p.2 || d.2 || e.2.1)

def statFinal (sum ssq : Tot) (n : Nat) : StatFin :=
  if n = 0 then ⟨fFP32.nan, fFP32.nan, false, true, false, false⟩
  else
    let r := statMoments sum ssq n
    let a := fFP32.cvt .rne r.1
    let b := fFP32.cvt .rne r.2.1
    ⟨a.1, b.1, r.2.2, false, a.2.inx || b.2.inx, a.2.ovf || b.2.ovf⟩

/-- The 64 bytes of a record (Table 4.5). -/
def StatRec.bytes (r : StatRec) (fin : Option StatFin) : List Byte :=
  leBytes 12 r.sum.enc.toNat ++ leBytes 12 r.ssq.enc.toNat ++ leBytes 4 r.count ++
    (match fin with
     | none => leBytes 12 0
     | some f => leBytes 4 (b2n f.empty + 2 * b2n f.inv) ++ leBytes 4 f.mean ++ leBytes 4 f.var) ++ leBytes 24 0

/-- A record as read from core memory. -/
def StatRec.ofBytes (bs : List Byte) : StatRec :=
  ⟨L96.dec (BitVec.ofNat 96 (leNat (bs.take 12))), L96.dec (BitVec.ofNat 96 (leNat ((bs.drop 12).take 12))),
    leNat ((bs.drop 24).take 4)⟩

/-- A record after one operation has added its values in order and, with FIN, finalised (R97, R98). -/
def statStep (old : StatRec) (acc fin : Bool) (vals : List XVal) : List Byte × Bool :=
  let r0 := if acc then old else StatRec.zero
  let r1 := vals.foldl StatRec.addValue r0
  let r2 := { r1 with count := min (r1.count + vals.length) (2 ^ 32 - 1) }
  let f := statFinal r2.sum r2.ssq r2.count
  (r2.bytes (if fin then some f else none), fin && f.empty)

/-! ### VEC_STATUS bits (Table 7.12) -/

def vINX : Nat := 1
def vOVF : Nat := 2
def vINV : Nat := 4
def vDZ : Nat := 8
def vEMPTY : Nat := 16
def vMASKED_ROW : Nat := 32
def vINF_SPLIT : Nat := 64
def vNAN_ROW : Nat := 128

def statOf (f : CvtFlags) : Nat := vINX * b2n f.inx + vOVF * b2n f.ovf + vINV * b2n f.inv

end Sys2Proof.Machine
end

