-- ==== Sys2Proof/Machine/Moss.lean ====
section
/-! DEFINITION. The moss tile (R280 to R286): headers, declared bytes, encoder and decoder. -/

namespace Sys2Proof.Machine

/-- Length of the worst-case encoded tile and of its slot (Table 11.1, R285). -/
def mossWorst : Nat := 16416
def mossSlot : Nat := 16448

/-- Header word fields (Table 11.2). -/
def hdrMode (h : Nat) : Nat := bitsOf h 31 30
def hdrCount (h : Nat) : Nat := bitsOf h 10 0

/-- A header that breaks R286 by itself: reserved mode or bits, or a COUNT outside the range of its mode. -/
def hdrInvalid (h : Nat) : Bool :=
  let m := hdrMode h
  let c := hdrCount h
  m == 3 || bitsOf h 29 11 != 0 ||
    (m == 0 && c != 0) || (m == 2 && (c == 0 || decide (959 < c))) || (m == 1 && (decide (c < 960) || decide (1024 < c)))

/-- Declared payload bytes (Table 11.3); a tier engine takes an invalid header's payload as 2,048 bytes. -/
def hdrPayload (h : Nat) : Nat :=
  if hdrInvalid h then 2048
  else match hdrMode h with
    | 0 => 0
    | 1 => 2048
    | _ => 128 + 2 * hdrCount h

/-- The eight header words of a tile at a place. -/
def mossHeaders (s : State) (p : Place) : List Nat := (List.range 8).map fun b => s.readLE (p.plus (4 * b)) 4

/-- Byte ranges (offset, length) that a tile declares (R281). -/
def declaredRanges (hs : List Nat) : List (Nat × Nat) :=
  (0, 32) :: (hs.zipIdx.map fun h => (32 + 2048 * h.2, hdrPayload h.1))

/-- The 256-byte units that hold a declared byte (R289). -/
def declaredUnits (hs : List Nat) : List Nat :=
  (List.range 65).filter fun u =>
    (declaredRanges hs).any fun r => decide (0 < r.2) && decide (r.1 < 256 * u + 256) && decide (256 * u < r.1 + r.2)

/-- The 16-bit element of a tile given by keys row × 256 + lane. -/
def tile16 (t : List (Nat × Nat)) (r l : Nat) : Nat := look (fun _ => 0) t (r * 256 + l)

/-- Elements (r, lane) of block b in ascending row and lane. -/
def blockElems (t : List (Nat × Nat)) (b : Nat) : List Nat :=
  (List.range 1024).map fun i => tile16 t (i / 32) (32 * b + i % 32)

/-- The encoding of one block: its header word and its declared payload (R283, R284). -/
def encodeBlock (es : List Nat) : Nat × List Byte :=
  let nz := es.filter (· != 0)
  let c := nz.length
  if c = 0 then (0, [])
  else if 960 ≤ c then (2 ^ 30 + c, es.flatMap (leBytes 2))
  else
    let rowMap (r : Nat) : Nat := ((es.drop (32 * r)).take 32).zipIdx.foldl (fun a e => if e.1 = 0 then a else a + 2 ^ e.2) 0
    (2 ^ 31 + c, (List.range 32).flatMap (fun r => leBytes 4 (rowMap r)) ++ nz.flatMap (leBytes 2))

/-- The declared bytes of an encoded tile with their offsets: header words and payloads (R281, R283). -/
def mossEncode (t : List (Nat × Nat)) : List (Nat × List Byte) :=
  let bl := (List.range 8).map fun b => encodeBlock (blockElems t b)
  (0, bl.flatMap fun x => leBytes 4 x.1) :: (bl.zipIdx.map fun x => (32 + 2048 * x.2, x.1.2))

/-- The set bits of a row map, as lane offsets. -/
def mapLanes (w : Nat) : List Nat := (List.range 32).filter fun i => w.testBit i

/-- One block decoded from its header and payload: its elements keyed row × 256 + lane, or none where the block is
invalid (R286). -/
def decodeBlock (b h : Nat) (pay : List Byte) : Option (List (Nat × Nat)) :=
  if hdrInvalid h then none
  else match hdrMode h with
    | 0 => some []
    | 1 => some ((List.range 1024).map fun i =>
        ((i / 32) * 256 + 32 * b + i % 32, leNat ((pay.drop (2 * i)).take 2)))
    | _ =>
      let pos := (List.range 32).flatMap fun r =>
        (mapLanes (leNat ((pay.drop (4 * r)).take 4))).map fun i => r * 256 + 32 * b + i
      if pos.length ≠ hdrCount h then none
      else some (pos.zipIdx.map fun p => (p.1, leNat ((pay.drop (128 + 2 * p.2)).take 2)))

/-- Copies the declared bytes of a tile from one place to another, each at its offset (R289). -/
def mossCopyBytes (s : State) (src : Place) : List (Nat × List Byte) :=
  (declaredRanges (mossHeaders s src)).map fun r => (r.1, s.readBytes (src.plus r.1) r.2)

def State.writeRanges (s : State) (dst : Place) : List (Nat × List Byte) → State
  | [] => s
  | r :: rs => (s.writeBytes (dst.plus r.1) r.2).writeRanges dst rs

end Sys2Proof.Machine
end

