-- ==== Sys2Proof/Machine/Array.lean ====
section
/-! DEFINITION. The A slot (R26 to R52, R54 to R78, R79 to R98, R161 to R168): weight loads, streamed products, the
broadcast, segment additions and drains: encoding checks, holds, fault conditions in order, effects at issue in cycle
u, and the effects of the operations in flight. -/

namespace Sys2Proof.Machine

def cWSLOT : Nat := 0x10
def cARRAY_OCCUPIED : Nat := 0x11
def cARRAY_FORMAT : Nat := 0x12
def cBCAST_BUSY : Nat := 0x13
def cBCAST_SKEW : Nat := 0x14
def cACC_CAPACITY : Nat := 0x18
def cACC_REMOTE_OPEN : Nat := 0x19
def cDRAIN_BUSY : Nat := 0x1A
def cDRAIN_ADDR : Nat := 0x1B

/-! ### Operand classes (Tables 2.2, 6.13, 6.14) -/

/-- Class of an element format code: 0 16-bit, 1 8-bit float, 2 integer, 3 block, 4 split. -/
def fmtClass (f : Nat) : Nat :=
  match f with
  | 0 => 0
  | 1 => 0
  | 2 => 1
  | 3 => 1
  | 4 => 2
  | 5 => 3
  | _ => 4

/-- Reduction indices per tile of a class. -/
def classMax (c : Nat) : Nat :=
  match c with
  | 0 => 256
  | 1 => 512
  | 2 => 512
  | 3 => 1024
  | _ => 256

/-- An operand: its exact value and whether it is a signalling NaN. -/
abbrev Operand := XVal × Bool

/-- The operand of a raw code; x is the shared exponent byte of a BX4 element (R54 to R58). -/
def elemVal (fmt raw x : Nat) : Operand :=
  match fmt with
  | 0 => (fBF16.dec raw, fBF16.snan raw)
  | 1 => (fFP16.dec raw, fFP16.snan raw)
  | 2 => (fE4M3.dec raw, false)
  | 3 => (fE5M2.dec raw, fE5M2.snan raw)
  | 4 => (XVal.ofInt (sextInt 8 raw), false)
  | 5 => if x = 255 then (.nan, false) else (.fin (bitOf raw 3) (raw % 8) ((x : Int) - 127), false)
  | _ => (fBF16.dec raw, fBF16.snan raw)

def byteAt (l : List Byte) (i : Nat) : Nat := (l.getD i 0#8).toNat
def half2At (l : List Byte) (i : Nat) : Nat := byteAt l i + 256 * byteAt l (i + 1)

/-- The raw code of cell (reduction index k, column c) in the 512-byte lines a load has read (Table 6.14). -/
def wRaw (cls : Nat) (tr : Bool) (lines : List (List Byte)) (k c : Nat) : Nat :=
  let line (i : Nat) := lines.getD i []
  match cls with
  | 1 => if tr then byteAt (line c) k else byteAt (line (k / 2)) (256 * (k % 2) + c)
  | 2 => if tr then byteAt (line c) k else byteAt (line (k / 2)) (256 * (k % 2) + c)
  | 3 => bitsOf (byteAt (line (k / 4)) (128 * (k % 4) + c / 2)) (4 * (c % 2) + 3) (4 * (c % 2))
  | _ => if tr then half2At (line c) (2 * k) else half2At (line k) (2 * c)

/-- Signed sum and magnitude of the weights of one reduction index, as the FP32 checksum weights of R45. -/
def chkWeights (ops : List Operand) : Nat × Nat :=
  let ts := ops.map fun o => (⟨o.1, false, false, false, false, 1⟩ : Tot)
  let sum (l : List Tot) : Tot := match l with
    | [] => Tot.zero
    | h :: t => t.foldl Tot.add h
  ((fFP32.cvt .rne (sum ts).v).1, (fFP32.cvt .rup (sum (ts.map Tot.abs)).v).1)

/-- The operand of a tile's cell. -/
def WTile.cell (t : WTile) (k c : Nat) : Operand :=
  if t.diag then elemVal t.fmt ((t.w.getD 0 []).getD k 0) 0
  else elemVal t.fmt ((t.w.getD k []).getD c 0) ((t.ex.getD (k / 32) []).getD c 0)

/-- The tile that a completed load has read (R32, R33, R44, R45). -/
def buildTile (fmt kt nt : Nat) (tr diag : Bool) (lines exps : List (List Byte)) : WTile :=
  let cls := fmtClass fmt
  let w := if diag then [(List.range nt).map fun i => half2At (lines.getD 0 []) (2 * i)]
    else (List.range kt).map fun k => (List.range nt).map fun c => wRaw cls tr lines k c
  let ex := if cls = 3 then (List.range (kt / 32)).map fun b =>
      (List.range nt).map fun c => byteAt (exps.getD ((256 * b + c) / 32) []) ((256 * b + c) % 32) else []
  let t0 : WTile := ⟨fmt, if diag then nt else kt, nt, diag, w, ex, [], []⟩
  let ck := (List.range t0.kt).map fun k =>
    if diag then chkWeights [t0.cell k k] else chkWeights ((List.range nt).map fun c => t0.cell k c)
  { t0 with wchk := ck.map (·.1), achk := ck.map (·.2) }

/-! ### A.WLD (R29 to R33, R161, R162) -/

def wldFmt (y : Syl) : Nat := fb y 16 14
def wldKt (y : Syl) (s : State) : Nat := getBits (srF y s 11 6) 10 0
def wldNt (y : Syl) (s : State) : Nat := getBits (srF y s 11 6) 24 16

def aWldLegal (y : Syl) : Bool := fb y 21 17 == 0 && wldFmt y != 7
/-- ARRAY_FORMAT of R162. -/
def wldBad (y : Syl) (s : State) : Bool :=
  let cls := fmtClass (wldFmt y)
  let kt := wldKt y s
  let nt := wldNt y s
  let tr := fb y 13 13 == 1
  let dg := fb y 12 12 == 1
  (!dg && (kt == 0 || decide (classMax cls < kt))) || nt == 0 || decide (256 < nt) ||
    (cls == 3 && kt % 32 != 0) || (tr && cls == 3) || (dg && (tr || cls != 0))
def aWldCheck (u : Nat) (y : Syl) (s : State) : List FaultC :=
  faultIf (wldBad y s) cARRAY_FORMAT 0 ++ faultIf (decide (u < (s.core y.n).loadFree)) cARRAY_OCCUPIED 0

/-- VALID of the shadow slot, and the shadow slot set (R29). -/
def Core.shadowValid (c : Core) : Bool := if c.activeSlot then c.wvalid.1 else c.wvalid.2
def Core.activeValid (c : Core) : Bool := if c.activeSlot then c.wvalid.2 else c.wvalid.1
def Core.setShadowValid (c : Core) (v : Bool) : Core :=
  { c with wvalid := if c.activeSlot then (v, c.wvalid.2) else (c.wvalid.1, v) }
def Core.setShadowTile (c : Core) (t : WTile) : Core :=
  { c with wtiles := if c.activeSlot then (t, c.wtiles.2) else (c.wtiles.1, t) }
def Core.activeTile (c : Core) : WTile := if c.activeSlot then c.wtiles.2 else c.wtiles.1
def Core.shadowTile (c : Core) : WTile := if c.activeSlot then c.wtiles.1 else c.wtiles.2

def aWldApply (u : Nat) (y : Syl) (s : State) : State :=
  let c := s.core y.n
  (s.setCore y.n { c.setShadowValid false with loadFree := u + 256 }).pushLate y.n u 1
    (.wldLine u 0 (wldFmt y) (wldKt y s) (wldNt y s) (fb y 13 13 == 1) (fb y 12 12 == 1) (coreOff (srF y s 5 0)) [] [])

/-- One cycle of a weight load: 512 bytes, and 32 exponent bytes in BX4 (R31); the tile stands, VALID, 256 cycles
after issue (R29). A swap after which the loaded slot is active cannot have happened, as the slot was not valid. -/
def wldStep (s : State) (n u i fmt kt nt : Nat) (tr diag : Bool) (base : Nat) (lines exps : List (List Byte)) : State :=
  if 256 ≤ i then
    s.setCore n (((s.core n).setShadowTile (buildTile fmt kt nt tr diag lines exps)).setShadowValid true)
  else
    let line := if diag ∧ 0 < i then [] else s.readBytes (.core n (base + 512 * i)) 512
    let ex := if fmt = 5 then s.readBytes (.core n (base + 0x20000 + 32 * i)) 32 else []
    s.pushLate n (u + i + 1) (if i = 255 then 0 else 1)
      (.wldLine u (i + 1) fmt kt nt tr diag base (lines ++ [line]) (exps ++ [ex]))

/-! ### Slot codes and holds (R79 to R81, R87, R94) -/

/-- The slot a code names: 0 PING, 1 PONG, 2 + i ACC[i]; none where the plan names no slot (R81). -/
def slotOf (code : Nat) (idx : Word) : Option Nat :=
  if code = 0 then some 0
  else if code = 1 then some 1
  else if code = 2 then (if idx.toNat < 16 then some (2 + idx.toNat) else none)
  else if 16 ≤ code then some (code - 14)
  else none

/-- FAULT_INFO of ACC_CAPACITY (Table 5.4). -/
def capInfo (code : Nat) (idx : Word) : Nat := code + (if code = 2 then (idx.toNat % 2 ^ 56) * 256 else 0)

/-- Slot code in CHK_LAST (Table 2.9). -/
def chkSlotCode (slot : Nat) : Nat := if slot < 2 then slot else 16 + (slot - 2)

/-- The hold of an operation on a slot that would issue in cycle u (R94): a fill with write offset off, or a drain. An
A.MM is not held by an earlier A.MM. -/
def slotHold (c : Core) (slot u : Nat) (drain : Bool) (off : Nat) : Bool :=
  c.slotOps.any fun o =>
    o.slot == slot && decide (u ≤ o.last) &&
      (if drain || o.drain then true
       else if 272 ≤ off && 272 ≤ o.off then false
       else decide (u + off ≤ o.u + o.off))

def capCheck (slot : Option Nat) (code : Nat) (idx : Word) : List FaultC :=
  faultIf slot.isNone cACC_CAPACITY (capInfo code idx)
def remoteCheck (s : State) (n : Nat) (slot : Option Nat) : List FaultC :=
  match slot with
  | some k => faultIf (decide (2 ≤ k) && accActive s n (k - 2)) cACC_REMOTE_OPEN (k - 2)
  | none => []

def addSlotOp (s : State) (n : Nat) (o : SlotOp) : State :=
  let c := s.core n
  s.setCore n { c with slotOps := (c.slotOps.filter fun x => decide (s.now ≤ x.last)) ++ [o] }

/-! ### A.MM (R34 to R39, R41, R42, R163 to R166) -/

def mmCode (y : Syl) : Nat := fb y 17 13
def mmCw (y : Syl) (s : State) : Word := srF y s 11 6
def mmIdx (y : Syl) (s : State) : Word := s.sr y.n (fb y 11 6 + 1)
def mmSlot (y : Syl) (s : State) : Option Nat := slotOf (mmCode y) (mmIdx y s)
def mmBc (y : Syl) : Nat := fb y 21 20
def mmV (w : Word) : Nat := getBits w 7 0 + 1
def mmAfmt (w : Word) : Nat := getBits w 20 18
def mmPass (w : Word) : Nat := getBits w 23 21
def mmConv (w : Word) : Bool := getBits w 24 24 == 1
def mmTaps (w : Word) : Nat := getBits w 27 25
def mmDly (w : Word) : Nat := getBits w 30 28
def mmCh (w : Word) : Nat := 32 * (getBits w 34 31 + 1)
def mmG (w : Word) : Nat := 4 * 2 ^ getBits w 17 16
/-- c of Table 4.2: (TAPS − 1) × DLY in convolution mode. -/
def mmPrime (w : Word) : Nat := if mmConv w then (mmTaps w - 1) * mmDly w else 0

def aMmLegal (y : Syl) : Bool := fb y 12 12 == 0 && mmBc y != 3 && !(mmCode y == 2 && fb y 11 6 == 63)

def aMmHold (u : Nat) (y : Syl) (s : State) : Bool :=
  match mmSlot y s with
  | some k => slotHold (s.core y.n) k u false (272 + mmPrime (mmCw y s))
  | none => false

/-- The first ARRAY_FORMAT test of R166, with the parameter rules of R41. -/
def mmBad (w : Word) : Bool :=
  let cls := fmtClass (mmAfmt w)
  getBits w 17 16 == 3 || mmAfmt w == 7 || mmPass w == 7 ||
    (if cls == 4 then mmPass w == 0 else mmPass w != 0) ||
    (mmConv w && (mmTaps w == 0 || mmDly w == 0 || decide (classMax cls < mmTaps w * mmCh w) || cls == 3 || cls == 4))

def aMmCheck (u : Nat) (y : Syl) (s : State) : List FaultC :=
  let c := s.core y.n
  let w := mmCw y s
  let swap := fb y 19 19 == 1
  let valid := if swap then c.shadowValid else c.activeValid
  let tile := if swap then c.shadowTile else c.activeTile
  let b := s.bcastOf (y.n / 4)
  faultIf (mmBad w) cARRAY_FORMAT 0 ++ capCheck (mmSlot y s) (mmCode y) (mmIdx y s) ++ remoteCheck s y.n (mmSlot y s) ++
    faultIf (decide (u < c.mmFree)) cARRAY_OCCUPIED 0 ++ faultIf (!valid) cWSLOT 0 ++
    faultIf ((valid && fmtClass tile.fmt != fmtClass (mmAfmt w)) || (mmConv w && decide (mmV w ≤ mmPrime w)))
      cARRAY_FORMAT 0 ++
    faultIf (mmBc y == 1 && b.openAt u) cBCAST_BUSY (b.sender % 4) ++
    faultIf (mmBc y == 2 && !(b.openAt u && decide (u ≤ b.us + 15) && decide (mmV w ≤ b.v))) cBCAST_SKEW 0

/-- The swap of R29: the former active slot becomes the shadow and is not valid. -/
def Core.swap (c : Core) : Core := ({ c with activeSlot := !c.activeSlot } : Core).setShadowValid false

def aMmApply (u : Nat) (y : Syl) (s : State) : State :=
  let w := mmCw y s
  let c0 := s.core y.n
  let c := if fb y 19 19 = 1 then c0.swap else c0
  let v := mmV w
  let q := y.n.val / 4
  let b := s.bcastOf q
  match mmSlot y s with
  | none => s
  | some slot =>
    let m : MMDesc :=
      { u := u, origin := s.fld (F.SEQ_STATUS_PC y.n), slot := slot, ac := fb y 18 18 == 1, g := mmG w,
        k := getBits w 15 8 + 1, v := v, pass := mmPass w, afmt := mmAfmt w, conv := mmConv w, taps := mmTaps w,
        dly := mmDly w, ch := mmCh w, bc := mmBc y, skew := u - b.us, base := coreOff (srF y s 5 0),
        rs := getBits w 47 36, ps := getBits w 59 48, tile := c.activeTile }
    let s1 := addSlotOp (s.setCore y.n { c with mmFree := u + v }) y.n
      ⟨slot, false, 272 + mmPrime w, u, u + 271 + v⟩
    let s2 := if mmBc y = 1 then
        ({ s1 with bcast := put (fun _ => Bcast.reset) s1.bcast q ⟨y.n, u, v, b.buf⟩ } : State).pushLate y.n (u + v) 0
          (.bcastClose q u)
      else s1
    s2.pushLate y.n u (if mmBc y = 2 then 2 else 1) (.mmVec m 0 [])

/-- The stream closes in the cycle after its last vector was placed (R37). -/
def bcastCloseStep (s : State) (q us : Nat) : State :=
  let b := s.bcastOf q
  if b.us = us then { s with bcast := put (fun _ => Bcast.reset) s.bcast q { b with v := 0 } } else s

/-- The bytes of vector j in core memory: 512 element bytes, and the 32 exponent bytes of BX4, else zeros (R164). -/
def vecBytes (s : State) (n : Nat) (m : MMDesc) (j : Nat) : List Byte :=
  let piece (p len : Nat) : List Byte := s.readBytes (.core n (m.base + 64 * (j * m.rs + p * m.ps))) len
  match fmtClass m.afmt with
  | 1 => piece 0 256 ++ piece 1 256 ++ List.replicate 32 0#8
  | 2 => piece 0 256 ++ piece 1 256 ++ List.replicate 32 0#8
  | 3 => piece 0 128 ++ piece 1 128 ++ piece 2 128 ++ piece 3 128 ++ piece 4 32
  | _ => piece 0 512 ++ List.replicate 32 0#8

/-- Vector j enters the array in cycle u + j (R34): from core memory, or for a receiver from the broadcast buffer,
where it was placed skew cycles earlier (R38). A sender places it in the buffer. -/
def mmVecStep (s : State) (n : Nat) (m : MMDesc) (j : Nat) (hist : List (List Byte)) : State :=
  if m.v ≤ j then s
  else
    let q := n / 4
    let b := s.bcastOf q
    let cyc := m.u + j
    let vec := if m.bc = 2 then
        ((b.buf.find? fun e => e.1 == cyc - m.skew).map (·.2)).getD (List.replicate 544 0#8)
      else vecBytes s n m j
    let s1 := if m.bc = 1 then
        let b' : Bcast := { b with buf := (b.buf.filter fun e => decide (cyc < e.1 + 16)) ++ [(cyc, vec)] }
        { s with bcast := put (fun _ => Bcast.reset) s.bcast q b' }
      else s
    let hist' := vec :: hist
    let prime := if m.conv then (m.taps - 1) * m.dly else 0
    let vecs := if m.conv then (List.range m.taps).map fun t => hist'.getD ((m.taps - 1 - t) * m.dly) [] else [vec]
    let s2 := if prime ≤ j then s1.pushLate n (m.u + 272 + j) 0 (.mmRow m (j - prime) vecs 0 0#96) else s1
    if j + 1 < m.v then s2.pushLate n (cyc + 1) (if m.bc = 2 then 2 else 1) (.mmVec m (j + 1) hist') else s2

/-- The activation operand of reduction index k. -/
def actOperand (m : MMDesc) (vecs : List (List Byte)) (k : Nat) : Operand :=
  let vec := if m.conv then vecs.getD (k / m.ch) [] else vecs.getD 0 []
  let i := if m.conv then k % m.ch else k
  match fmtClass m.afmt with
  | 1 => elemVal m.afmt (byteAt vec i) 0
  | 2 => elemVal m.afmt (byteAt vec i) 0
  | 3 => elemVal m.afmt (bitsOf (byteAt vec (i / 2)) (4 * (i % 2) + 3) (4 * (i % 2))) (byteAt vec (512 + i / 32))
  | _ => elemVal m.afmt (half2At vec (2 * i)) 0

/-- A product with its INV (R59, R60); in passes 1 to 5 of the split class a zero piece times an infinite piece is +0
without status (R73). -/
def product (pass : Nat) (a w : Operand) : Prod1 :=
  if 1 ≤ pass ∧ pass ≤ 5 ∧ ((a.1.isZero && w.1.isInf) || (a.1.isInf && w.1.isZero)) then (.fin false 0 0, false)
  else
    let p := a.1.mul w.1
    (p.1, p.2 || a.2 || w.2)

/-- Enabled reduction indices of a pass (R32, R41, R61). -/
def enabledK (m : MMDesc) : Nat := if m.conv then min m.tile.kt (m.taps * m.ch) else m.tile.kt

/-- The products of column c in reduction-index order. -/
def colProducts (m : MMDesc) (vecs : List (List Byte)) (c : Nat) : List Prod1 :=
  if m.tile.diag then (if c < enabledK m then [product m.pass (actOperand m vecs c) (m.tile.cell c c)] else [])
  else (List.range (enabledK m)).map fun k => product m.pass (actOperand m vecs k) (m.tile.cell k c)

/-- The products of the checksum columns (R46): w_chk, and magnitudes with a_chk. -/
def chkProducts (m : MMDesc) (vecs : List (List Byte)) (mag : Bool) : List Prod1 :=
  (List.range (enabledK m)).map fun k =>
    let a := actOperand m vecs k
    if mag then product m.pass (a.1.abs, a.2) (fFP32.dec (m.tile.achk.getD k 0), false)
    else product m.pass a (fFP32.dec (m.tile.wchk.getD k 0), false)

/-- Zero-gated multiply-accumulates of one output row (R43). -/
def gatedCount (m : MMDesc) (vecs : List (List Byte)) : Nat :=
  let gate (a w : Operand) : Bool := (a.1.isZero && w.1.isFin) || (w.1.isZero && a.1.isFin)
  if m.tile.diag then
    ((List.range (enabledK m)).filter fun k => gate (actOperand m vecs k) (m.tile.cell k k)).length
  else
    ((List.range (enabledK m)).map fun k =>
      let a := actOperand m vecs k
      ((List.range m.tile.nt).filter fun c => gate a (m.tile.cell k c)).length).foldl (· + ·) 0

/-- One entry of an output row written: the old entry is read with its error code when the A.MM accumulates into an
ACC slot. flip is an upset of the computed total. -/
def mmEntry (s : State) (n : Nat) (m : MMDesc) (row col : Nat) (cs : List Part) (flip : L96) : State :=
  let last := m.u + 271 + m.v
  let r := if m.ac then readEntry s n m.slot row col 0 (some m.origin) (s.core n).cur last
    else (0#96, s)
  r.2.setCore n ((r.2.core n).setEntry m.slot row col (promote m.ac r.1 cs ^^^ flip))

/-- MM_ROW_WRITE: the result of a vector written to its output row (R32, R34, R46, R80). -/
def mmRowStep (s : State) (n : Nat) (m : MMDesc) (row : Nat) (vecs : List (List Byte)) (col : Nat) (flip : L96) : State :=
  let fl (c : Nat) : L96 := if c = col then flip else 0#96
  let s1 := (List.range 256).foldl (fun st c =>
    if c < m.tile.nt then mmEntry st n m row c (chunksOfProducts m.g m.k (colProducts m vecs c)) (fl c)
    else if m.ac then st
    else st.setCore n ((st.core n).setEntry m.slot row c (Tot.zero.enc ^^^ fl c))) s
  let s2 := mmEntry s1 n m row 256 (chunksOfProducts m.g m.k (chkProducts m vecs false)) (fl 256)
  let s3 := mmEntry s2 n m row 257 (chunksOfProducts m.g m.k (chkProducts m vecs true)) (fl 257)
  if s3.flag (F.ARRAY_CONF_GATE_DIS n) then s3
  else s3.incFld (F.GATED_MAC_COUNT_COUNT n) (gatedCount m vecs)

/-! ### A.SADD (R88, R89, R92, R167) -/

def saSlot (y : Syl) (s : State) : Option Nat := slotOf (fb y 17 13) (s.sr y.n (fb y 11 6 + 1))
def saBase (y : Syl) (s : State) : Nat := (srF y s 5 0).toNat
def saV (y : Syl) (s : State) : Nat := getBits (srF y s 11 6) 7 0 + 1
def saStride (y : Syl) (s : State) : Nat := getBits (srF y s 11 6) 63 32

def aSaddLegal (y : Syl) : Bool := fb y 21 18 == 0 && fb y 12 12 == 0 && !(fb y 17 13 == 2 && fb y 11 6 == 63)
def aSaddHold (u : Nat) (y : Syl) (s : State) : Bool :=
  match saSlot y s with
  | some k => slotHold (s.core y.n) k u false 8
  | none => false

def inCore (n a len : Nat) : Bool :=
  inRange a len (coreMemBase + n * coreMemSize) (coreMemBase + (n + 1) * coreMemSize)

/-- DRAIN_ADDR of rows of len bytes (R92), in the order of that rule: range, base, stride. -/
def rowsAddrCheck (n base stride v len span : Nat) : List FaultC :=
  faultIf (!(inCore n base ((v - 1) * stride + span))) cDRAIN_ADDR base ++
    faultIf (base % 64 != 0) cDRAIN_ADDR base ++ faultIf (stride % 64 != 0) cDRAIN_ADDR stride ++
    faultIf (decide (stride < len)) cDRAIN_ADDR stride

def aSaddCheck (u : Nat) (y : Syl) (s : State) : List FaultC :=
  capCheck (saSlot y s) (fb y 17 13) (s.sr y.n (fb y 11 6 + 1)) ++ remoteCheck s y.n (saSlot y s) ++
    faultIf (decide (u < (s.core y.n).portFree)) cDRAIN_BUSY 0 ++
    rowsAddrCheck y.n (saBase y s) (saStride y s) (saV y s) 3072 3072

def aSaddApply (u : Nat) (y : Syl) (s : State) : State :=
  match saSlot y s with
  | none => s
  | some slot =>
    let v := saV y s
    (addSlotOp (s.setCore y.n { s.core y.n with portFree := u + v }) y.n ⟨slot, false, 8, u, u + 7 + v⟩).pushLate y.n u 1
      (.saddRow slot (s.fld (F.SEQ_STATUS_PC y.n)) u v 0 (saBase y s) (saStride y s))

/-- The L96 entries of a row image. -/
def l96sOf (k : Nat) (bs : List Byte) : List L96 :=
  (List.range k).map fun i => BitVec.ofNat 96 (leNat ((bs.drop (12 * i)).take 12))

/-- Source row j is read whole in cycle u + j and added in cycle u + 8 + j (R89). -/
def saddRowStep (s : State) (n slot pc u v j base stride : Nat) : State :=
  if v ≤ j then s
  else
    let es := l96sOf 256 (s.readBytes (.flat (base + j * stride)) 3072)
    let s1 := s.pushLate n (u + 8 + j) 0 (.saddAdd slot pc j es (u + 7 + v))
    if j + 1 < v then s1.pushLate n (u + j + 1) 1 (.saddRow slot pc u v (j + 1) base stride) else s1

/-- Totals added into the 258 columns of a row (R86, R89): each entry into its column from col0, the sum of the
contributed entries into column 256, the sum of their magnitudes into column 257. -/
def addRow (s : State) (n slot row col0 src : Nat) (origin : Option Nat) (ord last : Nat) (es : List L96) : State :=
  let add1 (st : State) (col : Nat) (x : L96) : State :=
    let r := readEntry st n slot row col src origin ord last
    r.2.setCore n ((r.2.core n).setEntry slot row col (L96.add r.1 x))
  let s1 := es.zipIdx.foldl (fun st e => add1 st (col0 + e.2) e.1) s
  add1 (add1 s1 256 (sumEntries es).enc) 257 (sumAbsEntries es).enc

/-! ### A.DRAIN (R47 to R49, R74 to R78, R88, R90 to R93, R97, R98, R168) -/

def drFmt (y : Syl) : Nat := fb y 20 17
def drRm (y : Syl) : Nat := fb y 16 15
def drZero (y : Syl) : Bool := fb y 14 14 == 1
def drOn (y : Syl) : Bool := fb y 13 13 == 1
def drAcc (y : Syl) : Bool := fb y 12 12 == 1
def drFin (y : Syl) : Bool := fb y 11 11 == 1
def drCode (y : Syl) : Nat := fb y 10 6
def drB (y : Syl) : Nat := fb y 5 0
def drCtl (y : Syl) (s : State) : Word := s.sr y.n (drB y + 1)
def drV (y : Syl) (s : State) : Nat := getBits (drCtl y s) 7 0 + 1
def drW (y : Syl) (s : State) : Nat := getBits (drCtl y s) 15 8 + 1
def drStride (y : Syl) (s : State) : Nat := getBits (drCtl y s) 63 32
/-- The statistics width: 256 with WF, and never above W (R97, R168). -/
def drWs (y : Syl) (s : State) : Nat := min (drW y s) (if fb y 21 21 = 1 then 256 else getBits (drCtl y s) 24 16)
def drIdx (y : Syl) (s : State) : Word := s.sr y.n (drB y + 3)
def drSlot (y : Syl) (s : State) : Option Nat := slotOf (drCode y) (drIdx y s)
def drBase (y : Syl) (s : State) : Nat := (s.sr y.n (drB y)).toNat
def drStat (y : Syl) (s : State) : Nat := (s.sr y.n (drB y + 2)).toNat

def aDrainLegal (y : Syl) : Bool :=
  decide (drB y + 1 < 64) && (!(drOn y) || decide (drB y + 2 < 64)) && (drCode y != 2 || decide (drB y + 3 < 64))
def aDrainHold (u : Nat) (y : Syl) (s : State) : Bool :=
  match drSlot y s with
  | some k => slotHold (s.core y.n) k u true 0
  | none => false

def isMossFmt (f : Nat) : Bool := f == 8 || f == 9

/-- Bytes per drained row (Table 4.3, R285). -/
def drRowBytes (f w : Nat) : Nat :=
  match f with
  | 2 => 4 * w
  | 3 => w
  | 4 => w
  | 5 => w
  | 6 => 4 * w
  | 7 => 12 * w
  | 8 => 513
  | 9 => 513
  | _ => 2 * w

def aDrainCheck (u : Nat) (y : Syl) (s : State) : List FaultC :=
  let f := drFmt y
  let v := drV y s
  let st := drStride y s
  let span := if isMossFmt f then mossWorst else drRowBytes f (drW y s)
  let rows := if isMossFmt f then 32 * ((v - 1) / 32) + 1 else v
  faultIf (decide (10 ≤ f) || drRm y == 3 || (f == 7 && drRm y == 2) || (isMossFmt f && drW y s != 256) ||
      (drOn y && f == 7) || (!(drOn y) && (drAcc y || drFin y))) cARRAY_FORMAT 0 ++
    capCheck (drSlot y s) (drCode y) (drIdx y s) ++ remoteCheck s y.n (drSlot y s) ++
    faultIf (decide (u < (s.core y.n).portFree)) cDRAIN_BUSY 0 ++
    rowsAddrCheck y.n (drBase y s) st rows (drRowBytes f (drW y s)) span ++
    (if drOn y then
      faultIf (!(inCore y.n (drStat y s) (64 * v))) cDRAIN_ADDR (drStat y s) ++
        faultIf (drStat y s % 64 != 0) cDRAIN_ADDR (drStat y s)
     else [])

/-- The float format of a drain code. -/
def drFFmt (f : Nat) : Option FFmt :=
  match f with
  | 0 => some fBF16
  | 1 => some fFP16
  | 2 => some fFP32
  | 3 => some fE4M3
  | 4 => some fE5M2
  | 8 => some fBF16
  | 9 => some fFP16
  | _ => none

/-- One total converted to the drain format (R74, R75): pattern and status. -/
def drainCvt (f : Nat) (md : RMode) (v : XVal) : Nat × CvtFlags :=
  match drFFmt f with
  | some ff => ff.cvt md v
  | none => cvtInt (if f = 5 then 8 else 32) md v

/-- The exact value of a drained pattern (R97). -/
def drainVal (f x : Nat) : XVal :=
  match drFFmt f with
  | some ff => ff.dec x
  | none => XVal.ofInt (sextInt (if f = 5 then 8 else 32) x)

def drElemBytes (f : Nat) : Nat := drRowBytes f 1

/-- The column-sum test of a row (R47): some true where it fails, none where it is skipped. -/
def colSumTest (es : List L96) (cchk mchk : L96) (tol : Nat) : Option Bool :=
  let sm := (sumEntries es).v
  let c := (L96.dec cchk).v
  let m := (L96.dec mchk).v
  if sm.isFin && c.isFin && m.isFin then
    let t := min 23 (max 8 tol)
    let d := ((sm.add c.negate).1).abs
    let lim := (m.mul (.fin false 1 (-(t : Int)))).1
    some (lim.lt d)
  else none

/-- What a drain gathers row by row. -/
structure DrainAcc where
  st : State
  rows : List (List Nat)        -- drained patterns
  raw : List (List L96)         -- entries of columns 0 to W − 1
  flags : CvtFlags
  tot : Nat                     -- OR of the totals' status bits, Table 4.13 bits 6:3
  fails : List (Nat × Nat)      -- (KIND, INDEX) of failed checks, in order
  skips : Nat

/-- Rounding mode of a drained element; the stochastic draw is k = row × 256 + column (R77). -/
def drMode (rm sr row col : Nat) : RMode :=
  match rm with
  | 0 => .rne
  | 1 => .rtz
  | _ => .sto (rsrDraw sr (row * 256 + col))

/-- One row of a drain: its 258 entries are read, tested, converted, and reset with ZERO. -/
def drainRow (n slot : Nat) (f rm sr w tol origin ord last : Nat) (zero : Bool) (a : DrainAcc) (row : Nat) : DrainAcc :=
  let rd := (List.range 258).foldl (fun (p : State × List L96) col =>
    let r := readEntry p.1 n slot row col 2 (some origin) ord last
    (r.2, p.2 ++ [r.1])) (a.st, [])
  let es := rd.2
  let st1 := if zero then rd.1.setCore n ((List.range 258).foldl (fun c col => c.setEntry slot row col 0#96) (rd.1.core n))
    else rd.1
  let ws := es.take w
  let cv := ws.zipIdx.map fun e => drainCvt f (drMode rm sr row e.2) (L96.dec e.1).v
  let tst := ws.foldl (fun t e => let d := L96.dec e
    t ||| (64 * b2n d.ovf + 32 * b2n d.inv + 16 * b2n d.inx + 8 * b2n d.stk)) 0
  let test := colSumTest (es.take 256) (es.getD 256 0#96) (es.getD 257 0#96) tol
  { st := st1, rows := a.rows ++ [cv.map (·.1)], raw := a.raw ++ [ws],
    flags := cv.foldl (fun fl x => fl.or x.2) a.flags, tot := a.tot ||| tst,
    fails := if test = some true then a.fails ++ [(1, row)] else a.fails,
    skips := if test = none then a.skips + 1 else a.skips }

/-- Columns whose storage signature differs from the fold of their 256 entries (R48). -/
def sigFails (c : Core) (slot : Nat) : List (Nat × Nat) :=
  if 2 ≤ slot then []
  else (List.range 258).filterMap fun col =>
    let sm := (List.range 256).foldl (fun t row => (t + foldEntry (c.entry slot row col)) % 2 ^ 32) 0
    if sm = look (fun _ => 0) c.sigs (slot * slotCols + col) then none else some (2, col)

/-- The bytes a drain writes, as (address, bytes) (R90, R287). -/
def drainBytes (f base stride v : Nat) (a : DrainAcc) : List (Nat × List Byte) :=
  if isMossFmt f then
    (List.range ((v - 1) / 32 + 1)).flatMap fun t =>
      let elems := ((a.rows.drop (32 * t)).take 32).zipIdx.flatMap fun r => r.1.zipIdx.map fun e => (r.2 * 256 + e.2, e.1)
      (mossEncode elems).map fun p => (base + 32 * t * stride + p.1, p.2)
  else if f = 7 then
    a.raw.zipIdx.map fun r => (base + r.2 * stride, r.1.flatMap fun e => leBytes 12 e.toNat)
  else a.rows.zipIdx.map fun r => (base + r.2 * stride, r.1.flatMap (leBytes (drElemBytes f)))

/-- A drain occupies the slot port for V + 17 cycles (R90). -/
def drainOccupy (s : State) (n slot u v : Nat) : State :=
  addSlotOp (s.setCore n { s.core n with portFree := u + v + 17 }) n ⟨slot, true, 0, u, u + v + 16⟩

def aDrainApply (u : Nat) (y : Syl) (s : State) : State :=
  match drSlot y s with
  | none => s
  | some slot =>
    let n := y.n.val
    let v := drV y s
    let f := drFmt y
    let origin := s.fld (F.SEQ_STATUS_PC n)
    let ord := (s.core n).cur
    let sr := (s.reg (R.SR_STATE n)).toNat
    let sig := sigFails (s.core n) slot
    let a := (List.range v).foldl
      (drainRow n slot f (drRm y) sr (drW y s) (s.fld (F.ARRAY_CONF_CHK_TOL n)) origin ord (u + v + 16) (drZero y))
      ⟨s, [], [], CvtFlags.none, 0, [], 0⟩
    let s1 := if drRm y = 2 then a.st.setReg (R.SR_STATE n) (BitVec.ofNat 64 (sr + v * 256)) else a.st
    let s2 := drainOccupy s1 n slot u v
    let s3 := (drainBytes f (drBase y s) (drStride y s) v a).foldl
      (fun st p => st.pushLate n (u + v + 17) 0 (.mem (.flat p.1) p.2)) s2
    let s4 := if drOn y then
        (a.rows.zipIdx).foldl (fun st r => st.pushLate n (u + 1 + r.2) 1
          (.drainRec u r.2 (drStat y s) (drWs y s) (drAcc y) (drFin y)
            ((r.1.take (drWs y s)).map (drainVal f)))) s3
      else s3
    let s5 := if f = 7 then s4 else
      s4.pushLate n (u + v + 16) 1 (.drainStat (a.tot + 4 * b2n a.flags.ovf + 2 * b2n a.flags.inv + b2n a.flags.inx))
    s5.pushLate n (u + v + 16) 1 (.drainDone slot origin ord (a.fails ++ sig) a.skips)

/-- The record of row j: read in cycle u + 1 + j, written in cycle u + 17 + j (R97, R98). -/
def drainRecStep (s : State) (n u j base : Nat) (acc fin : Bool) (vals : List XVal) : State :=
  let p : Place := .flat (base + 64 * j)
  let r := statStep (StatRec.ofBytes (s.readBytes p 64)) acc fin vals
  let s1 := s.pushLate n (u + 18 + j) 0 (.mem p r.1)
  if r.2 then s1.pushLate n (u + 17 + j) 1 (.drainStat 128) else s1

def drainStatStep (s : State) (n flags : Nat) : State :=
  s.setReg (R.DRAIN_STATUS n) (s.reg (R.DRAIN_STATUS n) ||| BitVec.ofNat 64 flags)

/-- DRAIN_CHECK_VERDICT (R47 to R49): failures and skips counted, the first failure recorded, the event raised, and
ARRAY_CHECK armed for the next cycle. -/
def drainDoneStep (s : State) (n slot origin ord : Nat) (fails : List (Nat × Nat)) (skips : Nat) : State :=
  let s1 := s.incFld (F.CHK_SKIP_COUNT_COUNT n) skips
  match fails with
  | [] => s1
  | f :: _ =>
    let s2 := s1.incFld (F.CHK_FAIL_COUNT_COUNT n) fails.length
    let s3 := if s2.flag (F.CHK_LAST_VALID n) then s2
      else s2.setReg (R.CHK_LAST n) (BitVec.ofNat 64
        (2 ^ 63 + 2 ^ 60 * f.1 + 2 ^ 48 * chkSlotCode slot + 2 ^ 16 * (origin % 2 ^ 14) + f.2))
    (s3.raise n).pushLate n (s.now + 1) 0 (.deferred ⟨cARRAY_CHECK, 2, some origin, (s3.reg (R.CHK_LAST n)).toNat, ord⟩)

end Sys2Proof.Machine
end

