-- ==== Sys2Proof/Machine/Link.lean ====
section
/-! DEFINITION. The fabric link and switch (R363 to R388, R391, R394, R402): check field, flits, retry, credits, training,
schedules, routing, trackers, and the transactions that this device issues. What a transaction does at its destination
is in Txn. -/

namespace Sys2Proof.Machine

/-! ### The check field (R367, R368) -/

/-- One byte into the reflected CRC-32C register (the polynomial of R129). -/
def crcByte (c : BitVec 32) (b : Byte) : BitVec 32 :=
  let step (x : BitVec 32) : BitVec 32 := if x.getLsbD 0 then (x >>> 1) ^^^ 0x82F63B78#32 else x >>> 1
  step (step (step (step (step (step (step (step (c ^^^ b.setWidth 32))))))))
def crcFrom (c : BitVec 32) (bs : List Byte) : BitVec 32 := bs.foldl crcByte c
/-- CRC-32C over bytes: initial value all ones, final XOR all ones. -/
def crc32c (bs : List Byte) : Nat := (crcFrom 0xFFFFFFFF#32 bs ^^^ 0xFFFFFFFF#32).toNat

/-- The four parity syndromes of a 256-byte flit. -/
def paritySyn (raw : List Byte) (i : Nat) : Byte :=
  (List.range 64).foldl (fun a k => a ^^^ raw.getD (4 * k + i) 0#8) 0#8

/-- What a receiver makes of a flit (R368). -/
inductive FlitVerdict where
  | clean (raw : List Byte)
  | corrected (raw : List Byte)
  | stomped
  | uncorrectable
deriving DecidableEq, Repr

/-- The bits of a syndrome lie within one symbol 2k+1:2k. -/
def oneSymbol (b : Byte) : Bool := [0x03#8, 0x0C#8, 0x30#8, 0xC0#8].any fun m => b &&& ~~~m == 0#8

/-- The byte positions of interleave i. -/
def interleave (i : Nat) : List Nat := (List.range 62).map (fun k => 4 * k + i) ++ [248 + i, 252 + i]

/-- The change of the CRC syndrome when byte j is changed by e. -/
def crcLin (j : Nat) (e : Byte) : BitVec 32 :=
  if j < 248 then crcFrom 0#32 (e :: List.replicate (247 - j) 0#8)
  else if j < 252 then (e.setWidth 32) <<< (8 * (j - 248))
  else 0#32

/-- All choices of one byte in each erroneous interleave, with their change of the CRC syndrome. -/
def errChoices : List (Nat × Byte) → List (List (Nat × Byte) × BitVec 32)
  | [] => [([], 0#32)]
  | (i, e) :: rest =>
    let r := errChoices rest
    (interleave i).flatMap fun j => let d := crcLin j e; r.map fun c => ((j, e) :: c.1, d ^^^ c.2)

def flitVerdict (symcorr : Bool) (raw : List Byte) : FlitVerdict :=
  let crc := crc32c (raw.take 248)
  let field := leNat ((raw.drop 248).take 4)
  let syn := (List.range 4).map fun i => (i, paritySyn raw i)
  let bad := syn.filter fun p => p.2 != 0#8
  if bad.isEmpty then
    if crc = field then .clean raw
    else if field = 0xFFFFFFFF - crc then .stomped
    else .uncorrectable
  else if symcorr && bad.all (fun p => oneSymbol p.2) then
    let want := BitVec.ofNat 32 (crc ^^^ field)
    match (errChoices bad).filter fun c => c.2 == want with
    | [c] => .corrected (c.1.foldl (fun r p => r.set p.1 (r.getD p.1 0#8 ^^^ p.2)) raw)
    | _ => .uncorrectable
  else .uncorrectable

/-! ### The switch's parts of the state -/

def portBlock (p : Nat) : Nat := 0x7F0000400000 + p * 0x10000
def State.port (s : State) (p : Nat) : Port := look (fun _ => Port.reset) s.fab.ports p
def State.setPort (s : State) (p : Nat) (x : Port) : State :=
  { s with fab := { s.fab with ports := put (fun _ => Port.reset) s.fab.ports p x } }
def State.tx (s : State) (id : Nat) : Option TxReq := s.fab.txs.find? fun t => t.id == id
def State.mapTx (s : State) (id : Nat) (f : TxReq → TxReq) : State :=
  { s with fab := { s.fab with txs := s.fab.txs.map fun t => if t.id == id then f t else t } }
def State.dropTx (s : State) (id : Nat) : State :=
  { s with fab := { s.fab with txs := s.fab.txs.filter fun t => t.id != id } }

def lstate (s : State) (p : Nat) : Nat := s.fld (F.PORT_STATUS_LSTATE p)
def portState (s : State) (p : Nat) : Nat := s.fld (F.PORT_CTRL_STATE p)
/-- The port carries traffic: LSTATE ACTIVE. -/
def portActive (s : State) (p : Nat) : Bool := decide (p < 24) && lstate s p == 4
def ownNode (s : State) : Nat := s.fld F.FAB_NODE_NODE

/-- Class index 0 planned, 1 background, 2 management. -/
def credOf (c : Nat × Nat × Nat) (k : Nat) : Nat := match k with | 0 => c.1 | 1 => c.2.1 | _ => c.2.2
def credAdd (c : Nat × Nat × Nat) (k n : Nat) : Nat × Nat × Nat :=
  match k with | 0 => (c.1 + n, c.2) | 1 => (c.1, c.2.1 + n, c.2.2) | _ => (c.1, c.2.1, c.2.2 + n)
def credSub (c : Nat × Nat × Nat) (k n : Nat) : Nat × Nat × Nat :=
  match k with | 0 => (c.1 - n, c.2) | 1 => (c.1, c.2.1 - n, c.2.2) | _ => (c.1, c.2.1, c.2.2 - n)

/-! ### Completion statuses (Table 15.11) -/

def csOK : Nat := 0
def csADDR_ERR : Nat := 1
def csUNCORR : Nat := 2
def csACC_REFUSED : Nat := 3
def csRADD_ORDER : Nat := 4
def csPORT_CLOSED : Nat := 5
def csTIMEOUT : Nat := 6
def csNO_ROUTE : Nat := 7
def csUNSUPPORTED : Nat := 8
def csSPILL_BUDGET : Nat := 9
def csFLASH_RO : Nat := 10
def csRING_FULL : Nat := 11

/-! ### Routing (R383, R384) -/

def routeEntry (s : State) (node : Nat) : Nat :=
  getBits (s.reg (R.ROUTE (node / 4))) (16 * (node % 4) + 15) (16 * (node % 4))

/-- A port takes new traffic: ACTIVE, and not closing. -/
def portTakes (s : State) (p : Nat) : Bool := portActive s p && portState s p == 1

/-- The egress port of a packet's first flit. -/
def routePort (s : State) (node : Nat) : Option Nat :=
  let e := routeEntry s node
  let pri := bitsOf e 4 0
  let alt := bitsOf e 9 5
  if !(bitOf e 15) then none
  else if portTakes s pri then some pri
  else if bitOf e 14 && portTakes s alt then some alt
  else none

/-! ### Transactions of this device (R387) -/

def opREAD : Nat := 1
def opWRITE : Nat := 2
def opGET : Nat := 3
def opPUT : Nat := 4
def opFADD : Nat := 5
def opMSG : Nat := 6
def opFENCE : Nat := 7
def opCLAIM : Nat := 8
def opRADD : Nat := 9

/-- A transaction accepted: to this device it goes on the loopback path, otherwise it waits for a tracker. -/
def State.issueTx (s : State) (owner : TxOwner) (cls node op sz len addr : Nat) (data : List Byte) : State :=
  let t : TxReq := { id := s.fab.count, owner := owner, cls := cls, node := node, op := op, sz := sz, len := len, addr := addr,
                     data := data, st := if s.nodeLocal node then .loop else .waiting, since := s.now, again := false }
  { s with fab := { s.fab with txs := s.fab.txs ++ [t], count := s.fab.count + 1 } }

/-- An access of supervisor core k to the fabric aperture has completed: its data, or the access fault with its status
recorded (R432, Table 17.6). -/
def apertureDone (s : State) (k : Nat) (t : TxReq) (status : Nat) (data : List Byte) : State :=
  if status = csOK then { s with reply := if t.op = 1 then .value (BitVec.ofNat 64 (leNat data)) else .ok }
  else
    let s1 := if s.flag (F.SUP_FABERR_VALID k) then s
      else s.setReg (R.SUP_FABERR k) (BitVec.ofNat 64 (2 ^ 63 + 2 ^ 48 * status + t.addr % 2 ^ 48))
    { s1 with reply := .accessError }

/-- A transaction has completed with a status. One that nobody waits for is forgotten; an aperture access or a fence of
a supervisor core ends at once. -/
def State.endTx (s : State) (id status value : Nat) (data : List Byte) : State :=
  match s.tx id with
  | none => s
  | some t =>
    match t.owner with
    | .unit => s.dropTx id
    | .aperture k => apertureDone (s.dropTx id) k t status data
    | .fence k => { (s.dropTx id).setFld (F.SUP_FENCE_FENCE k) 0 with reply := .ok }
    | _ => s.mapTx id fun t => { t with st := .done status value data }

/-- The oldest loopback transaction of a class: the loopback path applies each class in order (R387). -/
def loopHead (s : State) (cls : Nat) : Option TxReq := s.fab.txs.find? fun t => t.st == .loop && t.cls == cls

/-- The transaction header of Table 15.8. -/
def txHeader (src op sz tag len addr : Nat) : List Byte :=
  leBytes 2 src ++ leBytes 1 op ++ leBytes 1 sz ++ leBytes 2 tag ++ leBytes 2 len ++ leBytes 8 (addr % 2 ^ 48)

/-- Payload pieces cut into flits: the first piece, then pieces of 240 bytes. -/
def cutFlits (dest cls : Nat) (ps : List (List Byte)) : List Flit :=
  let n := ps.length
  ps.zipIdx.map fun p =>
    { dest := dest, cls := cls, payload := p.1,
      kind := if n ≤ 1 then 4 else if p.2 = 0 then 1 else if p.2 + 1 = n then 3 else 2 }

/-- Pieces of k bytes. -/
def pieces (k : Nat) (bs : List Byte) : List (List Byte) := piecesOf' k bs.length bs
where piecesOf' (k : Nat) : Nat → List Byte → List (List Byte)
  | 0, _ => []
  | _, [] => []
  | f + 1, bs => bs.take k :: piecesOf' k f (bs.drop k)

/-- The flits of a request packet (R388): header and data contiguous; a RADD carries 18 whole entries in its first flit
and 20 in each further one. -/
def requestFlits (dest cls op : Nat) (hdr data : List Byte) : List Flit :=
  if op = opRADD then cutFlits dest cls ((hdr ++ data.take 216 ++ leBytes 8 0) :: pieces 240 (data.drop 216))
  else cutFlits dest cls (pieces 240 (hdr ++ data))

/-- A completion record (Table 15.10). -/
def complRecord (resp op status tag value : Nat) : List Byte :=
  leBytes 2 resp ++ leBytes 1 (0x80 + op) ++ leBytes 1 status ++ leBytes 2 tag ++ leBytes 2 0 ++ leBytes 8 value

def Port.enqueue (x : Port) (k : Pkt) : Port := { x with q := x.q ++ [k] }

/-- A completion or response packet sent to a node; without a route it is discarded (R384). -/
def sendResponse (s : State) (node cls : Nat) (rec data : List Byte) : State :=
  match routePort s node with
  | none => s
  | some p => s.setPort p ((s.port p).enqueue ⟨node, cls, cutFlits node cls (pieces 240 (rec ++ data)), false, none, none⟩)

/-- A refused request of another node, by its payload: its source receives a completion with the status; completions and
responses are not answered (R376, R384). -/
def refuseRequest (s : State) (cls : Nat) (payload : List Byte) (status : Nat) : State :=
  let f (o k : Nat) : Nat := leNat ((payload.drop o).take k)
  if 0x80 ≤ f 2 1 then s else sendResponse s (f 0 2) cls (complRecord (ownNode s) (f 2 1) status (f 4 2) 0) []

/-- Whether a version carries a transaction type (Table 15.5): CLAIM and RADD from 1.1. -/
def versionHas (running op : Nat) : Bool := op != opCLAIM && op != opRADD || decide (0x101 ≤ running)

/-- The lowest free tracker of a port. -/
def freeTracker (x : Port) : Option Nat := (List.range 512).find? fun k => !(x.trk.any fun t => t.1 == k)

/-- FABRIC_TRACKER_GRANT: a waiting transaction takes a tracker of the port its route selects and is queued there
(R384, R387, R376). -/
def trackerGrant (s : State) (id : Nat) (choose : Option Nat) : State :=
  match s.tx id with
  | none => s
  | some t =>
    if t.st ≠ .waiting then s
    else match (match choose with | some p => (if portTakes s p then some p else none) | none => routePort s t.node) with
      | none => s.endTx id csNO_ROUTE 0 []
      | some p =>
        let x := s.port p
        if !(versionHas x.running t.op) then s.endTx id csUNSUPPORTED 0 []
        else match freeTracker x with
          | none => s
          | some k =>
            let tag := k + 512 * p
            let tmo := s.fld (F.PORT_CONF_TRK_TIMEOUT p)
            let fl := requestFlits t.node t.cls t.op (txHeader (ownNode s) t.op t.sz tag t.len t.addr) t.data
            let s1 := s.setPort p ({ x with trk := x.trk ++ [(k, id)] }.enqueue ⟨t.node, t.cls, fl, false, none, some id⟩)
            s1.mapTx id fun t => { t with st := .sent p k (if tmo = 0 then 0 else s.now + tmo) false }

def freeTrk (s : State) (p k : Nat) : State :=
  let x := s.port p
  s.setPort p { x with trk := x.trk.filter fun t => t.1 != k }

/-- A port without a link: no version, features, partner or hold in NEGOTIATE is shown (Table 15.16). -/
def noLink (s : State) (p : Nat) : State :=
  s.setReg (R.PORT_STATUS p) (setBits (setBits (s.reg (R.PORT_STATUS p)) 63 5 (0xFFFF * 2 ^ 43)) 2 0 0)

/-- A port whose last sent transaction has ended while it closes goes OFF (R402, R442). -/
def portOff (s : State) (p : Nat) : State :=
  let x := s.port p
  (((noLink s p).setFld (F.PORT_CTRL_STATE p) 0).setPort p
      { Port.reset with held := x.held, flen := x.flen, codes := x.codes, sinceMark := 0 }).raise (64 + p)

def closeCheck (s : State) (p : Nat) : State :=
  if portState s p = 2 ∧ (s.port p).trk = [] then portOff s p else s

/-- COMPLETION_RECEIVE: a completion record or response frees its tracker and completes its transaction (R387, R391). A
record that names no tracker in use is discarded. -/
def completionReceive (s : State) (tag status value : Nat) (data : List Byte) : State :=
  let p := bitsOf tag 13 9
  let k := tag % 512
  match (s.port p).trk.find? fun t => t.1 == k with
  | none => s
  | some t =>
    let s1 := (freeTrk s p k).endTx t.2 status value data
    let s2 := if portState s p = 2 then s1.incFld (F.PORT_CLOSE_DONE p) 1 else s1
    closeCheck s2 p

/-- TRK_TIMEOUT: READ and GET are reissued once on the alternate port of the route where it is valid, otherwise on the
primary (R387). -/
def trkTimeout (s : State) (id : Nat) : State :=
  match s.tx id with
  | none => s
  | some t =>
    match t.st with
    | .sent p k dl again =>
      if dl = 0 then s
      else
        let s0 := freeTrk s p k
        if (t.op = opREAD ∨ t.op = opGET) ∧ again = false ∧ t.again = false then
          let e := routeEntry s t.node
          let p' := if bitOf e 14 then bitsOf e 9 5 else bitsOf e 4 0
          let s1 := trackerGrant (s0.mapTx id fun t => { t with st := .waiting, again := true }) id (some p')
          closeCheck (s1.mapTx id fun t => match t.st with
            | .sent p k d _ => { t with st := .sent p k d true }
            | .done _ _ _ => { t with st := .done csTIMEOUT 0 [] }
            | _ => t) p
        else closeCheck (s0.endTx id csTIMEOUT 0 []) p
    | _ => s

/-! ### Link states (R373 to R377) -/

/-- Versions and features that a port offers (R375). -/
def offerVers (s : State) (p : Nat) : Nat := getBits (s.port p).adv 31 0 &&& s.fld F.FAB_VER_VER
def offerFeat (s : State) (p : Nat) : Nat := getBits (s.port p).adv 63 32 &&& s.fld F.FAB_VER_FEAT

/-- Highest set bit of the common versions as major × 256 + minor. -/
def chosenVersion (common : Nat) : Nat := let b := Nat.log2 common; (b / 8 + 1) * 256 + b % 8
/-- Features that a version allows: LANESWAP from 1.2 (Table 15.5). -/
def featuresOf (running feat : Nat) : Nat := if running < 0x102 then feat % 2 else feat % 4

/-- Training starts: the advertised versions and the lane map are taken, link state is cleared. -/
def portTrain (s : State) (p : Nat) : State :=
  let x := s.port p
  (s.setFld (F.PORT_STATUS_LSTATE p) 1).setPort p
    { x with adv := s.reg (R.PORT_ADV p), lanes := s.reg (R.LANE_SPARE p), rxNeg := none, rxNegAck := none, txSeq := 0,
             retry := [], replay := [], replays := 0, rxExp := 0, rxAny := false, rxDrop := false, ctl := [],
             sinceMark := 0, slot := 0, swap := none, lastGood := s.now, downAt := none }

/-- k bytes from o of a payload, as a number. -/
def pf (b : List Byte) (o k : Nat) : Nat := leNat ((b.drop o).take k)

/-- A transaction of this device gives up its tracker. -/
def freeTxTrk (s : State) (id : Nat) : State :=
  match s.tx id with
  | some t => (match t.st with
    | .sent p k _ _ => freeTrk s p k
    | _ => s)
  | none => s

/-- A packet ends unsent with a status (R376, R384): a request of this device completes with it and frees its tracker; of a
pass-through packet the ingress buffers are freed and the source of a request receives it. -/
def discardPkt (s : State) (k : Pkt) (status : Nat) : State :=
  match k.req, k.ingress with
  | some id, _ => (freeTxTrk s id).endTx id status 0 []
  | none, some i =>
    let s1 := s.setPort i { s.port i with owed := credAdd (s.port i).owed k.cls k.flits.length }
    match k.flits with
    | f :: _ => if k.started then s1 else refuseRequest s1 k.cls f.payload status
    | [] => s1
  | none, none => s

/-- The flits of a first flit as its egress may send it: under version 1.0 each completion record travels in a flit of its
own (R376). -/
def unpacked (running : Nat) (f : Flit) : List Flit :=
  let op := pf f.payload 2 1
  if running = 0x100 ∧ f.kind = 4 ∧ 0x80 ≤ op ∧ op ≠ 0x81 ∧ op ≠ 0x83 then
    (pieces 16 f.payload).map fun r => { f with payload := r }
  else [f]

/-- A packet whose first flit has not been sent is queued at the egress of its route, whose version must carry it (R376,
R384). -/
def routePkt (s : State) (k : Pkt) : State :=
  match routePort s k.dest with
  | none => discardPkt s k csNO_ROUTE
  | some e =>
    let x := s.port e
    match k.flits with
    | [] => s
    | f :: fs =>
      let op := pf f.payload 2 1
      if op < 0x80 ∧ versionHas x.running op = false then discardPkt s k csUNSUPPORTED
      else match unpacked x.running f with
        | g :: gs =>
          s.setPort e { x with q := x.q ++ { k with flits := g :: fs } :: gs.map fun h => (⟨k.dest, k.cls, [h], false, none, none⟩ : Pkt) }
        | [] => s

/-- Packets queued for a lost port are routed again in their order and counted; those partly sent are lost (R385). -/
def rerouteQueue (s : State) (p : Nat) : State :=
  let x := s.port p
  let go := x.q.filter fun k => !k.started
  let s0 := (x.q.filter fun k => k.started).foldl (fun st k => match k.req with | none => discardPkt st k csNO_ROUTE | some _ => st)
    (s.setPort p { x with q := [] })
  go.foldl (fun st k => routePkt (st.incFld (F.FAILOVER_COUNT_COUNT p) 1) k) s0

/-- A port returns to DOWN (R373, R385); requests that wait for one of its trackers are routed again and count with the packets
queued. -/
def portDown (s : State) (p : Nat) : State :=
  let act := lstate s p == 4
  let wait := (s.fab.txs.filter fun x : TxReq => decide (x.st = .waiting) && routePort s x.node == some p).length
  let s1 := (noLink s p).incFld (F.FAILOVER_COUNT_COUNT p) wait
  let s2 := if act then (s1.incFld (F.LINK_DOWN_COUNT_COUNT p) 1).raise (64 + p) else s1
  let s3 := rerouteQueue s2 p
  let x := s3.port p
  s3.setPort p { x with downAt := some s.now, retry := [], replay := [], replays := 0, ctl := [], rx := [],
                        rxNeg := none, rxNegAck := none, running := 0, feats := 0, credits := (0, 0, 0), owed := (0, 0, 0),
                        swap := none }

/-- The port leaves NEGOTIATE when both flits are exchanged with a common version and both node IDs are set (R374 to
R377). -/
def negotiateCheck (s : State) (p : Nat) : State :=
  let x := s.port p
  match x.rxNeg with
  | none => s
  | some g =>
    if lstate s p ≠ 3 then s
    else
      let common := g.vers &&& offerVers s p
      if common = 0 then (s.setFld (F.PORT_STATUS_VER_ERR p) 1).raise (64 + p)
      else
        let unset := ownNode s == 0xFFFF || g.node == 0xFFFF
        let s1 := s.setFld (F.PORT_STATUS_NODE_UNSET p) (b2n unset)
        if unset || x.rxNegAck.isNone then s1
        else
          let run := chosenVersion common
          let ft := featuresOf run (g.feat &&& offerFeat s p)
          ((((s1.setFld (F.PORT_STATUS_LSTATE p) 4).setFld (F.PORT_STATUS_VER_MAJOR p) (run / 256)).setFld
            (F.PORT_STATUS_VER_MINOR p) (run % 256)).setFld (F.PORT_STATUS_FEAT_NEG p) ft).setPort p
            { x with running := run, feats := ft, credits := (g.cp, g.cb, g.cm), ackAt := s.now, lastGood := s.now }

/-- A NEGOTIATE flit: the partner's offer is kept and answered with NEG_ACK where a common version exists. -/
def negotiateRx (s : State) (p : Nat) (g : Nego) : State :=
  if lstate s p ≠ 3 ∧ lstate s p ≠ 4 then s
  else
    let s1 := s.setFld (F.PORT_STATUS_PARTNER p) g.node
    let x := s1.port p
    let common := g.vers &&& offerVers s p
    let x1 := { x with rxNeg := some g, ctl := if common = 0 then x.ctl else x.ctl ++ [.negAck (chosenVersion common)] }
    negotiateCheck (s1.setPort p x1) p

/-- A NEG_ACK flit: the partner has received this end's offer. -/
def negAckRx (s : State) (p chosen : Nat) : State :=
  if lstate s p ≠ 3 then s
  else negotiateCheck (s.setPort p { s.port p with rxNegAck := some chosen }) p

/-! ### Retry, credits (R370 to R372) -/

/-- a is at most b in the window of 512 flits before b, modulo 1,024. -/
def seqLe (a b : Nat) : Bool := decide ((b + 1024 - a) % 1024 < 512)

/-- An ACK of a number acknowledges every flit up to it. -/
def ackRx (s : State) (p a : Nat) : State :=
  let x := s.port p
  let r := x.retry.filter fun f => !(seqLe f.1 a)
  if r.length = x.retry.length then s
  else s.setPort p { x with retry := r, replay := x.replay.filter fun f => !(seqLe f.1 a), replays := 0, ackAt := s.now }

/-- Replay from a sequence number. 16 replays of one flit without the ACK advancing bring the port down (R373). -/
def replayFrom (s : State) (p a : Nat) : State :=
  let x := s.port p
  let fs := x.retry.filter fun f => seqLe a f.1
  if fs.isEmpty then s
  else
    let s1 := s.setPort p { x with replay := fs, replays := x.replays + 1, ackAt := s.now }
    if 16 ≤ x.replays + 1 then portDown s1 p else s1

def creditRx (s : State) (p a b c : Nat) : State :=
  let x := s.port p
  s.setPort p { x with credits := (x.credits.1 + a, x.credits.2.1 + b, x.credits.2.2 + c) }

def oweCredit (s : State) (p cls : Nat) : State :=
  let x := s.port p
  s.setPort p { x with owed := credAdd x.owed cls 1 }

/-! ### Spare lanes (R378, R379) -/

/-- LANE_SPARE_WRITE. -/
def laneSpareWrite (s : State) (p : Nat) (sz : AccSz) (v : Word) : State :=
  let old := s.reg (R.LANE_SPARE p)
  let new := match regAt (R.LANE_SPARE p) with
    | some d => d.write sz old v
    | none => old
  let v0 := getBits new 7 7 == 1
  let v1 := getBits new 15 15 == 1
  let l0 := getBits new 4 0
  let l1 := getBits new 12 8
  if decide (17 < l0) || decide (17 < l1) || (v0 && v1 && l0 == l1) then s.setFld (F.PORT_STATUS_MAP_ERR p) 1
  else
    let s1 := s.setReg (R.LANE_SPARE p) new
    if lstate s p ≠ 4 ∨ new = old then s1
    else if (s.port p).feats.testBit 1 then
      let x := s1.port p
      -- the spare that changed, its lane, and whether it is applied or released
      let ch0 : Bool := getBits new 7 0 != getBits old 7 0
      let m : CtlMsg := if ch0 then .laneSwap 0 (if v0 then l0 else getBits old 4 0) v0
        else .laneSwap 1 (if v1 then l1 else getBits old 12 8) v1
      s1.setPort p { x with ctl := x.ctl ++ [m], swap := some (2, false) }
    else portDown s1 p

/-- LANE_SWAP: the echo of this end's own swap starts the count of markers; a swap begun by the partner is echoed and
counted from then (R379). -/
def laneSwapRx (s : State) (p idx lane : Nat) (apply : Bool) : State :=
  if lstate s p ≠ 4 ∨ (s.port p).feats.testBit 1 = false then s
  else
    let x := s.port p
    match x.swap with
    | some (_, false) => s.setPort p { x with swap := some (2, true) }
    | _ =>
      let lo := 8 * idx
      let w := setBits (setBits (s.reg (R.LANE_SPARE p)) (lo + 4) lo (if apply then lane else 0)) (lo + 7) (lo + 7) (b2n apply)
      (s.setReg (R.LANE_SPARE p) w).setPort p { x with ctl := x.ctl ++ [.laneSwap idx lane apply], swap := some (2, true) }

/-- A marker passes: the lanes switch at the second marker after the echo. -/
def markerPass (s : State) (p : Nat) : State :=
  let x := s.port p
  match x.swap with
  | some (k, true) =>
    if k ≤ 1 then s.setPort p { x with swap := none, lanes := s.reg (R.LANE_SPARE p) }
    else s.setPort p { x with swap := some (k - 1, true) }
  | _ => s

/-! ### The frame (R380, R381) -/

/-- The code of a slot of the frame in use; the reset schedule is all MGMT. -/
def slotCode (x : Port) (k : Nat) : Nat :=
  getBits (look (fun _ => 0xAAAAAAAAAAAAAAAA#64) x.codes (k / 32)) (2 * (k % 32) + 1) (2 * (k % 32))

/-- Order of classes of a slot code (Table 15.6). -/
def classOrder (code : Nat) : List Nat :=
  match code with
  | 0 => [0, 1, 2]
  | 1 => [1, 2, 0]
  | _ => [2, 0, 1]

/-- The shadow schedule is installed. -/
def schedInstall (s : State) (p : Nat) : State :=
  if s.flag (F.SCHED_CTRL_SWAP p) then
    let fl := s.fld (F.SCHED_CTRL_FLEN p)
    let codes := (List.range 128).foldl (fun m i => put (fun _ => 0xAAAAAAAAAAAAAAAA#64) m i (s.reg (R.SCHED p i))) []
    ((s.setFld (F.SCHED_CTRL_SWAP p) 0).setFld (F.SCHED_CTRL_FLEN_CUR p) fl).setPort p
      { s.port p with flen := fl, codes := codes, slot := 0 }
  else s

/-- The first packet of a class in an egress queue, where its next flit is ready. -/
def readyFlit (x : Port) (cls : Nat) : Option (Pkt × Flit) :=
  match x.q.find? fun k => k.cls == cls with
  | none => none
  | some k => match k.flits with
    | [] => none
    | f :: _ => some (k, f)

/-- The queue after the first flit of the first packet of a class has been sent. -/
def popFlit (cls : Nat) : List Pkt → List Pkt
  | [] => []
  | k :: ks =>
    if k.cls = cls then
      match k.flits with
      | [] => k :: ks
      | f :: fs => if f.kind = 3 ∨ f.kind = 4 then ks else { k with flits := fs, started := true } :: ks
    else k :: popFlit cls ks

/-- Credits returned in the CREDITS field of a flit that is sent: the first class with credits owed, at most 255. -/
def payCredits (x : Port) : Port :=
  match [0, 1, 2].find? fun c => decide (0 < credOf x.owed c) with
  | some c => { x with owed := credSub x.owed c (min 255 (credOf x.owed c)) }
  | none => x

/-- FLIT_SLOT: one flit slot of an egress port (R365, R380): a marker, a CONTROL flit or a replay before any class, then
the first ready credited flit in the slot's class order, else IDLE; the frame advances. -/
def flitSlot (s : State) (p : Nat) : State :=
  let x := s.port p
  if lstate s p < 3 then s
  else
    let adv (x : Port) (mark : Bool) : Port :=
      { x with sinceMark := if mark then 0 else x.sinceMark + 1, slot := if x.flen ≤ x.slot + 1 then 0 else x.slot + 1 }
    let fin (st : State) (mark : Bool) (tx : TxOut) : State :=
      let y := payCredits (adv (st.port p) mark)
      let st1 := st.setPort p { y with tx := tx }
      if y.slot = 0 then schedInstall st1 p else st1
    if 16379 ≤ x.sinceMark then fin (markerPass s p) true .marker
    else match x.ctl with
      | m :: ms => fin (s.setPort p { x with ctl := ms }) false (.ctl m)
      | [] => match x.replay with
        | f :: fs => fin ((s.setPort p { x with replay := fs }).incFld (F.REPLAY_COUNT_COUNT p) 1) false (.replay f.1 f.2)
        | [] =>
          let pick := (classOrder (slotCode x x.slot)).findSome? fun c =>
            if 0 < credOf x.credits c ∧ x.retry.length < 512 ∧ lstate s p = 4 then
              (readyFlit x c).map fun kf => (c, kf.1, kf.2) else none
          match pick with
          | none => fin s false .idle
          | some (c, k, f) =>
            let x1 := { x with q := popFlit c x.q, credits := credSub x.credits c 1, retry := x.retry ++ [(x.txSeq, f)],
                               txSeq := (x.txSeq + 1) % 1024, ackAt := if x.retry.isEmpty then s.now else x.ackAt }
            let s1 := s.setPort p x1
            let s2 := match k.ingress with
              | some i => oweCredit s1 i c
              | none => s1
            fin s2 false (.flit x.txSeq f)

/-! ### Enabling and closing (R373, R402) -/

/-- PORT_ENABLE: the port becomes ON and starts link training. -/
def portEnable (s : State) (p : Nat) : State :=
  if portState s p = 0 ∧ s.fld (F.PORT_CTRL_ENABLE p) = 0 then
    let s1 := s.engineEnable (R.PORT_CTRL p)
    match (s.port p).downAt with
    | some d => if s.now < d + 7000000 then s1 else portTrain s1 p
    | none => portTrain s1 p
  else s

/-- PORT_DISABLE: unsent transactions end with PORT_CLOSED and count as abandoned, sent ones wait (R402). -/
def portDisable (s : State) (p : Nat) : State :=
  if portState s p = 1 ∧ s.fld (F.PORT_CTRL_ENABLE p) = 1 then
    let s1 := ((s.setEnable (R.PORT_CTRL p) 0).setEngState (R.PORT_CTRL p) 2).setReg (R.PORT_CLOSE p) 0#64
    let x := s1.port p
    let unsent := x.q.filterMap fun k => if k.started then none else k.req
    let s2 := s1.setPort p { x with q := x.q.filter fun k => k.started || k.req.isNone,
                                    trk := x.trk.filter fun t => !(unsent.contains t.2),
                                    closeAt := some (s.now + s.fld (F.PORT_CONF_CLOSE_WAIT p)) }
    let s3 := (unsent.foldl (fun st id => st.endTx id csPORT_CLOSED 0 []) s2).setFld (F.PORT_CLOSE_ABANDONED p) unsent.length
    -- pass-through packets queued for the port are routed again; those under way finish
    let y := s3.port p
    let go := y.q.filter fun k => !k.started
    let s4 := go.foldl (fun st k => routePkt (st.incFld (F.FAILOVER_COUNT_COUNT p) 1) k)
      (s3.setPort p { y with q := y.q.filter fun k => k.started })
    closeCheck s4 p
  else s

/-- CLOSE_WAIT_EXPIRY: the transactions still sent end with PORT_CLOSED and the port goes OFF (R402). -/
def closeWaitExpiry (s : State) (p : Nat) : State :=
  if portState s p = 2 then
    let x := s.port p
    let s1 := x.trk.foldl (fun st t => st.endTx t.2 csPORT_CLOSED 0 []) s
    portOff ((s1.setPort p { s1.port p with trk := [] }).incFld (F.PORT_CLOSE_ABANDONED p) x.trk.length) p
  else s

/-- FAB_NODE_WRITE (R404). -/
def fabNodeWrite (s : State) (sz : AccSz) (v : Word) : State :=
  if (List.range 24).all fun p => portState s p == 0 then s.writeByType R.FAB_NODE sz v
  else s.setFld F.FAB_STATUS_NODE_ERR 1

/-- TRK_USE is a view (Table 15.18). -/
def portView (s : State) (p off : Nat) (raw : Word) : Word :=
  if off = 0x28 then BitVec.ofNat 64 (s.port p).trk.length else raw

end Sys2Proof.Machine
end

