-- ==== Sys2Proof/Machine/Radd.lean ====
section
/-! DEFINITION. Reduce-add at its destination: turn order, acceptance, holding and refusal (R86, R87, R396 to R399), and
the passing of time. -/

namespace Sys2Proof.Machine

/-- Port number that stands for this device's own transactions (Table 15.12). -/
def loopPort : Nat := 24

/-! ### Reduction entries (Table 15.12) -/

/-- Byte k of reduction entry i. -/
def redByte (s : State) (i k : Nat) : Nat := getBits (s.reg (R.REDUCE i (k / 8))) (8 * (k % 8) + 7) (8 * (k % 8))

/-- The entry in use that names a core and slot. -/
def redEntryFor (s : State) (n slot : Nat) : Option RedEntry :=
  ((List.range 64).find? fun i => redByte s i 2 != 0 && redByte s i 0 == n && redByte s i 1 == slot).map fun i =>
    { idx := i, rows := redByte s i 3 + 1,
      who := (List.range (redByte s i 2)).map fun j =>
        (redByte s i (4 + 4 * j) + 256 * redByte s i (5 + 4 * j), redByte s i (6 + 4 * j)) }

/-- The entry latched when the slot was opened (R397, R404). -/
def redOf (s : State) (n slot : Nat) : Option RedEntry := look (fun _ => none) s.fab.red (n * 16 + slot)
def setRed (s : State) (n slot : Nat) (e : Option RedEntry) : State :=
  { s with fab := { s.fab with red := put (fun _ => none) s.fab.red (n * 16 + slot) e } }

/-- The contributor that a source and ingress port are. -/
def RedEntry.contributor (e : RedEntry) (src port : Nat) : Option Nat :=
  e.who.findIdx? fun w => w.2 == port && (port == loopPort || w.1 == src)

/-- A slot is opened: its entry is latched and its turn set to 0 (R397). -/
def openSlot (s : State) (n slot : Nat) : State :=
  match redEntryFor s n slot with
  | none => setRed s n slot none
  | some e => ((setRed s n slot (some e)).setFld (F.RED_STATE_TURN e.idx) 0).setFld (F.RED_STATE_COUNT_RX e.idx) 0

/-! ### Packet status (R393) -/

/-- The completion of an arrived transaction is sent: to the source over the fabric, or to the loopback requester. -/
def replyTxn (s : State) (port cls src tag op status value : Nat) (data : List Byte) : State :=
  if port = loopPort then s.endTx tag status value data
  else sendResponse s src cls (complRecord (ownNode s) op status tag value) data

def RaddPk.isFor (k : RaddPk) (port cls src tag : Nat) : Bool := k.port == port && k.cls == cls && k.src == src && k.tag == tag

/-- One flit of a reduce-add packet is done with a status: the first refused status is kept, the flit's credit is
returned, and the last flit sends the completion. -/
def raddFlitDone (s : State) (port : Nat) (f : RaddFlit) (status : Nat) : State :=
  let old := match s.fab.radd.find? fun k => k.isFor port f.cls f.src f.tag with
    | some k => k.status
    | none => csOK
  let st := if old = csOK then status else old
  let rest := s.fab.radd.filter fun k => !(k.isFor port f.cls f.src f.tag)
  let s1 := { s with fab := { s.fab with radd := if f.last || st == csOK then rest else ⟨f.src, f.tag, port, f.cls, st⟩ :: rest } }
  let s2 := if port < 24 then oweCredit s1 port f.cls else s1
  if f.last then replyTxn s2 port f.cls f.src f.tag opRADD st 0 [] else s2

/-! ### One flit at the slot -/

/-- The core, slot and first entry that a flit addresses; none where its packet's header breaks the size, alignment or
target rules (R389). -/
def RaddFlit.target (f : RaddFlit) : Option (Nat × Nat × Nat) :=
  let rel := f.base - accWinBase
  let n := rel / coreMemSize
  let slot := rel % coreMemSize / 0xC0000
  let rem := rel % coreMemSize % 0xC0000
  if f.sz = 5 ∧ f.base % 64 = 0 ∧ accWinBase ≤ f.base ∧ n < 64 ∧ slot < 16 ∧ rem % 12 = 0 ∧ rem + 32 * 3072 ≤ 0xC0000 then
    some (n, slot, rem / 12 + f.pos)
  else none

/-- Entries added from entry number e of a slot on, row by row (R86). -/
def addEntries (s : State) (n slot last : Nat) : Nat → Nat → List L96 → State
  | 0, _, _ => s
  | _ + 1, _, [] => s
  | k + 1, e, es =>
    let room := 256 - e % 256
    let s1 := addRow s n slot (e / 256) (e % 256) 3 none ((s.core n).issued * 4) last (es.take room)
    addEntries s1 n slot last k (e + room) (es.drop room)

/-- A flit is accepted: its entries are added, and within 24 cycles the additions are complete (R87). The number of
cycles is a free value. -/
def raddAccept (s : State) (n slot e : Nat) (f : RaddFlit) : State :=
  let fv := s.freeVal
  let done := s.now + 1 + fv.1 % 24
  let s1 := addEntries fv.2 n (2 + slot) (done - 1) f.entries.length e f.entries
  let c := s1.core n
  let until' := max done (look (fun _ => 0) c.raddUntil slot)
  (s1.setCore n { c with raddUntil := put (fun _ => 0) c.raddUntil slot until' }).pushLate n done 0 (.raddDone slot)

/-- Accepted entries advance the turn (R397). -/
def countRx (s : State) (r : RedEntry) (k : Nat) : State :=
  let c := s.fld (F.RED_STATE_COUNT_RX r.idx) + k
  if r.rows * 256 ≤ c then
    (s.setFld (F.RED_STATE_COUNT_RX r.idx) 0).setFld (F.RED_STATE_TURN r.idx) (s.fld (F.RED_STATE_TURN r.idx) + 1)
  else s.setFld (F.RED_STATE_COUNT_RX r.idx) c

/-- A flit is refused with a status (R86, R397). -/
def raddRefuse (s : State) (port n : Nat) (f : RaddFlit) (status : Nat) : State :=
  raddFlitDone (s.incFld (F.ACC_REMOTE_REFUSED_COUNT n) 1) port f status

/-- A flit is evaluated; none when it is to be held (R397). -/
def raddEval (s : State) (port : Nat) (f : RaddFlit) : Option State :=
  match f.target with
  | none => some (raddFlitDone s port f csADDR_ERR)
  | some (n, slot, e) =>
    if !((s.fld (F.ACC_REMOTE_OPEN n)).testBit slot) then some (raddRefuse s port n f csACC_REFUSED)
    else match redOf s n slot with
      | none => some (raddFlitDone (raddAccept s n slot e f) port f csOK)
      | some r =>
        match r.contributor f.src port with
        | none => some (raddRefuse s port n f csRADD_ORDER)
        | some j =>
          let turn := s.fld (F.RED_STATE_TURN r.idx)
          if turn < j then none
          else if j < turn then some (raddRefuse s port n f csRADD_ORDER)
          else if r.rows * 256 < e + f.entries.length then some (raddRefuse s port n f csRADD_ORDER)
          else some (raddFlitDone (countRx (raddAccept s n slot e f) r f.entries.length) port f csOK)

/-! ### Waiting flits -/

def Waiting.cls : Waiting → Nat
  | .radd f => f.cls
  | .flit f => f.cls
  | .txn t => t.cls

/-- The class of an ingress port is stopped by a held flit (R398). -/
def classStopped (s : State) (port cls : Nat) : Bool := (s.port port).held.any fun w => w.cls == cls
def holdWaiting (s : State) (port : Nat) (w : Waiting) : State :=
  s.setPort port { s.port port with held := (s.port port).held ++ [w] }

/-- A reduce-add flit reaches its slot at this device, is held there, or waits behind a held one. -/
def raddArrive (s : State) (port : Nat) (f : RaddFlit) : State :=
  if classStopped s port f.cls then holdWaiting s port (.radd f)
  else match raddEval s port f with
    | some s1 => s1
    | none => holdWaiting s port (.radd f)

/-- The head of a stopped class is held for a slot. -/
def heldFor (n slot : Nat) : Waiting → Bool
  | .radd f => match f.target with
    | some t => t.1 == n && t.2.1 == slot
    | none => false
  | _ => false

/-- The waiting entries of the packet of the held head of a class, in order, with the others (R399). -/
def splitPacket (cls src tag : Nat) : List Waiting → Bool → List Waiting × List Waiting
  | [], _ => ([], [])
  | w :: ws, ended =>
    let mine := w.cls == cls && !ended && (match w with
      | .radd f => f.src == src && f.tag == tag
      | .flit _ => true
      | .txn _ => false)
    let ended' := ended || (w.cls == cls && !mine) || (mine && (match w with
      | .radd f => f.last
      | .flit f => f.kind == 3 || f.kind == 4
      | .txn _ => true))
    let r := splitPacket cls src tag ws ended'
    if mine then (w :: r.1, r.2) else (r.1, w :: r.2)

/-- One waiting entry of a refused packet. -/
def refuseWaiting (n : Nat) (f0 : RaddFlit) (port : Nat) (s : State) (w : Waiting) : State :=
  match w with
  | .radd f => raddRefuse s port n f csRADD_ORDER
  | .flit g =>
    let x := s.port port
    let skip (r : RxPkt) : RxPkt := if r.cls == g.cls then { r with pos := r.pos + g.payload.length / 12 } else r
    let rx := if g.kind = 3 then x.rx.filter (fun r => r.cls != g.cls) else x.rx.map skip
    let s1 := s.setPort port { x with rx := rx }
    raddRefuse s1 port n { f0 with entries := [], last := g.kind == 3 } csRADD_ORDER
  | .txn _ => s

/-- R399: the held flits of a slot at one port are refused when its OPEN bit is cleared. -/
def refuseHeld (n slot : Nat) (s : State) (port : Nat) : State :=
  [0, 1, 2].foldl (fun st cls =>
    match (st.port port).held.find? fun w => w.cls == cls with
    | some (.radd f) =>
      if heldFor n slot (.radd f) then
        let p := splitPacket cls f.src f.tag (st.port port).held false
        p.1.foldl (refuseWaiting n f port) (st.setPort port { st.port port with held := p.2 })
      else st
    | _ => st) s

/-- ACC_REMOTE_WRITE (R86, R87, R397, R399): bits of OPEN newly set open their slots, bits cleared refuse what is
held for them. -/
def accRemoteWrite (s : State) (n : Nat) (sz : AccSz) (v : Word) : State :=
  let old := s.fld (F.ACC_REMOTE_OPEN n)
  let s1 := s.writeByType (R.ACC_REMOTE n) sz v
  let new := s1.fld (F.ACC_REMOTE_OPEN n)
  (List.range 16).foldl (fun st i =>
    if !(old.testBit i) && new.testBit i then openSlot st n i
    else if old.testBit i && !(new.testBit i) then
      setRed ((List.range 25).foldl (refuseHeld n i) st) n i none
    else st) s1

/-! ### Time -/

/-- A transaction waits for a tracker of a port that has none free (R387). -/
def trkStarved (s : State) (p : Nat) (x : Port) : Bool :=
  decide (512 ≤ x.trk.length) && s.fab.txs.any fun t => t.st == .waiting && routePort s t.node == some p

/-- The counters of one port over k cycles: cycles of held reduce-add flits, cycles with no free tracker. -/
def portCycles (k : Nat) (s : State) (p : Nat × Port) : State :=
  let s1 := if p.2.held.isEmpty || decide (24 ≤ p.1) then s else s.incFld (F.RADD_HOLD_COUNT p.1) k
  if trkStarved s p.1 p.2 then s1.incFld (F.TRK_FULL_COUNT p.1) k else s1

/-- The clock moves on to a cycle, never back. -/
def State.clock (s : State) (t : Nat) : State :=
  if t ≤ s.now then s
  else { s.fab.ports.foldl (portCycles (t - s.now)) s with now := t }

end Sys2Proof.Machine
end

