-- ==== Sys2Proof/Machine/Arb.lean ====
section
/-! DEFINITION. The maintenance arbiter (R499, R500). -/

namespace Sys2Proof.Machine

/-- The controller of a 24-bit channel scope. -/
def chanMc (scope : Nat) : Nat := scope / 8

/-- Two activities form an incompatible pair on one scope (Table 19.13), seen from the one that would wait: activity 6
never waits, and activity 7 never waits. -/
def maintClash (waiter other : MaintAct) : Bool :=
  match waiter.code, other.code with
  | 0, 1 => waiter.scope == other.scope
  | 1, 0 => waiter.scope == other.scope
  | 2, 0 => waiter.scope == chanMc other.scope
  | 2, 1 => waiter.scope == chanMc other.scope
  | 0, 2 => chanMc waiter.scope == other.scope
  | 1, 2 => chanMc waiter.scope == other.scope
  | 3, 4 => waiter.scope == other.scope
  | 4, 3 => waiter.scope == other.scope
  | 5, 3 => waiter.scope == other.scope
  | 5, 4 => waiter.scope == other.scope
  | 3, 5 => waiter.scope == other.scope
  | 4, 5 => waiter.scope == other.scope
  | 3, 6 => waiter.scope == other.scope
  | 4, 6 => waiter.scope == other.scope
  | 5, 6 => waiter.scope == other.scope
  | 3, 7 => true
  | 8, 9 => waiter.scope == other.scope
  | 9, 8 => waiter.scope == other.scope
  | _, _ => false

/-- Spare blocks of a die that are free for a region (Table 10.9). -/
def dieSpare (s : State) (die : Nat) (bulk : Bool) : Nat :=
  if bulk then s.fld (F.FL_DIE_SPARE_BULK die) else s.fld (F.FL_DIE_SPARE_SPILL die)

/-- A die whose free pool falls below 2 blocks collects although a checkpoint flush is on (Table 19.13). -/
def gcOverride (s : State) (a : MaintAct) : Bool :=
  a.code == 3 && (decide (dieSpare s a.scope false < 2) || decide (dieSpare s a.scope true < 2))

/-- The state of a unit under self-test, in the order of R501: cores, update units, attention engines. -/
def stUnitState (s : State) (u : Nat) : Nat :=
  if u < 64 then coreState s u else if u < 80 then s.fld (F.UPD_CTRL_STATE (u - 64)) else s.fld (F.ATT_CTRL_STATE (u - 80))

/-- An activity has to wait for those given (R499, R500). -/
def maintBlocked (s : State) (a : MaintAct) (others : List MaintAct) : Bool :=
  (others.any fun b => maintClash a b && !(b.code == 7 && gcOverride s a)) || (a.code == 10 && stUnitState s a.scope != 0)

/-- An activity runs. A collection that runs although a checkpoint flush is on is counted as an override. -/
def arbBegin (s : State) (a : MaintAct) (wait : List MaintAct) : State :=
  let s1 := if a.code == 3 && (s.arb.run.any fun b => b.code == 7) then (s.incFld F.ARB_OVERRIDE_COUNT 1).raise 169 else s
  { s1 with arb := { run := s.arb.run ++ [a], wait := wait } }

/-- ARB_REQUEST: an activity runs, or waits and is counted; true when it runs. -/
def arbRequest (s : State) (a : MaintAct) : Bool × State :=
  if s.arb.run.contains a || s.arb.wait.contains a then (s.arb.run.contains a, s)
  else if maintBlocked s a (s.arb.run ++ s.arb.wait) then
    (false, { s.incFld (F.ARB_WAIT_COUNT a.code) 1 with arb := { s.arb with wait := s.arb.wait ++ [a] } })
  else (true, arbBegin s a s.arb.wait)

/-- The activities that wait before a given one. -/
def arbBefore (a : MaintAct) : List MaintAct → List MaintAct
  | [] => []
  | b :: bs => if a = b then [] else b :: arbBefore a bs

/-- A waiting activity may start. -/
def arbReady (s : State) (a : MaintAct) : Bool :=
  s.arb.wait.contains a && !(maintBlocked s a (s.arb.run ++ arbBefore a s.arb.wait))

/-- ARB_START: a waiting activity whose earlier incompatible ones have ended runs. -/
def arbStart (s : State) (a : MaintAct) : State :=
  if arbReady s a then arbBegin s a (s.arb.wait.erase a) else s

/-- An activity ends. -/
def arbEnd (s : State) (a : MaintAct) : State :=
  { s with arb := { run := s.arb.run.erase a, wait := s.arb.wait } }

end Sys2Proof.Machine
end

