-- ==== Sys2Proof/Machine/Scalar.lean ====
section
/-! DEFINITION. The S slot (R139 to R145): for every instruction its encoding check, its fault conditions in order, and
its effect on the state in which its bundle issues in cycle u. -/

namespace Sys2Proof.Machine

def cILLEGAL : Nat := 0x01
def cLOOP_NEST : Nat := 0x05
def cSMEM_ADDR : Nat := 0x06
def cREG_ACCESS : Nat := 0x07

/-! ### Register forms (Tables 6.2 and 6.3) -/

/-- Bits 21:18 zero, as every register form but S.SEL has them. -/
def sRegLegal (y : Syl) : Bool := fb y 21 18 == 0

/-- A register form: rd receives a value of ra and rb after latency l. -/
def sRegApply (op : Word → Word → Word) (l u : Nat) (y : Syl) (s : State) : State :=
  writeSr y u l (fb y 17 12) (op (srF y s 11 6) (srF y s 5 0)) s

def sAddApply : Nat → Syl → State → State := sRegApply (fun a b => a + b) 1
def sSubApply : Nat → Syl → State → State := sRegApply (fun a b => a - b) 1
def sAndApply : Nat → Syl → State → State := sRegApply (fun a b => a &&& b) 1
def sOrApply : Nat → Syl → State → State := sRegApply (fun a b => a ||| b) 1
def sXorApply : Nat → Syl → State → State := sRegApply (fun a b => a ^^^ b) 1
def shCount (b : Word) : Nat := getBits b 5 0
def sShlApply : Nat → Syl → State → State := sRegApply (fun a b => a <<< shCount b) 1
def sShrApply : Nat → Syl → State → State := sRegApply (fun a b => a >>> shCount b) 1
def sSraApply : Nat → Syl → State → State := sRegApply (fun a b => a.sshiftRight (shCount b)) 1
def sMinApply : Nat → Syl → State → State := sRegApply (fun a b => if a.slt b then a else b) 1
def sMaxApply : Nat → Syl → State → State := sRegApply (fun a b => if a.slt b then b else a) 1
def sMinuApply : Nat → Syl → State → State := sRegApply (fun a b => if a.ult b then a else b) 1
def sMaxuApply : Nat → Syl → State → State := sRegApply (fun a b => if a.ult b then b else a) 1
def sMulApply : Nat → Syl → State → State := sRegApply (fun a b => a * b) 3
def sMulhuApply : Nat → Syl → State → State :=
  sRegApply (fun a b => BitVec.ofNat 64 ((a.toNat * b.toNat) >>> 64)) 3

/-- S.SEL: p[PS] read at issue chooses ra or rb. -/
def sSelApply (u : Nat) (y : Syl) (s : State) : State :=
  writeSr y u 1 (fb y 17 12) (if s.pr y.n (fb y 21 18) then srF y s 11 6 else srF y s 5 0) s

/-! ### Immediate forms (Table 6.4) -/

/-- The sign-extended immediate of w bits. -/
def sext (w x : Nat) : Word := BitVec.ofInt 64 (sextInt w x)

def sAddiApply (u : Nat) (y : Syl) (s : State) : State :=
  writeSr y u 1 (fb y 21 16) (srF y s 15 10 + sext 10 (fb y 9 0)) s
def sAndiApply (u : Nat) (y : Syl) (s : State) : State :=
  writeSr y u 1 (fb y 21 16) (srF y s 15 10 &&& sext 10 (fb y 9 0)) s
def sShiLegal (y : Syl) : Bool := fb y 9 6 == 0
def sShliApply (u : Nat) (y : Syl) (s : State) : State :=
  writeSr y u 1 (fb y 21 16) (srF y s 15 10 <<< fb y 5 0) s
def sShriApply (u : Nat) (y : Syl) (s : State) : State :=
  writeSr y u 1 (fb y 21 16) (srF y s 15 10 >>> fb y 5 0) s
def sSraiApply (u : Nat) (y : Syl) (s : State) : State :=
  writeSr y u 1 (fb y 21 16) ((srF y s 15 10).sshiftRight (fb y 5 0)) s
def sLiApply (u : Nat) (y : Syl) (s : State) : State :=
  writeSr y u 1 (fb y 21 16) (sext 16 (fb y 15 0)) s
/-- S.LIH16, S.LIH32, S.LIH48: 16 bits of rd from bit lo replaced; the other bits are those rd holds at issue. -/
def sLihApply (lo u : Nat) (y : Syl) (s : State) : State :=
  writeSr y u 1 (fb y 21 16) (setBits (srF y s 21 16) (lo + 15) lo (fb y 15 0)) s
def sLih16Apply : Nat → Syl → State → State := sLihApply 16
def sLih32Apply : Nat → Syl → State → State := sLihApply 32
def sLih48Apply : Nat → Syl → State → State := sLihApply 48

/-! ### Compares and predicates (Tables 6.5 and 6.6, R142) -/

def sCmpLegal (y : Syl) : Bool := decide (fb y 21 18 < 8) && fb y 13 12 == 0
def sCmpApply (u : Nat) (y : Syl) (s : State) : State :=
  writePr y u (fb y 17 14) (condHolds (fb y 21 18) (srF y s 11 6) (srF y s 5 0)) s
def sCmpiLegal (y : Syl) : Bool := decide (fb y 21 18 < 8)
def sCmpiApply (u : Nat) (y : Syl) (s : State) : State :=
  writePr y u (fb y 17 14) (condHolds (fb y 21 18) (srF y s 13 8) (sext 8 (fb y 7 0))) s

def sPlogLegal (y : Syl) : Bool := fb y 21 16 == 0
def sPlogApply (u : Nat) (y : Syl) (s : State) : State :=
  writePr y u (fb y 15 12)
    ((fb y 3 0).testBit (2 * b2n (s.pr y.n (fb y 11 8)) + b2n (s.pr y.n (fb y 7 4)))) s

def sRdpLegal (y : Syl) : Bool := fb y 15 0 == 0
def sRdpApply (u : Nat) (y : Syl) (s : State) : State :=
  writeSr y u 1 (fb y 21 16) (BitVec.ofNat 64 (foldBits 16 fun i => s.pr y.n i)) s

def sWrpLegal (y : Syl) : Bool := fb y 21 6 == 0
def sWrpApply (u : Nat) (y : Syl) (s : State) : State :=
  s.pushLate y.n (u + 1) 0 (.preds (getBits (srF y s 5 0) 15 0))

/-! ### Loads and stores (R132, R143) -/

def sMemSize (y : Syl) : Nat := 2 ^ fb y 9 8
/-- ra + sext(OFF7) × size, modulo 2^64. -/
def sMemAddr (y : Syl) (s : State) : Nat :=
  (srF y s 15 10 + BitVec.ofInt 64 (sextInt 7 (fb y 6 0) * (sMemSize y : Nat))).toNat

def inOwnCore (n a : Nat) : Bool :=
  decide (coreMemBase + n * coreMemSize ≤ a) && decide (a < coreMemBase + (n + 1) * coreMemSize)
def inOwnBlock (n a : Nat) : Bool := decide (coreBlock n ≤ a) && decide (a < coreBlock n + 0x10000)

/-- A target that is neither own core memory nor the own control block, or a misaligned core memory access. -/
def sMemBad (y : Syl) (s : State) : Bool :=
  let a := sMemAddr y s
  !(inOwnBlock y.n a) && (!(inOwnCore y.n a) || a % sMemSize y != 0)

def sLdLegal (y : Syl) : Bool := !(fb y 7 7 == 1 && fb y 9 8 == 3)
def sLdCheck (y : Syl) (s : State) : List FaultC :=
  let a := sMemAddr y s
  faultIf (sMemBad y s) cSMEM_ADDR a ++
    faultIf (inOwnBlock y.n a && (accOf a (sMemSize y)).isNone) cREG_ACCESS a
/-- The value a load extends from its size. -/
def extendLoad (y : Syl) (x : Nat) : Word :=
  if fb y 7 7 = 1 then sext (8 * sMemSize y) x else BitVec.ofNat 64 x
def sLdApply (u : Nat) (y : Syl) (s : State) : State :=
  let a := sMemAddr y s
  if inOwnBlock y.n a then
    match accOf a (sMemSize y) with
    | some (ra, sz) =>
      let r := coreRead s y.n (ra - coreBlock y.n) sz
      writeSr y u 12 (fb y 21 16) (extendLoad y r.1.toNat) r.2
    | none => s
  else writeSr y u 4 (fb y 21 16) (extendLoad y (s.readLE (.flat a) (sMemSize y))) s

def sStLegal (y : Syl) : Bool := fb y 7 7 == 0
/-- Offsets a store of the core itself may not write (R132, R203). -/
def sStBarred (s : State) (n off : Nat) : Bool :=
  (decide (off < 0x1100) && off / 8 != 0x1028 / 8) ||
    (((decide (0x4440 ≤ off) && decide (off < 0x4540)) || off / 8 == 0x4548 / 8) && !(vecIdle s n))
def sStCheck (y : Syl) (s : State) : List FaultC :=
  let a := sMemAddr y s
  faultIf (sMemBad y s) cSMEM_ADDR a ++
    faultIf (inOwnBlock y.n a && ((accOf a (sMemSize y)).isNone || sStBarred s y.n (a - coreBlock y.n))) cREG_ACCESS a
def sStApply (u : Nat) (y : Syl) (s : State) : State :=
  let a := sMemAddr y s
  let v := srF y s 21 16
  if inOwnBlock y.n a then s.pushLate y.n (u + 4) 0 (.regStore (s.fld (F.SEQ_STATUS_PC y.n)) a (sMemSize y) v)
  else s.pushLate y.n (u + 4) 0 (.mem (.flat a) (leBytes (sMemSize y) v.toNat))

/-! ### Branches and loops (R118 to R121, R144, R145) -/

def pcOf (s : State) (n : Nat) : Nat := s.fld (F.SEQ_STATUS_PC n)
def kdepth (s : State) (n : Nat) : Nat := s.fld (F.SEQ_STATUS_KDEPTH n)
def inDelay (s : State) (n : Nat) : Bool := (s.core n).branch.isSome

/-- The LOOP_NEST conditions of a taken branch at the program counter against a loop stack of depth k (R120). -/
def branchNest (s : State) (n k target : Nat) : Bool :=
  if k = 0 then false
  else
    let st := s.fld (F.KREG_START n (k - 1))
    let en := s.fld (F.KREG_END n (k - 1))
    let a := pcOf s n
    decide (target < st) || decide (en < target) || en == a || en == a + 1 || en == a + 2

/-- A branch or loop syllable in a delay slot faults with ILLEGAL_OP (R118). -/
def delayIllegal (op : Nat) (y : Syl) (s : State) : List FaultC :=
  faultIf (inDelay s y.n) cILLEGAL (sylWord op y)

def setCtl (s : State) (n : Nat) (f : Ctl → Ctl) : State :=
  let c := s.core n
  s.setCore n { c with ctl := f c.ctl }
def takeBranch (s : State) (n target : Nat) : State := setCtl s n fun c => { c with taken := some target }

def sBrLegal (y : Syl) : Bool := fb y 21 14 == 0
def sBrCheck (y : Syl) (s : State) : List FaultC :=
  delayIllegal 0x20 y s ++ faultIf (branchNest s y.n (kdepth s y.n) (fb y 13 0)) cLOOP_NEST (kdepth s y.n)
def sBrApply (_u : Nat) (y : Syl) (s : State) : State := takeBranch s y.n (fb y 13 0)

def sBrlLegal (y : Syl) : Bool := fb y 21 20 == 0
def sBrlCheck (y : Syl) (s : State) : List FaultC :=
  delayIllegal 0x21 y s ++ faultIf (branchNest s y.n (kdepth s y.n) (fb y 13 0)) cLOOP_NEST (kdepth s y.n)
def sBrlApply (u : Nat) (y : Syl) (s : State) : State :=
  writeSr y u 1 (fb y 19 14) (BitVec.ofNat 64 (pcOf s y.n + 3)) (takeBranch s y.n (fb y 13 0))

def sBrrLegal (y : Syl) : Bool := fb y 21 6 == 0
def sBrrTarget (y : Syl) (s : State) : Nat := getBits (srF y s 5 0) 13 0
def sBrrCheck (y : Syl) (s : State) : List FaultC :=
  delayIllegal 0x22 y s ++ faultIf (branchNest s y.n (kdepth s y.n) (sBrrTarget y s)) cLOOP_NEST (kdepth s y.n)
def sBrrApply (_u : Nat) (y : Syl) (s : State) : State := takeBranch s y.n (sBrrTarget y s)

/-- S.BRK: the tests of R120 are made against the loop left after the pop. -/
def sBrkCheck (y : Syl) (s : State) : List FaultC :=
  let k := kdepth s y.n
  delayIllegal 0x23 y s ++ faultIf (k == 0 || branchNest s y.n (k - 1) (fb y 13 0)) cLOOP_NEST k
def sBrkApply (_u : Nat) (y : Syl) (s : State) : State :=
  takeBranch (s.setFld (F.SEQ_STATUS_KDEPTH y.n) (kdepth s y.n - 1)) y.n (fb y 13 0)

def sLoopLegal (y : Syl) : Bool := fb y 21 21 == 1 || fb y 20 20 == 0
def sLoopCount (y : Syl) (s : State) : Nat :=
  if fb y 21 21 = 1 then fb y 20 14 else getBits (srF y s 19 14) 31 0
def sLoopCheck (y : Syl) (s : State) : List FaultC :=
  let k := kdepth s y.n
  delayIllegal 0x24 y s ++
    faultIf ((decide (1 ≤ sLoopCount y s) && k == 4) || decide (fb y 13 0 < pcOf s y.n + 1)) cLOOP_NEST k
def sLoopApply (_u : Nat) (y : Syl) (s : State) : State :=
  let k := kdepth s y.n
  let cnt := sLoopCount y s
  if cnt = 0 then setCtl s y.n fun c => { c with skip := some (fb y 13 0 + 1) }
  else
    (s.setReg (R.KREG y.n k) (BitVec.ofNat 64 (cnt + (pcOf s y.n + 1) * 2 ^ 32 + fb y 13 0 * 2 ^ 48))).setFld
      (F.SEQ_STATUS_KDEPTH y.n) (k + 1)

def sHaltLegal (y : Syl) : Bool := y.f == 0#22
def sHaltApply (_u : Nat) (y : Syl) (s : State) : State := setCtl s y.n fun c => { c with halt := true }

end Sys2Proof.Machine
end

