-- ==== Sys2Proof/Machine/Stream.lean ====
section
/-! DEFINITION. Stream descriptors, tiles and staging areas (R227 to R233, R239, R242). -/

namespace Sys2Proof.Machine

/-! ### Descriptor fields (Table 9.2) -/

def dF (d : BitVec 256) (hi lo : Nat) : Nat := bitsOf d.toNat hi lo
def dBase (d : BitVec 256) : Nat := dF d 47 0
def dNode (d : BitVec 256) : Nat := dF d 63 48
def dExt (d : BitVec 256) (k : Nat) : Nat := dF d (79 + 16 * k) (64 + 16 * k)
def dStr (d : BitVec 256) (k : Nat) : Int := sextInt 28 (dF d (155 + 28 * k) (128 + 28 * k))
def dFmt (d : BitVec 256) : Nat := dF d 243 240
def dTier (d : BitVec 256) : Nat := dF d 245 244
def dDepth (d : BitVec 256) : Nat := dF d 251 246
def dCl (d : BitVec 256) : Nat := dF d 252 252
def dGuard (d : BitVec 256) : Bool := dF d 253 253 == 1
def dCr (d : BitVec 256) : Bool := dF d 254 254 == 1
def dMoss (d : BitVec 256) : Bool := dFmt d == 8 || dFmt d == 9

/-- Row bytes of a stream format (Table 9.3); for moss, of the decoded tile. -/
def fmtRowBytes (f : Nat) : Nat :=
  match f with
  | 2 => 1024
  | 3 => 256
  | 4 => 256
  | 5 => 256
  | 6 => 1024
  | 7 => 3072
  | 10 => 128
  | 11 => 8
  | _ => 512

/-- SZ of M.LDS and M.STS for a stream format (Table 9.3). -/
def fmtSz (f : Nat) : Nat :=
  match f with
  | 2 => 4
  | 3 => 2
  | 4 => 2
  | 5 => 2
  | 6 => 4
  | 7 => 5
  | 10 => 1
  | 11 => 0
  | _ => 3

/-- Indices of the extent: rows, or tiles of a moss stream (R231, R242). -/
def dCount (d : BitVec 256) : Nat := dExt d 0 * dExt d 1 * dExt d 2 * dExt d 3
def dTiles (d : BitVec 256) : Nat := if dMoss d then dCount d else dCount d / 32
/-- Bytes at one index: the row size, or the slot size of a moss tile. -/
def dUnit (d : BitVec 256) : Nat := if dMoss d then mossSlot else fmtRowBytes (dFmt d)

/-- The offset of index i from BASE (R231). -/
def dOffset (d : BitVec 256) (i : Nat) : Int :=
  let e0 := dExt d 0; let e1 := dExt d 1; let e2 := dExt d 2
  let i1 := i / e0; let i2 := i1 / e1; let i3 := i2 / e2
  8 * ((i % e0 : Nat) * dStr d 0 + (i1 % e1 : Nat) * dStr d 1 + (i2 % e2 : Nat) * dStr d 2 + (i3 : Nat) * dStr d 3)

/-- The local address of index i, on the 48 local bits (R231). -/
def dAddr (d : BitVec 256) (i : Nat) : Nat := (((dBase d : Int) + dOffset d i) % (2 ^ 48 : Nat)).toNat

/-- The bounding range of the extent: lowest byte and highest byte (R231). -/
def dLow (d : BitVec 256) : Int :=
  (List.range 4).foldl (fun a k => a + 8 * min 0 (((dExt d k : Int) - 1) * dStr d k)) (dBase d : Int)
def dHigh (d : BitVec 256) : Int :=
  (List.range 4).foldl (fun a k => a + 8 * max 0 (((dExt d k : Int) - 1) * dStr d k)) (dBase d : Int) + dUnit d - 1

/-- End of the usable LPDDR 6 range: reduced in reserve mode (R265). -/
def usableEnd (s : State) : Nat := if s.flag (F.MC_STATUS_RESERVE 0) then 0x013B00000000 else lpddrEnd

/-- Tier code of a local address in Table 9.1; none outside the three stream ranges. -/
def tierCode (a : Nat) : Option Nat :=
  if a < lpddrEnd then some 1
  else if stackBase ≤ a ∧ a < stackEnd then some 0
  else if flashBase ≤ a ∧ a < flashEnd then some 2
  else none

/-- The flash region of an address (Table 10.2): 0 spill, 1 bulk. -/
def flashRegion (a : Nat) : Option Nat :=
  if 0x400000000000 ≤ a ∧ a < 0x400400000000 then some 0
  else if 0x480000000000 ≤ a ∧ a < 0x580000000000 then some 1
  else none

/-- The local addresses (and byte counts) of the parts of tile t: its 32 rows, or its moss slot. -/
def tileRows (d : BitVec 256) (t : Nat) : List (Nat × Nat) :=
  if dMoss d then [(dAddr d t, mossSlot)]
  else (List.range 32).map fun r => (dAddr d (32 * t + r), fmtRowBytes (dFmt d))

/-- Global address of row 0 of tile t (R237, R245). -/
def tileGlobal (d : BitVec 256) (t : Nat) : Nat := dNode d * 2 ^ 48 + (if dMoss d then dAddr d t else dAddr d (32 * t))

/-- Every granule a tile touches is granted (R237, R240, R241). -/
def tileGranted (s : State) (n : Nat) (d : BitVec 256) (t perm : Nat) : Bool :=
  (tileRows d t).all fun r => s.granted n (dNode d) r.1 r.2 perm

/-- Bytes of one staging slot and of the staging area (R233). -/
def slotBytes (d : BitVec 256) : Nat := if dMoss d then mossSlot else 32 * fmtRowBytes (dFmt d)
def stagingBytes (d : BitVec 256) : Nat := (dDepth d + 1) * slotBytes d

/-- The staging areas of the open streams of a core: base and length. -/
def stagingAreas (c : Core) : List (Nat × Nat) :=
  (c.streams.filter fun p => dTier p.2.desc != 0).map fun p => (p.2.base, stagingBytes p.2.desc)

/-- The descriptor checks of R232 that do not name the staging area. -/
def descForm (s : State) (d : BitVec 256) : Bool :=
  let a : Int := if dMoss d then 64 else min 64 (fmtRowBytes (dFmt d))
  let localNode := s.nodeLocal (dNode d)
  let lo := dLow d
  let hi := dHigh d
  let rangeOk := decide (0 ≤ lo) && decide (hi < (2 ^ 48 : Nat)) &&
    (match tierCode lo.toNat, tierCode hi.toNat with
     | some x, some y => x == y
     | _, _ => false) &&
    (!(localNode && decide (flashBase ≤ lo.toNat) && decide (lo.toNat < flashEnd)) ||
      (match flashRegion lo.toNat, flashRegion hi.toNat with
       | some x, some y => x == y
       | _, _ => false))
  let tierOk := if localNode then tierCode (dBase d) == some (dTier d) else dTier d == 3
  (dF d 255 255 == 0 && decide (dFmt d < 12)) &&
  ((List.range 4).all fun k => decide (1 ≤ dExt d k)) &&
  ((dMoss d || dCount d % 32 == 0) && decide (dTiles d < 2 ^ 32)) &&
  ((dBase d : Int) % a == 0 && (List.range 4).all fun k => 8 * dStr d k % a == 0) &&
  tierOk && rangeOk && !(dGuard d && dTier d == 3) && !(dCr d && dTier d == 0)

/-- The descriptor checks of R232, with the staging base of R148 and R233. -/
def descValid (s : State) (n : Nat) (d : BitVec 256) (stg : Nat) : Bool :=
  let sb := stagingBytes d
  let stgOk := dTier d == 0 ||
    (decide (stackBase + 0x10000 ≤ stg) && decide (stg + sb ≤ stackEnd) &&
      ((stagingAreas (s.core n)).all fun r => decide (stg + sb ≤ r.1) || decide (r.1 + r.2 ≤ stg)))
  descForm s d && stgOk

/-- The staging base as a tier address: node bits 0x0000 or 0xFFFF, 64-byte aligned, in stack memory, granted RD and
WR (R138, R219). -/
def stagingBaseOk (s : State) (n : Nat) (w : Word) (d : BitVec 256) : Bool :=
  let node := getBits w 63 48
  let a := getBits w 47 0
  let len := if dTier d = 0 then 1 else stagingBytes d
  (node == 0 || node == 0xFFFF) && a % 64 == 0 && inRange a len stackBase stackEnd &&
    s.granted n 0xFFFF a len permRD && s.granted n 0xFFFF a len permWR

/-- The slot of an input stream that a tile uses, and the slot's number (R233). -/
def Stream.slotIdx (t : Stream) (tile : Nat) : Nat := tile % (dDepth t.desc + 1)
def Stream.slot (t : Stream) (tile : Nat) : StgSlot := t.slots.getD (t.slotIdx tile) StgSlot.reset
def Stream.setSlot (t : Stream) (i : Nat) (x : StgSlot) : Stream := { t with slots := t.slots.set i x }
def Stream.slotAddr (t : Stream) (i : Nat) : Nat := t.base + i * slotBytes t.desc

/-- A slot holds its tile for a load in cycle u. -/
def StgSlot.readyAtCycle (x : StgSlot) (u : Nat) : Bool := x.st == .ready && decide (x.readyAt ≤ u)

/-- A tier stall: the cause (index into Table 9.5: 0 LPDDR_LATE, 1 CHECKBIT_MISS, 2 FLASH_LATE, 3 FABRIC_LATE,
4 GUARD_STALL, 5 EXTENT_STALL), the index of its bound (R245), the stream, the slot and the tile awaited. -/
structure TierStall where
  cause : Nat
  bound : Nat
  d : Nat
  slot : Option Nat
  tile : Nat
deriving DecidableEq, Repr

/-- TIER_BOUND index of a stream's tier (R245). -/
def boundIdx (tier : Nat) : Nat := if tier = 0 then 3 else tier - 1

/-- The cause counter of the slot awaited in cycle u (Table 9.5). -/
def slotCause (tier u : Nat) (x : StgSlot) : Nat :=
  if x.st == .stale && (match x.guardAt with | some g => decide (u < g + 64) | none => true) then 4
  else if tier = 1 then (if x.allData then 1 else 0)
  else if tier = 2 then 2
  else 3

/-- The tier stall of an M.LDS on stream d (R149, R234, R240). -/
def ldsStall (s : State) (n u d : Nat) : Option TierStall :=
  match (s.core n).stream d with
  | none => none
  | some t =>
    let tier := dTier t.desc
    if dTiles t.desc ≤ t.taken then some ⟨5, boundIdx tier, d, none, t.taken⟩
    else if tier = 0 then none
    else
      let x := t.slot t.taken
      if x.tile = t.taken ∧ (x.readyAtCycle u ∨ x.st = .denied ∨ x.st = .failed) then none
      else some ⟨slotCause tier u x, boundIdx tier, d, some (t.slotIdx t.taken), t.taken⟩

/-- Slots of open input streams of the core that a stack memory range overlaps, lowest address first: stream number,
slot number, address (R239). -/
def overlapped (c : Core) (a len : Nat) : List (Nat × Nat × Nat) :=
  let all := c.streams.flatMap fun p =>
    if p.2.out || dTier p.2.desc == 0 then []
    else (List.range (dDepth p.2.desc + 1)).filterMap fun i =>
      let b := p.2.slotAddr i
      if b < a + len ∧ a < b + slotBytes p.2.desc then some (p.1, i, b) else none
  all.foldl insertByAddr []
where insertByAddr (l : List (Nat × Nat × Nat)) (x : Nat × Nat × Nat) : List (Nat × Nat × Nat) :=
  match l with
  | [] => [x]
  | y :: ys => if x.2.2 < y.2.2 then x :: y :: ys else y :: insertByAddr ys x

/-- The tier stall of a staged M.LD (R239): the lowest-addressed overlapped slot that is not ready (R244). -/
def ldStall (s : State) (n u a len : Nat) : Option TierStall :=
  let c := s.core n
  (overlapped c a len).findSome? fun o =>
    match c.stream o.1 with
    | none => none
    | some t =>
      let x := t.slots.getD o.2.1 StgSlot.reset
      if x.readyAtCycle u ∨ x.st = .denied ∨ x.st = .failed then none
      else some ⟨slotCause (dTier t.desc) u x, boundIdx (dTier t.desc), o.1, some o.2.1, x.tile⟩

/-- Same-device writes mark STALE every guarded slot whose tile they touch (R247): READY and REQUESTED slots. -/
def StgSlot.mark (x : StgSlot) : StgSlot :=
  if x.st = .ready ∨ x.st = .requested ∨ x.st = .stale then { x with st := .stale, guardAt := none, refetch := false }
  else x

def tileTouched (d : BitVec 256) (t a len : Nat) : Bool :=
  (tileRows d t).any fun r => decide (r.1 < a + len) && decide (a < r.1 + r.2)

def Core.guardMark (c : Core) (isLocal : Nat → Bool) (a len : Nat) : Core :=
  { c with streams := c.streams.map fun p =>
      if p.2.out || !(dGuard p.2.desc) || !(isLocal (dNode p.2.desc)) then p
      else (p.1, { p.2 with slots := p.2.slots.map fun x => if tileTouched p.2.desc x.tile a len then x.mark else x }) }

/-- R247: the guard mark of a write of len bytes at local address a, in every core. -/
def guardMark (s : State) (a len : Nat) : State :=
  if len = 0 then s
  else { s with cores := s.cores.map fun p => (p.1, p.2.guardMark s.nodeLocal a len) }

/-- A same-device write (R247): the bytes stand and the guarded slots are marked. -/
def deviceWrite (s : State) (a : Nat) (bs : List Byte) : State := guardMark (s.writeBytes (.flat a) bs) a bs.length

end Sys2Proof.Machine
end

