-- ==== Sys2Proof/Machine/Move.lean ====
section
/-! DEFINITION. The M slot (R146 to R160, R235 to R242, R249): encoding checks, stall conditions, fault conditions in
order, and effects at issue in cycle u. -/

namespace Sys2Proof.Machine

def cMOVE_OCCUPIED : Nat := 0x08
def cDESC_INVALID : Nat := 0x09
def cWINDOW_DENIED : Nat := 0x0A
def cTIER_FAIL : Nat := 0x0B
def cTABLE_PROTECTED : Nat := 0x0C
def cWAIT_TIMEOUT : Nat := 0x0D

/-- The tier address of M.LD and M.ST (R138): node bits 0x0000 or 0xFFFF, 64-byte aligned, in stack memory, granted. -/
def stackTileOk (s : State) (n : Nat) (w : Word) (len perm : Nat) : Bool :=
  let node := getBits w 63 48
  let a := getBits w 47 0
  (node == 0 || node == 0xFFFF) && a % 64 == 0 && inRange a len stackBase stackEnd && s.granted n 0xFFFF a len perm

/-- Source or destination places of a contiguous tile's rows. -/
def rowPlaces (p : Place) (b : Nat) : List Place := (List.range 32).map fun r => p.plus (r * b)

/-- A tile's rows set in motion on the move path from cycle u (R146). -/
def startMove (y : Syl) (u b t : Nat) (src dst : List Place) (s : State) : State :=
  let c := s.core y.n
  (s.setCore y.n { c with moveFree := u + t }).pushLate y.n u 1 (.moveRows (src.zip dst) b u 0)

def occupyMove (y : Syl) (u t : Nat) (s : State) : State :=
  s.setCore y.n { s.core y.n with moveFree := u + t }

/-- The claim check of a claimed output write (R160): CLAIM_CUR valid and its epoch current. -/
def claimFresh (s : State) (n : Nat) : Bool :=
  s.flag (F.CLAIM_CUR_VALID n) &&
    s.fld (F.CLAIM_CUR_EPOCH n) == s.fld (F.CLAIM_STATE_EPOCH (s.fld (F.CLAIM_CUR_CTR n)))

/-- A claimed write with a stale epoch is suppressed and counted (R160). -/
def suppressed (y : Syl) (s : State) : Bool := fb y 18 18 == 1 && !(claimFresh s y.n)
def countStale (y : Syl) (s : State) : State :=
  if suppressed y s then (s.incFld (F.CLAIM_STALE_COUNT y.n) 1).tileFail y.n (s.core y.n).cur else s

def moveBusy (y : Syl) (u : Nat) (s : State) : Bool := decide (u < (s.core y.n).moveFree)

/-! ### M.LD and M.ST (R147, R239) -/

def mTileLegal (y : Syl) : Bool := decide (fb y 21 19 < 6)
def mLdLegal (y : Syl) : Bool := mTileLegal y && fb y 18 18 == 0 && fb y 5 0 == 0
def mTileLen (y : Syl) : Nat := 32 * szBytes (fb y 21 19)
def mTA (y : Syl) (s : State) : Word := srF y s 11 6
def mCA (y : Syl) (s : State) : Place := .core y.n (coreOff (srF y s 17 12))

def mLdStall (u : Nat) (y : Syl) (s : State) : Option TierStall :=
  ldStall s y.n u (getBits (mTA y s) 47 0) (mTileLen y)

/-- The fault of a staged load on a DENIED or FAILED slot (R239). -/
def stagedFault (y : Syl) (s : State) : List FaultC :=
  let c := s.core y.n
  let os := overlapped c (getBits (mTA y s) 47 0) (mTileLen y)
  let pick (st : SlotSt) : Option FaultC := os.findSome? fun o =>
    match c.stream o.1 with
    | none => none
    | some t =>
      let x := t.slots.getD o.2.1 StgSlot.reset
      if x.st = st then some (if st = .denied then cWINDOW_DENIED else cTIER_FAIL, tileGlobal t.desc x.tile) else none
  (pick .denied).toList ++ (pick .failed).toList

def mLdCheck (u : Nat) (y : Syl) (s : State) : List FaultC :=
  faultIf (moveBusy y u s) cMOVE_OCCUPIED 0 ++
    faultIf (!(stackTileOk s y.n (mTA y s) (mTileLen y) permRD)) cWINDOW_DENIED (mTA y s).toNat ++ stagedFault y s

def mLdApply (u : Nat) (y : Syl) (s : State) : State :=
  let b := szBytes (fb y 21 19)
  startMove y u b (szCycles (fb y 21 19)) (rowPlaces (.flat (getBits (mTA y s) 47 0)) b) (rowPlaces (mCA y s) b) s

def mStLegal (y : Syl) : Bool := mTileLegal y && fb y 5 0 == 0
def mStCheck (u : Nat) (y : Syl) (s : State) : List FaultC :=
  faultIf (moveBusy y u s) cMOVE_OCCUPIED 0 ++
    faultIf (!(stackTileOk s y.n (mTA y s) (mTileLen y) permWR)) cWINDOW_DENIED (mTA y s).toNat ++
    faultIf (s.fernTouched (getBits (mTA y s) 47 0) (mTileLen y)) cTABLE_PROTECTED (mTA y s).toNat

def mStApply (u : Nat) (y : Syl) (s : State) : State :=
  let b := szBytes (fb y 21 19)
  let t := szCycles (fb y 21 19)
  if suppressed y s then occupyMove y u t (countStale y s)
  else startMove y u b t (rowPlaces (mCA y s) b) (rowPlaces (.flat (getBits (mTA y s) 47 0)) b) s

/-! ### Streams (R148 to R150, R235, R240 to R242) -/

def mSopenLegal (y : Syl) : Bool := fb y 10 5 == 0
def mSopenCheck (y : Syl) (s : State) : List FaultC :=
  let d := fb y 4 0
  let de := s.descr y.n d
  let w := srF y s 16 11
  faultIf (((s.core y.n).stream d).isSome || !(descValid s y.n de (getBits w 47 0)) || !(stagingBaseOk s y.n w de))
    cDESC_INVALID d

/-- The stream as M.SOPEN opens it. -/
def newStream (out : Bool) (ctr : Nat) (de : BitVec 256) (base openId : Nat) : Stream :=
  { out := out, ctr := ctr, desc := de, base := base, openId := openId, taken := 0, stopped := false,
    slots := if dTier de = 0 ∨ out then [] else
      (List.range (dDepth de + 1)).map fun i => { StgSlot.reset with tile := i } }

def mSopenApply (_u : Nat) (y : Syl) (s : State) : State :=
  let d := fb y 4 0
  let c := s.core y.n
  let t := newStream (fb y 21 21 == 1) (fb y 20 17) (s.descr y.n d) (getBits (srF y s 16 11) 47 0) c.openCount
  (s.setReg (R.STREAM_PROG y.n d) 0#64).setCore y.n { c.setStream d t with openCount := c.openCount + 1 }

def mScloseLegal (y : Syl) : Bool := fb y 21 5 == 0
def mScloseCheck (y : Syl) (s : State) : List FaultC :=
  faultIf ((s.core y.n).stream (fb y 4 0)).isNone cDESC_INVALID (fb y 4 0)
def mScloseApply (_u : Nat) (y : Syl) (s : State) : State :=
  let d := fb y 4 0
  (s.setReg (R.STREAM_PROG y.n d) (streamProg s y.n d (s.reg (R.STREAM_PROG y.n d)))).setCore y.n
    ((s.core y.n).dropStream d)

def mLdsLegal (y : Syl) : Bool := mTileLegal y && fb y 18 18 == 0 && fb y 11 5 == 0
def mLdsStall (u : Nat) (y : Syl) (s : State) : Option TierStall :=
  match (s.core y.n).stream (fb y 4 0) with
  | none => none
  | some t => if t.out || fb y 21 19 != fmtSz (dFmt t.desc) then none else ldsStall s y.n u (fb y 4 0)

def ldsWrong (y : Syl) (out : Bool) (s : State) : Bool :=
  match (s.core y.n).stream (fb y 4 0) with
  | none => true
  | some t => t.out != out || fb y 21 19 != fmtSz (dFmt t.desc)

def mLdsCheck (u : Nat) (y : Syl) (s : State) : List FaultC :=
  let d := fb y 4 0
  faultIf (ldsWrong y false s) cDESC_INVALID d ++ faultIf (moveBusy y u s) cMOVE_OCCUPIED 0 ++
    (if ldsWrong y false s then [] else
      match (s.core y.n).stream d with
      | none => []
      | some t =>
        let g := tileGlobal t.desc t.taken
        if dTier t.desc = 0 then
          faultIf (decide (t.taken < dTiles t.desc) && !(tileGranted s y.n t.desc t.taken permRD)) cWINDOW_DENIED g
        else
          let x := t.slot t.taken
          let mine := x.tile == t.taken
          faultIf (mine && x.st == .denied) cWINDOW_DENIED g ++ faultIf (mine && x.st == .failed) cTIER_FAIL g)

/-- Transfer cycles of a stream's tile: 33 for moss (R242). -/
def streamT (de : BitVec 256) : Nat := if dMoss de then 33 else szCycles (fmtSz (dFmt de))

/-- The confidences after a moss tile is taken (R296): a block whose header is ZERO gains confidence, another loses
it. -/
def nextConf (conf hs : List Nat) : List Nat :=
  (conf.zip hs).map fun p => if !(hdrInvalid p.2) && hdrMode p.2 == 0 then min 3 (p.1 + 1) else 0

def mLdsApply (u : Nat) (y : Syl) (s : State) : State :=
  let d := fb y 4 0
  match (s.core y.n).stream d with
  | none => s
  | some t =>
    let de := t.desc
    let tT := streamT de
    let b := fmtRowBytes (dFmt de)
    if dTier de = 0 then
      let s1 := s.setCore y.n ((s.core y.n).setStream d { t with taken := t.taken + 1 })
      if dMoss de then
        (occupyMove y u tT s1).pushLate y.n u 1 (.mossMove (.flat (dAddr de t.taken)) (mCA y s) u)
      else
        startMove y u b tT ((tileRows de t.taken).map fun r => .flat r.1) (rowPlaces (mCA y s) b) s1
    else
      let i := t.slotIdx t.taken
      let x := t.slots.getD i StgSlot.reset
      let src : Place := .flat (t.slotAddr i)
      let conf := if dMoss de ∧ dTier de = 1 then nextConf x.conf (mossHeaders s src) else x.conf
      let x' := { StgSlot.reset with tile := t.taken + dDepth de + 1, gen := x.gen + 1, freeAt := u + tT, conf := conf, issuedAt := x.issuedAt }
      let s1 := s.setCore y.n ((s.core y.n).setStream d ({ t with taken := t.taken + 1 }.setSlot i x'))
      if dMoss de then (occupyMove y u tT s1).pushLate y.n u 1 (.mossMove src (mCA y s) u)
      else startMove y u b tT (rowPlaces src b) (rowPlaces (mCA y s) b) s1

def mStsLegal (y : Syl) : Bool := mTileLegal y && fb y 11 5 == 0
def mStsCheck (u : Nat) (y : Syl) (s : State) : List FaultC :=
  let d := fb y 4 0
  let c := s.core y.n
  let pastEnd := match c.stream d with
    | some t => decide (dTiles t.desc ≤ t.taken)
    | none => false
  let full := match c.stream d with
    | some t => dTier t.desc != 0 && decide (dDepth t.desc + 1 ≤ c.placedOf t.openId)
    | none => false
  faultIf (ldsWrong y true s || pastEnd) cDESC_INVALID d ++ faultIf (moveBusy y u s || full) cMOVE_OCCUPIED 0 ++
    (if ldsWrong y true s || pastEnd then [] else
      match c.stream d with
      | none => []
      | some t =>
        faultIf (!(tileGranted s y.n t.desc t.taken permWR)) cWINDOW_DENIED (tileGlobal t.desc t.taken) ++
          faultIf (s.nodeLocal (dNode t.desc) && (tileRows t.desc t.taken).any fun r => s.fernTouched r.1 r.2)
            cTABLE_PROTECTED (tileGlobal t.desc t.taken))

def mStsApply (u : Nat) (y : Syl) (s : State) : State :=
  let d := fb y 4 0
  match (s.core y.n).stream d with
  | none => s
  | some t =>
    let de := t.desc
    let tT := streamT de
    let b := fmtRowBytes (dFmt de)
    let sup := suppressed y s
    let s1 := (countStale y s).setCore y.n (((countStale y s).core y.n).setStream d { t with taken := t.taken + 1 })
    let s2 := occupyMove y u tT s1
    if dTier de = 0 then
      let s3 := s2.pushLate y.n (u + 23 + tT) 0 (.compInc t.ctr 1)
      if sup then s3
      else if dMoss de then s3.pushLate y.n u 1 (.mossMove (mCA y s) (.flat (dAddr de t.taken)) u)
      else startMove y u b tT (rowPlaces (mCA y s) b) ((tileRows de t.taken).map fun r => .flat r.1) s3
    else
      let stg := t.base + (t.taken % (dDepth de + 1)) * slotBytes de
      let o : OutTile :=
        { d := d, openId := t.openId, tile := t.taken, ctr := t.ctr, desc := de, staged := stg, visible := u + 24 + tT,
          suppressed := sup, started := false, left := [], refused := none,
          syl := (s.core y.n).cur }
      let s3 := s2.setCore y.n { s2.core y.n with placed := (s2.core y.n).placed ++ [o] }
      if sup then s3
      else if dMoss de then s3.pushLate y.n u 1 (.mossMove (mCA y s) (.flat stg) u)
      else startMove y u b tT (rowPlaces (mCA y s) b) (rowPlaces (.flat stg) b) s3

/-! ### Fabric operations (R151 to R154) -/

def mCtr (y : Syl) : Nat := fb y 5 2
def mCl (y : Syl) : Nat := fb y 1 1

/-- The ranges an operation accepts on the address map of Table 9.1, whatever the node (R138); what a destination has usable is
checked there. -/
def memRange (a len : Nat) : Bool :=
  inRange a len 0 lpddrEnd || inRange a len stackBase stackEnd || inRange a len flashBase flashEnd
def fqRange (k : FqKind) (a len : Nat) : Bool :=
  match k with
  | .put => memRange a len
  | .get => memRange a len
  | .radd => inRange a len accWinBase (accWinBase + 64 * coreMemSize)
  | .fadd => inRange a len 0 lpddrEnd || inRange a len stackBase stackEnd
  | _ => inRange a len ctlBase ctlEnd

def fqPerm : FqKind → Nat
  | .put => permWR
  | .get => permRD
  | .radd => permRADD
  | .msg => permMSG
  | _ => permATOM

/-- The address checks of a fabric operation (R138). -/
def fqAddrOk (s : State) (n : Nat) (k : FqKind) (w : Word) (len align : Nat) : Bool :=
  let a := getBits w 47 0
  a % align == 0 && fqRange k a len && s.granted n (getBits w 63 48) a len (fqPerm k)

def fqFull (y : Syl) (s : State) : Bool := decide (64 ≤ (s.core y.n).fq.length)

def fqCheck (u : Nat) (y : Syl) (k : FqKind) (w : Word) (len align : Nat) (movePath prot : Bool) (s : State) :
    List FaultC :=
  faultIf (fqFull y s || (movePath && moveBusy y u s)) cMOVE_OCCUPIED 0 ++
    faultIf (!(fqAddrOk s y.n k w len align)) cWINDOW_DENIED w.toNat ++
    faultIf (prot && s.nodeLocal (getBits w 63 48) && s.fernTouched (getBits w 47 0) len) cTABLE_PROTECTED w.toNat

/-- An operation enters the fabric request queue (R151). -/
def fqPush (y : Syl) (u : Nat) (k : FqKind) (op sz addr val dst ready : Nat) (sup : Bool) (s : State) : State :=
  let c := s.core y.n
  let o : FqOp :=
    { id := c.fqCount, kind := k, sz := sz, cls := if k = .fence then 0 else mCl y, ctr := mCtr y, addr := addr, val := val,
      dst := dst, data := [], readyAt := ready, bundle := pcOf s y.n, opcode := op, suppressed := sup, sent := false,
      syl := c.cur }
  let s1 := s.setCore y.n { c with fq := c.fq ++ [o], fqCount := c.fqCount + 1 }
  if sup then s1.pushLate y.n ready 0 (.fqDone o.id)
  else if k = .fence then s1.pushLate y.n (u + 1) 0 (.fqDone o.id)
  else if k = .put ∨ k = .radd then s1
  else s1.pushLate y.n (u + 1) 0 (.fqRows o.id 0 0 u 32)

def mPutLegal (y : Syl) : Bool := mTileLegal y && fb y 0 0 == 0
def mPutCheck (u : Nat) (y : Syl) (s : State) : List FaultC :=
  fqCheck u y .put (mTA y s) (mTileLen y) 64 true true s

/-- A put-tile or reduce-add: 32 rows are read from core memory while the move path is occupied. -/
def sendTile (k : FqKind) (op u : Nat) (y : Syl) (s : State) : State :=
  let sz := fb y 21 19
  let tT := szCycles sz
  let sup := suppressed y s
  let id := (s.core y.n).fqCount
  let s1 := occupyMove y u tT (fqPush y u k op sz (mTA y s).toNat 0 0 (u + tT) sup (countStale y s))
  if sup then s1
  else s1.pushLate y.n u 1 (.fqRows id (coreOff (srF y s 17 12)) (szBytes sz) u 0)

def mPutApply (u : Nat) (y : Syl) (s : State) : State := sendTile .put 0x08 u y s

def mGetLegal (y : Syl) : Bool := mTileLegal y && fb y 18 18 == 0 && fb y 0 0 == 0
def mGetCheck (u : Nat) (y : Syl) (s : State) : List FaultC :=
  fqCheck u y .get (mTA y s) (mTileLen y) 64 false false s
def mGetApply (u : Nat) (y : Syl) (s : State) : State :=
  fqPush y u .get 0x09 (fb y 21 19) (mTA y s).toNat 0 (coreOff (srF y s 17 12)) u false s

def mRaddLegal (y : Syl) : Bool := fb y 21 19 == 5 && fb y 0 0 == 0
def mRaddCheck (u : Nat) (y : Syl) (s : State) : List FaultC :=
  fqCheck u y .radd (mTA y s) (32 * 3072) 64 true true s
def mRaddApply (u : Nat) (y : Syl) (s : State) : State := sendTile .radd 0x0A u y s

def mFaddLegal (y : Syl) : Bool := fb y 21 18 == 0 && fb y 0 0 == 0 && decide (fb y 11 6 < 63)
def mFaddCheck (u : Nat) (y : Syl) (s : State) : List FaultC := fqCheck u y .fadd (mTA y s) 8 8 false false s
def mFaddApply (u : Nat) (y : Syl) (s : State) : State :=
  fqPush y u .fadd 0x0B 0 (mTA y s).toNat (srF y s 17 12).toNat (coreOff (s.sr y.n (fb y 11 6 + 1))) u false s

def mMsgLegal (y : Syl) : Bool := fb y 21 18 == 0 && fb y 0 0 == 0
def mMsgCheck (u : Nat) (y : Syl) (s : State) : List FaultC := fqCheck u y .msg (mTA y s) 8 8 false false s
def mMsgApply (u : Nat) (y : Syl) (s : State) : State :=
  fqPush y u .msg 0x0C 0 (mTA y s).toNat (srF y s 17 12).toNat 0 u false s

def mFenceLegal (y : Syl) : Bool := fb y 21 6 == 0 && fb y 1 0 == 0
def mFenceCheck (_u : Nat) (y : Syl) (s : State) : List FaultC := faultIf (fqFull y s) cMOVE_OCCUPIED 0
def mFenceApply (u : Nat) (y : Syl) (s : State) : State := fqPush y u .fence 0x0D 0 0 0 0 u false s

def mClaimrLegal (y : Syl) : Bool := fb y 21 12 == 0 && fb y 0 0 == 0 && decide (fb y 11 6 < 63)
def mClaimrCheck (u : Nat) (y : Syl) (s : State) : List FaultC := fqCheck u y .claimr (mTA y s) 8 8 false false s
def mClaimrApply (u : Nat) (y : Syl) (s : State) : State :=
  fqPush y u .claimr 0x0E 0 (mTA y s).toNat 0 (coreOff (s.sr y.n (fb y 11 6 + 1))) u false s

/-! ### Claims, waits, the quartet barrier (R156 to R158, R249) -/

def mClaimLegal (y : Syl) : Bool := fb y 21 18 == 0 && fb y 11 6 == 0
def mClaimApply (u : Nat) (y : Syl) (s : State) : State :=
  s.pushLate y.n (u + 11) 0 (.claimLocal (fb y 17 12) (fb y 5 0))

def mWaitLegal (y : Syl) : Bool := fb y 16 16 == 0 && (fb y 21 21 == 1 || fb y 15 6 == 0)
def mWaitTarget (y : Syl) (s : State) : Nat :=
  if fb y 21 21 = 1 then fb y 15 0 else getBits (srF y s 5 0) 31 0
/-- (int32_t)(COMP[CTR] − X) < 0. -/
def mWaitHolds (y : Syl) (s : State) : Bool :=
  decide (2 ^ 31 ≤ (s.fld (F.COMP_COUNT y.n (fb y 20 17)) + 2 ^ 32 - mWaitTarget y s) % 2 ^ 32)

/-- R249: at issue of an M.WAIT naming a CR stream's counter, slots already requested return to EMPTY. -/
def crDiscard (u : Nat) (t : Stream) : Stream × Nat :=
  let hit (x : StgSlot) : Bool := x.st != .empty && x.st != .denied && decide (x.issuedAt ≤ u)
  let k := (t.slots.filter hit).length
  ({ t with slots := t.slots.map fun x => if hit x then { StgSlot.reset with tile := x.tile, gen := x.gen + 1, conf := x.conf, issuedAt := u }
                                         else x }, k)

def mWaitApply (u : Nat) (y : Syl) (s : State) : State :=
  let c := s.core y.n
  let sel (t : Stream) : Bool := !t.out && dCr t.desc && t.ctr == fb y 20 17
  let k := (c.streams.map fun p => if sel p.2 then (crDiscard u p.2).2 else 0).foldl (· + ·) 0
  (s.setCore y.n { c with streams := c.streams.map fun p => if sel p.2 then (p.1, (crDiscard u p.2).1) else p }).incFld
    (F.CR_REFETCH_COUNT y.n) k

def mQsyncLegal (y : Syl) : Bool := y.f == 0#22
def mQsyncApply (_u : Nat) (_y : Syl) (s : State) : State := s

end Sys2Proof.Machine
end

