-- ==== Sys2Proof/Machine/Mc.lean ====
section
/-! DEFINITION. The memory controllers (R243, R253 to R267) and what a tier engine receives from them and from the flash
controller: interleave, trackers, check-bit cache, poison, scrub, spare-in, retirement; delivery to staging. -/

namespace Sys2Proof.Machine

/-! ### Interleave (R255, R266) -/

/-- Nibble k of a unit number. -/
def nib (u k : Nat) : Nat := bitsOf u (4 * k + 3) (4 * k)
/-- Controller, subchannel and unit index of a unit. -/
def mcOf (u : Nat) : Nat := nib u 0 ^^^ nib u 2 ^^^ nib u 4 ^^^ nib u 6 ^^^ nib u 8
def subOf (u : Nat) : Nat := nib u 1 ^^^ nib u 3 ^^^ nib u 5 ^^^ nib u 7
def lOf (u : Nat) : Nat := u / 256

/-- The unit that a controller, subchannel and unit index hold: the inverse of the interleave. -/
def unitAt (c sub l : Nat) : Nat :=
  let hi := l * 256
  hi + ((sub ^^^ nib hi 3 ^^^ nib hi 5 ^^^ nib hi 7) * 16) + (c ^^^ nib hi 2 ^^^ nib hi 4 ^^^ nib hi 6 ^^^ nib hi 8)

def reserveL : Nat := 20643840
def unitsPerSub : Nat := 22020096

/-- Where a unit is stored: its subchannel and index, or its home while its subchannel is retired (R266, R267). -/
def unitHome (s : State) (u : Nat) : Nat × Nat :=
  let c := mcOf u
  let sr := s.fld (F.RETIRE_STATUS_SUBCH c)
  let st := s.fld (F.RETIRE_STATUS_STATE c)
  let l := lOf u
  if st ≠ 0 ∧ subOf u = sr ∧ l < reserveL ∧ (st = 2 ∨ l < s.fld (F.RETIRE_STATUS_PTR c)) then
    ((sr + 1 + l % 15) % 16, reserveL + l / 15)
  else (subOf u, l)

/-! ### Poison, errors, rows (R258, R259, R263) -/

def State.poisoned (s : State) (u : Nat) : Bool := look (fun _ => false) s.mc.poison u
def State.setPoison (s : State) (u : Nat) (b : Bool) : State :=
  { s with mc := { s.mc with poison := put (fun _ => false) s.mc.poison u b } }

/-- Any unit of a byte range is poisoned. -/
def State.poisonedRange (s : State) (a len : Nat) : Bool :=
  decide (a < lpddrEnd) && (List.range ((a + (len - 1)) / 256 + 1 - a / 256)).any fun i => s.poisoned (a / 256 + i)

/-- A write of bytes to a place: whole units clear their poison (R259). -/
def State.wholeUnits (s : State) (a len : Nat) : State :=
  if lpddrEnd ≤ a then s
  else (List.range (len / 256 + 1)).foldl (fun st i =>
    let u := (a + 255) / 256 + i
    if 256 * u + 256 ≤ a + len then st.setPoison u false else st) s

/-- The words that a decoding finds uncorrectable (R258). -/
def eccLost (o : EccOut) : Nat :=
  match o with
  | .clean => 0
  | .corrected _ => 0
  | .uncorr k => k
  | .checkBurst => 32

/-- SOURCE of MC_ERR_LAST (Table 10.5): a check burst names itself (DEDUCED, log entry 106). -/
def eccSource (o : EccOut) (src : Nat) : Nat := if o = .checkBurst then 4 else src

/-- Words of a unit found uncorrectable: counted, recorded, the unit poisoned, the event raised. src as in Table 10.5. -/
def mcUncorr (s : State) (u words src : Nat) : State :=
  let c := mcOf u
  let h := unitHome s u
  let s1 := s.incFld (F.MC_UE_COUNT_COUNT c) words
  let s2 := if s1.flag (F.MC_ERR_LAST_VALID c) then s1
    else s1.setReg (R.MC_ERR_LAST c) (BitVec.ofNat 64 (2 ^ 63 + 2 ^ 60 * src + 2 ^ 56 * h.1 + h.2))
  (s2.setPoison u true).raise (88 + c)

/-- A row becomes a spare-in candidate (R263). -/
def spareCand (s : State) (c sub bank row : Nat) : State :=
  ((((s.setFld (F.SPARE_STATUS_CAND c) 1).setFld (F.SPARE_STATUS_C_SUBCH c) sub).setFld (F.SPARE_STATUS_C_BANK c) bank).setFld
    (F.SPARE_STATUS_C_ROW c) row).raise (88 + c)

def rowErrs (s : State) (c : Nat) : List RowErr := look (fun _ => []) s.mc.rows c
def setRowErrs (s : State) (c : Nat) (l : List RowErr) : State :=
  { s with mc := { s.mc with rows := put (fun _ => []) s.mc.rows c l } }

/-- The table without the entry of the lowest count, the oldest of those. -/
def dropLowest (l : List RowErr) : List RowErr :=
  match l.map (·.count) with
  | [] => l
  | c :: cs => match l.find? fun e => e.count == cs.foldl min c with
    | some e => l.erase e
    | none => l

/-- An access corrected words in a unit: they are counted and the row's account rises (R258, R263). -/
def mcCorrected (s : State) (u words : Nat) : State :=
  let c := mcOf u
  let h := unitHome s u
  let bank := h.2 % 16
  let row := Config.rowOf h.2 % 2 ^ 32
  let s1 := s.incFld (F.MC_CE_COUNT_COUNT c) words
  let l := rowErrs s1 c
  let mine (e : RowErr) : Bool := e.sub == h.1 && e.bank == bank && e.row == row
  let n := (match l.find? mine with | some e => e.count | none => 0) + 1
  let l1 := if l.any mine then l.map fun e => if mine e then { e with count := n } else e
    else (if 64 ≤ l.length then dropLowest l else l) ++ [⟨h.1, bank, row, n⟩]
  let s2 := setRowErrs s1 c l1
  if max 1 (s2.fld (F.SCRUB_CTRL_ROW_CE_LIMIT c)) ≤ n then spareCand s2 c h.1 bank row else s2

/-- An uncorrectable word also makes its row a candidate (R263). -/
def mcUncorrRow (s : State) (u words src : Nat) : State :=
  let h := unitHome s u
  spareCand (mcUncorr s u words src) (mcOf u) h.1 (h.2 % 16) (Config.rowOf h.2 % 2 ^ 32)

/-! ### Check-bit cache (R261) -/

/-- Key of the line that holds the check bits of a unit: subchannel and group of 8 unit indices. -/
def cbcLine (s : State) (u : Nat) : Nat := let h := unitHome s u; h.1 * 2 ^ 22 + h.2 / 8
def cbcKey (c line : Nat) : Nat := c * 64 + Config.cbcSet line % 64
def cbcHas (s : State) (c line : Nat) : Bool := (look (fun _ => []) s.mc.cbc (cbcKey c line)).contains line
/-- A line becomes the most recently used of its set; the least recently used of 16 is evicted. -/
def cbcTouch (s : State) (c line : Nat) : State :=
  let k := cbcKey c line
  let l := (line :: (look (fun _ => []) s.mc.cbc k).erase line).take 16
  { s with mc := { s.mc with cbc := put (fun _ => []) s.mc.cbc k l } }

/-! ### Delivery to staging -/

/-- The part of a segment that lies in a row, as (staging offset, bytes). -/
def rowPart (ra rlen off a : Nat) (bs : List Byte) : Nat × List Byte :=
  let lo := max ra a
  let hi := min (ra + rlen) (a + bs.length)
  (off + (lo - ra), (bs.drop (lo - a)).take (hi - lo))

/-- A segment of source bytes placed in a staging slot: every row takes the bytes that fall in it. -/
def stagingPut (s : State) (t : Stream) (slot tile a : Nat) (bs : List Byte) : State :=
  let rows := tileRows t.desc tile
  rows.zipIdx.foldl (fun st r =>
    let p := rowPart r.1.1 r.1.2 (r.2 * r.1.2) a bs
    st.writeBytes (.flat (t.slotAddr slot + p.1)) p.2) s

/-- The open stream and the slot that a tag names, while it is still the same fetch. -/
def tagSlot (s : State) (g : TierTag) : Option (Stream × StgSlot) :=
  match (s.core g.n).stream g.d with
  | none => none
  | some t =>
    let x := t.slots.getD g.slot StgSlot.reset
    if t.openId = g.openId ∧ t.out = false ∧ x.gen = g.gen ∧ x.tile = g.tile ∧ (x.st = .requested ∨ x.st = .stale) then some (t, x)
    else none

def setTagSlot (s : State) (g : TierTag) (f : StgSlot → StgSlot) : State :=
  match tagSlot s g with
  | none => s
  | some (t, x) => s.setCore g.n ((s.core g.n).setStream g.d (t.setSlot g.slot (f x)))

/-- Data for a unit of a tile is delivered; data for a stream no longer open or a slot fetched anew is discarded
(R247, R250, R251). -/
def deliver (s : State) (g : TierTag) (key a : Nat) (bs : List Byte) : State :=
  match tagSlot s g with
  | none => s
  | some (t, x) =>
    let s1 := stagingPut s t g.slot g.tile a bs
    s1.setCore g.n ((s1.core g.n).setStream g.d (t.setSlot g.slot { x with left := x.left.erase key }))

/-- A tier has reported a request of the tile undeliverable (R245): KIND and FSTATUS of TIER_ERR. -/
def tileBad (s : State) (g : TierTag) (kind status : Nat) : State :=
  setTagSlot s g fun x => if x.fkind = 0 then { x with fkind := kind, fstatus := status } else x

/-- The write of an output tile has one part less to complete. -/
def outPart (s : State) (g : TierTag) (key : Nat) : State :=
  let c := s.core g.n
  s.setCore g.n { c with placed := c.placed.map fun o =>
    if o.openId == g.openId && o.tile == g.tile then { o with left := o.left.erase key } else o }

/-- The tier has refused the tile (R241). -/
def outRefused (s : State) (g : TierTag) (kind status : Nat) : State :=
  let c := s.core g.n
  s.setCore g.n { c with placed := c.placed.map fun o =>
    if o.openId == g.openId && o.tile == g.tile && o.refused.isNone then { o with refused := some (kind, status) } else o }

/-! ### Trackers (R243) -/

def mcState (s : State) (c : Nat) : Nat := s.fld (F.MC_CTRL_STATE c)
def mcUse (s : State) (c : Nat) : Nat := (s.mc.reqs.filter fun q => q.c == c).length
def mcBgUse (s : State) (c : Nat) : Nat := (s.mc.reqs.filter fun q => q.c == c && q.bg).length

/-- The tile of a request is awaited by the stalled load of its core. -/
def isDemand (s : State) (q : McReq) : Bool :=
  q.demand || (q.wr.isEmpty && match (s.core q.tag.n).held with
    | some h => h.awaited == some (q.tag.d, q.tag.slot)
    | none => false)

/-- Priority of a waiting request: 0 planned demand, 1 planned prefetch, 2 background demand, 3 background prefetch. -/
def mcPrio (s : State) (q : McReq) : Nat := (if q.bg then 2 else 0) + (if isDemand s q then 0 else 1)

/-- A waiting request may take a tracker of its controller. -/
def mcMayTake (s : State) (q : McReq) : Bool :=
  decide (mcUse s q.c < 512) && (!q.bg || decide (mcBgUse s q.c < min 512 (s.fld (F.MC_CTRL_BG_LIMIT q.c))))

/-- The waiting request granted next at a controller: best priority, round robin by core, oldest of the core. -/
def mcNext (s : State) (c : Nat) : Option McReq :=
  let can := s.mc.wait.filter fun q => q.c == c && mcMayTake s q
  match [0, 1, 2, 3].find? fun p => can.any fun q => mcPrio s q == p with
  | none => none
  | some p =>
    let ofP := can.filter fun q => mcPrio s q == p
    let after := look (fun _ => 0) s.mc.rr (c * 4 + p)
    let turn := (List.range 64).map fun i => (after + i) % 64
    turn.findSome? fun n => ofP.find? fun q => q.tag.n == n

/-- A request completes undeliverable: a read fails its tile, a write is a refusal of its output tile (R241, R245). -/
def mcRefuse (s : State) (q : McReq) : State :=
  if q.wr.isEmpty then tileBad s q.tag 1 0 else outPart (outRefused s q.tag 1 0) q.tag q.unit

/-- TRACKER_GRANT at controller c. Every request that meets a closing controller is refused with the uncorrectable status
of its requester (R443). -/
def trackerGrantMc (s : State) (c : Nat) : State :=
  if mcState s c = 2 then
    match s.mc.wait.find? fun q => q.c == c with
    | none => s
    | some q =>
      mcRefuse ({ s with mc := { s.mc with wait := s.mc.wait.erase q } }.incFld (F.MC_CLOSE_ABANDONED c) 1) q
  else if mcState s c ≠ 1 then s
  else match mcNext s c with
    | none => s
    | some q =>
      let k := c * 4 + mcPrio s q
      { s with mc := { s.mc with wait := s.mc.wait.erase q, reqs := s.mc.reqs ++ [q],
                                 rr := put (fun _ => 0) s.mc.rr k ((q.tag.n + 1) % 64) } }

/-- MC_STATUS is a view of the trackers in use. -/
def mcView (s : State) (c off : Nat) (raw : Word) : Word :=
  if off = 0x08 then setBits (setBits raw 19 10 (mcBgUse s c)) 9 0 (mcUse s c) else raw

/-- A request leaves its tracker. -/
def mcFree (s : State) (q : McReq) : State :=
  let s1 := { s with mc := { s.mc with reqs := s.mc.reqs.filter (fun r => r.id != q.id), closing := s.mc.closing.erase q.id } }
  if s.mc.closing.contains q.id then s1.incFld (F.MC_CLOSE_DONE q.c) 1 else s1

def setReq (s : State) (id : Nat) (f : McReq → McReq) : State :=
  { s with mc := { s.mc with reqs := s.mc.reqs.map fun q => if q.id == id then f q else q } }

/-- A slot's data has all returned and only check bits are awaited (Table 9.5). -/
def noteAllData (s : State) (g : TierTag) : State :=
  let mine (q : McReq) : Bool := q.tag == g && q.wr.isEmpty
  let all := s.mc.reqs.filter mine
  let dataIn (q : McReq) : Bool := match q.st with
    | .data _ _ => true
    | .queued => false
  let b := !(s.mc.wait.any mine) && all.all dataIn && !all.isEmpty
  setTagSlot s g fun x => { x with allData := b }

/-! ### Service (R258 to R261, R290, R297) -/

/-- An earlier request to the same unit is still to be served (R260). -/
def mcBehind (s : State) (q : McReq) : Bool :=
  (s.mc.reqs.takeWhile fun r => r.id != q.id).any fun r => r.unit == q.unit && r.c == q.c && r.st == .queued

/-- A write served: its bytes are merged into the unit in one operation, the guards are marked, a write of all 256 bytes
clears the poison. -/
def mcWrite (s : State) (q : McReq) : State :=
  let s1 := q.wr.foldl (fun st w => deviceWrite st (256 * q.unit + w.1) w.2) s
  let total : Nat := (q.wr.map fun w => w.2.length).sum
  let s2 := if total = 256 then s1.setPoison q.unit false else s1
  outPart (mcFree s2 q) q.tag q.unit

/-- MC_REQUEST_SERVICE. A request above the usable range completes undeliverable (R265). -/
def mcService (s : State) (id : Nat) : State :=
  match s.mc.reqs.find? fun q => q.id == id with
  | none => s
  | some q =>
    if q.st ≠ .queued ∨ mcBehind s q = true then s
    else if q.skip ∧ q.conf = 2 then (mcFree s q).incFld (F.MC_SKIP_SAVED_COUNT q.c) 256
    else if usableEnd s ≤ 256 * q.unit then mcRefuse (mcFree s q) q
    else
      let line := cbcLine s q.unit
      let hit := cbcHas s q.c line
      let s1 := s.incFld (if hit then F.CBC_HIT_COUNT q.c else F.CBC_MISS_COUNT q.c) 1
      if q.wr ≠ [] then mcWrite (cbcTouch s1 q.c line) q
      else
        let s2 := if hit then cbcTouch s1 q.c line else s1
        noteAllData (setReq s2 id fun r => { r with st := .data (s.readBytes (.flat (256 * q.unit)) 256) hit }) q.tag

/-- CHECKBIT_FILL: the line comes in and the requests that await it have their check bits. -/
def checkbitFill (s : State) (c line : Nat) : State :=
  let waits (q : McReq) : Bool := q.c == c && cbcLine s q.unit == line && (match q.st with
    | .data _ false => true
    | _ => false)
  if s.mc.reqs.any waits then
    let s1 := cbcTouch s c line
    { s1 with mc := { s1.mc with reqs := s1.mc.reqs.map fun q => if waits q then
        { q with st := match q.st with | .data b _ => .data b true | x => x } else q } }
  else s

/-- What the decoding of a unit finds: no error, corrected words, uncorrectable words that stay so after one retry. -/
def mcComplete (s : State) (id : Nat) (o : EccOut) : State :=
  match s.mc.reqs.find? fun q => q.id == id with
  | none => s
  | some q =>
    match q.st with
    | .data bs true =>
      if q.hold && q.conf != 1 then s
      else
        let bad := if s.poisoned q.unit then 32 else eccLost o
        let s0 := mcFree s q
        if bad ≠ 0 then tileBad (mcUncorrRow s0 q.unit bad (if s.poisoned q.unit then 0 else eccSource o 0)) q.tag 1 0
        else
          let s1 := match o with
            | .corrected k => mcCorrected s0 q.unit k
            | _ => s0
          deliver s1 q.tag q.unit (256 * q.unit) bs
    | _ => s

/-- MOSS_CONFIRM_ARRIVE: a confirmation releases the held units it names and drops the others (R290, R297). A marked
unit not yet served waits for its service. -/
def confirmArrive (s : State) (c n d i : Nat) : State :=
  match s.mc.confs.find? fun k => k.c == c && k.tag.n == n && k.tag.d == d && k.tag.slot == i with
  | none => s
  | some k =>
    let g := k.tag
    let s0 := { s with mc := { s.mc with confs := s.mc.confs.erase k } }
    let mine (q : McReq) : Bool := q.c == c && q.tag == g && q.hold
    let s1 := { s0 with
      mc := { s0.mc with
        wait := s0.mc.wait.map (fun q => if mine q then { q with conf := if k.units.contains q.unit then 1 else 2 } else q)
        reqs := s0.mc.reqs.map (fun q => if mine q then { q with conf := if k.units.contains q.unit then 1 else 2 } else q) } }
    let gone := s1.mc.reqs.filter fun q => mine q && q.conf == 2 && !(q.skip && q.st == .queued)
    gone.foldl mcFree s1

/-- All requests of a fetch that are still held or marked, or wait for a tracker, are dropped (R301). -/
def dropFetch (s : State) (g : TierTag) : State :=
  let mine (q : McReq) : Bool := q.tag == g && q.wr.isEmpty
  let s1 := { s with mc := { s.mc with wait := s.mc.wait.filter (fun q => !(mine q)), confs := s.mc.confs.filter (fun k => k.tag != g) } }
  (s1.mc.reqs.filter fun q => mine q && q.hold && q.conf != 1).foldl mcFree s1

/-! ### Scrub, spare-in, retirement, maintenance of the memory -/

/-- The scrub position moves to the next unit (R262). -/
def scrubAdvance (s : State) (c : Nat) : State :=
  let u := s.fld (F.SCRUB_STATUS_UNIT c) + 1
  if u < unitsPerSub then s.setFld (F.SCRUB_STATUS_UNIT c) u
  else
    let s1 := s.setFld (F.SCRUB_STATUS_UNIT c) 0
    let sub := s.fld (F.SCRUB_STATUS_SUBCH c)
    if sub = 15 then (s1.setFld (F.SCRUB_STATUS_SUBCH c) 0).setFld (F.SCRUB_STATUS_PASSES c) (s.fld (F.SCRUB_STATUS_PASSES c) + 1)
    else s1.setFld (F.SCRUB_STATUS_SUBCH c) (sub + 1)

/-- SCRUB_READ: the next unit is read under the arbiter; corrected words are counted, an uncorrectable unit is poisoned
and recorded. -/
def scrubRead (s : State) (c : Nat) (o : EccOut) : State :=
  if mcState s c ≠ 1 ∨ s.flag (F.SCRUB_CTRL_EN c) = false then s
  else
    let a : MaintAct := ⟨0, c * 8 + s.fld (F.SCRUB_STATUS_SUBCH c) / 2⟩
    let r := if arbReady s a then (true, arbStart s a) else arbRequest s a
    if !r.1 then r.2
    else
      let u := unitAt c (s.fld (F.SCRUB_STATUS_SUBCH c)) (s.fld (F.SCRUB_STATUS_UNIT c))
      let s1 := match o with
        | .clean => r.2
        | .corrected k => if s.poisoned u then r.2 else mcCorrected r.2 u k
        | .uncorr k => if s.poisoned u then r.2 else mcUncorrRow r.2 u k 1
        | .checkBurst => if s.poisoned u then r.2 else mcUncorrRow r.2 u 32 4
      arbEnd (scrubAdvance s1 c) a

def bankKey (c sub bank : Nat) : Nat := (c * 16 + sub) * 16 + bank
def rowKey (c sub bank row : Nat) : Nat := bankKey c sub bank * 2 ^ 32 + row

/-- The spare-in of the command starts its copy. -/
def spareStart (s : State) (c : Nat) : State :=
  (s.setFld (F.SPARE_STATUS_BUSY c) 1).setFld (F.SPARE_STATUS_RESULT c) 0

def spareAct (s : State) (c : Nat) : MaintAct := ⟨1, c * 8 + s.fld (F.SPARE_CMD_SUBCH c) / 2⟩

/-- SPARE_CMD_GO: a write of SPARE_CMD. With GO set it allocates a spare row and starts the copy, waits for the arbiter,
or ends with NO_SPARE. A write while a command runs changes nothing of it. -/
def spareCmdWrite (s : State) (c : Nat) (sz : AccSz) (v : Word) : State :=
  if s.flag (F.SPARE_CMD_GO c) then s
  else
    let s1 := s.writeByType (R.SPARE_CMD c) sz v
    if !(s1.flag (F.SPARE_CMD_GO c)) then s1
    else
      let b := bankKey c (s1.fld (F.SPARE_CMD_SUBCH c)) (s1.fld (F.SPARE_CMD_BANK c))
      if 32 ≤ look (fun _ => 0) s1.mc.used b then
        (s1.setFld (F.SPARE_CMD_GO c) 0).setFld (F.SPARE_STATUS_RESULT c) 2
      else
        let r := arbRequest s1 (spareAct s1 c)
        if r.1 then spareStart r.2 c else r.2.setFld (F.SPARE_STATUS_RESULT c) 3

/-- SPARE_COPY_DONE: uncorrectable units are poisoned, the bank's remap entry switches, the command ends. -/
def spareCopyDone (s : State) (c : Nat) (bad : List Nat) : State :=
  if s.flag (F.SPARE_CMD_GO c) = false ∨ s.flag (F.SPARE_STATUS_BUSY c) = false then s
  else
    let sub := s.fld (F.SPARE_CMD_SUBCH c)
    let bank := s.fld (F.SPARE_CMD_BANK c)
    let row := s.fld (F.SPARE_CMD_ROW c)
    let b := bankKey c sub bank
    let n := look (fun _ => 0) s.mc.used b
    let a := spareAct s c
    let s1 := (bad.filter fun u => mcOf u == c && (unitHome s u).1 == sub).foldl (fun st u => mcUncorr st u 1 2) s
    let s2 := { s1 with mc := { s1.mc with remap := put (fun _ => 0) s1.mc.remap (rowKey c sub bank row) (n + 1)
                                           used := put (fun _ => 0) s1.mc.used b (n + 1) } }
    arbEnd (((s2.setFld (F.SPARE_CMD_GO c) 0).setFld (F.SPARE_STATUS_BUSY c) 0).setFld (F.SPARE_STATUS_RESULT c) 1) a

/-- The end of the usable range in reserve mode (R265). -/
def reserveEnd : Nat := 0x013B00000000

/-- Bytes above the new end are discarded. -/
def discardAbove (s : State) : State :=
  { s with mem := s.mem.filter fun p => !(decide (reserveEnd ≤ p.1) && decide (p.1 < lpddrEnd)) }

/-- The CXL window reaches above the new end of the usable range. -/
def cxlAbove (s : State) : Bool :=
  decide (reserveEnd < s.fld F.CXL_WIN_BASE_BASE + s.fld F.CXL_WIN_SIZE_SIZE)

/-- RETIRE_CMD_GO (R265 to R267). -/
def retireCmdWrite (s : State) (c : Nat) (sz : AccSz) (v : Word) : State :=
  let s1 := s.writeByType (R.RETIRE_CMD c) sz v
  if !(s1.flag (F.RETIRE_CMD_GO c)) then s1
  else
    let s2 := s1.setFld (F.RETIRE_CMD_GO c) 0
    if ((List.range 64).any fun n => coreState s n != 0) || s.fld (F.RETIRE_STATUS_STATE c) != 0 || cxlAbove s then
      s2.setFld (F.RETIRE_STATUS_RET_ERR c) 1
    else
      let s3 := discardAbove ((List.range 16).foldl (fun st k => st.setFld (F.MC_STATUS_RESERVE k) 1) s2)
      let s4 := ((s3.setFld (F.RETIRE_STATUS_STATE c) 1).setFld (F.RETIRE_STATUS_SUBCH c) (s2.fld (F.RETIRE_CMD_SUBCH c))).setFld
        (F.RETIRE_STATUS_PTR c) 0
      (arbRequest s4 ⟨2, c⟩).2

/-- RETIRE_COPY_DONE: uncorrectable units are poisoned; RETIRE_STATUS shows DONE and the event is raised. -/
def retireCopyDone (s : State) (c : Nat) (bad : List Nat) : State :=
  if s.fld (F.RETIRE_STATUS_STATE c) ≠ 1 ∨ s.arb.wait.contains ⟨2, c⟩ = true then s
  else
    let s1 := (bad.filter fun u => mcOf u == c && subOf u == s.fld (F.RETIRE_STATUS_SUBCH c)).foldl (fun st u => mcUncorr st u 1 3) s
    arbEnd ((((s1.setFld (F.RETIRE_STATUS_PTR c) reserveL).setFld (F.RETIRE_STATUS_STATE c) 2)).raise (88 + c)) ⟨2, c⟩

/-- MC_TRAINING: the result of training at boot, taken while the controller is OFF (R254). -/
def mcTraining (s : State) (c : Nat) (good : BitVec 16) : State :=
  if mcState s c = 0 then s.setFld (F.MC_STATUS_TRAINED c) (b2n (good == BitVec.allOnes 16)) else s

/-- BANK_REFRESH and ZQ_CALIBRATION (R254): they change no data; the model counts them. -/
def bankRefresh (s : State) (c : Nat) : State :=
  { s with mc := { s.mc with refreshes := put (fun _ => 0) s.mc.refreshes c (look (fun _ => 0) s.mc.refreshes c + 1) } }
def zqCalibration (s : State) (c : Nat) : State :=
  { s with mc := { s.mc with zq := put (fun _ => 0) s.mc.zq c (look (fun _ => 0) s.mc.zq c + 1) } }

/-- MC_DISABLE (R442, R443). -/
def mcDisable (s : State) (c : Nat) : State :=
  if mcState s c = 1 ∧ s.fld (F.MC_CTRL_ENABLE c) = 1 then
    let s1 := ((s.setEnable (R.MC_CTRL c) 0).setEngState (R.MC_CTRL c) 2).setReg (R.MC_CLOSE c) 0#64
    { s1 with mc := { s1.mc with closing := s1.mc.closing ++ ((s1.mc.reqs.filter fun q => q.c == c).map (·.id)) } }
  else s

/-- The last request of a closing controller has completed (R442). -/
def mcCloseDone (s : State) (c : Nat) : State :=
  if mcState s c = 2 ∧ mcUse s c = 0 then (s.setEngState (R.MC_CTRL c) 0).raise (88 + c) else s

end Sys2Proof.Machine
end

