-- ==== Sys2Proof/Machine/Flash.lean ====
section
/-! DEFINITION. The flash controller and its write budget governor (R268 to R277). -/

namespace Sys2Proof.Machine

def flState (s : State) : Nat := s.fld F.FL_CTRL_STATE

/-! ### The budget (R275 to R277) -/

/-- SPILL_BALANCE, signed. -/
def spillBal (s : State) : Int := (s.reg R.SPILL_BALANCE).toInt

/-- The balance set; once at or above 16 KiB the next refusal raises its event again (R268). -/
def setBal (s : State) (b : Int) : State :=
  let s1 := s.setReg R.SPILL_BALANCE (BitVec.ofInt 64 b)
  if 16384 ≤ b then { s1 with fl := { s1.fl with refused := false } } else s1

/-- Bytes programmed into the spill region are debited (R275). -/
def spillDebit (s : State) (bytes : Nat) : State := setBal s (spillBal s - bytes)

/-- SPILL_CREDIT: one microsecond of credit, up to SPILL_BURST; none while the controller is OFF. -/
def spillCredit (s : State) : State :=
  if flState s = 0 then s
  else
    let f := s.fl.frac + s.fld F.SPILL_RATE_RATE
    let b := spillBal s + ((f / 1000000 : Nat) : Int)
    let top : Int := s.fld F.SPILL_BURST_BURST
    setBal { s with fl := { s.fl with frac := f % 1000000 } } (max (spillBal s) (min b top))

def spillRateMax : Nat := 800000000
def spillBurstMax : Nat := 0x40000000000

/-- SPILL_RATE_WRITE (R277). -/
def spillRateWrite (s : State) (sz : AccSz) (v : Word) : State :=
  s.setReg R.SPILL_RATE (BitVec.ofNat 64 (min spillRateMax (sz.merge (s.reg R.SPILL_RATE) v).toNat))

/-- SPILL_BURST_WRITE: a lowered ceiling cuts the balance in the same cycle (R275, R277). -/
def spillBurstWrite (s : State) (sz : AccSz) (v : Word) : State :=
  let b := min spillBurstMax (sz.merge (s.reg R.SPILL_BURST) v).toNat
  let s1 := s.setReg R.SPILL_BURST (BitVec.ofNat 64 b)
  if (b : Int) < spillBal s1 then setBal s1 b else s1

/-! ### Requests -/

/-- Logical 16 KiB units that a byte range touches. -/
def lunits (a len : Nat) : List Nat := (List.range ((a + (len - 1)) / 16384 + 1 - a / 16384)).map fun i => a / 16384 + i

def flBad (s : State) (l : Nat) : Bool := look (fun _ => false) s.fl.bad l
def setFlBad (s : State) (l : Nat) (b : Bool) : State :=
  { s with fl := { s.fl with bad := put (fun _ => false) s.fl.bad l b } }

/-- The region of an address is read-only (R274). -/
def flReadOnly (s : State) (a : Nat) : Bool :=
  match flashRegion a with
  | some 0 => s.flag F.FL_STATUS_SPILL_RO
  | _ => s.flag F.FL_STATUS_BULK_RO

/-- A write is judged once, when it arrives: the status that refuses it, if any (R274, R276). -/
def flashJudge (s : State) (a : Nat) : Option Nat × State :=
  if flReadOnly s a then (some csFLASH_RO, s)
  else if flashRegion a = some 0 ∧ spillBal s < 16384 then
    let s1 := s.incFld F.SPILL_REFUSED_COUNT 1
    let s2 := if s1.fl.refused then s1 else { s1.raise 122 with fl := { s1.fl with refused := true } }
    (some csSPILL_BUDGET, s2)
  else (none, s)

/-- Accepted bytes are programmed: they stand, units that were failing read again, the bytes of a spill write are debited
(R270, R271, R276). -/
def flashProgram (s : State) (a : Nat) (bs : List Byte) : State :=
  let us := lunits a bs.length
  let s1 := us.foldl (fun st l => setFlBad st l false) (s.writeBytes (.flat a) bs)
  if flashRegion a = some 0 then spillDebit s1 bs.length else s1

/-- A write by another requester: judged, and programmed at once. -/
def flashWrite (s : State) (a : Nat) (bs : List Byte) : Nat × State :=
  if flState s ≠ 1 then (csUNCORR, if flState s = 2 then s.incFld F.FL_CLOSE_ABANDONED 1 else s)
  else match flashJudge s a with
    | (some st, s1) => (st, s1)
    | (none, s1) => (csOK, flashProgram s1 a bs)

/-- A read by another requester is deliverable. -/
def flashReadable (s : State) (a len : Nat) : Bool := flState s == 1 && !((lunits a len).any fun l => flBad s l)

def flFree (s : State) (q : FlReq) : State :=
  let s1 := { s with fl := { s.fl with reqs := s.fl.reqs.filter (fun r => r.id != q.id), closing := s.fl.closing.erase q.id } }
  if s.fl.closing.contains q.id then s1.incFld F.FL_CLOSE_DONE 1 else s1

/-- Address by which a request is judged. -/
def FlReq.addr (q : FlReq) : Nat := match q.wr with
  | w :: _ => w.1
  | [] => q.lunit * 16384

/-- FLASH_REQUEST: a request arrives and takes a tracker; a write is judged, a refused one is a refusal of its tile
(R241, R276); one that meets a closing controller is undeliverable (R443). -/
def flashRequest (s : State) (id : Nat) : State :=
  match s.fl.reqs.find? fun q => q.id == id && !q.arrived with
  | none => s
  | some q =>
    if flState s = 2 then
      let s1 := (flFree s q).incFld F.FL_CLOSE_ABANDONED 1
      if q.wr.isEmpty then tileBad s1 q.tag 1 0 else outPart (outRefused s1 q.tag 1 0) q.tag q.lunit
    else if flState s ≠ 1 ∨ 512 ≤ (s.fl.reqs.filter (·.arrived)).length then s
    else
      let take (st : State) : State :=
        { st with fl := { st.fl with reqs := st.fl.reqs.map fun r => if r.id == id then { r with arrived := true } else r } }
      if q.wr.isEmpty then take s
      else match flashJudge s q.addr with
        | (none, s1) => take s1
        | (some st, s1) =>
          outPart (outRefused (flFree s1 q) q.tag (if st = csSPILL_BUDGET then 3 else 2) (if st = csSPILL_BUDGET then 0 else st)) q.tag q.lunit

/-- FLASH_READ_COMPLETE: after so many retries the read decodes, or is uncorrectable; a unit found uncorrectable is
relocated and its reads keep failing (R271). -/
def flashReadComplete (s : State) (id retries : Nat) (uncorr : Bool) : State :=
  match s.fl.reqs.find? fun q => q.id == id && q.arrived && q.wr.isEmpty with
  | none => s
  | some q =>
    if s.flag F.FL_STATUS_MAP_READY = false then s
    else
      let bad := uncorr || flBad s q.lunit
      let s1 := (flFree s q).incFld F.FL_RETRY_COUNT (if bad then 9 else min 9 retries)
      if bad then
        let s2 := s1.incFld F.FL_UE_COUNT 1
        let spill := flashRegion (q.lunit * 16384) == some 0
        let s3 := if s2.flag F.FL_ERR_LAST_VALID then s2
          else s2.setReg R.FL_ERR_LAST (BitVec.ofNat 64 (2 ^ 63 + 2 ^ 62 * b2n (!spill) + (q.lunit - flashBase / 16384)))
        let s4 := s3.raise 120
        let s5 := if spill then spillDebit s4 16384 else s4
        tileBad (setFlBad s5 q.lunit true) q.tag 1 0
      else
        let s2 := q.units.dropLast.foldl (fun st u => stagingUnit st q.tag u) s1
        match q.units.getLast? with
        | some u => deliver s2 q.tag q.lunit (256 * u) (s2.readBytes (.flat (256 * u)) 256)
        | none => s2
where
  stagingUnit (st : State) (g : TierTag) (u : Nat) : State :=
    match tagSlot st g with
    | none => st
    | some (t, _) => stagingPut st t g.slot g.tile (256 * u) (st.readBytes (.flat (256 * u)) 256)

/-- FLASH_WRITE_COMPLETE: programmed, with a durable map entry; the guards are marked (R247, R270, R275). -/
def flashWriteComplete (s : State) (id : Nat) : State :=
  match s.fl.reqs.find? fun q => q.id == id && q.arrived && !q.wr.isEmpty with
  | none => s
  | some q =>
    if s.flag F.FL_STATUS_MAP_READY = false then s
    else
      let us := (q.wr.flatMap fun w => lunits w.1 w.2.length).eraseDups
      let s1 := q.wr.foldl (fun st w => deviceWrite st w.1 w.2) s
      let s2 := us.foldl (fun st l => setFlBad st l false) s1
      let s3 := if flashRegion q.addr = some 0 then spillDebit s2 ((q.wr.map fun w => w.2.length).foldl (· + ·) 0) else s2
      outPart (flFree s3 q) q.tag q.lunit

/-! ### Enabling, closing (R270, R442) -/

def flashEnable (s : State) : State := s.engineEnable R.FL_CTRL

/-- FLASH_MAP_LOAD_DONE: the map is ready; the geometry and the state of the dies are those the packages report. -/
def flashMapLoadDone (s : State) (geom : Word) (dies : List Word) : State :=
  if flState s = 1 ∧ s.flag F.FL_STATUS_MAP_READY = false then
    let s1 := (s.setFld F.FL_STATUS_MAP_READY 1).setReg R.FL_GEOM geom
    (dies.take 128).zipIdx.foldl (fun st d => st.setReg (R.FL_DIE d.2) d.1) s1
  else s

def flashDisable (s : State) : State :=
  if flState s = 1 ∧ s.fld F.FL_CTRL_ENABLE = 1 then
    let s1 := ((s.setEnable R.FL_CTRL 0).setEngState R.FL_CTRL 2).setReg R.FL_CLOSE 0#64
    { s1 with fl := { s1.fl with closing := (s1.fl.reqs.filter (·.arrived)).map (·.id) } }
  else s

def flashCloseDone (s : State) : State :=
  if flState s = 2 ∧ (s.fl.reqs.any (·.arrived)) = false then
    ((s.setEngState R.FL_CTRL 0).setFld F.FL_STATUS_MAP_READY 0).raise 120
  else s

/-! ### Maintenance of the blocks (R272 to R274, R499) -/

/-- Programs made by the controller itself for a region. -/
def internalProgram (s : State) (bulk : Bool) (units : Nat) : State := if bulk then s else spillDebit s (16384 * units)

/-- The erase counts of a die as its maintenance leaves them. -/
def setWear (s : State) (die : Nat) (pe : BitVec 32) : State :=
  (s.setFld (F.FL_DIE_PE_MAX die) (bitsOf pe.toNat 31 16)).setFld (F.FL_DIE_PE_MIN die) (bitsOf pe.toNat 15 0)

/-- A maintenance activity of one die runs under the arbiter: it waits, or it runs to its end and raises source 123. -/
def dieMaint (s : State) (code die : Nat) (reloc bulk : Bool) (units : Nat) (pe : BitVec 32) : State :=
  let a : MaintAct := ⟨code, die⟩
  let r := if arbReady s a then (true, arbStart s a) else arbRequest s a
  if !r.1 then r.2
  else
    let s1 := internalProgram (if reloc then r.2.incFld F.FL_RELOC_COUNT 1 else r.2) bulk units
    (arbEnd (setWear s1 die pe) a).raise 123

/-- GROWN_BAD_BLOCK: a block of a die fails, its valid units are rewritten, a block of the spare pool takes its place; with
the pool empty the region turns read-only (R274). -/
def grownBadBlock (s : State) (die : Nat) (bulk : Bool) (units : Nat) : State :=
  let s1 := internalProgram (s.incFld F.FL_GROWN_BAD_COUNT 1) bulk units
  let k := dieSpare s die bulk
  let s2 :=
    if k = 0 then (s1.setFld (if bulk then F.FL_STATUS_BULK_RO else F.FL_STATUS_SPILL_RO) 1).raise 121
    else
      let s3 := s1.setFld (if bulk then F.FL_DIE_SPARE_BULK die else F.FL_DIE_SPARE_SPILL die) (k - 1)
      if k - 1 ≤ 4 then
        let s4 := s3.setFld (F.FL_DIE_STATE die) 2
        if k - 1 = 4 then s4.raise 121 else s4
      else s3
  (arbEnd s2 ⟨6, die⟩).raise 123

end Sys2Proof.Machine
end

