-- ==== Sys2Proof/Machine/Tier.lean ====
section
/-! DEFINITION. The tier engines (R235 to R237, R241, R243, R245, R248, R289, R290, R296 to R301, R506): prefetch, delivery,
failure, refetch, moss headers, output tiles. -/

namespace Sys2Proof.Machine

/-! ### Requests of a tile -/

/-- The 256-byte units that a tile's rows cover, in ascending row order, each once (R243). -/
def tileUnits (d : BitVec 256) (t : Nat) : List Nat :=
  ((tileRows d t).flatMap fun r => (List.range ((r.1 + (r.2 - 1)) / 256 + 1 - r.1 / 256)).map fun i => r.1 / 256 + i).eraseDups

/-- The units of a moss tile at an address that hold a declared byte (R242, R290). -/
def declaredAt (base : Nat) (hs : List Nat) : List Nat :=
  ((declaredRanges hs).flatMap fun r =>
    if r.2 = 0 then [] else (List.range ((base + r.1 + (r.2 - 1)) / 256 + 1 - (base + r.1) / 256)).map fun i => (base + r.1) / 256 + i).eraseDups

/-- Blocks predicted zero (R296). -/
def predictedBlocks (s : State) (n : Nat) (d : BitVec 256) (x : StgSlot) : List Nat :=
  if dMoss d ∧ dTier d = 1 ∧ s.flag (F.PRED_CTRL_EN n) = true then
    (List.range 8).filter fun b => decide (max 1 (s.fld (F.PRED_CTRL_THR n)) ≤ x.conf.getD b 0)
  else []

/-- A unit of the tile at base lies wholly within predicted blocks (R297). -/
def markedUnit (base : Nat) (marks : List Nat) (u : Nat) : Bool :=
  (List.range 256).all fun i =>
    let a := 256 * u + i
    decide (a < base) || decide (base + mossWorst ≤ a) ||
      (decide (base + 32 ≤ a) && marks.contains ((a - base - 32) / 2048))

/-- Runs of consecutive rows in ascending address, as (address, length) (R506). -/
def rowRuns : List (Nat × Nat) → List (Nat × Nat)
  | [] => []
  | r :: rs => match rowRuns rs with
    | [] => [r]
    | q :: qs => if r.1 + r.2 = q.1 then (r.1, r.2 + q.2) :: qs else r :: q :: qs

/-- A run split at 4,096-byte boundaries of the run. -/
def splitRun (r : Nat × Nat) : List (Nat × Nat) :=
  (List.range ((r.2 + 4095) / 4096)).map fun i => (r.1 + 4096 * i, min 4096 (r.2 - 4096 * i))

/-- The transactions that move a remote tile: none for one GET or PUT, else the READs or WRITEs (R506). -/
def remoteParts (d : BitVec 256) (t : Nat) : Option (List (Nat × Nat)) :=
  let runs := rowRuns (tileRows d t)
  match runs with
  | [r] => if r.1 % 64 = 0 then none else some (splitRun r)
  | rs => some (rs.flatMap splitRun)

/-- Base address of a moss tile. -/
def mossBase (d : BitVec 256) (t : Nat) : Nat := dAddr d t

/-- Requests put in line for trackers of the memory controllers (R243). -/
def queueUnits (s : State) (g : TierTag) (d : BitVec 256) (demand : Bool) (marks : List Nat) (base : Nat) (us : List Nat) : State :=
  let mk (p : Nat × Nat) : McReq :=
    { id := s.mc.count + p.2, c := mcOf p.1, unit := p.1, tag := g, bg := dCl d == 1, demand := demand, wr := [],
      hold := dMoss d && p.2 != 0, skip := dMoss d && p.2 != 0 && markedUnit base marks p.1, conf := 0, st := .queued }
  let l := us.zipIdx.map mk
  { s with mc := { s.mc with wait := s.mc.wait ++ l, count := s.mc.count + us.length } }
    |>.incFld (F.PRED_SKIP_BYTES_COUNT g.n) (256 * (l.filter fun q : McReq => q.skip).length)

/-- Reads of flash units put in line for the flash controller; each delivers the 256-byte units of the tile in it. -/
def queueFlash (s : State) (g : TierTag) (us : List Nat) : State :=
  let ls := (us.map fun u => u / 64).eraseDups
  let mk (p : Nat × Nat) : FlReq :=
    { id := s.fl.count + p.2, tag := g, lunit := p.1, units := us.filter (fun u => u / 64 == p.1), wr := [], arrived := false }
  { s with fl := { s.fl with reqs := s.fl.reqs ++ ls.zipIdx.map mk, count := s.fl.count + ls.length } }

/-- READ transactions for parts of a remote tile, numbered from k (R506). -/
def issueReads (s : State) (g : TierTag) (d : BitVec 256) : Nat → List (Nat × Nat) → State
  | _, [] => s
  | k, p :: ps =>
    issueReads (s.issueTx (.tierIn g.n g.openId g.slot g.gen k) (dCl d) (dNode d) opREAD 0 p.2 p.1 []) g d (k + 1) ps

/-- The requests of tile t issue into slot i (R235, R248, R290). -/
def issueTile (s : State) (n dn : Nat) (t : Stream) (i tile : Nat) (demand : Bool) : State :=
  let d := t.desc
  let x := t.slots.getD i StgSlot.reset
  let g : TierTag := { n := n, d := dn, openId := t.openId, slot := i, gen := x.gen + 1, tile := tile }
  let tier := dTier d
  let us := tileUnits d tile
  let hdr := mossBase d tile / 256
  let marks := predictedBlocks s n d x
  let left : List Nat :=
    if tier = 1 then (if dMoss d then [hdr] else us)
    else if tier = 2 then (if dMoss d then [hdr / 64] else (us.map fun u => u / 64).eraseDups)
    else if dMoss d then [0]
    else match remoteParts d tile with
      | none => [0]
      | some ps => List.range ps.length
  let x' : StgSlot :=
    { x with st := if demand then .stale else .requested, gen := x.gen + 1, tile := tile, issuedAt := s.now, left := left,
             allData := false, hdrIn := false, refetch := demand, fkind := 0, fstatus := 0, marks := marks }
  let s1 := s.setCore n ((s.core n).setStream dn (t.setSlot i x'))
  if tier = 1 then queueUnits s1 g d demand marks (mossBase d tile) us
  else if tier = 2 then queueFlash s1 g (if dMoss d then [hdr] else us)
  else if dMoss d then issueReads s1 g d 0 [(256 * hdr, 256)]
  else match remoteParts d tile with
    | none => s1.issueTx (.tierIn n t.openId i (x.gen + 1) 0) (dCl d) (dNode d) opGET (fmtSz (dFmt d)) 0 (tileRows d tile).head!.1 []
    | some ps => issueReads s1 g d 0 ps

/-- The tile of lowest number within the prefetch window whose requests have not issued (R235, R236). -/
def nextPrefetch (t : Stream) : Option (Nat × Nat) :=
  ((List.range (dDepth t.desc + 1)).map fun k => t.taken + k).findSome? fun tile =>
    let i := t.slotIdx tile
    let x := t.slots.getD i StgSlot.reset
    if x.st = .empty ∧ x.tile = tile ∧ tile < dTiles t.desc then some (tile, i) else none

/-- PREFETCH_ISSUE: the requests of the next tile issue once its slot is free; a tile that touches an ungranted granule
makes the slot DENIED and stops the stream's prefetch (R235 to R237). -/
def prefetchIssue (s : State) (n dn : Nat) : State :=
  match (s.core n).stream dn with
  | none => s
  | some t =>
    if t.out || t.stopped || dTier t.desc == 0 || coreState s n != 1 then s
    else match nextPrefetch t with
      | none => s
      | some (tile, i) =>
        let x := t.slots.getD i StgSlot.reset
        if s.now < x.freeAt then s
        else if tileGranted s n t.desc tile permRD then issueTile s n dn t i tile false
        else
          (s.setCore n ((s.core n).setStream dn { t with stopped := true, slots := t.slots.set i { x with st := .denied } })).incFld
            (F.PREFETCH_STOP_COUNT n) 1

/-- GUARD_REFETCH: after the fixed part of 64 cycles the requests of the awaited STALE slot issue again (R248). -/
def guardRefetch (s : State) (n : Nat) : State :=
  match (s.core n).held with
  | none => s
  | some h => match h.awaited with
    | none => s
    | some (dn, i) => match (s.core n).stream dn with
      | none => s
      | some t =>
        let x := t.slots.getD i StgSlot.reset
        match x.guardAt with
        | none => s
        | some g0 =>
          if x.st ≠ .stale ∨ x.refetch = true ∨ s.now < g0 + 64 then s
          else
            let g : TierTag := { n := n, d := dn, openId := t.openId, slot := i, gen := x.gen, tile := x.tile }
            issueTile ((dropFetch s g).incFld (F.GUARD_REFETCH_COUNT n) 1) n dn t i x.tile true

/-! ### Arrival -/

/-- The part of a remote tile that a completed transaction carries. -/
def partData (t : Stream) (q : TxReq) (tile : Nat) : Nat × List Byte :=
  if q.op = opGET then ((tileRows t.desc tile).head!.1, q.data) else (q.addr, q.data)

/-- A completed transaction of a tier engine is taken up by its slot or output tile (R506). -/
def takeTx (s : State) (q : TxReq) : State :=
  match q.owner, q.st with
  | .tierIn n openId slot gen part, .done status _ data =>
    let s1 := s.dropTx q.id
    match (s1.core n).streams.find? fun p => p.2.openId == openId with
    | none => s1
    | some p =>
      let g : TierTag := { n := n, d := p.1, openId := openId, slot := slot, gen := gen, tile := (p.2.slots.getD slot StgSlot.reset).tile }
      if status ≠ csOK then tileBad s1 g 2 status
      else
        let pd := partData p.2 { q with data := data } g.tile
        deliver s1 g part pd.1 pd.2
  | .tierOut n openId tile part, .done status _ _ =>
    let g : TierTag := { n := n, d := 0, openId := openId, slot := 0, gen := 0, tile := tile }
    let s1 := s.dropTx q.id
    outPart (if status = csOK then s1 else outRefused s1 g 2 status) g part
  | _, _ => s

/-- Every completed tier transaction is taken up. -/
def settleTier (s : State) : State := s.fab.txs.foldl takeTx s

/-- TILE_ARRIVE: the last byte of the tile of a slot has arrived; the slot is READY in the next cycle (R235, R250). -/
def tileArrive (s0 : State) (n dn i : Nat) : State :=
  let s := settleTier s0
  match (s.core n).stream dn with
  | none => s
  | some t =>
    let x := t.slots.getD i StgSlot.reset
    let whole := x.left == [] && (!(dMoss t.desc) || x.hdrIn) && x.fkind == 0 && i < t.slots.length
    if whole && (x.st == .requested || (x.st == .stale && x.refetch)) then
      s.setCore n ((s.core n).setStream dn (t.setSlot i
        { x with st := .ready, readyAt := s.now + 1, allData := false, refetch := false, guardAt := none }))
    else s

/-- TIER_TILE_FAIL: the tier reports the tile undeliverable and its slot becomes FAILED; what is held for it is dropped
(R245, R301). -/
def tierTileFail (s0 : State) (n dn i : Nat) : State :=
  let s := settleTier s0
  match (s.core n).stream dn with
  | none => s
  | some t =>
    let x := t.slots.getD i StgSlot.reset
    if x.fkind ≠ 0 ∧ i < t.slots.length ∧ (x.st = .requested ∨ x.st = .stale) then
      let g : TierTag := { n := n, d := dn, openId := t.openId, slot := i, gen := x.gen, tile := x.tile }
      let s1 := dropFetch s g
      s1.setCore n ((s1.core n).setStream dn (t.setSlot i { x with st := .failed }))
    else s

/-- MOSS_HEADER_ARRIVE: the header unit is in; confirmations go to the controllers and the predictions are counted, or
the declared units are requested (R290, R297, R300). -/
def mossHeaderArrive (s0 : State) (n dn i : Nat) : State :=
  let s := settleTier s0
  match (s.core n).stream dn with
  | none => s
  | some t =>
    let x := t.slots.getD i StgSlot.reset
    let d := t.desc
    let may := dMoss d && x.left == [] && !x.hdrIn && x.fkind == 0 && i < t.slots.length &&
      (x.st == .requested || (x.st == .stale && x.refetch))
    if !may then s
    else
      let g : TierTag := { n := n, d := dn, openId := t.openId, slot := i, gen := x.gen, tile := x.tile }
      let base := mossBase d x.tile
      let hs := mossHeaders s (.flat (t.slotAddr i))
      let us := (declaredAt base hs).filter (· != base / 256)
      let tier := dTier d
      let left : List Nat := if tier = 1 then us else if tier = 2 then (us.map fun u => u / 64).eraseDups else (List.range us.length).map (· + 1)
      let s1 := s.setCore n ((s.core n).setStream dn (t.setSlot i { x with hdrIn := true, left := left }))
      if tier = 1 then
        let zero (b : Nat) : Bool := let h := hs.getD b 0; !(hdrInvalid h) && hdrMode h == 0
        let hit := (x.marks.filter zero).length
        let s2 := (s1.incFld (F.PRED_HIT_COUNT n) hit).incFld (F.PRED_MISS_COUNT n) (x.marks.length - hit)
        { s2 with mc := { s2.mc with confs := s2.mc.confs ++ (List.range 16).map fun c => ⟨c, g, us⟩ } }
      else if tier = 2 then queueFlash s1 g us
      else issueReads s1 g d 1 (us.map fun u => (256 * u, 256))

/-! ### Output tiles (R241, R289) -/

/-- Bytes of the staged tile as (address in the tier, bytes), row by row; for moss the parts of the units that hold a
declared byte, undeclared bytes as zero. -/
def outSegments (s : State) (o : OutTile) : List (Nat × List Byte) :=
  let d := o.desc
  if dMoss d then
    let base := mossBase d o.tile
    let src : Place := .flat o.staged
    let hs := mossHeaders s src
    let rs := declaredRanges hs
    (declaredAt base hs).map fun u =>
      let lo := max base (256 * u)
      let hi := min (base + mossSlot) (256 * u + 256)
      (lo, (List.range (hi - lo)).map fun k =>
        let off := lo + k - base
        if rs.any fun r => decide (r.1 ≤ off) && decide (off < r.1 + r.2) then s.byte (o.staged + off) else 0#8)
  else (tileRows d o.tile).zipIdx.map fun r => (r.1.1, s.readBytes (.flat (o.staged + r.2 * r.1.2)) r.1.2)

/-- The part of segments that falls in a unit. -/
def unitSegs (segs : List (Nat × List Byte)) (u : Nat) : List (Nat × List Byte) :=
  segs.filterMap fun g =>
    let lo := max g.1 (256 * u)
    let hi := min (g.1 + g.2.length) (256 * u + 256)
    if lo < hi then some (lo - 256 * u, (g.2.drop (lo - g.1)).take (hi - lo)) else none

def segUnits (segs : List (Nat × List Byte)) : List Nat :=
  (segs.flatMap fun g => (List.range ((g.1 + (g.2.length - 1)) / 256 + 1 - g.1 / 256)).map fun i => g.1 / 256 + i).eraseDups

/-- WRITE transactions of a remote output tile. -/
def issueWrites (s : State) (o : OutTile) (n : Nat) : Nat → List (Nat × List Byte) → State
  | _, [] => s
  | k, p :: ps =>
    issueWrites (s.issueTx (.tierOut n o.openId o.tile k) (dCl o.desc) (dNode o.desc) opWRITE 0 p.2.length p.1 p.2) o n (k + 1) ps

def setPlaced (s : State) (n : Nat) (o : OutTile) : State :=
  let c := s.core n
  s.setCore n { c with placed := c.placed.map fun p => if p.openId == o.openId && p.tile == o.tile then o else p }

/-- OUTPUT_TILE_WRITE: the writes of the next placed tile of stream dn issue, in tile order. A suppressed tile issues
none (R160). -/
def outputTileWrite (s : State) (n dn : Nat) : State :=
  match (s.core n).placed.find? fun o => o.d == dn && !o.started with
  | none => s
  | some o =>
    if s.now < o.visible then s
    else if o.suppressed then setPlaced s n { o with started := true }
    else
      let d := o.desc
      let segs := outSegments s o
      let g : TierTag := { n := n, d := dn, openId := o.openId, slot := 0, gen := 0, tile := o.tile }
      if dTier d = 1 then
        let us := segUnits segs
        let mk (p : Nat × Nat) : McReq :=
          { id := s.mc.count + p.2, c := mcOf p.1, unit := p.1, tag := g, bg := dCl d == 1, demand := false,
            wr := unitSegs segs p.1, hold := false, skip := false, conf := 0, st := .queued }
        let s1 := setPlaced s n { o with started := true, left := us }
        { s1 with mc := { s1.mc with wait := s1.mc.wait ++ us.zipIdx.map mk, count := s1.mc.count + us.length } }
      else if dTier d = 2 then
        let q : FlReq := { id := s.fl.count, tag := g, lunit := 0, units := [], wr := segs, arrived := false }
        let s1 := setPlaced s n { o with started := true, left := [0] }
        { s1 with fl := { s1.fl with reqs := s1.fl.reqs ++ [q], count := s1.fl.count + 1 } }
      else if dMoss d then issueWrites (setPlaced s n { o with started := true, left := List.range segs.length }) o n 0 segs
      else
        let whole := segs.flatMap (·.2)
        match remoteParts d o.tile with
        | none =>
          (setPlaced s n { o with started := true, left := [0] }).issueTx (.tierOut n o.openId o.tile 0) (dCl d) (dNode d) opPUT
            (fmtSz (dFmt d)) 0 (tileRows d o.tile).head!.1 whole
        | some ps =>
          let bytesOf (p : Nat × Nat) : List Byte :=
            segs.flatMap fun g => if p.1 < g.1 + g.2.length ∧ g.1 < p.1 + p.2 then
              (g.2.drop (p.1 - g.1)).take (min (p.1 + p.2) (g.1 + g.2.length) - max p.1 g.1) else []
          issueWrites (setPlaced s n { o with started := true, left := List.range ps.length }) o n 0 (ps.map fun p => (p.1, bytesOf p))

/-- A TIER_ERR record (Table 9.12). -/
def tierErr (s : State) (n kind tier : Nat) (out : Bool) (d status tile : Nat) : State :=
  let s1 := s.incFld (F.TIER_ERR_COUNT_COUNT n) 1
  if s1.flag (F.TIER_ERR_VALID n) then s1
  else s1.setReg (R.TIER_ERR n) (BitVec.ofNat 64 (2 ^ 63 + 2 ^ 60 * kind + 2 ^ 58 * tier + 2 ^ 57 * b2n out + 2 ^ 48 * d +
    2 ^ 40 * status + tile % 2 ^ 32))

/-- OUTPUT_TILE_COMPLETE: every write of the oldest placed tile of a stream has completed: it counts in COMP[CTR], a
refusal is recorded and the core's event raised (R241); a closing core reports it as done (R251). -/
def outputTileComplete (s0 : State) (n dn : Nat) : State :=
  let s := settleTier s0
  match (s.core n).placed.find? fun o => o.d == dn with
  | none => s
  | some o =>
    if o.started = false ∨ o.left ≠ [] then s
    else
      let c := s.core n
      let s1 := s.setCore n { c with placed := c.placed.filter fun p => !(p.openId == o.openId && p.tile == o.tile) }
      let s2 := compAdd s1 n o.ctr 1
      let s3 := if coreState s2 n = 2 then s2.incFld (F.CORE_CLOSE_DONE n) 1 else s2
      match o.refused with
      | none => s3
      | some (k, st) => ((tierErr s3 n k (dTier o.desc) true o.d st o.tile).raise n).tileFail n o.syl

end Sys2Proof.Machine
end

