-- ==== Sys2Proof/Machine/Journal.lean ====
section
/-! DEFINITION. The step journal, its marks and its two copies (R479 to R485), the fault record, the mirror of a pair and
the pair registers (R487 to R493), and the maintenance of the device outside its engines (R474 to R478, R496, R497,
R499 to R502). -/

namespace Sys2Proof.Machine

/-! ### Helpers -/

/-- A write made by a unit of this device: whole LPDDR 6 units lose their poison, guarded slots are marked (R247, R259). -/
def unitWrite (s : State) (a : Nat) (bs : List Byte) : State := (deviceWrite s a bs).wholeUnits a bs.length

/-- A message of val to a global address with the effect of M.MSG (R154); none for address 0. -/
def notify (s : State) (addr val : Nat) : State :=
  if addr = 0 then s
  else s.issueTx .unit 0 (addr / 2 ^ 48) opMSG 0 8 (addr % 2 ^ 48) (leBytes 8 val)

/-- The partner's register at a local address receives a management-class WRITE. -/
def partnerWrite (s : State) (owner : TxOwner) (addr val : Nat) : State :=
  s.issueTx owner 2 (s.fld F.PAIR_CTRL_PARTNER) opWRITE 0 8 addr (leBytes 8 val)

def pairRole (s : State) : Nat := s.fld F.PAIR_CTRL_ROLE
def safeActive (s : State) : Bool := s.flag F.SAFE_STATUS_ACTIVE

/-! ### The journal -/

def jrnOpen (s : State) : Bool := s.fld F.JRN_STATUS_STATE == 1
def jrnJN (s : State) : Nat := s.fld F.JRN_CFG_JN + 1
def jrnESize (s : State) : Nat := 64 + (s.fld F.JRN_CFG_NTILES + 511) / 512 * 64

def pushChg (s : State) (c : JChg) : State := { s with jrn := { s.jrn with queue := s.jrn.queue ++ [c] } }

/-- FAULTED is set in the open step (R483). -/
def setFaulted (s : State) : State :=
  if jrnOpen s && !(s.fld F.JRN_STATUS_FLAGS).testBit 0 then
    pushChg (s.orFld F.JRN_STATUS_FLAGS 1) (.fault (s.fld F.JRN_STATUS_STEP))
  else s

/-- The fault record is to be rewritten (R484). -/
def frecPush (s : State) : State := pushChg s .frec

/-- An entry's CRC-32C over its header bytes 0 to 59 and its bitmap (R479). -/
def entryCrc (s : State) (a : Nat) : State :=
  let hdr := s.readBytes (.flat a) 60
  let map := s.readBytes (.flat (a + 64)) (jrnESize s - 64)
  unitWrite s (a + 60) (leBytes 4 (crc32c (hdr ++ map)))

def magicStep : Nat := 0x504554534A584452
def magicFault : Nat := 0x544C41464A584452

/-- Fault record bytes (Table 19.5). -/
def frecBytes (s : State) : List Byte :=
  let head := leBytes 8 magicFault ++ leBytes 8 (s.fld F.JRN_STATUS_STEP) ++ leBytes 8 (s.reg R.SAFE_STATUS).toNat ++
    leBytes 8 (s.reg R.CONFIRMED).toNat ++ leBytes 8 (s.reg R.PEER_CONFIRMED).toNat ++ leBytes 20 0
  let body := (List.range 64).flatMap fun n =>
    leBytes 8 (s.reg (R.FAULT_REC n)).toNat ++ leBytes 2 (s.fld (F.JRN_LAST_BUNDLE n)) ++
      leBytes 2 (s.fld (F.JRN_LAST_VALID n)) ++ leBytes 4 (s.fld (F.JRN_LAST_TILE n))
  head ++ leBytes 4 (crc32c (head ++ body)) ++ body

/-- One change written into the copy at base. -/
def applyChg (s : State) (base : Nat) (c : JChg) : State :=
  let entry (step : Nat) : Nat := base + step % jrnJN s * jrnESize s
  let orFlag (step b : Nat) : State :=
    let a := entry step
    entryCrc (unitWrite s (a + 17) [s.byte (a + 17) ||| BitVec.ofNat 8 b]) a
  match c with
  | .start step =>
    let a := entry step
    entryCrc (unitWrite s a (leBytes 8 magicStep ++ leBytes 8 step ++ leBytes 1 1 ++ leBytes 3 0 ++ leBytes 4 0 ++
      leBytes 8 s.ldr.plan ++ leBytes 32 0 ++ leBytes (jrnESize s - 64) 0)) a
  | .update step => orFlag step 2
  | .fault step => orFlag step 1
  | .lost step => orFlag step 4
  | .commit step flags =>
    let a := entry step
    entryCrc (unitWrite s (a + 16) [2#8, BitVec.ofNat 8 flags]) a
  | .abort step =>
    let a := entry step
    entryCrc (unitWrite s (a + 16) [3#8]) a
  | .mark step _ tile _ =>
    let a := entry step
    let b := s.byte (a + 64 + tile / 8)
    if b.getLsbD (tile % 8) then s
    else
      let s1 := unitWrite s (a + 64 + tile / 8) [b ||| BitVec.ofNat 8 (2 ^ (tile % 8))]
      entryCrc (unitWrite s1 (a + 20) (leBytes 4 (s1.readLE (.flat (a + 20)) 4 + 1))) a
  | .confirm m =>
    let a := entry m
    if s.readLE (.flat a) 8 = magicStep ∧ s.readLE (.flat (a + 8)) 8 = m then orFlag m 8 else s
  | .frec => unitWrite s (base + jrnJN s * jrnESize s) (frecBytes s)
  | .ack _ => unitWrite s (base + jrnJN s * jrnESize s) (frecBytes s)

/-- A journal command has completed (R481). -/
def jrnDone (s : State) : State := (s.setFld F.JRN_CMD_RESULT 1).setFld F.JRN_CMD_GO 0

def dPAIR_RECV : Nat := R.PAIR_RECV
def dPAIR_ACK : Nat := R.PAIR_ACK

/-- What follows once a change is durable. -/
def chgDurable (s : State) (c : JChg) : State :=
  match c with
  | .start _ => jrnDone s
  | .update _ => jrnDone s
  | .abort _ => jrnDone s
  | .commit step _ =>
    let s1 := jrnDone s
    if pairRole s1 = 1 ∨ pairRole s1 = 3 then
      ({ s1 with jrn := { s1.jrn with mirrors := s1.jrn.mirrors ++ [step] } }).setFld F.PAIR_STATUS_MIR_WAIT 1
    else s1
  | .mark step n tile bundle =>
    if s.fld F.JRN_STATUS_STEP = step then
      s.setReg (R.JRN_LAST n) (BitVec.ofNat 64 (2 ^ 63 + 2 ^ 32 * (bundle % 2 ^ 14) + tile))
    else s
  | .ack m => partnerWrite s .unit R.PAIR_ACK m
  | _ => s

/-- JOURNAL_DURABLE: the oldest change is written to the stack memory copy and then to the LPDDR 6 copy. ok says that
the stack memory copy could be written; otherwise COPY_ERR is set (R479, R485). -/
def journalDurable (s : State) (ok : Bool) : State :=
  match s.jrn.queue with
  | [] => s
  | c :: rest =>
    let s0 := { s with jrn := { s.jrn with queue := rest } }
    let s1 := if ok then applyChg s0 (s0.reg R.JRN_BASE).toNat c else (s0.setFld F.JRN_STATUS_COPY_ERR 1).raise 168
    chgDurable (applyChg s1 (s1.reg R.JRN_LBASE).toNat c) c

/-- A refused command (R481). -/
def jrnRefuse (s : State) : State := ((s.setFld F.JRN_CMD_RESULT 2).setFld F.JRN_CMD_GO 0).raise 168

/-! ### Marks (R482) -/

def coreMarks (s : State) (n : Nat) : List JMark := look (fun _ => []) s.jrn.marks n
def setMarks (s : State) (n : Nat) (l : List JMark) : State :=
  { s with jrn := { s.jrn with marks := put (fun _ => []) s.jrn.marks n l } }

/-- A 64-bit store to JRN_MARK by core n at bundle address pc as syllable y. -/
def jrnMark (s : State) (n pc y : Nat) (v : Word) : State :=
  let tile := getBits v 19 0
  if !(jrnOpen s) || safeActive s || decide (s.fld F.JRN_CFG_NTILES ≤ tile) then s.incFld F.JRN_DROP_COUNT 1
  else if 64 ≤ (coreMarks s n).length then
    let s1 := (s.incFld F.JRN_DROP_COUNT 1).raise 168
    if (s1.fld F.JRN_STATUS_FLAGS).testBit 2 then s1
    else pushChg (s1.orFld F.JRN_STATUS_FLAGS 4) (.lost (s1.fld F.JRN_STATUS_STEP))
  else setMarks s n (coreMarks s n ++ [⟨tile, pc, y⟩])

/-- Work that still moves a tile to a tier. -/
def LateOp.tileMove : LateOp → Bool
  | .moveRows rows .. => rows.any fun r => match r.2 with | .flat a => decide (stackBase ≤ a && a < stackEnd) | _ => false
  | .mossMove _ d _ => match d with | .flat a => decide (stackBase ≤ a && a < stackEnd) | _ => false
  | .mem p _ => match p with | .flat a => decide (stackBase ≤ a && a < stackEnd) | _ => false
  | _ => false

/-- Every tile-moving write that core n issued before syllable y has completed. -/
def tileWritesDone (s : State) (n y : Nat) : Bool :=
  let c := s.core n
  !(s.late.any fun l => l.n == n && decide (l.syl < y) && l.op.tileMove) &&
    !(c.fq.any fun o => (o.kind == .put || o.kind == .radd) && decide (o.syl < y)) &&
    !(c.placed.any fun o => decide (o.syl < y))

/-- MARK_APPLY: the oldest mark of core n whose earlier tile writes have completed is set, refused or ignored. -/
def markApply (s : State) (n : Nat) : State :=
  match coreMarks s n with
  | [] => s
  | m :: rest =>
    if !(tileWritesDone s n m.syl) then s
    else
      let s0 := setMarks s n rest
      if !(jrnOpen s) || safeActive s then s0.incFld F.JRN_DROP_COUNT 1
      else if (match (s.core n).wfail with | some w => decide (w < m.syl) | none => false) then
        (s0.incFld F.JRN_REFUSED_COUNT 1).raise 168
      else
        pushChg { s0 with jrn := { s0.jrn with bits := put (fun _ => false) s0.jrn.bits m.tile true } }
          (.mark (s0.fld F.JRN_STATUS_STEP) n m.tile m.bundle)

/-- Every mark whose earlier tile writes have completed is applied before a COMMIT (Table 19.6). -/
def marksReady (s : State) : State := s.jrn.marks.foldl (fun st p => p.2.foldl (fun st _ => markApply st p.1) st) s

/-! ### Commands (R481) -/

/-- A journal command with its step argument (Table 19.4). During the safe state every command is refused (R485). -/
def jrnCommand (s : State) (op arg : Nat) : State :=
  let step := s.fld F.JRN_STATUS_STEP
  let flags := s.fld F.JRN_STATUS_FLAGS
  let s0 := (s.setFld F.JRN_CMD_RESULT 0).setFld F.JRN_CMD_GO 1
  if safeActive s then jrnRefuse s
  else if op = 1 then
    if jrnOpen s || (s.jrn.opened && arg != step + 1) then jrnRefuse s
    else
      let s1 := ((s0.setFld F.JRN_STATUS_STATE 1).setFld F.JRN_STATUS_FLAGS 0).setFld F.JRN_STATUS_STEP arg
      let s2 := (List.range 64).foldl (fun st n =>
        (st.setReg (R.JRN_LAST n) 0#64).setCore n { st.core n with wfail := none }) s1
      pushChg { s2 with jrn := { s2.jrn with opened := true, bits := [] } } (.start arg)
  else if op = 2 then
    if jrnOpen s then pushChg (s0.orFld F.JRN_STATUS_FLAGS 2) (.update step) else jrnRefuse s
  else if op = 3 then
    if jrnOpen s && !flags.testBit 0 then
      let s1 := marksReady s0
      pushChg (s1.setFld F.JRN_STATUS_STATE 2) (.commit step flags)
    else jrnRefuse s
  else if op = 4 then
    if jrnOpen s then pushChg (s0.setFld F.JRN_STATUS_STATE 3) (.abort step) else jrnRefuse s
  else jrnRefuse s

/-- A write of JRN_CMD. GO written while a command runs starts nothing. -/
def jrnCmdWrite (s : State) (sz : AccSz) (v : Word) : State :=
  let s1 := s.writeByType R.JRN_CMD sz v
  if s.flag F.JRN_CMD_GO || !(s1.flag F.JRN_CMD_GO) then s1
  else jrnCommand s1 (s1.fld F.JRN_CMD_OP) (s1.fld F.JRN_CMD_STEP_ARG)

/-- The command of one row with its step argument, as a write of JRN_CMD by the supervisor. -/
def jrnRow (s : State) (op arg : Nat) : State :=
  jrnCmdWrite s .w64 (BitVec.ofNat 64 (2 ^ 56 * op + 2 * (arg % 2 ^ 55) + 1))

/-! ### Pairs (R489 to R493) -/

/-- The mirror in progress ends as failed (R489). Transactions of it that are still under way complete unseen. -/
def mirrorFail (s : State) : State :=
  match s.jrn.mir with
  | none => s
  | some _ =>
    let txs := (s.fab.txs.filter fun t => match t.owner, t.st with | .mirror _, .done _ _ _ => false | _, _ => true).map
      fun t => match t.owner with | .mirror _ => { t with owner := .unit } | _ => t
    ((({ s with jrn := { s.jrn with mir := none }, fab := { s.fab with txs := txs } }).incFld F.MIR_FAIL_COUNT 1).setFld
      F.PAIR_STATUS_MIR_BUSY 0).raise 164

/-- The partner is declared lost (R492). -/
def peerLost (s : State) : State :=
  if pairRole s = 0 then s else mirrorFail ((s.setFld F.PAIR_STATUS_PEER_LOST 1).raise 163)

/-- The 16 KiB pieces of all regions: local source and offset at the partner. -/
def mirrorPuts (s : State) : List (Nat × Nat) :=
  s.jrn.regions.flatMap fun r => (List.range (r.2.1 / 16384)).map fun k => (r.1 + 16384 * k, r.2.2 + 16384 * k)

/-- Candidate ports of the partner's route that are ACTIVE (R489). -/
def mirrorPorts (s : State) : List Nat :=
  let e := routeEntry s (s.fld F.PAIR_CTRL_PARTNER)
  let cs := if bitOf e 15 then bitsOf e 4 0 :: (if bitOf e 14 then [bitsOf e 9 5] else []) else []
  cs.filter fun p => portTakes s p

/-- The port that the next PUT of the mirror takes: the active candidates in turn; a port that no module has when none
is active, so that the PUT completes with NO_ROUTE. -/
def mirrorPort (s : State) (m : Mirror) : Nat :=
  let ps := mirrorPorts s
  if ps = [] then 99 else ps.getD (m.turn % ps.length) 99

/-- MIRROR_START: the mirror takes its next step: it starts once every earlier one has ended, issues one PUT, sends the
FENCE when all have completed OK, and the WRITE to PAIR_RECV when the FENCE has (R489). -/
def mirrorStep (s : State) : State :=
  match s.jrn.mir with
  | none =>
    match s.jrn.mirrors with
    | [] => s
    | m :: rest =>
      let s1 := ({ s with jrn := { s.jrn with mirrors := rest, mir := some ⟨m, 0, 0, 0⟩ } }).setFld
        F.PAIR_STATUS_MIR_WAIT (b2n (!rest.isEmpty))
      let s2 := s1.setFld F.PAIR_STATUS_MIR_BUSY 1
      if s2.flag F.PAIR_STATUS_PEER_LOST then mirrorFail s2 else s2
  | some m =>
    let mine := s.fab.txs.filter fun t => match t.owner with | .mirror _ => true | _ => false
    if mine.any fun t => match t.st with | .done st _ _ => st != csOK | _ => false then mirrorFail s
    else
      let s1 := { s with fab := { s.fab with txs := s.fab.txs.filter fun t => match t.owner, t.st with
        | .mirror _, .done _ _ _ => false
        | _, _ => true } }
      let busy := mine.any fun t => match t.st with | .done _ _ _ => false | _ => true
      let puts := mirrorPuts s1
      let set (m' : Mirror) (st : State) : State := { st with jrn := { st.jrn with mir := some m' } }
      if m.phase = 0 then
        match puts[m.next]? with
        | some p =>
          if s1.poisonedRange p.1 16384 then mirrorFail s1
          else set { m with next := m.next + 1 } (s1.issueTx (.mirror m.step) 1 (s1.fld F.PAIR_CTRL_PARTNER) opPUT 3 0
            (s1.jrn.peerBase + m.step % 2 * s1.jrn.peerSize + p.2) (s1.readBytes (.flat p.1) 16384))
        | none =>
          if busy then s1
          else set { m with phase := 1 } (s1.issueTx (.mirror m.step) 1 (s1.fld F.PAIR_CTRL_PARTNER) opFENCE 0 0 0 [])
      else if busy then s1
      else if m.phase = 1 then set { m with phase := 2 } (partnerWrite s1 (.mirror m.step) R.PAIR_RECV m.step)
      else ({ s1 with jrn := { s1.jrn with mir := none } }).setFld F.PAIR_STATUS_MIR_BUSY 0

/-- R24: an update of this step waits for the mirror reads of the step before. -/
def mirrorHolds (s : State) (step : Nat) : Bool :=
  pairRole s != 0 && decide (1 ≤ step) &&
    (s.jrn.mirrors.contains (step - 1) ||
      (match s.jrn.mir with
        | some m => m.step == step - 1 && m.phase == 0 && decide (m.next < (mirrorPuts s).length)
        | none => false))

/-- A WRITE to PAIR_RECV on a receiver (R491). -/
def pairRecv (s : State) (v : Word) : State :=
  let s1 := s.setReg R.PAIR_RECV v
  if pairRole s = 2 ∨ pairRole s = 3 then pushChg (s1.setReg R.PEER_CONFIRMED v) (.ack v.toNat) else s1

/-- A WRITE to PAIR_ACK (R490). -/
def pairAck (s : State) (v : Word) : State :=
  let s1 := s.setReg R.PAIR_ACK v
  if (s.reg R.CONFIRMED).toNat < v.toNat then
    let s2 := s1.setReg R.CONFIRMED v
    let s3 := if s2.fld F.JRN_STATUS_STEP = v.toNat ∧ s2.jrn.opened then s2.orFld F.JRN_STATUS_FLAGS 8 else s2
    (frecPush (pushChg s3 (.confirm v.toNat))).raise 165
  else s1

/-- A WRITE to PAIR_HB: the loss timeout starts again (R492). -/
def pairHb (s : State) (v : Word) : State :=
  { s.setReg R.PAIR_HB v with jrn := { s.jrn with hbSeen := s.now } }

/-- A write to PAIR_PEER (R492). -/
def pairPeer (s : State) (v : Word) : State := peerLost (s.setReg R.PAIR_PEER v)

/-- Cycles in k microseconds of ACLK (Table 1.5). -/
def usCycles (k : Nat) : Nat := 700 * k

/-- HEARTBEAT_SEND, when it is due (R492). -/
def heartbeatSend (s : State) : State :=
  if pairRole s = 0 ∨ safeActive s = true ∨ s.jrn.hbUs = 0 ∨ s.now < s.jrn.hbNext then s
  else
    let s1 := { s with jrn := { s.jrn with hbNext := s.jrn.hbNext + usCycles s.jrn.hbUs, hbCount := s.jrn.hbCount + 1 } }
    partnerWrite s1 .unit R.PAIR_HB s1.jrn.hbCount

/-- HEARTBEAT_TIMEOUT, when it is due (R492). -/
def heartbeatTimeout (s : State) : State :=
  if s.jrn.hbTimeout = 0 ∨ s.flag F.PAIR_STATUS_PEER_LOST = true ∨ s.now < s.jrn.hbSeen + usCycles s.jrn.hbTimeout then s
  else peerLost s

end Sys2Proof.Machine
end

