-- ==== Sys2Proof/Machine/Fun.lean ====
section
/-! DEFINITION. The correctly rounded functions of R181, R194 and R195. A value is bracketed by integers over a power of
two at rising precision until both ends of the bracket round alike. -/

namespace Sys2Proof.Machine

/-! ### Approximations: v / 2^W with an error of at most 2^64 units, W at least 128 -/

/-- An approximation of a nonnegative real: v × 2^e within err × 2^e. -/
structure Approx where
  v : Nat
  err : Nat
  e : Int
deriving DecidableEq, Repr

/-- Bound on the error in units of every series below. -/
def apErr : Nat := 2 ^ 64

/-- Sum of a series: term t, next term from the term and its index. -/
def series (next : Nat → Nat → Nat) : Nat → Nat → Nat → Nat
  | 0, _, _ => 0
  | fuel + 1, i, t => if t = 0 then 0 else t + series next fuel (i + 1) (next i t)

/-- artanh(p/q) × 2^W for 0 ≤ p/q ≤ 1/3. -/
def atanhFix (w p q : Nat) : Nat :=
  let t0 := (p <<< w) / q
  -- the powers t0 (p/q)^(2i), each divided by 2i + 1
  let rec go : Nat → Nat → Nat → Nat
    | 0, _, _ => 0
    | f + 1, i, t => if t = 0 then 0 else t / (2 * i + 1) + go f (i + 1) (t * p * p / (q * q))
  go w 0 t0

/-- ln 2 × 2^W. -/
def ln2Fix (w : Nat) : Nat := 2 * atanhFix w 1 3

/-- arctan(1/q) × 2^W as an integer. -/
def atanInv (w q : Nat) : Int :=
  let rec go : Nat → Nat → Nat → Int
    | 0, _, _ => 0
    | f + 1, i, t => if t = 0 then 0 else
        (if i % 2 = 0 then ((t / (2 * i + 1) : Nat) : Int) else -((t / (2 * i + 1) : Nat) : Int)) + go f (i + 1) (t / (q * q))
  go w 0 ((1 <<< w) / q)

/-- π × 2^W. -/
def piFix (w : Nat) : Nat := (16 * atanInv w 5 - 4 * atanInv w 239).toNat

/-- Integer square root, rounded down: Newton's iteration from above. -/
def isqrt (n : Nat) : Nat :=
  let rec go : Nat → Nat → Nat
    | 0, x => x
    | f + 1, x => let y := (x + n / x) / 2; if x ≤ y then x else go f y
  if n = 0 then 0 else go 64 (2 ^ (Nat.log2 n / 2 + 1))

/-- e^(r / 2^W) × 2^W for 0 ≤ r < 2^W. -/
def expSmall (w r : Nat) : Nat := series (fun i t => ((t * r) >>> w) / (i + 1)) w 0 (1 <<< w)

/-- A finite value at scale 2^W, rounded down. -/
def fixOf (w : Nat) (m : Nat) (e : Int) : Nat :=
  let s := e + w
  if 0 ≤ s then m <<< s.toNat else m >>> (-s).toNat

/-- e^x for x = ±m × 2^e with |x| below 2^16. -/
def expApprox (w : Nat) (neg : Bool) (m : Nat) (e : Int) : Approx :=
  let x := fixOf (w + 32) m e
  let l := ln2Fix (w + 32)
  if neg then
    let k := x / l + 1
    ⟨expSmall w ((k * l - x) >>> 32), apErr, -(k : Int) - w⟩
  else
    let k := x / l
    ⟨expSmall w ((x - k * l) >>> 32), apErr, (k : Int) - w⟩

/-- ln of m × 2^e as a signed number of units of 2^−W. -/
def lnFix (w : Nat) (m : Nat) (e : Int) : Int :=
  let l := Nat.log2 m
  -- m / 2^l in [1, 2)
  (2 * atanhFix w (m - 2 ^ l) (m + 2 ^ l) : Nat) + (e + l) * (ln2Fix w : Int)

/-- erf(z) × 2^W × √π / 2 × e^(z²) for z² = zz / 2^W and z = z0 / 2^W. -/
def erfSeries (w z0 zz : Nat) : Nat := series (fun i t => ((2 * t * zz) >>> w) / (2 * i + 3)) (8 * w) 0 z0

/-- erf of m × 2^e (scaled by 1/√2 for half) at scale 2^W. -/
def erfApprox (w : Nat) (m : Nat) (e : Int) (half : Bool) : Nat :=
  let x := fixOf w m e
  let z0 := if half then isqrt ((x * x) / 2) else x
  let zz := if half then fixOf w (m * m) (2 * e - 1) else fixOf w (m * m) (2 * e)
  let s := erfSeries w z0 zz
  let em := expApprox w true (m * m) (if half then 2 * e - 1 else 2 * e)
  -- 2/√π
  let c := ((2 <<< (2 * w))) / isqrt (piFix w <<< w)
  let p := (s * em.v) * c
  let sh := em.e - w
  -- s at 2^W, em.v at 2^em.e, c at 2^W
  if 0 ≤ sh then p <<< sh.toNat else p >>> (-sh).toNat

/-! ### Rounding a bracket -/

/-- A rounding target: FP32, or the 64-bit significand of R66. -/
inductive FunTgt where
  | fp32 | l64
deriving DecidableEq, Repr

/-- Rounding to the target, with overflow and inexact. -/
def FunTgt.round (t : FunTgt) (v : XVal) : XVal × Bool × Bool :=
  match t with
  | .fp32 => let r := fFP32.cvt .rne v; (fFP32.dec r.1, r.2.ovf, r.2.inx)
  | .l64 => rne64 v

/-- The rounded value of a bracketed positive number with a sign, where both ends agree. The value is never exactly
representable here, so it is inexact (R181). -/
def Approx.decide (t : FunTgt) (neg : Bool) (a : Approx) : Option (XVal × Bool × Bool) :=
  let lo := t.round (.fin neg (a.v - a.err) a.e)
  let hi := t.round (.fin neg (a.v + a.err) a.e)
  if lo.1 = hi.1 ∧ lo.2.1 = hi.2.1 then some (hi.1, hi.2.1, true) else none

/-- The end of a bracket chosen where no precision decides (an uninterpreted choice; the log says why none is known to
arise). -/
def Approx.undecided (t : FunTgt) (neg : Bool) (a : Approx) (key : Nat) : XVal × Bool × Bool :=
  let r := t.round (.fin neg (if Config.roundUp key then a.v + a.err else a.v - a.err) a.e)
  (r.1, r.2.1, true)

/-- A function evaluated at rising precision. -/
def ziv (t : FunTgt) (neg : Bool) (key : Nat) (f : Nat → Approx) : XVal × Bool × Bool :=
  match (f 256).decide t neg with
  | some r => r
  | none => match (f 640).decide t neg with
    | some r => r
    | none => match (f 1600).decide t neg with
      | some r => r
      | none => (f 1600).undecided t neg key

/-! ### The functions of Table 7.5 on finite nonzero values -/

/-- An approximation at scale 2^−W. -/
def fixA (w v : Nat) : Approx := ⟨v, apErr, -(w : Int)⟩

/-- Result of a function: value, overflow, inexact, invalid, pole. -/
structure FunRes where
  v : XVal
  ovf : Bool
  inx : Bool
  inv : Bool
  dz : Bool
deriving DecidableEq, Repr

def FunRes.exact (v : XVal) : FunRes := ⟨v, false, false, false, false⟩
def FunRes.ofR (r : XVal × Bool × Bool) : FunRes := ⟨r.1, r.2.1, r.2.2, false, false⟩
def FunRes.bad : FunRes := ⟨.nan, false, false, true, false⟩

/-- |x| at least 2^k. -/
def magAtLeast (m : Nat) (e : Int) (k : Int) : Bool := decide (k ≤ (Nat.log2 m : Int) + e)

/-- e^x, a finite nonzero x (R181, R194). Beyond |x| = 2^15 the result lies beyond both targets' ranges. -/
def expFun (t : FunTgt) (neg : Bool) (m : Nat) (e : Int) (key : Nat) : FunRes :=
  if magAtLeast m e 15 then
    (if neg then FunRes.ofR ((t.round (.fin false 1 (-40000))).1, false, true)
     else FunRes.ofR (t.round (.fin false 1 40000)))
  else if magAtLeast m e (-200) then FunRes.ofR (ziv t false key fun w => expApprox (w + 64) neg m e)
  else FunRes.ofR ((t.round (.fin false (if neg then 2 ^ 200 - 1 else 2 ^ 200 + 1) (-200))).1, false, true)

/-- 2^x. -/
def exp2Fun (t : FunTgt) (neg : Bool) (m : Nat) (e : Int) (key : Nat) : FunRes :=
  if magAtLeast m e 15 then
    (if neg then FunRes.ofR ((t.round (.fin false 1 (-40000))).1, false, true)
     else FunRes.ofR (t.round (.fin false 1 40000)))
  else
    -- the integer part n and the fraction f: 2^x = 2^n × e^(f ln 2)
    let k := if e < 0 then (-e).toNat else 0
    let i : Nat := if 0 ≤ e then m <<< e.toNat else m >>> k
    let f : Nat := if 0 ≤ e then 0 else m % 2 ^ k
    let n : Int := if neg then (if f = 0 then -(i : Int) else -(i : Int) - 1) else i
    let f' := if neg ∧ f ≠ 0 then 2 ^ k - f else f
    if f = 0 then FunRes.ofR (t.round (.fin false 1 n))
    else if f' * 2 ^ 200 < 2 ^ k then FunRes.ofR ((t.round (.fin false (2 ^ 200 + 1) (n - 200))).1, false, true)
    else if (2 ^ k - f') * 2 ^ 200 < 2 ^ k then FunRes.ofR ((t.round (.fin false (2 ^ 200 - 1) (n + 1 - 200))).1, false, true)
    else FunRes.ofR (ziv t false key fun w =>
      ⟨expSmall (w + 64) ((f' * ln2Fix (w + 64)) / 2 ^ k), apErr, n - (w + 64)⟩)

/-- ln x of a positive finite x. -/
def lnFun (t : FunTgt) (m : Nat) (e : Int) (key : Nat) : FunRes :=
  if m = 2 ^ Nat.log2 m ∧ (Nat.log2 m : Int) + e = 0 then FunRes.exact (.fin false 0 0)
  else
    let neg := decide (lnFix 320 m e < 0)
    FunRes.ofR (ziv t neg key fun w => fixA (w + 64) (lnFix (w + 64) m e).natAbs)

/-- log2 x of a positive finite x. -/
def log2Fun (t : FunTgt) (m : Nat) (e : Int) (key : Nat) : FunRes :=
  if m = 2 ^ Nat.log2 m then FunRes.exact (XVal.ofInt ((Nat.log2 m : Int) + e))
  else
    let neg := decide (lnFix 320 m e < 0)
    FunRes.ofR (ziv t neg key fun w => fixA (w + 64) (((lnFix (w + 96) m e).natAbs <<< (w + 64)) / ln2Fix (w + 96)))

/-- Square root of m × 2^e with a sticky lowest bit, so that one rounding of it is the rounding of the exact root. -/
def sqrtSticky (m : Nat) (e : Int) : Nat × Int :=
  let s : Nat := if (e % 2 = 0) then 200 else 201
  let n := m <<< s
  let r := isqrt n
  (2 * r + b2n (r * r != n), (e - s) / 2 - 1)

/-- tanh |x|. -/
def tanhFun (t : FunTgt) (neg : Bool) (m : Nat) (e : Int) (key : Nat) : FunRes :=
  if magAtLeast m e 7 then FunRes.ofR ((t.round (.fin neg (2 ^ 150 - 1) (-150))).1, false, true)
  else if !(magAtLeast m e (-160)) then FunRes.ofR ((t.round (.fin neg (m * 2 ^ 200 - 1) (e - 200))).1, false, true)
  else FunRes.ofR (ziv t neg key fun w =>
    let a := expApprox (w + 256) true m (e + 1)
    let x := fixOf (w + 256) a.v a.e
    let one := 2 ^ (w + 256)
    fixA (w + 64) (((one - x) <<< (w + 64)) / (one + x)))

/-- 1/(1 + e^−x), times |x| for SILU. -/
def sigmFun (t : FunTgt) (silu neg : Bool) (m : Nat) (e : Int) (key : Nat) : FunRes :=
  let sg := silu && neg
  if magAtLeast m e 8 then
    (if neg then FunRes.ofR ((t.round (.fin sg 1 (-40000))).1, false, true)
     else if silu then FunRes.ofR ((t.round (.fin sg (m * 2 ^ 200 - 1) (e - 200))).1, false, true)
     else FunRes.ofR ((t.round (.fin sg (2 ^ 200 - 1) (-200))).1, false, true))
  else FunRes.ofR (ziv t sg key fun w =>
    let a := expApprox (w + 256) true m e
    let x := fixOf (w + 256) a.v a.e
    let one := 2 ^ (w + 256)
    let q := ((if neg then x else one) <<< (w + 64)) / (one + x)
    -- sigmoid at scale 2^(w + 64); SILU multiplies by |x|, which is below 2^8
    if silu then ⟨q * m, apErr * m, e - (w + 64)⟩ else fixA (w + 64) q)

/-- erf |x|. -/
def erfFun (t : FunTgt) (neg : Bool) (m : Nat) (e : Int) (key : Nat) : FunRes :=
  if magAtLeast m e 4 then FunRes.ofR ((t.round (.fin neg (2 ^ 150 - 1) (-150))).1, false, true)
  else FunRes.ofR (ziv t neg key fun w => fixA (w + 64) (erfApprox (w + 1024) m e false >>> 960))

/-- x (1 + erf(x/√2))/2. -/
def geluFun (t : FunTgt) (neg : Bool) (m : Nat) (e : Int) (key : Nat) : FunRes :=
  if magAtLeast m e 4 then
    (if neg then FunRes.ofR ((t.round (.fin true 1 (-40000))).1, false, true)
     else FunRes.ofR ((t.round (.fin false (m * 2 ^ 150 - 1) (e - 150))).1, false, true))
  else FunRes.ofR (ziv t neg key fun w =>
    let f := erfApprox (w + 1024) m e true >>> 960
    let one := 2 ^ (w + 64)
    ⟨(if neg then one - f else one + f) * m, apErr * m, e - (w + 64) - 1⟩)

/-- V.FUN of an exact operand (R181, Table 7.5), to FP32 or to a 64-bit significand. -/
def vfun (t : FunTgt) (fn : Nat) (x : XVal) (key : Nat) : FunRes :=
  match x with
  | .nan => FunRes.exact .nan
  | .inf neg =>
    match fn with
    | 0 => FunRes.exact (.inf (!neg))
    | 1 => FunRes.exact (.inf false)
    | 2 => FunRes.exact (if neg then .fin false 0 0 else .inf false)
    | 3 => FunRes.exact (if neg then .fin false 0 0 else .inf false)
    | 4 => FunRes.exact (if neg then .fin false 0 0 else .inf false)
    | 5 => if neg then FunRes.bad else FunRes.exact (.inf false)
    | 6 => if neg then FunRes.bad else FunRes.exact (.inf false)
    | 7 => FunRes.exact (.fin neg 0 0)
    | 8 => if neg then FunRes.bad else FunRes.exact (.inf false)
    | 9 => if neg then FunRes.bad else FunRes.exact (.fin false 0 0)
    | 10 => FunRes.exact (.fin neg 1 0)
    | 11 => FunRes.exact (if neg then .fin false 0 0 else .fin false 1 0)
    | 12 => FunRes.exact (.fin neg 1 0)
    | _ => FunRes.exact (if neg then .fin true 0 0 else .inf false)
  | .fin neg m e =>
    if m = 0 then
      match fn with
      | 0 => FunRes.exact (.fin (!neg) 0 0)
      | 1 => FunRes.exact (.fin false 0 0)
      | 2 => FunRes.exact (.fin false 0 0)
      | 3 => FunRes.exact (.fin false 1 0)
      | 4 => FunRes.exact (.fin false 1 0)
      | 5 => ⟨.inf true, false, false, false, true⟩
      | 6 => ⟨.inf true, false, false, false, true⟩
      | 7 => ⟨.inf neg, false, false, false, true⟩
      | 8 => FunRes.exact (.fin neg 0 0)
      | 9 => ⟨.inf neg, false, false, false, true⟩
      | 11 => FunRes.exact (.fin false 1 (-1))
      | _ => FunRes.exact (.fin neg 0 0)
    else
      match fn with
      | 0 => FunRes.exact (.fin (!neg) m e)
      | 1 => FunRes.exact (.fin false m e)
      | 2 => FunRes.exact (if neg then .fin false 0 0 else .fin false m e)
      | 3 => expFun t neg m e key
      | 4 => exp2Fun t neg m e key
      | 5 => if neg then FunRes.bad else lnFun t m e key
      | 6 => if neg then FunRes.bad else log2Fun t m e key
      | 7 => FunRes.ofR (t.round (let d := divSticky 1 0 m e; .fin neg d.1 d.2))
      | 8 => if neg then FunRes.bad else FunRes.ofR (t.round (let d := sqrtSticky m e; .fin false d.1 d.2))
      | 9 => if neg then FunRes.bad else
          -- 1/√x = √(1/x): the root of the quotient kept to more than 300 bits
          FunRes.ofR (t.round (let s := Nat.log2 m + 700 + (if (e + Nat.log2 m) % 2 = 0 then 0 else 1)
            let n := 2 ^ s / m
            let r := isqrt n
            .fin false (2 * r + b2n (r * r != n || 2 ^ s % m != 0)) ((-e - s) / 2 - 1)))
      | 10 => tanhFun t neg m e key
      | 11 => sigmFun t false neg m e key
      | 12 => erfFun t neg m e key
      | 13 => geluFun t neg m e key
      | _ => sigmFun t true neg m e key

end Sys2Proof.Machine
end

