-- ==== Sys2Proof/Machine/VecNum.lean ====
section
/-! DEFINITION. Element arithmetic of the vector engine (R172, R179 to R188, R192, R194 to R196, R333, R335 to R337):
every function gives the 32-bit pattern of its result and the VEC_STATUS bits it sets. -/

namespace Sys2Proof.Machine

/-- A result pattern and its status bits (Table 7.12). -/
abbrev ElemRes := Nat × Nat

def d32 (x : Nat) : XVal := fFP32.dec x
def snanStat (x : Nat) : Nat := vINV * b2n (fFP32.snan x)
/-- A value rounded once to FP32, nearest even. -/
def out32 (v : XVal) : ElemRes := let r := fFP32.cvt .rne v; (r.1, statOf r.2)
def out32Inv (v : XVal) (inv : Bool) : ElemRes := let r := out32 v; (r.1, r.2 ||| vINV * b2n inv)

/-- Minimum and maximum of IEEE 754-2019 (R179): −0 is less than +0, a NaN operand gives a NaN. -/
def xMin (a b : XVal) : XVal :=
  match a.cmp b with
  | none => .nan
  | some c => if c < 0 then a else if 0 < c then b else if a.neg? then a else b
def xMax (a b : XVal) : XVal :=
  match a.cmp b with
  | none => .nan
  | some c => if c < 0 then b else if 0 < c then a else if a.neg? then b else a

/-- Float binary functions of Table 7.4 on exact values: value, invalid, division by zero. -/
def fopX (fn : Nat) (a b : XVal) : XVal × Bool × Bool :=
  match fn with
  | 0 => let r := a.add b; (r.1, r.2, false)
  | 1 => let r := a.add b.negate; (r.1, r.2, false)
  | 2 => let r := a.mul b; (r.1, r.2, false)
  | 3 => a.div b
  | 4 => (xMin a b, false, false)
  | 5 => (xMax a b, false, false)
  | _ => let r := b.add a.negate; (r.1, r.2, false)

/-- V.FOP on patterns (R179). -/
def fopE (fn x y : Nat) : ElemRes :=
  let r := fopX fn (d32 x) (d32 y)
  let o := out32 r.1
  (o.1, o.2 ||| snanStat x ||| snanStat y ||| vINV * b2n r.2.1 ||| vDZ * b2n r.2.2)

/-- V.IOP on patterns (Table 7.4). -/
def iopE (fn : Nat) (a b : BitVec 32) : BitVec 32 :=
  match fn with
  | 0 => a + b
  | 1 => a - b
  | 2 => a * b
  | 3 => if a.slt b then a else b
  | 4 => if a.slt b then b else a
  | 5 => a &&& b
  | 6 => a ||| b
  | 7 => a ^^^ b
  | 8 => a <<< (b.toNat % 32)
  | 9 => a >>> (b.toNat % 32)
  | _ => a.sshiftRight (b.toNat % 32)

/-- V.FMA on patterns (R180). -/
def fmaE (x y z : Nat) : ElemRes :=
  let p := (d32 x).mul (d32 y)
  let s := p.1.add (d32 z)
  let o := out32 s.1
  (o.1, o.2 ||| snanStat x ||| snanStat y ||| snanStat z ||| vINV * b2n (p.2 || s.2))

/-- V.FUN on a pattern (R181). -/
def funE (fn x : Nat) : ElemRes :=
  let r := vfun .fp32 fn (d32 x) (fn * 2 ^ 32 + x)
  ((fFP32.cvt .rne r.v).1,
    snanStat x ||| vINX * b2n r.inx ||| vOVF * b2n r.ovf ||| vINV * b2n r.inv ||| vDZ * b2n r.dz)

def oneF32 : Nat := 0x3F800000

/-- V.FCMP on patterns (R182). -/
def fcmpE (fn x y : Nat) : ElemRes :=
  let holds : Bool := match (d32 x).cmp (d32 y) with
    | none => fn == 1 || fn == 6
    | some c => match fn with
      | 0 => c == 0
      | 1 => c != 0
      | 2 => decide (c < 0)
      | 3 => decide (c ≤ 0)
      | 4 => decide (0 < c)
      | 5 => decide (0 ≤ c)
      | _ => false
  (if holds then oneF32 else 0, snanStat x ||| snanStat y)

/-- The grid formats of V.CVT and the float formats of V.LD and V.ST. -/
def gridFmt (fn : Nat) : FFmt :=
  match fn with
  | 2 => fBF16
  | 3 => fFP16
  | 4 => fE4M3
  | _ => fE5M2

/-- V.CVT on a pattern in a rounding mode (R184, Table 7.7). -/
def cvtE (fn : Nat) (md : RMode) (x : Nat) : ElemRes :=
  match fn with
  | 0 => let r := cvtInt 32 md (d32 x); (r.1, statOf r.2 ||| snanStat x)
  | 1 => let r := fFP32.cvt md (XVal.ofInt (sextInt 32 x)); (r.1, statOf r.2)
  | 6 => let r := cvtInt 8 md (d32 x)
         ((out32 (XVal.ofInt (sextInt 8 r.1))).1, statOf r.2 ||| snanStat x)
  | _ => let f := gridFmt fn
         let r := f.cvt md (d32 x)
         ((out32 (f.dec r.1)).1, statOf r.2 ||| snanStat x)

/-- V.SPLIT on a pattern (R186): a BF16 piece as FP32. -/
def splitE (fn x : Nat) : ElemRes :=
  let p := split3 x
  ((match fn with | 0 => p.1 | 1 => p.2.1 | _ => p.2.2) * 2 ^ 16, snanStat x)

/-! ### Loads and stores (Table 7.8) -/

/-- Element bytes of the plain formats. -/
def vElemBytes (fmt : Nat) : Nat :=
  match fmt with
  | 2 => 4
  | 3 => 1
  | 4 => 1
  | 5 => 1
  | 6 => 4
  | 7 => 12
  | _ => 2

/-- The 16-bit and 8-bit float formats of the format codes. -/
def vFFmt (fmt : Nat) : FFmt :=
  match fmt with
  | 0 => fBF16
  | 1 => fFP16
  | 3 => fE4M3
  | 4 => fE5M2
  | 8 => fBF16
  | _ => fFP16

/-- An element loaded by V.LD. -/
def vldE (fmt ir : Nat) (md : RMode) (x : Nat) : ElemRes :=
  match fmt with
  | 2 => match d32 x with
    | .nan => (fFP32.nan, snanStat x)
    | _ => (x, 0)
  | 5 => if ir = 1 then (toPat 32 (sextInt 8 x), 0) else out32 (XVal.ofInt (sextInt 8 x))
  | 6 => if ir = 1 then (x, 0) else let r := fFP32.cvt md (XVal.ofInt (sextInt 32 x)); (r.1, statOf r.2)
  | 7 => let r := fFP32.cvt md (L96.dec (BitVec.ofNat 96 x)).v; (r.1, statOf r.2)
  | _ => let f := vFFmt fmt; ((out32 (f.dec x)).1, vINV * b2n (f.snan x))

/-- An element stored by V.ST. -/
def vstE (fmt ir : Nat) (md : RMode) (x : Nat) : ElemRes :=
  match fmt with
  | 2 => (x, 0)
  | 5 => if ir = 1 then
      let v := sextInt 32 x
      if 127 < v then (127, vOVF) else if v < -128 then (128, vOVF) else (toPat 8 v, 0)
    else let r := cvtInt 8 md (d32 x); (r.1, statOf r.2 ||| snanStat x)
  | 6 => if ir = 1 then (x, 0) else let r := cvtInt 32 md (d32 x); (r.1, statOf r.2 ||| snanStat x)
  | _ => let f := vFFmt fmt; let r := f.cvt md (d32 x); (r.1, statOf r.2 ||| snanStat x)

/-- ⌈log2(m × 2^e / 7)⌉ of a positive value. -/
def ceilLog7 (m : Nat) (e : Int) : Int :=
  let l := Nat.log2 m
  -- the smallest d with 8m ≤ 7 × 2^d, d = t − e + 3
  let d := ([l, l + 1, l + 2].find? fun d => decide (8 * m ≤ 7 * 2 ^ d)).getD (l + 3)
  e + d - 3

/-- The shared exponent X of a block (R188 steps 1 and 2). -/
def bx4Exp (vs : List XVal) : Nat :=
  if vs.any (·.isNan) then 255
  else if vs.any (·.isInf) then 254
  else
    let a := vs.foldl (fun a v => if a.lt v.abs then v.abs else a) (.fin false 0 0)
    match a with
    | .fin _ m e => if m = 0 then 0 else (min 254 (max 0 (ceilLog7 m e + 127))).toNat
    | _ => 0

/-- One element of a block with exponent X: its 4-bit code and whether it is inexact (R188 step 3). -/
def bx4Elem (md : RMode) (x : Nat) (v : XVal) : Nat × Bool :=
  if x = 255 then (0, false) else
  match v with
  | .fin neg m e =>
    let q := e - ((x : Int) - 127)
    let r : Nat × Bool := if 0 ≤ q then (m <<< q.toNat, false) else roundShift md m (-q).toNat
    (8 * b2n neg + min 7 r.1, r.2 || decide (7 < r.1))
  | .inf neg => (8 * b2n neg + 7, true)
  | .nan => (0, false)

/-! ### Reductions (R192) -/

def foldTot (ts : List Tot) : Tot :=
  match ts with
  | [] => Tot.zero
  | h :: t => t.foldl Tot.add h

def totStat (t : Tot) : Nat := vINX * b2n t.inx + vOVF * b2n t.ovf + vINV * b2n t.inv

/-- V.RED over patterns in order (Table 7.10). -/
def redE (op : Nat) (xs : List Nat) : ElemRes :=
  let vs := xs.map d32
  let sn := xs.foldl (fun a x => a ||| snanStat x) 0
  let sum := foldTot (vs.map fun v => Tot.ofX v false)
  let ssq := foldTot (vs.map fun v => ⟨(v.mul v).1, false, false, false, false, 1⟩)
  let r : ElemRes := match op with
    | 0 => let o := out32 sum.v; (o.1, o.2 ||| totStat sum)
    | 1 => let o := out32 ssq.v; (o.1, o.2 ||| totStat ssq)
    | 2 => out32 (XVal.ofNat xs.length)
    | 3 => if xs.isEmpty then (fFP32.nan, vEMPTY) else
        let m := (rne64 (sum.v.div (XVal.ofNat xs.length)).1).1
        out32Inv m sum.inv
    | 4 => if xs.isEmpty then (fFP32.nan, vEMPTY) else
        let r := statMoments sum ssq xs.length
        out32Inv r.2.1 (sum.inv || ssq.inv || r.2.2)
    | 5 => out32 (match vs with | [] => .inf true | h :: t => t.foldl xMax h)
    | _ => out32 (match vs with | [] => .inf false | h :: t => t.foldl xMin h)
  (r.1, r.2 ||| sn)

/-! ### Softmax (R194, R195) -/

/-- E(z): e^z rounded to a 64-bit significand. -/
def expE (z : XVal) : XVal × Bool × Bool :=
  let r := vfun .l64 3 z (16 * 2 ^ 32)
  (r.v, r.ovf, r.inx)

/-- RNE_64 of a difference of FP32 values. -/
def diff64 (a b : XVal) : XVal := (rne64 (a.add b.negate).1).1

/-- A softmax record taken apart (Table 7.13). -/
structure SoftRec where
  s : Tot
  m : XVal
  infc : Nat
  flag : Nat
deriving DecidableEq, Repr

def SoftRec.init : SoftRec := ⟨Tot.zero, .inf true, 0, 0⟩
def SoftRec.ofBytes (bs : List Byte) : SoftRec :=
  ⟨L96.dec (BitVec.ofNat 96 (leNat (bs.take 12))), d32 (leNat ((bs.drop 12).take 4)), leNat ((bs.drop 16).take 4),
    leNat ((bs.drop 20).take 4)⟩
def SoftRec.bytes (r : SoftRec) : List Byte :=
  leBytes 12 r.s.enc.toNat ++ leBytes 4 (out32 r.m).1 ++ leBytes 4 r.infc ++ leBytes 4 r.flag ++ leBytes 8 0

/-- S multiplied by a factor, rounded by RNE_64; its status bits travel on. -/
def Tot.scale (t : Tot) (f : XVal) : Tot :=
  let p := t.v.mul f
  let r := rne64 p.1
  { t with v := r.1, ovf := t.ovf || r.2.1, inv := t.inv || p.2, inx := t.inx || r.2.2 }

/-- One value added to S. -/
def Tot.addExp (t : Tot) (f : XVal × Bool × Bool) : Tot := t.add ⟨f.1, false, false, f.2.2, false, 1⟩

/-- The update of one record over its active lanes (R194). -/
def SoftRec.update (r : SoftRec) (xs : List XVal) : SoftRec :=
  let flag := r.flag ||| b2n (!xs.isEmpty) ||| 2 * b2n (xs.any (·.isNan))
  let infc := min (2 ^ 32 - 1) (r.infc + (xs.filter fun x => x == .inf false).length)
  let fin := xs.filter fun x => x.isFin || x == .inf true
  let mt := fin.foldl xMax (.inf true)
  let mn := xMax r.m mt
  if mn = .inf true then { r with m := mn, infc := infc, flag := flag }
  else
    let s1 := if r.m.cmp mn = some 0 then r.s else r.s.scale (expE (diff64 r.m mn)).1
    let s2 := (xs.filter (·.isFin)).foldl (fun t x => t.addExp (expE (diff64 x mn))) s1
    { s := s2, m := mn, infc := infc, flag := flag }

/-- One row of V.SMN: the results for its active values, and its status (Table 7.14). -/
def SoftRec.row (r : SoftRec) (lse : Bool) (xs : List XVal) : List Nat × Nat :=
  if r.flag.testBit 1 then (xs.map fun _ => fFP32.nan, vNAN_ROW)
  else if 1 ≤ r.infc then
    (xs.map fun x => if lse then fFP32.infBits false
      else if x = .inf false then (out32 (XVal.one.div (XVal.ofNat r.infc)).1).1 else 0, vINF_SPLIT)
  else if !(r.flag.testBit 0) || r.m == .inf true then
    (xs.map fun _ => if lse then fFP32.infBits true else 0, vMASKED_ROW)
  else if lse then
    let o := out32 (r.m.add (vfun .l64 5 r.s.v (17 * 2 ^ 32)).v).1
    (xs.map fun _ => o.1, o.2)
  else
    let os := xs.map fun x => out32 ((expE (diff64 x r.m)).1.div r.s.v).1
    (os.map (·.1), os.foldl (fun a o => a ||| o.2) 0)

/-! ### Normalisation (R196) -/

/-- RSQRT(RNE_FP32(v + ε)) with its status. -/
def normScale (v : XVal) (eps : Nat) : XVal × Nat :=
  let sm := v.add (d32 eps)
  let t := out32 sm.1
  let y := funE 9 t.1
  (d32 y.1, t.2 ||| y.2 ||| snanStat eps ||| vINV * b2n sm.2)

/-- One row of V.NORM from its statistics record. -/
def normRow (rms : Bool) (rec : List Byte) (eps : Nat) (xs : List Nat) : List ElemRes :=
  let nanRow (st : Nat) : List ElemRes := xs.map fun x => (fFP32.nan, st ||| snanStat x)
  if rms then
    let n := leNat ((rec.drop 24).take 4)
    let ssq := (L96.dec (BitVec.ofNat 96 (leNat ((rec.drop 12).take 12)))).v
    if n = 0 then nanRow vINV
    else
      let dv := ssq.div (XVal.ofNat n)
      let q := out32 dv.1
      if (d32 q.1).isNan then nanRow q.2
      else
        let y := normScale (d32 q.1) eps
        xs.map fun x =>
          let p := (d32 x).mul y.1
          let o := out32 p.1
          (o.1, o.2 ||| q.2 ||| y.2 ||| snanStat x ||| vINV * b2n p.2)
  else
    let mean := leNat ((rec.drop 32).take 4)
    let var := leNat ((rec.drop 36).take 4)
    if (d32 mean).isNan || (d32 var).isNan then nanRow (snanStat mean ||| snanStat var)
    else
      let y := normScale (d32 var) eps
      xs.map fun x =>
        let df := (d32 x).add (d32 mean).negate
        let p := df.1.mul y.1
        let o := out32 p.1
        (o.1, o.2 ||| y.2 ||| snanStat x ||| vINV * b2n (df.2 || p.2))

/-! ### Boxes (R333, R335 to R337) -/

/-- Fields of the V.BOXDEC parameter block (Table 13.3), FP32 patterns. -/
structure BoxPar where
  anchors : Nat
  abase : Nat
  sx : Nat
  sy : Nat
  sw : Nat
  sh : Nat
  clamp : Nat
  xmax : Nat
  ymax : Nat
deriving DecidableEq, Repr

/-- Bytes from i of a list, little-endian. -/
def leAt (bs : List Byte) (i k : Nat) : Nat := leNat ((bs.drop i).take k)

def BoxPar.ofBytes (bs : List Byte) : BoxPar :=
  ⟨leAt bs 0 8, leAt bs 8 4, leAt bs 12 4, leAt bs 16 4, leAt bs 20 4, leAt bs 24 4, leAt bs 28 4, leAt bs 32 4, leAt bs 36 4⟩

/-- The centre of an axis: ac + d × S × a. -/
def boxCentre (ac d s a : Nat) : ElemRes :=
  let p := (d32 d).mul (d32 s)
  let q := p.1.mul (d32 a)
  let r := (d32 ac).add q.1
  let o := out32Inv r.1 (p.2 || q.2 || r.2)
  (o.1, o.2 ||| snanStat ac ||| snanStat d ||| snanStat s ||| snanStat a)

/-- The extent of an axis: a × EXP(MIN(d × S, CLAMP)). -/
def boxExtent (a d s clamp : Nat) : ElemRes :=
  let e0 := fopE 2 d s
  let e1 := fopE 4 e0.1 clamp
  let e2 := funE 3 e1.1
  let w := fopE 2 a e2.1
  (w.1, e0.2 ||| e1.2 ||| e2.2 ||| w.2)

/-- c − w/2 or c + w/2, rounded once, then limited with CLIP. -/
def boxCorner (clip neg : Bool) (c w lim : Nat) : ElemRes :=
  let h := ((d32 w).mul (.fin neg 1 (-1))).1
  let r := (d32 c).add h
  let o := out32Inv r.1 r.2
  if clip then
    let a := fopE 5 o.1 0
    let b := fopE 4 a.1 lim
    (b.1, o.2 ||| a.2 ||| b.2)
  else o

/-- The four corners of a box from its offsets and its anchor. -/
def boxDecode (p : BoxPar) (clip : Bool) (dx dy dw dh acx acy aw ah : Nat) : List ElemRes :=
  let cx := boxCentre acx dx p.sx aw
  let cy := boxCentre acy dy p.sy ah
  let w := boxExtent aw dw p.sw p.clamp
  let h := boxExtent ah dh p.sh p.clamp
  let st := cx.2 ||| cy.2 ||| w.2 ||| h.2
  let c (neg : Bool) (a b lim : Nat) : ElemRes := let r := boxCorner clip neg a b lim; (r.1, r.2 ||| st)
  [c true cx.1 w.1 p.xmax, c true cy.1 h.1 p.ymax, c false cx.1 w.1 p.xmax, c false cy.1 h.1 p.ymax]

/-- A candidate of V.NMS: box index, score, corners, class. -/
structure NmsBox where
  i : Nat
  score : XVal
  x1 : XVal
  y1 : XVal
  x2 : XVal
  y2 : XVal
  cls : Nat
deriving DecidableEq, Repr

def r64 (v : XVal) : XVal := (rne64 v).1
def pos64 (v : XVal) : XVal := xMax (.fin false 0 0) v
def area64 (x1 y1 x2 y2 : XVal) : XVal :=
  r64 ((pos64 (r64 (x2.add x1.negate).1)).mul (pos64 (r64 (y2.add y1.negate).1))).1

/-- Whether two boxes overlap beyond the threshold (R337). -/
def nmsOver (thr : XVal) (a b : NmsBox) : Bool :=
  let inter := area64 (xMax a.x1 b.x1) (xMax a.y1 b.y1) (xMin a.x2 b.x2) (xMin a.y2 b.y2)
  let sum := r64 ((area64 a.x1 a.y1 a.x2 a.y2).add (area64 b.x1 b.y1 b.x2 b.y2)).1
  let uni := r64 (sum.add inter.negate).1
  (XVal.fin false 0 0).lt uni && (r64 (thr.mul uni).1).lt inter

/-- Candidates in rank order (R336): inserted before the first of lower score; the list is built in index order. -/
def rankInsert (b : NmsBox) : List NmsBox → List NmsBox
  | [] => [b]
  | x :: xs => if x.score.lt b.score then b :: x :: xs else x :: rankInsert b xs

/-- The visit of R337: kept boxes in order, at most k. -/
def nmsVisit (thr : XVal) (cm : Bool) : Nat → List NmsBox → List Nat
  | _, [] => []
  | 0, _ => []
  | k + 1, b :: bs =>
    b.i :: nmsVisit thr cm k (bs.filter fun x => !(nmsOver thr b x && (!cm || x.cls == b.cls)))

end Sys2Proof.Machine
end

