-- ==== Sys2Proof/Machine/Update.lean ====
section
/-! DEFINITION. The parameter update units (R303 to R321): the command ring, the four rules, FSTAT and GACC. -/

namespace Sys2Proof.Machine

def updOf (s : State) (c : Nat) : Upd := look (fun _ => Upd.reset) s.upd c
def setUpd (s : State) (c : Nat) (u : Upd) : State := { s with upd := put (fun _ => Upd.reset) s.upd c u }
def updState (s : State) (c : Nat) : Nat := s.fld (F.UPD_CTRL_STATE c)

/-! ### Arithmetic on long values (R306, R308) -/

def lAdd (a b : XVal) : XVal := r64 (a.add b).1
def lSub (a b : XVal) : XVal := r64 (a.add b.negate).1
def lMul (a b : XVal) : XVal := r64 (a.mul b).1
def lDiv (a b : XVal) : XVal := r64 (a.div b).1
def lSqrt (a : XVal) : XVal := (vfun .l64 8 a 0).v

/-- The power of R308: most significant bit of t first, over 64 bits. -/
def powT (b : XVal) (t : Nat) : XVal :=
  (List.range 64).foldl (fun p i =>
    let p2 := lMul p p
    if t.testBit (63 - i) then lMul p2 b else p2) XVal.one

def biasCorr (b : XVal) (t : Nat) : XVal := lSub XVal.one (powT b t)

def toF32 (v : XVal) : Nat := (fFP32.cvt .rne v).1

/-- sign(c) of the signed momentum rule: +1, −1, +0 for a zero, NaN for NaN. -/
def signX (v : XVal) : XVal := if v.isNan then .nan else if v.isZero then XVal.zero false else .fin v.neg? 1 0

/-! ### Records and parameters -/

def updRing (s : State) (c : Nat) : Nat := s.fld (F.UPD_RING_BASE c)
def updLog (s : State) (c : Nat) : Nat := s.fld (F.UPD_RING_LOG2N c)
def updHead (s : State) (c : Nat) : Nat := s.fld (F.UPD_PTR_HEAD c)
def updTail (s : State) (c : Nat) : Nat := s.fld (F.UPD_PTR_TAIL c)
/-- Records from HEAD to TAIL, free-running 32-bit counts (R313). -/
def ringUsed (head tail : Nat) : Nat := (tail + 2 ^ 32 - head) % 2 ^ 32

/-- The record at an address (Table 12.4). -/
def updRecord (s : State) (a : Nat) : UpdRec :=
  let f (o k : Nat) : Nat := s.readLE (.flat (a + o)) k
  { addr := a, op := f 0 1, gid := f 1 1, flags := f 2 2, step := f 8 8, lr := f 16 4, wd := f 20 4, b1 := f 24 4, b2 := f 28 4,
    eps := f 32 4, gscale := f 36 4, src := f 40 8, notify := f 48 8, nval := f 56 4 }

def updNext (s : State) (c : Nat) : UpdRec := updRecord s (updRing s c + 64 * (updHead s c % 2 ^ updLog s c))

def Group.ms (g : Group) : Nat := if g.mfmt = 1 then 2 else 4
def rdF32 (s : State) (a : Nat) : XVal := d32 (s.readLE (.flat a) 4)
def rdBF16 (s : State) (a : Nat) : XVal := fBF16.dec (s.readLE (.flat a) 2)
def rdMom (s : State) (g : Group) (a : Nat) : XVal := if g.mfmt = 1 then rdBF16 s a else rdF32 s a
def wrMom (g : Group) (v : XVal) : List Byte := if g.mfmt = 1 then leBytes 2 (bf16OfX v) else leBytes 4 (toF32 v)
def rdL96 (s : State) (a : Nat) : L96 := BitVec.ofNat 96 (s.readLE (.flat a) 12)

/-- Whether unit c owns parameter i of a group (R303). -/
def updOwns (g : Group) (c i : Nat) : Bool := mcOf ((g.master + 4 * i) / 256) == c
def updOwned (g : Group) (c : Nat) : List Nat := (List.range g.count).filter fun i => updOwns g c i

/-- Poisoned units of a byte range. -/
def poisonedUnits (s : State) (a len : Nat) : List Nat :=
  if lpddrEnd ≤ a ∨ len = 0 then []
  else (List.range ((a + (len - 1)) / 256 + 1 - a / 256)).filterMap fun i =>
    if s.poisoned (a / 256 + i) then some (a / 256 + i) else none

def UpdRec.decay (r : UpdRec) : Bool := r.flags.testBit 0
def UpdRec.nesterov (r : UpdRec) : Bool := r.flags.testBit 1
def UpdRec.gsrc (r : UpdRec) : Bool := r.flags.testBit 2
def UpdRec.gclr (r : UpdRec) : Bool := r.flags.testBit 3

/-- The gradient as a long value (R306). -/
def updGrad (s : State) (g : Group) (r : UpdRec) (i : Nat) : XVal :=
  lMul (d32 r.gscale) (if r.gsrc then (L96.dec (rdL96 s (g.gaccum + 12 * i))).v else rdBF16 s (g.grad + 2 * i))

def gradRange (g : Group) (r : UpdRec) (i : Nat) : Nat × Nat :=
  if r.gsrc then (g.gaccum + 12 * i, 12) else (g.grad + 2 * i, 2)

/-- The byte ranges that UPDATE reads for a parameter. -/
def updReads (g : Group) (r : UpdRec) (i : Nat) : List (Nat × Nat) :=
  [gradRange g r i, (g.master + 4 * i, 4), (g.resid + 2 * i, 2)] ++
    (if g.mom1 = 0 then [] else [(g.mom1 + g.ms * i, g.ms)]) ++
    (if g.rule = 1 then [(g.mom2 + g.ms * i, g.ms)] else [])

/-- The factors of a factored step (R311): row factors, column factors, mean. -/
structure Factors where
  rowf : List Nat
  colf : List Nat
  mr : XVal

/-- Coefficients of a command as long values. -/
structure Coef where
  lr : XVal
  wd : XVal
  b1 : XVal
  b2 : XVal
  eps : XVal
  c1 : XVal
  c2 : XVal

def UpdRec.coef (r : UpdRec) : Coef :=
  ⟨d32 r.lr, d32 r.wd, d32 r.b1, d32 r.b2, d32 r.eps, biasCorr (d32 r.b1) r.step, biasCorr (d32 r.b2) r.step⟩

/-- The direction u of a rule and the moments it stores (R309). -/
def updRule (s : State) (g : Group) (r : UpdRec) (k : Coef) (f : Factors) (i : Nat) : XVal × List (Nat × List Byte) :=
  let gr := updGrad s g r i
  let ma := g.mom1 + g.ms * i
  let m := rdMom s g ma
  let om1 := lSub XVal.one k.b1
  let om2 := lSub XVal.one k.b2
  match g.rule with
  | 1 =>
    let va := g.mom2 + g.ms * i
    let m' := lAdd (lMul k.b1 m) (lMul om1 gr)
    let v' := lAdd (lMul k.b2 (rdMom s g va)) (lMul (lMul om2 gr) gr)
    (lDiv (lDiv m' k.c1) (lAdd (lSqrt (lDiv v' k.c2)) k.eps), [(ma, wrMom g m'), (va, wrMom g v')])
  | 2 =>
    let c := lAdd (lMul k.b1 m) (lMul om1 gr)
    (signX c, [(ma, wrMom g (lAdd (lMul k.b2 m) (lMul om2 gr)))])
  | 3 =>
    let m' := lAdd (lMul k.b1 m) gr
    (if r.nesterov then lAdd gr (lMul k.b1 m') else m', [(ma, wrMom g m')])
  | _ =>
    let vh := lDiv (lMul (d32 (f.rowf.getD (i / g.cols) 0)) (d32 (f.colf.getD (i % g.cols) 0))) f.mr
    let u := lDiv gr (lSqrt vh)
    if g.mom1 = 0 then (u, [])
    else
      let m' := lAdd (lMul k.b1 m) (lMul om1 u)
      (m', [(ma, wrMom g m')])

/-- The writes of one parameter and whether its Wn is finite (R306, R309, R312). -/
def updParam (s : State) (g : Group) (r : UpdRec) (k : Coef) (f : Factors) (i : Nat) : List (Nat × List Byte) × Bool :=
  let w := lAdd (rdF32 s (g.master + 4 * i)) (rdBF16 s (g.resid + 2 * i))
  let um := updRule s g r k f i
  let wn := lSub w (lMul k.lr (lAdd um.1 (if r.decay then lMul k.wd w else XVal.zero false)))
  let wnew := toF32 wn
  let rnew := bf16OfX (lSub wn (d32 wnew))
  ([(g.master + 4 * i, leBytes 4 wnew), (g.resid + 2 * i, leBytes 2 rnew), (g.work + 2 * i, leBytes 2 (bf16OfX wn))] ++ um.2 ++
    (if r.gsrc && r.gclr then [(g.gaccum + 12 * i, leBytes 12 0)] else []), wn.isFin)

/-! ### Running a command -/

/-- Parameters left unwritten (R317): counted, the first recorded, the event raised. Poisoned units count at their
controllers as they are read (R258, R259). -/
def updUncorr (s : State) (c gid : Nat) (first : Nat) (k : Nat) (us : List Nat) : State :=
  let s0 := us.eraseDups.foldl (fun st u => mcUncorr st u 32 0) s
  let s1 := s0.incFld (F.UPD_UE_COUNT c) k
  let s2 := if s1.flag (F.UPD_LAST_VALID c) then s1
    else s1.setReg (R.UPD_LAST c) (BitVec.ofNat 64 (2 ^ 63 + 2 ^ 48 * gid + first % 2 ^ 40))
  s2.raise (88 + c)

/-- Progress through the owned parameters. -/
structure UpdAcc where
  st : State
  done : Nat
  nonfin : Nat
  bad : List Nat        -- parameters left unwritten
  units : List Nat      -- poisoned units read

/-- Every owned parameter in ascending order: its writes, or none of them when a read is uncorrectable. -/
def updEach (s : State) (ps : List Nat) (reads : Nat → List (Nat × Nat)) (f : State → Nat → List (Nat × List Byte) × Bool) : UpdAcc :=
  ps.foldl (fun a i =>
    let us := (reads i).flatMap fun r => poisonedUnits a.st r.1 r.2
    if us ≠ [] then { a with bad := a.bad ++ [i], units := a.units ++ us }
    else
      let o := f a.st i
      { a with st := o.1.foldl (fun st w => unitWrite st w.1 w.2) a.st, done := a.done + 1,
               nonfin := a.nonfin + b2n (!o.2) }) ⟨s, 0, 0, [], []⟩

/-- Counts and status of a finished pass (Table 12.5). -/
def updFinish (c gid : Nat) (a : UpdAcc) (count : Bool) : State × Nat :=
  let s1 := if count then a.st.incFld (F.UPD_PARAMS_COUNT c) a.done else a.st
  let s2 := s1.incFld (F.UPD_NONFINITE_COUNT c) a.nonfin
  let nf := if a.nonfin = 0 then 0 else 128
  match a.bad with
  | [] => (s2, 1 + nf)
  | i :: _ => (updUncorr s2 c gid i a.bad.length a.units, 4 + nf)

/-- Bank b of the factors (R310). -/
def factorBank (g : Group) (b : Nat) : Nat := (g.mom2 + b * 4 * (g.rows + g.cols) + 255) / 256 * 256
def partialAt (g : Group) (c k : Nat) : Nat := g.part + 12 * (c * (g.rows + g.cols) + k)

/-- The factors formed from every unit's partial sums (R311). -/
def formFactors (s : State) (g : Group) (r : UpdRec) : Factors :=
  let old := factorBank g ((r.step + 1) % 2)
  let b2 := d32 r.b2
  let one (k other : Nat) : Nat :=
    let parts := (List.range 16).map fun c => (L96.dec (rdL96 s (partialAt g c k))).v
    let sum := parts.tail.foldl lAdd (parts.headD (XVal.zero false))
    toF32 (lAdd (lMul b2 (rdF32 s (old + 4 * k))) (lDiv (lMul (lSub XVal.one b2) sum) (XVal.ofNat other)))
  let rowf := (List.range g.rows).map fun i => one i g.cols
  let colf := (List.range g.cols).map fun j => one (g.rows + j) g.rows
  let rs := rowf.map d32
  ⟨rowf, colf, lDiv (rs.tail.foldl lAdd (rs.headD (XVal.zero false))) (XVal.ofNat g.rows)⟩

/-- The ranges read to form the factors. -/
def factorReads (g : Group) (r : UpdRec) : List (Nat × Nat) :=
  (factorBank g ((r.step + 1) % 2), 4 * (g.rows + g.cols)) ::
    (List.range 16).map fun c => (partialAt g c 0, 12 * (g.rows + g.cols))

/-- Unit c writes its share of the new bank (R311). -/
def writeFactors (s : State) (g : Group) (r : UpdRec) (f : Factors) (c : Nat) : State :=
  let new := factorBank g (r.step % 2)
  let all := f.rowf.zipIdx.map (fun x => (x.2, x.2, x.1)) ++ f.colf.zipIdx.map (fun x => (x.2, g.rows + x.2, x.1))
  all.foldl (fun st x => if x.1 % 16 = c then unitWrite st (new + 4 * x.2.1) (leBytes 4 x.2.2) else st) s

/-- UPDATE of a group (R307, R309, R311, R317). -/
def runUpdate (s : State) (c : Nat) (g : Group) (r : UpdRec) : State × Nat :=
  let h := s.readLE (.flat g.hdr) 8
  if r.step = 0 ∨ r.step ≠ h + 1 then (s, 2)
  else
    let fu := if g.rule = 4 then (factorReads g r).flatMap fun x => poisonedUnits s x.1 x.2 else []
    let ps := updOwned g c
    let o :=
      if fu ≠ [] then (updUncorr s c g.gid (2 ^ 40 - 1) ps.length fu, 4)
      else
        let f := if g.rule = 4 then formFactors s g r else ⟨[], [], XVal.one⟩
        let s1 := if g.rule = 4 then writeFactors s g r f c else s
        updFinish c g.gid (updEach s1 ps (updReads g r) (fun st i => updParam st g r r.coef f i)) true
    (unitWrite o.1 g.hdr (leBytes 8 r.step), o.2)

/-- FSTAT of a group (R311): the partial sums of the parameters that unit c owns. -/
def runFstat (s : State) (c : Nat) (g : Group) (r : UpdRec) : State × Nat :=
  let s0 := unitWrite s (partialAt g c 0) (leBytes (12 * (g.rows + g.cols)) 0)
  let addTo (st : State) (k : Nat) (q : XVal) : List (Nat × List Byte) :=
    [(partialAt g c k, leBytes 12 ((L96.dec (rdL96 st (partialAt g c k))).add (Tot.ofX q false)).enc.toNat)]
  updFinish c g.gid (updEach s0 (updOwned g c) (fun i => [gradRange g r i]) (fun st i =>
    let gr := updGrad st g r i
    let q := lAdd (lMul gr gr) (d32 r.eps)
    (addTo st (i / g.cols) q ++ addTo st (g.rows + i % g.cols) q, true))) false

/-- GACC of a group (R312). -/
def runGacc (s : State) (c : Nat) (g : Group) (r : UpdRec) : State × Nat :=
  updFinish c g.gid (updEach s (updOwned g c) (fun i => [(g.gaccum + 12 * i, 12), (r.src + 2 * i, 2)]) (fun st i =>
    let p := (d32 r.gscale).mul (rdBF16 st (r.src + 2 * i))
    let t := (L96.dec (rdL96 st (g.gaccum + 12 * i))).add (Tot.ofX p.1 p.2)
    ([(g.gaccum + 12 * i, leBytes 12 t.enc.toNat)], true))) true

/-- The group of a command, unless the command is bad (R312, R314). -/
def updGroup (s : State) (c : Nat) (r : UpdRec) : Option Group :=
  match (updOf s c).groups.find? fun g => g.gid == r.gid with
  | none => none
  | some g =>
    let inLp := inRange r.src (2 * g.count) 0 (usableEnd s)
    let inStack := inRange r.src (2 * g.count) stackBase stackEnd
    let bad := r.op = 0 ∨ 3 < r.op ∨ (r.op = 2 ∧ g.rule ≠ 4) ∨ (r.gsrc ∧ g.gaccum = 0) ∨
      (r.op = 3 ∧ (g.gaccum = 0 ∨ !(inLp || inStack)))
    if bad then none else some g

/-- The command's work: all its writes, and its status. -/
def updWork (s : State) (c : Nat) (r : UpdRec) : State :=
  let o := match updGroup s c r with
    | none => (s, 3)
    | some g =>
      if r.op = 2 then runFstat s c g r
      else if r.op = 3 then runGacc s c g r
      else runUpdate s c g r
  setUpd o.1 c { updOf o.1 c with cur := some ⟨r, none, o.2⟩ }

/-- A command at HEAD is read (R313, R315): an UPDATE may be held (R24). bad names units whose words this command finds
uncorrectable. -/
def updBegin (s : State) (c : Nat) (mine : UpdRec → Bool) (bad : List Nat) : State :=
  if updState s c ≠ 1 ∨ updHead s c = updTail s c ∨ (updOf s c).cur ≠ none then s
  else
    let r := updNext s c
    if !(mine r) then s
    else
      let s1 := (s.setFld (F.UPD_STATUS_BUSY c) 1).setFld (F.UPD_STATUS_CUR_GID c) r.gid
      if r.op == 1 && (updGroup s1 c r).isSome && mirrorHolds s1 r.step then
        let s2 := (s1.setFld (F.UPD_STATUS_HOLDING c) 1).incFld (F.MIRROR_HOLD_HOLDS c) 1
        setUpd s2 c { updOf s2 c with cur := some ⟨r, some s2.now, 0⟩ }
      else updWork (bad.foldl (fun st u => mcUncorrRow st u 1 0) s1) c r

/-- UPDATE: also the reserved operations, which complete with BAD_CMD (R314). -/
def updUpdate (s : State) (c : Nat) (bad : List Nat) : State := updBegin s c (fun r => r.op != 2 && r.op != 3) bad
def updFstat (s : State) (c : Nat) (bad : List Nat) : State := updBegin s c (fun r => r.op == 2) bad
def updGacc (s : State) (c : Nat) (bad : List Nat) : State := updBegin s c (fun r => r.op == 3) bad

/-- MIRROR_HOLD_RELEASE: the mirror reads have completed; MCLK cycles held are counted (R24, Table 12.10). -/
def mirrorHoldRelease (s : State) (c : Nat) : State :=
  match (updOf s c).cur with
  | some ⟨r, some t, _⟩ =>
    if mirrorHolds s r.step then s
    else updWork ((s.setFld (F.UPD_STATUS_HOLDING c) 0).incFld (F.MIRROR_HOLD_CYCLES c) ((s.now - t) * 8 / 7)) c r
  | _ => s

/-- UPD_COMMAND_COMPLETE: STATUS, NOTIFY, HEAD in this order (R316); a failed update faults the step (R483). -/
def updComplete (s : State) (c : Nat) : State :=
  match (updOf s c).cur with
  | some ⟨r, none, st⟩ =>
    let s1 := unitWrite s (r.addr + 60) (leBytes 1 st)
    let s2 := notify s1 r.notify r.nval
    let s3 := s2.setFld (F.UPD_PTR_HEAD c) ((updHead s2 c + 1) % 2 ^ 32)
    let s4 := (s3.setFld (F.UPD_STATUS_BUSY c) 0).setFld (F.UPD_STATUS_CUR_GID c) 0
    let s5 := setUpd s4 c { updOf s4 c with cur := none }
    let s6 := if updState s5 c = 2 then s5.incFld (F.UPD_CLOSE_DONE c) 1 else s5
    if st % 128 = 2 ∨ st % 128 = 4 then setFaulted s6 else s6
  | _ => s

/-- UPD_DOOR: an add to TAIL, or RING_ERR (R313). False when it is discarded. -/
def updDoor (s : State) (c k : Nat) : Bool × State :=
  if 2 ^ updLog s c < ringUsed (updHead s c) (updTail s c) + k then (false, s.setFld (F.UPD_STATUS_RING_ERR c) 1)
  else (true, s.setFld (F.UPD_PTR_TAIL c) ((updTail s c + k) % 2 ^ 32))

/-- UPD_RING_WRITE (Table 12.6). -/
def updRingWrite (s : State) (c : Nat) (sz : AccSz) (v : Word) : State :=
  if updState s c ≠ 0 then s
  else
    let s1 := s.writeByType (R.UPD_RING c) sz v
    (s1.setReg (R.UPD_RING c) (setBits (s1.reg (R.UPD_RING c)) 5 0 0)).setReg (R.UPD_PTR c) 0#64

/-- A write of UPD_PTR: HEAD, only while OFF (Table 12.7). -/
def updPtrWrite (s : State) (c : Nat) (sz : AccSz) (v : Word) : State :=
  if updState s c ≠ 0 then s else s.writeByType (R.UPD_PTR c) sz v

/-- UPD_DISABLE (R319). -/
def updDisable (s : State) (c : Nat) : State :=
  if updState s c = 1 ∧ s.fld (F.UPD_CTRL_ENABLE c) = 1 then
    let ab := ringUsed (updHead s c) (updTail s c) - b2n (updOf s c).cur.isSome
    ((s.setEnable (R.UPD_CTRL c) 0).setEngState (R.UPD_CTRL c) 2).setReg (R.UPD_CLOSE c) (BitVec.ofNat 64 ab)
  else s

/-- The last command of a closing unit has completed. -/
def updCloseDone (s : State) (c : Nat) : State :=
  if updState s c = 2 ∧ (updOf s c).cur = none then (s.setEngState (R.UPD_CTRL c) 0).raise (88 + c) else s

end Sys2Proof.Machine
end

