-- ==== Sys2Proof/Machine/Attention.lean ====
section
/-! DEFINITION. The attention engines (R341 to R362): fern table, commits, releases, steps. -/

namespace Sys2Proof.Machine

def attOf (s : State) (q : Nat) : Att := look (fun _ => Att.reset) s.att q
def setAtt (s : State) (q : Nat) (a : Att) : State := { s with att := put (fun _ => Att.reset) s.att q a }
def attState (s : State) (q : Nat) : Nat := s.fld (F.ATT_CTRL_STATE q)
def attD (s : State) (q : Nat) : Nat := 64 * 2 ^ s.fld (F.ATT_CONF_DCODE q)
def attH (s : State) (q : Nat) : Nat := s.fld (F.ATT_CONF_H q)
def attHkv (s : State) (q : Nat) : Nat := s.fld (F.ATT_CONF_HKV q)
def attG (s : State) (q : Nat) : Nat := attH s q / attHkv s q
def fernBase (s : State) (q : Nat) : Nat := s.fld (F.ATT_FERN_BASE q)
def fernSize (s : State) (q : Nat) : Nat := s.fld (F.ATT_CONF_FERN_KIB q) * 4096
def seqLen (s : State) (q sid : Nat) : Nat := s.fld (F.SEQ_STATE_LEN q sid)

/-- Bytes of a page (R344). -/
def pageBytes (s : State) (q : Nat) : Nat := 4 * attHkv s q * 256 * attD s q

/-! ### Fern entries (R345, Table 14.2) -/

def rootAt (s : State) (q sid i : Nat) : Nat := fernBase s q + 512 * sid + 8 * i
def fernEntry (s : State) (a : Nat) : Nat := s.readLE (.flat a) 8
def entryValid (e : Nat) : Bool := e.testBit 63
/-- The leaf address of a root entry, the page base of a leaf entry. -/
def leafOf (e : Nat) : Nat := bitsOf e 47 9 * 512
def pageOf (e : Nat) : Nat := bitsOf e 47 12 * 4096
def leafEntryAt (s : State) (q sid page : Nat) : Option Nat :=
  let r := fernEntry s (rootAt s q sid (page / 64))
  if entryValid r then some (leafOf r + 8 * (page % 64)) else none

/-- A range in stack memory or usable LPDDR 6, outside every protected fern region. -/
def attRange (s : State) (a len : Nat) : Bool :=
  (inRange a len 0 (usableEnd s) || inRange a len stackBase stackEnd) && !(s.fernTouched a len)

/-! ### Release ring (R350) -/

def relLog (s : State) (q : Nat) : Nat := let l := s.fld (F.ATT_RRING_LOG2N q); if l = 0 then 16 else l
def relRoom (s : State) (q : Nat) : Nat :=
  2 ^ relLog s q - ringUsed (s.fld (F.ATT_RPTR_REL_HEAD q)) (s.fld (F.ATT_RPTR_REL_TAIL q))
def relEntry (leaf : Bool) (sid a : Nat) : Nat := a % 2 ^ 48 + sid * 2 ^ 48 + (if leaf then 2 ^ 63 else 0)

def appendRel (s : State) (q e : Nat) : State :=
  let t := s.fld (F.ATT_RPTR_REL_TAIL q)
  (unitWrite s (s.fld (F.ATT_RRING_BASE q) + 8 * (t % 2 ^ relLog s q)) (leBytes 8 e)).setFld (F.ATT_RPTR_REL_TAIL q)
    ((t + 1) % 2 ^ 32)

/-! ### Commits (R347 to R349, Tables 14.3 and 14.4) -/

structure CommitRec where
  addr : Nat
  op : Nat
  sid : Nat
  index : Nat
  len : Nat
  dst : Nat
  notify : Nat
  nval : Nat
  resv : Nat

def commitRecord (s : State) (q : Nat) : CommitRec :=
  let a := s.fld (F.ATT_CRING_BASE q) + 32 * (s.fld (F.ATT_CPTR_HEAD q) % 2 ^ s.fld (F.ATT_CRING_LOG2N q))
  let f (o k : Nat) : Nat := s.readLE (.flat (a + o)) k
  ⟨a, f 0 1, f 1 1, f 2 2, f 4 4, f 8 8, f 16 8, f 24 4, f 29 3⟩

/-- Whether the condition of Table 14.4 and the form of the record hold. -/
def commitOk (s : State) (q : Nat) (r : CommitRec) : Bool :=
  decide (r.sid < 64) && r.resv == 0 &&
  (match r.op with
    | 1 => decide (r.index < 64) && !(entryValid (fernEntry s (rootAt s q r.sid r.index))) && r.dst % 512 == 0 &&
        decide (fernBase s q + 0x8000 ≤ r.dst) && decide (r.dst + 512 ≤ fernBase s q + fernSize s q)
    | 2 => decide (r.index < 4096) && (leafEntryAt s q r.sid r.index).isSome && r.dst % 4096 == 0 &&
        attRange s r.dst (pageBytes s q)
    | 3 => decide (r.index < 4096) && (match leafEntryAt s q r.sid r.index with
        | some a => entryValid (fernEntry s a)
        | none => false)
    | 4 => decide (r.index < 64) && (let e := fernEntry s (rootAt s q r.sid r.index)
        entryValid e && (List.range 64).all fun i => !(entryValid (fernEntry s (leafOf e + 8 * i))))
    | 5 => decide (r.len ≤ 2 ^ 20)
    | 6 => true
    | _ => false)

/-- Valid pages of a sequence in ascending page index, and valid leaves in ascending root index. -/
def seqPages (s : State) (q sid : Nat) : List (Nat × Nat) :=
  (List.range 64).flatMap fun i =>
    let r := fernEntry s (rootAt s q sid i)
    if entryValid r then (List.range 64).filterMap fun k =>
      let a := leafOf r + 8 * k
      if entryValid (fernEntry s a) then some (a, pageOf (fernEntry s a)) else none
    else []
def seqLeaves (s : State) (q sid : Nat) : List (Nat × Nat) :=
  (List.range 64).filterMap fun i =>
    let a := rootAt s q sid i
    let r := fernEntry s a
    if entryValid r then some (a, leafOf r) else none

/-- The entries a commit releases. -/
def commitReleases (s : State) (q : Nat) (r : CommitRec) : List Nat :=
  if !(commitOk s q r) then []
  else match r.op with
    | 2 => match leafEntryAt s q r.sid r.index with
      | some a => if entryValid (fernEntry s a) then [relEntry false r.sid (pageOf (fernEntry s a))] else []
      | none => []
    | 3 => match leafEntryAt s q r.sid r.index with
      | some a => [relEntry false r.sid (pageOf (fernEntry s a))]
      | none => []
    | 4 => [relEntry true r.sid (leafOf (fernEntry s (rootAt s q r.sid r.index)))]
    | 6 => (seqPages s q r.sid).map (fun p => relEntry false r.sid p.2) ++
        (seqLeaves s q r.sid).map fun p => relEntry true r.sid p.2
    | _ => []

def putEntry (s : State) (a e : Nat) : State := unitWrite s a (leBytes 8 e)

/-- The effect of a successful commit on the tables and LEN. -/
def commitEffect (s : State) (q : Nat) (r : CommitRec) : State :=
  match r.op with
  | 1 => putEntry (unitWrite s r.dst (leBytes 512 0)) (rootAt s q r.sid r.index) (2 ^ 63 + r.dst)
  | 2 => match leafEntryAt s q r.sid r.index with
    | some a => putEntry s a (2 ^ 63 + r.dst)
    | none => s
  | 3 => match leafEntryAt s q r.sid r.index with
    | some a => putEntry s a 0
    | none => s
  | 4 => putEntry s (rootAt s q r.sid r.index) 0
  | 5 => s.setFld (F.SEQ_STATE_LEN q r.sid) r.len
  | 6 =>
    let leaves := seqLeaves s q r.sid
    let s1 := leaves.foldl (fun st p => unitWrite st p.2 (leBytes 512 0)) s
    let s2 := leaves.foldl (fun st p => putEntry st p.1 0) s1
    s2.setFld (F.SEQ_STATE_LEN q r.sid) 0
  | _ => s

/-- A step is pinning (R353, R360). -/
def attPinning (s : State) (q : Nat) : Bool :=
  match (attOf s q).cur with
  | some st => decide (s.now < st.pinEnd)
  | none => false
def attHeld (s : State) (q sid : Nat) : Bool :=
  match (attOf s q).cur with
  | some st => st.sids.contains sid
  | none => false

/-- The waiting cycles of the head commit counted up to now. -/
def stopWaiting (s : State) (q : Nat) : State :=
  let a := attOf s q
  match a.waitFrom with
  | none => s
  | some t => setAtt ((s.incFld (F.COMMIT_WAIT_COUNT q) (s.now - t)).setFld (F.ATT_STATUS_COMMIT_WAITING q) 0) q
      { a with waitFrom := none }

/-- The commit at the head of the ring, if it is one that the row names, applies or waits (R348, R349). -/
def commitRun (s : State) (q op : Nat) : State :=
  if attState s q ≠ 1 ∨ s.fld (F.ATT_CPTR_HEAD q) = s.fld (F.ATT_CPTR_TAIL q) then s
  else
    let r := commitRecord s q
    if r.op ≠ op ∧ 1 ≤ r.op ∧ r.op ≤ 6 then s
    else
      let rel := commitReleases s q r
      let a := attOf s q
      if attHeld s q r.sid || attPinning s q || decide (relRoom s q < rel.length + a.rel.length) then
        (if a.waitFrom.isSome then s
         else (setAtt s q { a with waitFrom := some s.now }).setFld (F.ATT_STATUS_COMMIT_WAITING q) 1)
      else
        let ok := commitOk s q r
        let s1 := stopWaiting s q
        let s2 := if ok then
            (commitEffect s1 q r).setFld (F.SEQ_STATE_GEN q r.sid) ((s1.fld (F.SEQ_STATE_GEN q r.sid) + 1) % 2 ^ 32)
          else s1
        let s3 := if (attOf s2 q).cur.isSome then setAtt s2 q { attOf s2 q with rel := (attOf s2 q).rel ++ rel }
          else rel.foldl (fun st e => appendRel st q e) s2
        let s4 := notify (unitWrite s3 (r.addr + 28) [if ok then 1#8 else 2#8]) r.notify r.nval
        s4.setFld (F.ATT_CPTR_HEAD q) ((s4.fld (F.ATT_CPTR_HEAD q) + 1) % 2 ^ 32)

/-! ### Steps (R352 to R359) -/

/-- The step record at the head of the ring (Table 14.5), and whether its form is right. -/
def stepRecord (s : State) (q : Nat) : AttStep × Bool :=
  let a := s.fld (F.ATT_SRING_BASE q) + 128 * (s.fld (F.ATT_SPTR_HEAD q) % 2 ^ s.fld (F.ATT_SRING_LOG2N q))
  let f (o k : Nat) : Nat := s.readLE (.flat (a + o)) k
  let nseq := f 1 1
  let nq := f 2 2
  let flags := f 4 2
  let all := (List.range 32).map fun i => f (64 + i) 1
  let sids := all.take nseq
  let qnm := (List.range (min nseq 32)).map fun i => f (96 + i) 1
  let rows := nseq * nq * attH s q
  let es := if flags.testBit 0 then 4 else 2
  let okAt (b len : Nat) : Bool := b % 64 == 0 && attRange s b len
  let st : AttStep :=
    { addr := a, nseq := nseq, q := nq, flags := flags, scale := f 8 4, qbase := f 16 8, obase := f 24 8, lbase := f 32 8,
      masktab := f 40 8, notify := f 48 8, nval := f 56 4, sids := sids, qnm := qnm, pinEnd := s.now + 64, i := 0, p := 0,
      j := 0, busyEnd := s.now + 64, missing := [], rows := [] }
  (st, f 0 1 == 1 && decide (1 ≤ nseq) && decide (nseq ≤ 32) && decide (1 ≤ nq) && decide (nq ≤ 256) && decide (flags < 8) &&
    f 6 2 == 0 && f 12 4 == 0 && f 61 3 == 0 && (all.drop nseq).all (fun x => x == 0) && sids.all (fun x => decide (x < 64)) &&
    decide sids.Nodup && qnm.all (fun x => decide (x < nq)) && decide (nq * attG s q * attD s q ≤ 65536) &&
    okAt st.qbase (rows * 2 * attD s q) && okAt st.obase (rows * es * attD s q) &&
    (!(flags.testBit 1) || okAt st.lbase (4 * rows)) && (!(flags.testBit 2) || okAt st.masktab 512))

/-- STATUS, NOTIFY and HEAD of a step record. -/
def stepDone (s : State) (q : Nat) (st : AttStep) (status : Nat) : State :=
  let s1 := notify (unitWrite s (st.addr + 60) (leBytes 1 status)) st.notify st.nval
  s1.setFld (F.ATT_SPTR_HEAD q) ((s1.fld (F.ATT_SPTR_HEAD q) + 1) % 2 ^ 32)

/-- STEP: the step at the head of the ring pins its sequences (R353), or completes with BAD_CMD (R352). -/
def attStep (s : State) (q : Nat) : State :=
  if attState s q ≠ 1 ∨ s.fld (F.ATT_SPTR_HEAD q) = s.fld (F.ATT_SPTR_TAIL q) ∨ (attOf s q).cur ≠ none then s
  else
    let o := stepRecord s q
    if !o.2 then stepDone s q o.1 2
    else
      let s1 := o.1.sids.foldl (fun st k => st.setFld (F.SEQ_STATE_HELD q k) 1) s
      (setAtt s1 q { attOf s1 q with cur := some o.1 }).setFld (F.ATT_STATUS_STEP_BUSY q) 1

/-- Block code of page p of batch slot i (R355). -/
def blockCode (s : State) (st : AttStep) (i p : Nat) : Nat :=
  if !(st.flags.testBit 2) then 1
  else
    let bb := s.readLE (.flat (st.masktab + 16 * i)) 8
    if bb = 0 then 1 else bitsOf (s.byte (bb + p / 4)).toNat (2 * (p % 4) + 1) (2 * (p % 4))

/-- Tokens of page p of batch slot i that row r sees (R354), as offsets in the page. j counts the partial pages before. -/
def visibleTokens (s : State) (q : Nat) (st : AttStep) (i p j r : Nat) : List Nat :=
  let len := seqLen s q (st.sids.getD i 0)
  let code := blockCode s st i p
  let tb := s.readLE (.flat (st.masktab + 16 * i + 8)) 8 + j * 32 * st.q + 32 * r
  (List.range 256).filter fun k => decide (256 * p + k < len) &&
    (code == 1 || (code == 2 && (s.byte (tb + k / 8)).getLsbD (k % 8)))

/-- P_max of a step (R354). -/
def attPmax (s : State) (q : Nat) (st : AttStep) : Nat :=
  ((st.sids.map fun k => seqLen s q k).foldl max 0 + 255) / 256

/-- The next page to be visited, from slot i, page p and j partial pages before it: skipped pages are passed over
(R354). The last component says that a block code 0b11 was read. -/
def nextVisit (s : State) (q : Nat) (st : AttStep) (pmax : Nat) : Nat → Nat → Nat → Nat → Bool → Option (Nat × Nat × Nat) × Bool
  | 0, _, _, _, e => (none, e)
  | fuel + 1, i, p, j, e =>
    if st.nseq ≤ i then (none, e)
    else if pmax ≤ p ∨ st.missing.contains i then nextVisit s q st pmax fuel (i + 1) 0 0 e
    else
      let code := blockCode s st i p
      let seen := (List.range st.q).any fun r => !(visibleTokens s q st i p j r).isEmpty
      if seen then (some (i, p, j), e || code == 3)
      else nextVisit s q st pmax fuel i (p + 1) (if code = 2 then j + 1 else j) (e || code == 3)

def attNext (s : State) (q : Nat) (st : AttStep) : Option (Nat × Nat × Nat) × Bool :=
  let pm := attPmax s q st
  nextVisit s q st pm ((st.nseq + 1) * (pm + 2)) st.i st.p st.j false

/-- A BF16 operand and whether it is a signalling NaN. -/
def bf16At (s : State) (a : Nat) : XVal × Bool :=
  let x := s.readLE (.flat a) 2
  (fBF16.dec x, fBF16.snan x)

/-- The dot product of two BF16 vectors as a long total in ascending dimension (R356). -/
def dotTot (a b : List (XVal × Bool)) : Tot :=
  match a.zip b with
  | [] => Tot.zero
  | p :: ps =>
    let prod (x : (XVal × Bool) × (XVal × Bool)) : Tot :=
      let m := x.1.1.mul x.2.1
      Tot.ofX m.1 (m.2 || x.1.2 || x.2.2)
    ps.foldl (fun t x => t.add (prod x)) (prod p)

def AttRow.init (d : Nat) : AttRow := ⟨SoftRec.init.bytes, List.replicate d Tot.zero.enc, List.replicate d Tot.zero.enc⟩

/-- One row's update by the visible tokens of a page (R356): scores with their value vectors, in token order. The second
component is INV. -/
def attRowUpdate (row : AttRow) (scale : Nat) (ts : List (Tot × List (XVal × Bool))) : AttRow × Bool :=
  let scored := ts.map fun t =>
    let p := t.1.v.mul (d32 scale)
    ((fFP32.cvt .rne p.1).1, t.1.inv || p.2 || fFP32.snan scale, t.2)
  let xs := scored.map fun x => d32 x.1
  let old := SoftRec.ofBytes row.rcd
  let new := old.update xs
  let rose := old.m.lt new.m
  let f := (expE (diff64 old.m new.m)).1
  let o1 := row.o.map fun t => if rose then (L96.dec t).scale f else L96.dec t
  let o2 := scored.foldl (fun os x =>
    let v := d32 x.1
    if v.isFin then
      let e := (expE (diff64 v new.m)).1
      (os.zip x.2.2).map fun c =>
        let m := e.mul c.2.1
        let r := rne64 m.1
        c.1.add ⟨r.1, r.2.1, m.2 || c.2.2, r.2.2, false, 1⟩
    else os) o1
  let oi := scored.foldl (fun os x =>
    if d32 x.1 == .inf false then (os.zip x.2.2).map fun c => c.1.add (Tot.ofX c.2.1 c.2.2) else os) (row.oi.map L96.dec)
  let inv := scored.any (fun x => x.2.1) || new.s.inv || o2.any (·.inv) || oi.any (·.inv)
  (⟨new.bytes, o2.map Tot.enc, oi.map Tot.enc⟩, inv)

/-- The rows of one visit (R356): every query row and head of the batch slot. -/
def attVisit (s : State) (q : Nat) (st : AttStep) (i p j base : Nat) : List (Nat × AttRow) × Bool :=
  let d := attD s q
  let h := attH s q
  let g := attG s q
  let vec (a : Nat) : List (XVal × Bool) := (List.range d).map fun k => bf16At s (a + 2 * k)
  (List.range (st.qnm.getD i 0 + 1)).foldl (fun acc r =>
    let ks := visibleTokens s q st i p j r
    (List.range h).foldl (fun acc hd =>
      let key := (i * st.q + r) * h + hd
      let qv := vec (st.qbase + key * 2 * d)
      let ts := ks.map fun k =>
        let ka := base + ((hd / g) * 256 + k) * 2 * d
        (dotTot qv (vec ka), vec (ka + 2 * attHkv s q * 256 * d))
      let o := attRowUpdate (look (fun _ => AttRow.init d) acc.1 key) st.scale ts
      (put (fun _ => AttRow.init d) acc.1 key o.1, acc.2 || o.2)) acc) (st.rows, false)

/-- A batch slot goes missing (R358): kind true for an uncorrectable read. -/
def attMissing (s : State) (q : Nat) (st : AttStep) (i : Nat) (uncorr : Bool) : State :=
  let s1 := setAtt s q { attOf s q with cur := some { st with missing := i :: st.missing, i := i + 1, p := 0, j := 0 } }
  let s2 := s1.setFld (if uncorr then F.ATT_STATUS_UNCORR q else F.ATT_STATUS_PAGE_MISSING q) 1
  (s2.incFld (F.ATT_MISS_COUNT q) 1).raise (104 + q)

/-- ATT_PAGE_ARRIVE: the next page of the walk has been read. uncorr says that an entry or the page stays uncorrectable
after its retry (R358). -/
def attPageArrive (s : State) (q : Nat) (uncorr : Bool) : State :=
  match (attOf s q).cur with
  | none => s
  | some st =>
    if s.now < st.pinEnd then s
    else
      let nv := attNext s q st
      let s0 := if nv.2 then s.setFld (F.ATT_STATUS_MASK_ERR q) 1 else s
      match nv.1 with
      | none => s0
      | some (i, p, j) =>
        let s1 := s0.incFld (F.ATT_STALL_COUNT q) (s.now - st.busyEnd)
        match leafEntryAt s1 q (st.sids.getD i 0) p with
        | none => attMissing s1 q st i uncorr
        | some la =>
          let e := fernEntry s1 la
          if uncorr then attMissing s1 q st i true
          else if !(entryValid e) then attMissing s1 q st i false
          else if s1.poisonedRange (pageOf e) (pageBytes s1 q) then attMissing s1 q st i true
          else
            let o := attVisit s1 q st i p j (pageOf e)
            let busy := max s.now st.busyEnd + attHkv s1 q * (st.q * attG s1 q * attD s1 q / 8)
            let st' := { st with i := i, p := p + 1, j := if blockCode s1 st i p = 2 then j + 1 else j, busyEnd := busy,
                                 rows := o.1 }
            let s2 := setAtt s1 q { attOf s1 q with cur := some st' }
            if o.2 then s2.setFld (F.ATT_STATUS_INV q) 1 else s2

/-- Status bits of a finished row: 0 masked, 1 split, 2 NaN, 3 inexact. -/
structure RowOut where
  vals : List Nat
  lse : Nat
  bits : Nat

/-- The result of one row (Table 14.6). f32 selects the FP32 output format. -/
def attRowOut (row : AttRow) (f32 : Bool) : RowOut :=
  let fm := if f32 then fFP32 else fBF16
  let r := SoftRec.ofBytes row.rcd
  let quot (os : List L96) (den : XVal) : List (Nat × Bool) := os.map fun t =>
    let c := fm.cvt .rne ((L96.dec t).v.div den).1
    (c.1, c.2.inx)
  if r.flag.testBit 1 then ⟨row.o.map fun _ => fm.nan, fFP32.nan, 4⟩
  else if 1 ≤ r.infc then ⟨(quot row.oi (XVal.ofNat r.infc)).map (·.1), fFP32.infBits false, 2⟩
  else if !(r.flag.testBit 0) || r.m == .inf true then ⟨row.o.map fun _ => 0, fFP32.infBits true, 1⟩
  else
    let qs := quot row.o r.s.v
    let l := fFP32.cvt .rne (r.m.add (vfun .l64 5 r.s.v (17 * 2 ^ 32)).v).1
    ⟨qs.map (·.1), l.1, if qs.any (·.2) || l.2.inx then 8 else 0⟩

/-- ATT_STEP_COMPLETE: the rows are written, releases append, STATUS and NOTIFY follow (R350, R357). -/
def attStepComplete (s : State) (q : Nat) : State :=
  match (attOf s q).cur with
  | none => s
  | some st =>
    let nv := attNext s q st
    if s.now < max st.pinEnd st.busyEnd ∨ nv.1 ≠ none then s
    else
      let d := attD s q
      let h := attH s q
      let f32 := st.flags.testBit 0
      let es := if f32 then 4 else 2
      let s0 := if nv.2 then s.setFld (F.ATT_STATUS_MASK_ERR q) 1 else s
      let keys := (List.range st.nseq).flatMap fun i => (List.range st.q).flatMap fun r => (List.range h).map fun hd => (i, r, hd)
      let o := keys.foldl (fun (acc : State × Nat) k =>
        let key := (k.1 * st.q + k.2.1) * h + k.2.2
        let out : RowOut :=
          if st.qnm.getD k.1 0 < k.2.1 then ⟨List.replicate d 0, fFP32.infBits true, 0⟩
          else if st.missing.contains k.1 then ⟨List.replicate d (if f32 then fFP32 else fBF16).nan, fFP32.nan, 4⟩
          else attRowOut (look (fun _ => AttRow.init d) st.rows key) f32
        let s1 := unitWrite acc.1 (st.obase + key * es * d) (out.vals.flatMap fun v => leBytes es v)
        let s2 := if st.flags.testBit 1 then unitWrite s1 (st.lbase + 4 * key) (leBytes 4 out.lse) else s1
        (s2, acc.2 ||| out.bits)) (s0, 0)
      let b (k : Nat) : Nat := b2n (o.2.testBit k)
      let s1 := o.1.orFld ⟨R.ATT_STATUS q, 7, 3⟩ (16 * b 2 + 8 * b 1 + 4 * b 0 + b 3)
      let s2 := (attOf s1 q).rel.foldl (fun t e => appendRel t q e) s1
      let s3 := stepDone s2 q st (1 + 16 * b 0 + 32 * b 1 + 64 * b 2 + 128 * b2n (!st.missing.isEmpty))
      let s4 := st.sids.foldl (fun t k => t.setFld (F.SEQ_STATE_HELD q k) 0) s3
      let s5 := (setAtt s4 q { attOf s4 q with cur := none, rel := [] }).setFld (F.ATT_STATUS_STEP_BUSY q) 0
      if attState s5 q = 2 then s5.incFld (F.ATT_CLOSE_DONE q) 1 else s5

/-! ### Doorbells, configuration, closing (R347, R361, R362) -/

/-- A doorbell add to a ring; false when it is discarded. -/
def attDoor (s : State) (q k : Nat) (commit : Bool) : Bool × State :=
  let lg := if commit then F.ATT_CRING_LOG2N q else F.ATT_SRING_LOG2N q
  let hd := if commit then F.ATT_CPTR_HEAD q else F.ATT_SPTR_HEAD q
  let tl := if commit then F.ATT_CPTR_TAIL q else F.ATT_SPTR_TAIL q
  if 2 ^ s.fld lg < ringUsed (s.fld hd) (s.fld tl) + k then
    (false, s.setFld (if commit then F.ATT_STATUS_C_RING_ERR q else F.ATT_STATUS_S_RING_ERR q) 1)
  else (true, s.setFld tl ((s.fld tl + k) % 2 ^ 32))

/-- A write of a ring or configuration register at a block offset: accepted only while OFF; low address bits read as
zero. -/
def attConfigWrite (s : State) (q off : Nat) (sz : AccSz) (v : Word) : State :=
  let a := R.ATT_CTRL q + off
  if attState s q ≠ 0 then s.setFld (F.ATT_STATUS_CONF_ERR q) 1
  else
    let s1 := s.writeByType a sz v
    if off = 0x10 then s1.setReg a (setBits (s1.reg a) 14 0 0)
    else if off = 0x20 ∨ off = 0x38 ∨ off = 0x50 then s1.setReg a (setBits (s1.reg a) 5 0 0)
    else s1

/-- The offsets that ATT_CONFIG_WRITE serves: ATT_CONF, ATT_FERN, the rings, ATT_SPTR and ATT_CPTR. -/
def attConfigOff (off : Nat) : Bool := [0x08, 0x10, 0x20, 0x28, 0x38, 0x40, 0x50].contains off

def attDisable (s : State) (q : Nat) : State :=
  if attState s q = 1 ∧ s.fld (F.ATT_CTRL_ENABLE q) = 1 then
    let ab := ringUsed (s.fld (F.ATT_SPTR_HEAD q)) (s.fld (F.ATT_SPTR_TAIL q)) - b2n (attOf s q).cur.isSome +
      ringUsed (s.fld (F.ATT_CPTR_HEAD q)) (s.fld (F.ATT_CPTR_TAIL q))
    (((stopWaiting s q).setEnable (R.ATT_CTRL q) 0).setEngState (R.ATT_CTRL q) 2).setReg (R.ATT_CLOSE q) (BitVec.ofNat 64 ab)
  else s

def attCloseDone (s : State) (q : Nat) : State :=
  if attState s q = 2 ∧ (attOf s q).cur = none then (s.setEngState (R.ATT_CTRL q) 0).raise (104 + q) else s

/-- ATT_STATUS with its view PINNING; doorbells read as zero (Tables 14.12, 14.13). -/
def attView (s : State) (q off : Nat) (raw : Word) : Word :=
  if off = 0x60 then setBits raw 2 2 (b2n (attPinning s q))
  else if off = 0x30 ∨ off = 0x48 then 0#64
  else raw

end Sys2Proof.Machine
end

