-- ==== Sys2Proof/Machine/Outside.lean ====
section
/-! DEFINITION. The outside interfaces (R405 to R427): Ethernet ports and tile ingest, the CXL port and its mailbox, the
alarm causes of the power monitor. -/

namespace Sys2Proof.Machine

def ingOf (s : State) (t : Nat) : Ing := look (fun _ => Ing.reset) s.out.ing t
def setIng (s : State) (t : Nat) (x : Ing) : State := { s with out := { s.out with ing := put (fun _ => Ing.reset) s.out.ing t x } }
def ethState (s : State) (e : Nat) : Nat := s.fld (F.ETH_CTRL_STATE e)
def ethIp (s : State) (e : Nat) : Nat := (s.reg (R.ETH_IP e 0)).toNat + 2 ^ 64 * (s.reg (R.ETH_IP e 1)).toNat
def ethSend (s : State) (m : EthTx) : State := { s with out := { s.out with eth := m } }

/-! ### Tile ingest (R407 to R412) -/

def ingAcked (s : State) (t : Nat) : Nat := s.fld (F.ING_STATE_ACKED t)

/-- Accepted datagrams above ACKED, as ING_STATE.HELD shows them. -/
def ingNote (s : State) (t : Nat) : State :=
  s.setFld (F.ING_STATE_HELD t) (min 256 ((ingOf s t).got.filter fun d => decide (ingAcked s t < d.seq)).length)

/-- The bits of an ACK: bit k for SEQ = ACKED + 1 + k. -/
def ackBits (s : State) (t : Nat) : Nat :=
  foldBits 256 fun k => (ingOf s t).got.any fun d => d.seq == ingAcked s t + 1 + k

/-- The stream sends an ACK to the source of its latest accepted DATA (R411). -/
def ingAck (s : State) (t : Nat) : State :=
  let x := ingOf s t
  let p := x.src.2.2
  setIng (ethSend s (.ack p x.src.1 x.src.2.1 t (ingAcked s t) (ackBits s t))) t { x with since := 0, timer := none }

/-- The fields of a DATA header; none where it breaks Table 16.1. -/
def ingHeader (bs : List Byte) : Option (Nat × Nat × Nat × Bool × Nat) :=
  let f (o k : Nat) : Nat := leAt bs o k
  if f 0 2 = 0x4E49 ∧ f 2 1 = 1 ∧ f 3 1 = 1 ∧ f 4 2 < 64 ∧ 64 ≤ f 6 2 ∧ f 6 2 ≤ 8192 ∧ f 6 2 % 64 = 0 ∧
      bs.length = 32 + f 6 2 ∧ 1 ≤ f 8 4 ∧ f 8 4 ≤ 0xFFFFFFFE ∧ f 12 1 < 2 ∧ f 13 3 = 0 ∧ f 16 8 % 64 = 0 ∧ f 24 8 = 0 then
    some (f 4 2, f 6 2, f 8 4, f 12 1 == 1, f 16 8)
  else none

/-- An IPv6 source is inside the stream's prefix (R408). -/
def ingPrefixOk (s : State) (t src : Nat) : Bool :=
  let n := min 128 (s.fld (F.ING_CTRL_PREFIX t))
  let want := (s.reg (R.ING_SRC t 0)).toNat + 2 ^ 64 * (s.reg (R.ING_SRC t 1)).toNat
  src >>> (128 - n) == want >>> (128 - n)

/-- A buffer range that ingest may write: usable LPDDR 6 or stack memory outside the mailbox and fern regions
(Table 16.11). -/
def ingRange (s : State) (a len : Nat) : Bool :=
  (inRange a len 0 (usableEnd s) || inRange a len (stackBase + 0x10000) stackEnd) && !(s.fernTouched a len)

/-- A DATA datagram at Ethernet port e from an IPv6 address and UDP port is dropped and counted once, is a
duplicate, or is accepted (R408, R411). -/
def ingestData (s : State) (e src sport : Nat) (bs : List Byte) : State :=
  match ingHeader bs with
  | none => s.incFld (F.ING_FORMAT_COUNT e) 1
  | some (t, len, seq, mark, off) =>
    if !(s.flag (F.ING_CTRL_ENABLE t)) || !(s.fld (F.ING_CTRL_PORTS t)).testBit e || !(ingPrefixOk s t src) then
      s.incFld (F.ING_FILTER_COUNT e) 1
    else
      let a := s.fld (F.ING_BASE_BASE t) + off
      if s.fld (F.ING_SIZE_SIZE t) < off + len ∨ ingRange s a len = false then s.incFld (F.ING_BOUNDS_COUNT e) 1
      else if ingAcked s t + 256 < seq then s.incFld (F.ING_WINDOW_COUNT e) 1
      else if seq ≤ ingAcked s t ∨ ((ingOf s t).got.any fun d => d.seq == seq) = true then
        ingAck (s.incFld (F.ING_DUP_COUNT e) 1) t
      else
        let x := ingOf s t
        let x1 := { x with got := x.got ++ [⟨seq, mark, e, a, bs.drop 32, false⟩], src := (src, sport, e), since := x.since + 1,
                           timer := some (s.now + 14000) }
        let s1 := ingNote (setIng s t x1) t
        if mark || decide (16 ≤ x1.since) then ingAck s1 t else s1

/-- ACKED moves over the written datagrams that follow it; the marks it passes are counted. -/
def ingAdvance (got : List IngDat) : Nat → Nat → Nat → Nat × Nat
  | 0, a, m => (a, m)
  | f + 1, a, m =>
    match got.find? fun d => d.seq == a + 1 && d.written with
    | some d => ingAdvance got f (a + 1) (m + b2n d.mark)
    | none => (a, m)

/-- The writes of the oldest unwritten datagram of a stream complete (R409, R410, R412): its bytes stand, ACKED advances
and each MARK passed sends its message. A closing port counts it (Table 16.9). -/
def ingestWriteComplete (s : State) (t : Nat) : State :=
  match (ingOf s t).got.find? fun d => !d.written with
  | none => s
  | some d =>
    let s1 := unitWrite s d.addr d.data
    let x := ingOf s1 t
    let got := x.got.map fun c => if c = d then { c with written := true, data := [] } else c
    let am := ingAdvance got got.length (ingAcked s1 t) 0
    let left := got.filter fun c => if c.seq = 0 then !c.written else decide (am.1 < c.seq)
    let s2 := ingNote ((setIng s1 t { x with got := left }).setFld (F.ING_STATE_ACKED t) am.1) t
    let s3 := (List.range am.2).foldl (fun st _ => notify st (st.fld (F.ING_NOTIFY_ADDR t)) (st.fld (F.ING_NVAL_VALUE t))) s2
    if ethState s3 d.port = 2 then s3.incFld (F.ETH_CLOSE_DONE d.port) 1 else s3

/-- INGEST_ACK_TIMER, when it is due (R411). -/
def ingestAckTimer (s : State) (t : Nat) : State :=
  match (ingOf s t).timer with
  | some d => if d ≤ s.now then ingAck s t else s
  | none => s

/-- A write of ING_CTRL: setting ENABLE empties the bitmap and sets ACKED to 0 (R412, Table 16.2). -/
def ingCtrlWrite (s : State) (t : Nat) (sz : AccSz) (v : Word) : State :=
  let s1 := s.writeByType (R.ING_CTRL t) sz v
  if !(s.flag (F.ING_CTRL_ENABLE t)) && s1.flag (F.ING_CTRL_ENABLE t) then
    let x := ingOf s1 t
    let left := (x.got.filter fun d => !d.written).map fun d => { d with seq := 0, mark := false }
    (setIng s1 t { x with got := left, since := 0, timer := none }).setReg (R.ING_STATE t) 0#64
  else s1

/-- A write of ING_BASE, ING_SIZE or ING_SRC at an offset of the stream's registers (R427). -/
def ingConfigWrite (s : State) (t off : Nat) (sz : AccSz) (v : Word) : State :=
  let a := R.ING_CTRL t + off
  if s.flag (F.ING_CTRL_ENABLE t) then s.setFld (F.ING_CTRL_CFG_ERR t) 1
  else
    let s1 := s.writeByType a sz v
    if off = 8 ∨ off = 0x10 then s1.setReg a (setBits (s1.reg a) 5 0 0) else s1

/-! ### Ethernet ports (R405, R406, R442) -/

/-- A port that is OFF or has no link receives nothing. -/
def ethDeaf (s : State) (e : Nat) : Bool := ethState s e == 0 || !(s.flag (F.ETH_STATUS_LINK e))

/-- A datagram for tile ingest: a port that is CLOSING drops it and counts it (Table 16.9). -/
def ethDatagram (s : State) (e src sport : Nat) (bs : List Byte) : State :=
  if ethState s e = 2 then s.incFld (F.ETH_CLOSE_ABANDONED e) 1 else ingestData s e src sport bs

/-- INGEST_DATA: the datagram alone, without its frame. -/
def ingestArrive (s : State) (e src sport : Nat) (bs : List Byte) : State :=
  if ethDeaf s e then s else ethDatagram s e src sport bs

/-- ETH_FRAME_RECEIVE. -/
def ethFrame (s : State) (e : Nat) (f : EthFrame) : State :=
  if ethDeaf s e then s
  else
    let s1 := s.incFld (F.RX_FRAMES_COUNT e) 1
    let other := s1.incFld (F.RX_OTHER_COUNT e) 1
    match f with
    | .badFcs => s1.incFld (F.RX_FCS_ERR_COUNT e) 1
    | .solicit target src => if target = ethIp s e then ethSend s1 (.advert e src) else other
    | .echo dst src data => if dst = ethIp s e then ethSend s1 (.echo e src data) else other
    | .udp dst src dport sport sumOk payload =>
      if dst = ethIp s e ∧ dport = s.fld (F.ETH_UDP_PORT e) ∧ sumOk = true then ethDatagram s1 e src sport payload else other
    | .other => other

/-- The FEC counters of a port (Table 16.10) and its link bits change (R405). -/
def ethLinkChange (s : State) (e : Nat) (link fec an : Bool) (corr uncorr : Nat) : State :=
  if ethState s e = 0 then s
  else
    let an' := an && s.flag (F.ETH_CTRL_MEDIA e)
    let s1 := s.setReg (R.ETH_STATUS e) (BitVec.ofNat 64 (4 * b2n an' + 2 * b2n fec + b2n link))
    let s2 := (s1.incFld (F.FEC_CORR_COUNT e) corr).incFld (F.FEC_UNCORR_COUNT e) uncorr
    if s1.reg (R.ETH_STATUS e) = s.reg (R.ETH_STATUS e) then s2 else s2.raise (128 + e)

def ethDisable (s : State) (e : Nat) : State :=
  if ethState s e = 1 ∧ s.fld (F.ETH_CTRL_ENABLE e) = 1 then
    ((s.setEnable (R.ETH_CTRL e) 0).setEngState (R.ETH_CTRL e) 2).setReg (R.ETH_CLOSE e) 0#64
  else s

/-- The datagrams of a port whose writes have not completed. -/
def ethBusy (s : State) (e : Nat) : Bool := s.out.ing.any fun x => x.2.got.any fun d => d.port == e && !d.written

def ethCloseDone (s : State) (e : Nat) : State :=
  if ethState s e = 2 ∧ ethBusy s e = false then
    ((s.setEngState (R.ETH_CTRL e) 0).setReg (R.ETH_STATUS e) 0#64).raise (128 + e)
  else s

/-! ### CXL (R413 to R417) -/

def cxlState (s : State) : Nat := s.fld F.CXL_CTRL_STATE
def setCxl (s : State) (x : Cxl) : State := { s with out := { s.out with cxl := x } }
def State.answer (s : State) (m : Msg) : State := { s with reply := .msg m }
/-- The window in force (Table 16.12). -/
def cxlSize (s : State) : Nat := min (2 ^ 40) (s.fld F.CXL_WIN_SIZE_SIZE)
def cxlBase (s : State) : Nat := s.fld F.CXL_WIN_BASE_BASE

/-- A held window write is applied (R416). -/
def cxlApplyHeld (s : State) : State :=
  match s.out.cxl.held with
  | none => s
  | some (b, z) =>
    let s1 := match b with | some v => s.setReg R.CXL_WIN_BASE v | none => s
    let s2 := match z with | some v => s1.setReg R.CXL_WIN_SIZE v | none => s1
    (setCxl s2 { s2.out.cxl with held := none }).setFld F.CXL_STATUS_WIN_PENDING 0

/-- A write of CXL_WIN_BASE or CXL_WIN_SIZE (R416). -/
def cxlWinWrite (s : State) (size : Bool) (sz : AccSz) (v : Word) : State :=
  let a := if size then R.CXL_WIN_SIZE else R.CXL_WIN_BASE
  let old := match s.out.cxl.held with
    | some (b, z) => (if size then z else b).getD (s.reg a)
    | none => s.reg a
  let new := setBits (match regAt a with | some d => d.write sz old v | none => old) 20 0 0
  if s.flag F.CXL_STATUS_COMMITTED then
    let h := s.out.cxl.held.getD (none, none)
    (setCxl s { s.out.cxl with held := some (if size then (h.1, some new) else (some new, h.2)) }).setFld
      F.CXL_STATUS_WIN_PENDING 1
  else s.setReg a new

/-- A host request is served: the port is ON with its link up; a closing port refuses and counts it; none when the host
sees no device. -/
def cxlServe (s : State) (f : State → State) : State :=
  if s.flag F.CXL_STATUS_LINK = false then s
  else if cxlState s = 1 then f s
  else if cxlState s = 2 then (s.incFld F.CXL_CLOSE_ABANDONED 1).answer .unsupportedRequest
  else s

/-- The local address of a host access of 64 bytes, inside the committed decoder's range. -/
def cxlAddr (s : State) (a : Nat) : Option Nat :=
  let l := cxlBase s + a / 64 * 64
  if s.flag F.CXL_STATUS_COMMITTED && decide (a / 64 * 64 + 64 ≤ cxlSize s) && inRange l 64 0 (usableEnd s) then some l else none

/-- A host read (R414). -/
def cxlHostRead (s : State) (a : Nat) (o : EccOut) : State :=
  cxlServe s fun s =>
    match cxlAddr s a with
    | none => s.answer .unsupportedRequest
    | some l =>
      let u := l / 256
      let bs := s.readBytes (.flat l) 64
      let k := if s.poisoned u then 32 else eccLost o
      if k ≠ 0 then
        let s1 := mcUncorrRow s u k (if s.poisoned u then 0 else eccSource o 0)
        let x := s1.out.cxl
        let s2 := setCxl s1 { x with listed := if x.listed.contains u then x.listed else x.listed ++ [u], events := x.events ++ [u] }
        s2.answer (.poison bs)
      else
        (match o with | .corrected k => mcCorrected s u k | _ => s).answer (.data bs)

/-- A host write of 64 bytes under byte enables (R414): a read-modify-write of its unit. -/
def cxlHostWrite (s : State) (a : Nat) (v : BitVec 512) (be : BitVec 64) (poison : Bool) : State :=
  cxlServe s fun s =>
    match cxlAddr s a with
    | none => s.answer .unsupportedRequest
    | some l =>
      let bs := (List.range 64).map fun i => if be.getLsbD i then v.extractLsb' (8 * i) 8 else s.byte (l + i)
      let s1 := deviceWrite s l bs
      { (if poison then s1.setPoison (l / 256) true else s1) with reply := .ok }

/-- A mailbox command rings the doorbell (source 131) and is answered (R413, R417). -/
def cxlMailbox (s : State) (f : State → State) : State := cxlServe s fun s => f (s.raise 131)

/-- An answer whose content the CXL standard defines: a free value. -/
def State.answerFree (s : State) : State := let v := s.freeVal; v.2.answer (.content v.1)

def identifyMemoryDevice (s : State) : State := cxlMailbox s fun s => s.answer (.list [cxlSize s])
def getHealthInfo (s : State) : State := cxlMailbox s State.answerFree
def getEventRecords (s : State) : State := cxlMailbox s fun s => s.answer (.list s.out.cxl.events)
def clearEventRecords (s : State) : State :=
  cxlMailbox s fun s => { setCxl s { s.out.cxl with events := [] } with reply := .ok }
/-- The units of the window that host reads found uncorrectable or poisoned (R414). -/
def getPoisonList (s : State) : State := cxlMailbox s fun s => s.answer (.list s.out.cxl.listed)
/-- Clear Poison (R415). -/
def clearPoison (s : State) (a : Nat) (v : BitVec 512) : State :=
  cxlMailbox s fun s =>
    match cxlAddr s a with
    | none => s.answer .unsupportedRequest
    | some l =>
      let u := l / 256
      let bs := (List.range 256).map fun i =>
        if 256 * u + i < l ∨ l + 64 ≤ 256 * u + i then 0#8 else v.extractLsb' (8 * (256 * u + i - l)) 8
      let s1 := unitWrite s (256 * u) bs
      { setCxl s1 { s1.out.cxl with listed := s1.out.cxl.listed.filter fun x => x != u } with reply := .ok }
/-- The timestamp in nanoseconds: the value set and the time since (7 ACLK cycles are 10 ns). -/
def getTimestamp (s : State) : State :=
  cxlMailbox s fun s => s.answer (.list [match s.out.cxl.clock with
    | some (v, t) => v + (s.now - t) * 10 / 7
    | none => 0])
def setTimestamp (s : State) (v : Nat) : State :=
  cxlMailbox s fun s => { setCxl s { s.out.cxl with clock := some (v, s.now) } with reply := .ok }
def mailboxUnsupported (s : State) : State := cxlMailbox s fun s => s.answer .mailboxUnsupported
def doeDiscovery (s : State) : State := cxlServe s State.answerFree
def cdatRead (s : State) : State := cxlServe s State.answerFree

/-- HDM_DECODER_COMMIT: the host commits or uncommits the decoder (R416). -/
def hdmCommit (s : State) (commit : Bool) : State :=
  cxlServe s fun s =>
    let s1 := s.setFld F.CXL_STATUS_COMMITTED (b2n commit)
    if commit then s1 else cxlApplyHeld s1

/-- The link goes down: rate and width are 0, a held window write is applied (R416). -/
def cxlDown (s : State) : State :=
  cxlApplyHeld (((s.setFld F.CXL_STATUS_LINK 0).setFld F.CXL_STATUS_WIDTH 0).setFld F.CXL_STATUS_RATE 0)

/-- PERST_N (R417): low resets the link and the port's link state and uncommits the decoder. -/
def perstN (s : State) (low : Bool) : State :=
  let s1 := { s with out := { s.out with mgt := { s.out.mgt with perst := low } } }
  if low then
    let s2 := cxlDown (s1.setFld F.CXL_STATUS_COMMITTED 0)
    if s.flag F.CXL_STATUS_LINK then s2.raise 130 else s2
  else s1

/-- CXL_LINK_CHANGE (R417). -/
def cxlLinkChange (s : State) (up : Bool) (width rate : Nat) : State :=
  if up then
    if cxlState s = 0 ∨ s.out.mgt.perst = true then s
    else (((s.setFld F.CXL_STATUS_LINK 1).setFld F.CXL_STATUS_WIDTH width).setFld F.CXL_STATUS_RATE rate).raise 130
  else if s.flag F.CXL_STATUS_LINK then (cxlDown s).raise 130
  else s

def cxlDisable (s : State) : State :=
  if cxlState s = 1 ∧ s.fld F.CXL_CTRL_ENABLE = 1 then
    ((s.setEnable R.CXL_CTRL 0).setEngState R.CXL_CTRL 2).setReg R.CXL_CLOSE 0#64
  else s

/-- A closing CXL port has no host request in flight: every accepted request completes in its own command. -/
def cxlCloseDone (s : State) : State :=
  if cxlState s = 2 then (cxlDown (s.setEngState R.CXL_CTRL 0)).raise 130 else s

/-! ### The power monitor (R425, Table 16.12) -/

/-- A cause bit of PWR_STATUS rises or falls; source 133 when one rises. -/
def pwrCause (s : State) (f : Fld) (on : Bool) : State :=
  if on then (if s.flag f then s else (s.setFld f 1).raise 133) else s.setFld f 0

/-- MOD_ALARM_N is low while any cause of R425 holds. -/
def modAlarm (s : State) : Bool :=
  s.flag F.PWR_STATUS_SAFE || s.flag F.PWR_STATUS_REFCLK_LOSS || s.flag F.PWR_STATUS_INLET_HOT ||
    s.flag F.PWR_STATUS_JUNCTION_HOT || s.flag F.PWR_STATUS_SUPPLY

end Sys2Proof.Machine
end

