-- ==== Sys2Proof/Machine/Safe.lean ====
section
/-! DEFINITION. The safe state (R474 to R478), core faults as the journal sees them (R476, R483, R484), spares (R496,
R497), the maintenance arbiter's rows (R499, R500) and the rotating self-test (R501, R502). -/

namespace Sys2Proof.Machine

def upTo (k : Nat) (f : State → Nat → State) (s : State) : State := (List.range k).foldl f s

/-- Source of the power monitor, named as the unit of a clock, supply or temperature cause (Table 17.2). -/
def srcPower : Nat := 133
def causeLockstep : Nat := 1
def causeClock : Nat := 2
def causeSupply : Nat := 3
def causeTemp : Nat := 4
def causeMemory : Nat := 5
def causeEscalated : Nat := 6
def causeSoftware : Nat := 7

def safeWord (cause unit : Nat) : Word := BitVec.ofNat 64 (2 ^ 63 + 2 ^ 8 * unit + cause)

/-- Entry to the safe state (Table 19.2), or a further cause during it (R478). -/
def safeEnter (s : State) (cause unit : Nat) : State :=
  if safeActive s then
    let s1 := s.incFld F.SAFE_MORE_COUNT 1
    if s.jrn.safeAt = s.now ∧ cause < s.fld F.SAFE_STATUS_CAUSE then s1.setReg R.SAFE_STATUS (safeWord cause unit) else s1
  else
    let s1 := setFaulted (s.setReg R.SAFE_STATUS (safeWord cause unit))
    let s2 := upTo 16 attDisable (upTo 16 updDisable (upTo 64 coreDisable s1))
    let s3 := cxlDisable (upTo 2 ethDisable s2)
    let s4 := frecPush { s3 with jrn := { s3.jrn with safeAt := s3.now } }
    let s5 := (pwrCause s4 F.PWR_STATUS_SAFE true).raise 162
    if pairRole s5 = 0 then s5 else partnerWrite s5 .unit R.PAIR_PEER (s5.reg R.SAFE_STATUS).toNat

/-- SAFE_ENTER: a write of SAFE_CTRL; ENTER enters the safe state by software (R476). -/
def safeCtrlWrite (s : State) (sz : AccSz) (v : Word) : State :=
  let s1 := s.writeByType R.SAFE_CTRL sz v
  if s1.flag F.SAFE_CTRL_ENTER then safeEnter (s1.setFld F.SAFE_CTRL_ENTER 0) causeSoftware 0x1FF else s1

/-- What a fault taken by core n with a code does outside the core: the step is faulted, the fault record rewritten, an
escalated code enters the safe state (R476, R483, R484). -/
def faultOutside (s : State) (n code : Nat) : State :=
  let s1 := frecPush (setFaulted s)
  let esc := s1.fld F.SAFE_CTRL_ESC
  let hit := (code == 0x15 && esc.testBit 0) || (code == 0x1C && esc.testBit 1) || (code == 0x04 && esc.testBit 2) ||
    (code == 0x03 && esc.testBit 3)
  if hit then safeEnter s1 causeEscalated n else s1

/-! ### Reset of one unit (R496, R501) -/

/-- Registers in a range of addresses take their reset values. -/
def clearRegs (s : State) (lo len : Nat) : State :=
  { s with csr := s.csr.filter fun p => !(decide (lo ≤ p.1) && decide (p.1 < lo + len)) }

/-- Every register and memory of a core at its reset value. -/
def resetCore (s : State) (n : Nat) : State :=
  let s1 := clearRegs s (coreBlock n) 0x10000
  let lo := coreMemBase + n * coreMemSize
  { s1.setCore n Core.reset with
    mem := s1.mem.filter fun p => !(decide (lo ≤ p.1) && decide (p.1 < lo + coreMemSize))
    late := s1.late.filter fun l => l.n != n }

/-- Every register and memory of a unit in the order of R501. -/
def resetUnit (s : State) (u : Nat) : State :=
  if u < 64 then resetCore s u
  else if u < 80 then setUpd (clearRegs s (R.UPD_CTRL (u - 64)) 0x1000) (u - 64) Upd.reset
  else setAtt (clearRegs s (R.ATT_CTRL (u - 80)) 0x10000) (u - 80) Att.reset

/-! ### Self-test -/

/-- Event source of a unit in the order of R501. -/
def stSource (u : Nat) : Nat := if u < 64 then u else if u < 80 then 88 + (u - 64) else 104 + (u - 80)
/-- Cycles of a test: 25 ms for a core, 8 ms for the others. -/
def stCycles (u : Nat) : Nat := if u < 64 then 17500000 else 5600000

/-- A test in progress on a unit is abandoned, because its ENABLE is set (R501). -/
def stAbandon (s : State) (u : Nat) : State :=
  match s.st.run with
  | some (v, _) =>
    if u = v then (arbEnd { s with st := { s.st with run := none } } ⟨10, u⟩).setFld F.ST_STATUS_BUSY 0 else s
  | none => s

/-- SELF_TEST_TURN: the unit whose turn it is, if OFF, is tested; otherwise it is passed over. -/
def selfTestTurn (s : State) : State :=
  if s.flag F.ST_CTRL_EN = false ∨ s.st.run ≠ none then s
  else
    let u := s.st.turn
    let s1 := { s with st := { s.st with turn := (u + 1) % 96 } }
    if stUnitState s u = 0 then
      let r := (arbRequest s1 ⟨10, u⟩).2
      ({ r with st := { r.st with run := some (u, r.now) } }).setFld F.ST_STATUS_BUSY 1
    else s1

/-- SELF_TEST_DONE, when the test's time has passed: the unit is left at its reset values; a failure (kind, element) is
recorded and raises source 166. -/
def selfTestDone (s : State) (fail : Option (Nat × Nat)) : State :=
  match s.st.run with
  | none => s
  | some (u, t) =>
    if s.now < t + stCycles u then s
    else
      let s1 := arbEnd (resetUnit s u) ⟨10, u⟩
      let s2 := { s1 with st := { s1.st with run := none, last := put (fun _ => 0) s1.st.last u s1.now } }
      let s3 := (s2.setFld F.ST_STATUS_BUSY 0).setFld F.ST_STATUS_UNIT (stSource u)
      match fail with
      | none => s3
      | some (k, i) =>
        let s4 := if s3.flag F.ST_RESULT_VALID then s3
          else s3.setReg R.ST_RESULT (BitVec.ofNat 64 (2 ^ 63 + 2 ^ 48 * stSource u + 2 ^ 44 * (k % 16) + i % 2 ^ 32))
        s4.raise 166

/-- Cycles of ST_CTRL.PERIOD; 0 hours act as 1. -/
def stPeriod (s : State) : Nat := max 1 (s.fld F.ST_CTRL_PERIOD) * 3600 * 700000000

/-- SELF_TEST_OVERDUE of a unit, when its time has passed (R502). -/
def selfTestOverdue (s : State) (u : Nat) : State :=
  if s.now < look (fun _ => 0) s.st.last u + stPeriod s then s else (s.setFld F.ST_STATUS_OVERDUE 1).raise 167

/-! ### Spares -/

/-- CORE_SPARE: a write of CORE_SPARE[d] (R496). -/
def coreSpareWrite (s : State) (d : Nat) (sz : AccSz) (v : Word) : State :=
  let new := match regAt (R.CORE_SPARE d) with
    | some k => k.write sz (s.reg (R.CORE_SPARE d)) v
    | none => v
  let n := getBits new 5 0
  let testing := match s.st.run with | some (u, _) => u == n | none => false
  if getBits new 8 8 = 1 ∧ n / 8 = d ∧ coreState s n = 0 ∧ s.flag (F.CORE_SPARE_VALID d) = false ∧ testing = false then
    (resetCore s n).setReg (R.CORE_SPARE d) new
  else s.setFld F.SPARE_ERR_MAP_ERR 1

/-- SUP_SPARE: a write of SUP_SPARE (R497). -/
def supSpareWrite (s : State) (sz : AccSz) (v : Word) : State :=
  let s1 := s.writeByType R.SUP_SPARE sz v
  if !(s1.flag F.SUP_SPARE_GO) then s1
  else
    let s2 := s1.setFld F.SUP_SPARE_GO 0
    let k := s2.fld F.SUP_SPARE_CORE
    let serving := (List.range 4).any fun j => s.flag (F.SUP_STATUS_SPARE j)
    if s.flag (F.SUP_STATUS_STOPPED k) && !serving then
      { s2 with out := { s2.out with mgt := { s2.out.mgt with spareSel := some k } } }
    else s2.setFld F.SPARE_ERR_MAP_ERR 1

/-! ### The maintenance arbiter -/

/-- A LANE_SPARE write under the arbiter: behind a lane re-tune of its port it waits (R379, R499). -/
def laneSpareRow (s : State) (p : Nat) (sz : AccSz) (v : Word) : State :=
  let r := arbRequest s ⟨9, p⟩
  if r.1 then arbEnd (laneSpareWrite r.2 p sz v) ⟨9, p⟩
  else r.2.setPort p { r.2.port p with laneWait := some (sz.merge (s.reg (R.LANE_SPARE p)) v) }

/-- ARB_START: a waiting activity starts, and the spare-in or lane write that waited with it (R264, R500). -/
def arbStartRow (s : State) (a : MaintAct) : State :=
  if !(arbReady s a) then s
  else
    let s1 := arbStart s a
    if a.code = 1 then (if spareAct s1 (a.scope / 8) = a ∧ s1.flag (F.SPARE_CMD_GO (a.scope / 8)) = true then spareStart s1 (a.scope / 8) else s1)
    else if a.code = 9 then
      match (s1.port a.scope).laneWait with
      | some v => arbEnd (laneSpareWrite (s1.setPort a.scope { s1.port a.scope with laneWait := none }) a.scope .w64 v) a
      | none => s1
    else s1

/-- ARB_CKPT_WRITE: with CKPT set, garbage collections in progress pause at their next block boundary; they wait until
it clears (Table 19.13). -/
def arbCkptWrite (s : State) (sz : AccSz) (v : Word) : State :=
  let s1 := s.writeByType R.ARB_CTRL sz v
  let on := s1.flag F.ARB_CTRL_CKPT
  let was := s.flag F.ARB_CTRL_CKPT
  if on && !was then
    let gc := s1.arb.run.filter fun a => a.code == 3 && !(gcOverride s1 a)
    let ovr := (s1.arb.run.filter fun a => a.code == 3 && gcOverride s1 a).length
    let s1' := if ovr = 0 then s1 else (s1.incFld F.ARB_OVERRIDE_COUNT ovr).raise 169
    let s2 := s1'.incFld (F.ARB_WAIT_COUNT 3) gc.length
    { s2 with arb := { run := (s2.arb.run.filter fun a => !(gc.contains a)) ++ [⟨7, 0⟩], wait := gc ++ s2.arb.wait } }
  else if was && !on then arbEnd s1 ⟨7, 0⟩
  else s1

/-- ARB_REQUEST of an activity by its code and scope. A request that runs stays in progress until ARB_REQUEST ends it. -/
def arbRequestRow (s : State) (code scope : Nat) (done : Bool) : State :=
  if done then (if s.arb.run.contains ⟨code, scope⟩ then arbEnd s ⟨code, scope⟩ else s)
  else (arbRequest s ⟨code, scope⟩).2

end Sys2Proof.Machine
end

