-- ==== Sys2Proof/Machine/Vector.lean ====
section
/-! DEFINITION. The V slot (R171 to R204, R331 to R340): encoding checks, fault conditions in order, effects at issue in
cycle u, and the effects of the operations in flight. -/

namespace Sys2Proof.Machine

def cVEC_OCCUPIED : Nat := 0x20
def cVEC_FORMAT : Nat := 0x21
def cVEC_ADDR : Nat := 0x22

/-! ### Fields (Table 7.2) -/

def vVD (y : Syl) : Nat := fb y 21 19
def vVA (y : Syl) : Nat := fb y 18 16
def vVB (y : Syl) : Nat := fb y 15 13
def vMK (y : Syl) : Nat := fb y 12 10
def vFN (y : Syl) : Nat := fb y 9 6
def vB (y : Syl) : Nat := fb y 5 0
def vmFMT (y : Syl) : Nat := fb y 18 15
def vmRM (y : Syl) : Nat := fb y 14 13
def vmIR (y : Syl) : Nat := fb y 9 9
def vBase (y : Syl) (s : State) : Nat := (s.sr y.n (vB y)).toNat
def vStride (y : Syl) (s : State) : Nat := getBits (s.sr y.n (vB y + 1)) 63 32
def vExp (y : Syl) (s : State) : Nat := (s.sr y.n (vB y + 2)).toNat
def vMask (y : Syl) (s : State) : BitVec 256 := s.mask y.n (vMK y)

/-! ### Tile registers -/

def tileElem (c : Core) (v k : Nat) : BitVec 32 := look (fun _ => 0#32) c.vregs (v * 8192 + k)
/-- A snapshot of tile register v. -/
def tileOf (c : Core) (v : Nat) : Tile :=
  c.vregs.filterMap fun p => if p.1 / 8192 = v then some (p.1 % 8192, p.2) else none
/-- The element of a snapshot as a pattern. -/
def tileAt (t : Tile) (r l : Nat) : Nat := (look (fun _ => 0#32) t (r * 256 + l)).toNat
/-- The listed elements of tile register vd written. -/
def Core.setTile (c : Core) (vd : Nat) (t : Tile) : Core :=
  { c with vregs := t.foldl (fun m e => put (fun _ => 0#32) m (vd * 8192 + e.1) e.2) c.vregs }

def activeLanes (mask : BitVec 256) : List Nat := (List.range 256).filter fun l => mask.getLsbD l
/-- Keys row × 256 + lane of the elements of active lanes. -/
def activeKeys (mask : BitVec 256) : List Nat :=
  (List.range 32).flatMap fun r => (activeLanes mask).map fun l => r * 256 + l

def orStat (rs : List ElemRes) : Nat := rs.foldl (fun a r => a ||| r.2) 0

/-! ### Occupancy (R200, R202) -/

def tileBusy (u : Nat) (y : Syl) (s : State) : List FaultC :=
  faultIf (decide (u < (s.core y.n).vecFree)) cVEC_OCCUPIED 0

/-- A tile operation occupies the engine for 8 cycles and is in flight until cycle u + l. -/
def vecIssue (y : Syl) (u l : Nat) (s : State) : State :=
  let c := s.core y.n
  s.setCore y.n { c with vecFree := u + 8, vecDone := max c.vecDone (u + l) }
/-- V.EXT and V.MSET have no occupancy. -/
def vecFlight (y : Syl) (u l : Nat) (s : State) : State :=
  let c := s.core y.n
  s.setCore y.n { c with vecDone := max c.vecDone (u + l) }

/-- An element-wise operation on the active lanes: key to result, visible after 12 cycles. -/
def elemApply (u : Nat) (y : Syl) (mask : BitVec 256) (f : Nat → ElemRes) (s : State) : State :=
  let rs := (activeKeys mask).map fun k => (k, f k)
  (vecIssue y u 12 s).pushLate y.n (u + 12) 0
    (.vwrite (vVD y) (rs.map fun r => (r.1, BitVec.ofNat 32 r.2.1)) (orStat (rs.map (·.2))))

/-! ### Element-wise arithmetic (R179, R180) -/

def vr0 (y : Syl) : Bool := fb y 5 0 == 0
def vecA (y : Syl) (s : State) (k : Nat) : Nat := (tileElem (s.core y.n) (vVA y) k).toNat
def vecB (y : Syl) (s : State) (k : Nat) : Nat := (tileElem (s.core y.n) (vVB y) k).toNat
def vecD (y : Syl) (s : State) (k : Nat) : Nat := (tileElem (s.core y.n) (vVD y) k).toNat
/-- Bits 31:0 of s[RS]. -/
def vecS (y : Syl) (s : State) : Nat := getBits (s.sr y.n (vB y)) 31 0
/-- IMM16 as a BF16 value extended to FP32, or sign-extended to INT32. -/
def immF (y : Syl) : Nat := fb y 15 0 * 2 ^ 16
def immI (y : Syl) : Nat := toPat 32 (sextInt 16 (fb y 15 0))

def vFopLegal (y : Syl) : Bool := decide (vFN y ≤ 6) && vr0 y
def vFopApply (u : Nat) (y : Syl) (s : State) : State :=
  elemApply u y (vMask y s) (fun k => fopE (vFN y) (vecA y s k) (vecB y s k)) s
def vFopsLegal (y : Syl) : Bool := decide (vFN y ≤ 6) && vVB y == 0
def vFopsApply (u : Nat) (y : Syl) (s : State) : State :=
  elemApply u y (vMask y s) (fun k => fopE (vFN y) (vecA y s k) (vecS y s)) s

def iopN (fn a b : Nat) : ElemRes := ((iopE fn (BitVec.ofNat 32 a) (BitVec.ofNat 32 b)).toNat, 0)
def vIopLegal (y : Syl) : Bool := decide (vFN y ≤ 10) && vr0 y
def vIopApply (u : Nat) (y : Syl) (s : State) : State :=
  elemApply u y (vMask y s) (fun k => iopN (vFN y) (vecA y s k) (vecB y s k)) s
def vIopsLegal (y : Syl) : Bool := decide (vFN y ≤ 10) && vVB y == 0
def vIopsApply (u : Nat) (y : Syl) (s : State) : State :=
  elemApply u y (vMask y s) (fun k => iopN (vFN y) (vecA y s k) (vecS y s)) s

/-- An immediate form acts on every lane (R174). -/
def immApply (u : Nat) (y : Syl) (f : Nat → ElemRes) (s : State) : State := elemApply u y (BitVec.allOnes 256) f s
def vFaddiApply (u : Nat) (y : Syl) (s : State) : State := immApply u y (fun k => fopE 0 (vecA y s k) (immF y)) s
def vFmuliApply (u : Nat) (y : Syl) (s : State) : State := immApply u y (fun k => fopE 2 (vecA y s k) (immF y)) s
def vFmaxiApply (u : Nat) (y : Syl) (s : State) : State := immApply u y (fun k => fopE 5 (vecA y s k) (immF y)) s
def vFminiApply (u : Nat) (y : Syl) (s : State) : State := immApply u y (fun k => fopE 4 (vecA y s k) (immF y)) s
def vIaddiApply (u : Nat) (y : Syl) (s : State) : State := immApply u y (fun k => iopN 0 (vecA y s k) (immI y)) s

def vFmaLegal (y : Syl) : Bool := vFN y == 0 && vr0 y
def vFmaApply (u : Nat) (y : Syl) (s : State) : State :=
  elemApply u y (vMask y s) (fun k => fmaE (vecA y s k) (vecB y s k) (vecD y s k)) s
def vFmasLegal (y : Syl) : Bool := vFN y == 0 && vVB y == 0
def vFmasApply (u : Nat) (y : Syl) (s : State) : State :=
  elemApply u y (vMask y s) (fun k => fmaE (vecA y s k) (vecS y s) (vecD y s k)) s

def vFunLegal (y : Syl) : Bool := decide (vFN y ≤ 14) && vVB y == 0 && vr0 y
def vFunApply (u : Nat) (y : Syl) (s : State) : State :=
  elemApply u y (vMask y s) (fun k => funE (vFN y) (vecA y s k)) s

def vFcmpLegal (y : Syl) : Bool := decide (vFN y ≤ 6) && vr0 y
def vFcmpApply (u : Nat) (y : Syl) (s : State) : State :=
  elemApply u y (vMask y s) (fun k => fcmpE (vFN y) (vecA y s k) (vecB y s k)) s

/-! ### Select and moves (R183) -/

def vSelLegal (y : Syl) : Bool := vFN y == 0 && vr0 y
def vSelApply (u : Nat) (y : Syl) (s : State) : State :=
  elemApply u y (vMask y s)
    (fun k => (if vecD y s k % 2 ^ 31 ≠ 0 then vecA y s k else vecB y s k, 0)) s
def vMovLegal (y : Syl) : Bool := vFN y == 0 && vVB y == 0 && vr0 y
def vMovApply (u : Nat) (y : Syl) (s : State) : State := elemApply u y (vMask y s) (fun k => (vecA y s k, 0)) s
def vBcsLegal (y : Syl) : Bool := vVA y == 0 && vVB y == 0 && vFN y == 0
def vBcsApply (u : Nat) (y : Syl) (s : State) : State := elemApply u y (vMask y s) (fun _ => (vecS y s, 0)) s
def vBciLegal (y : Syl) : Bool := decide (vVA y ≤ 1)
def vBciApply (u : Nat) (y : Syl) (s : State) : State :=
  immApply u y (fun _ => (if vVA y = 0 then immF y else immI y, 0)) s

/-! ### Conversion and split (R184 to R186) -/

/-- The rounding mode of element k, with its draw in stochastic mode (R185). -/
def vMode (rm sr k : Nat) : RMode :=
  match rm with
  | 0 => .rne
  | 1 => .rtz
  | _ => .sto (rsrDraw sr k)
def srState (s : State) (n : Nat) : Nat := (s.reg (R.SR_STATE n)).toNat
/-- SR_STATE advances by 8,192 at issue of a stochastic conversion or store (R185). -/
def srAdvance (rm n : Nat) (s : State) : State :=
  if rm = 2 then s.setReg (R.SR_STATE n) (BitVec.ofNat 64 (srState s n + 8192)) else s

def vCvtLegal (y : Syl) : Bool := decide (vFN y ≤ 6) && vVB y == 0 && fb y 3 0 == 0 && fb y 5 4 != 3
def vCvtApply (u : Nat) (y : Syl) (s : State) : State :=
  srAdvance (fb y 5 4) y.n (elemApply u y (vMask y s)
    (fun k => cvtE (vFN y) (vMode (fb y 5 4) (srState s y.n) k) (vecA y s k)) s)
def vSplitLegal (y : Syl) : Bool := decide (vFN y ≤ 2) && vVB y == 0 && vr0 y
def vSplitApply (u : Nat) (y : Syl) (s : State) : State :=
  elemApply u y (vMask y s) (fun k => splitE (vFN y) (vecA y s k)) s

/-! ### V.LD and V.ST (R187 to R189) -/

def isMoss (fmt : Nat) : Bool := fmt == 8 || fmt == 9

/-- The combinations of Table 7.8. -/
def vmPermitted (ld : Bool) (y : Syl) : Bool :=
  let rm := vmRM y
  let ir := vmIR y
  let mk0 := vMK y == 0
  rm != 3 && (match vmFMT y with
    | 2 => ir == 0 && rm == 0
    | 5 => if ir == 1 then rm == 0 else !ld || rm == 0
    | 6 => if ir == 1 then rm == 0 else !ld || decide (rm ≤ 1)
    | 7 => ld && ir == 0 && decide (rm ≤ 1)
    | 8 => ir == 0 && mk0 && (!ld || rm == 0)
    | 9 => ir == 0 && mk0 && (!ld || rm == 0)
    | 10 => !ld && ir == 0 && mk0 && decide (rm ≤ 1)
    | f => decide (f < 5) && ir == 0 && (!ld || rm == 0))

/-- The lowest byte of a range outside the core memory of core n, if any. -/
def outsideCore (n a len : Nat) : Option Nat :=
  let lo := coreMemBase + n * coreMemSize
  let hi := lo + coreMemSize
  if a < lo then some a else if hi < a + len then some (max a hi) else none

/-- The fault of one lane (R189): its lowest-addressed byte outside core memory. -/
def laneOutside (n start stride nb : Nat) : Option Nat :=
  ((List.range 32).findSome? fun r => outsideCore n (start + r * stride) nb)

def vmCheckAddr (y : Syl) (s : State) : List FaultC :=
  let f := vmFMT y
  let base := vBase y s
  let st := vStride y s
  let fault (a : Nat) : List FaultC := [(cVEC_ADDR, a)]
  if base % 64 ≠ 0 then fault base
  else if f = 10 ∧ vExp y s % 64 ≠ 0 then fault (vExp y s)
  else if isMoss f then
    (match outsideCore y.n base mossWorst with
     | some a => fault a
     | none => [])
  else if st % 64 ≠ 0 ∨ st < (if f = 10 then 128 else 256 * vElemBytes f) then fault st
  else
    let lane (l : Nat) : Option Nat :=
      if f = 10 then laneOutside y.n (base + l / 2) st 1
      else laneOutside y.n (base + l * vElemBytes f) st (vElemBytes f)
    match (activeLanes (vMask y s)).findSome? lane with
    | some a => fault a
    | none =>
      if f = 10 then
        (match outsideCore y.n (vExp y s) 256 with
         | some a => fault a
         | none => [])
      else []

def vmLegal (y : Syl) : Bool := fb y 8 6 == 0 && decide (vB y + (if vmFMT y = 10 then 2 else 1) < 64)

def vmCheck (ld : Bool) (u : Nat) (y : Syl) (s : State) : List FaultC :=
  if vmPermitted ld y then tileBusy u y s ++ vmCheckAddr y s
  else (cVEC_FORMAT, 0) :: tileBusy u y s

def vLdLegal (y : Syl) : Bool := vmLegal y
def vLdCheck (u : Nat) (y : Syl) (s : State) : List FaultC := vmCheck true u y s

/-- Core memory place of a full address. -/
def atAddr (a : Nat) : Place := .flat a

def vLdApply (u : Nat) (y : Syl) (s : State) : State :=
  let f := vmFMT y
  let s1 := vecIssue y u 12 s
  if isMoss f then s1.pushLate y.n (u + 1) 1 (.vldMoss (vVD y) f (vBase y s) u 0 [] [] 0 0)
  else s1.pushLate y.n (u + 1) 1
    (.vldRows (vVD y) f (vmRM y) (vmIR y) (vMask y s) (vBase y s) (vStride y s) u 0 [] 0)

/-- Rows 4i to 4i+3 of a V.LD are read in cycle u+1+i (R176). -/
def vldRowsStep (s : State) (n vt f rm ir : Nat) (mask : BitVec 256) (base stride u i : Nat) (got : Tile) (stat : Nat) :
    State :=
  let e := vElemBytes f
  let ls := activeLanes mask
  let new := (List.range 4).flatMap fun j =>
    ls.map fun l =>
      let r := 4 * i + j
      (r * 256 + l, vldE f ir (vMode rm 0 0) (s.readLE (.flat (base + r * stride + l * e)) e))
  let got' := got ++ new.map fun x => (x.1, BitVec.ofNat 32 x.2.1)
  let stat' := stat ||| orStat (new.map (·.2))
  if i < 7 then s.pushLate n (u + 2 + i) 1 (.vldRows vt f rm ir mask base stride u (i + 1) got' stat')
  else s.pushLate n (u + 12) 0 (.vwrite vt got' stat')

/-- A moss load (R188, R286, R288): headers in cycle u+1, the declared payload of block i in cycle u+1+i. -/
def vldMossStep (s : State) (n vt f base u i : Nat) (hs : List Nat) (got : Tile) (bad stat : Nat) : State :=
  let p : Place := .flat base
  let hs' := if i = 0 then mossHeaders s p else hs
  let h := hs'.getD i 0
  let blk := decodeBlock i h (if hdrInvalid h then [] else s.readBytes (p.plus (32 + 2048 * i)) (hdrPayload h))
  let keys := (List.range 1024).map fun j => (j / 32) * 256 + 32 * i + j % 32
  let res : List (Nat × ElemRes) := match blk with
    | none => keys.map fun k => (k, (fFP32.nan, vINV))
    | some es => keys.map fun k => (k, vldE f 0 .rne (look (fun _ => 0) es k))
  let got' := got ++ res.map fun x => (x.1, BitVec.ofNat 32 x.2.1)
  let stat' := stat ||| orStat (res.map (·.2))
  let bad' := bad + b2n blk.isNone
  if i < 7 then s.pushLate n (u + 2 + i) 1 (.vldMoss vt f base u (i + 1) hs' got' bad' stat')
  else (s.incFld (F.MOSS_BAD_COUNT n) bad').pushLate n (u + 12) 0 (.vwrite vt got' stat')

def vStLegal (y : Syl) : Bool := vmLegal y
def vStCheck (u : Nat) (y : Syl) (s : State) : List FaultC := vmCheck false u y s

/-- Bytes stored from consecutive active lanes of a row, one store per lane. -/
def storeRow (y : Syl) (u : Nat) (s : State) (r : Nat) (items : List (Nat × List Byte)) : State :=
  items.foldl (fun st x => st.pushLate y.n (u + 5 + r / 4) 0 (.mem (.flat x.1) x.2)) s

/-- The two nibbles of element bytes of a block. -/
def packNibbles (xs : List Nat) : List Byte :=
  (List.range (xs.length / 2)).map fun i => BitVec.ofNat 8 (xs.getD (2 * i) 0 + 16 * xs.getD (2 * i + 1) 0)

def vStApply (u : Nat) (y : Syl) (s : State) : State :=
  let f := vmFMT y
  let rm := vmRM y
  let sr := srState s y.n
  let base := vBase y s
  let el (r l : Nat) : Nat := vecDt y s (r * 256 + l)
  let s1 := srAdvance rm y.n (vecIssue y u 12 s)
  let conv (r l : Nat) : ElemRes := vstE f (vmIR y) (vMode rm sr (r * 256 + l)) (el r l)
  if isMoss f then
    let res := (activeKeys (BitVec.allOnes 256)).map fun k => (k, conv (k / 256) (k % 256))
    let enc := mossEncode (res.map fun x => (x.1, x.2.1))
    -- headers and block 0 in cycle u + 4, block i in cycle u + 4 + i
    let s2 := (enc.zipIdx).foldl (fun st p => st.pushLate y.n (u + 5 + (p.2 - 1)) 0 (.mem (.flat (base + p.1.1)) p.1.2)) s1
    s2.pushLate y.n (u + 12) 0 (.vstat (orStat (res.map (·.2))))
  else if f = 10 then
    let md := vMode rm 0 0
    let rows := (List.range 32).map fun r =>
      (List.range 8).map fun b =>
        let ps := (List.range 32).map fun i => el r (32 * b + i)
        let vs := ps.map d32
        let x := bx4Exp vs
        let es := vs.map (bx4Elem md x)
        (x, es.map (·.1), vINX * b2n (es.any (·.2)) ||| ps.foldl (fun a p => a ||| snanStat p) 0)
    let s2 := rows.zipIdx.foldl (fun st row => storeRow y u st row.2
      [(base + row.2 * vStride y s, row.1.flatMap fun b => packNibbles b.2.1),
       (vExp y s + 8 * row.2, row.1.map fun b => BitVec.ofNat 8 b.1)]) s1
    s2.pushLate y.n (u + 12) 0
      (.vstat (rows.foldl (fun a row => row.foldl (fun a b => a ||| b.2.2) a) 0))
  else
    let e := vElemBytes f
    let ls := activeLanes (vMask y s)
    let rows := (List.range 32).map fun r => ls.map fun l => (l, conv r l)
    let s2 := rows.zipIdx.foldl (fun st row => storeRow y u st row.2
      (row.1.map fun x => (base + row.2 * vStride y s + x.1 * e, leBytes e x.2.1))) s1
    s2.pushLate y.n (u + 12) 0 (.vstat (rows.foldl (fun a row => a ||| orStat (row.map (·.2))) 0))
where vecDt (y : Syl) (s : State) (k : Nat) : Nat := (tileElem (s.core y.n) (vVD y) k).toNat

/-! ### Masks (R190) -/

def vkA (y : Syl) : Nat := fb y 15 10
def vkB (y : Syl) : Nat := fb y 9 4
def vkOp (y : Syl) : Nat := fb y 18 16

def vMsetLegal (y : Syl) : Bool :=
  fb y 3 0 == 0 && (match vkOp y with
    | 0 => true
    | 1 => decide (vkA y < 8) && decide (vkB y < 8)
    | 2 => decide (vkA y < 8) && decide (vkB y < 8)
    | 3 => decide (vkA y < 8) && decide (vkB y < 8)
    | 4 => decide (vkA y < 8) && vkB y == 0
    | 5 => vkB y == 0
    | _ => false)

def vMsetCheck (y : Syl) (s : State) : List FaultC :=
  let a := (s.sr y.n (vkA y)).toNat
  faultIf (vkOp y == 5 && (a % 32 != 0 || (outsideCore y.n a 32).isSome)) cVEC_ADDR a

def rangeMask (lo hi : Nat) : BitVec 256 := BitVec.ofNat 256 (foldBits 256 fun l => decide (lo ≤ l) && decide (l < hi))

def vMsetApply (u : Nat) (y : Syl) (s : State) : State :=
  let sa := s.sr y.n (vkA y)
  let sb := s.sr y.n (vkB y)
  let ma := s.mask y.n (vkA y)
  let mb := s.mask y.n (vkB y)
  let v : BitVec 256 := match vkOp y with
    | 0 => rangeMask (getBits sa 8 0) (getBits sb 8 0)
    | 1 => ma &&& mb
    | 2 => ma ||| mb
    | 3 => ma &&& ~~~mb
    | 4 => ~~~ma
    | _ => BitVec.ofNat 256 (s.readLE (.flat sa.toNat) 32)
  (vecFlight y u 2 s).pushLate y.n (u + 2) 0 (.mregs (vVD y) v)

/-! ### Reductions (R191 to R193) -/

def vAX (y : Syl) : Bool := fb y 9 9 == 1

def vRedLegal (y : Syl) : Bool := decide (vVB y < 7) && fb y 8 6 == 0 && vB y == 0
def vRedApply (u : Nat) (y : Syl) (s : State) : State :=
  let ls := activeLanes (vMask y s)
  let rs : List (List Nat × ElemRes) :=
    if vAX y then ls.map fun l =>
      ((List.range 32).map fun r => r * 256 + l, redE (vVB y) ((List.range 32).map fun r => vecA y s (r * 256 + l)))
    else (List.range 32).map fun r =>
      ((List.range 256).map fun l => r * 256 + l, redE (vVB y) (ls.map fun l => vecA y s (r * 256 + l)))
  (vecIssue y u 24 s).pushLate y.n (u + 24) 0
    (.vwrite (vVD y) (rs.flatMap fun x => x.1.map fun k => (k, BitVec.ofNat 32 x.2.1)) (orStat (rs.map (·.2))))

/-- VEC_ADDR of records of a size: misaligned base, else the lowest byte of a record outside core memory. -/
def recCheck (n base size : Nat) (idx : List Nat) : List FaultC :=
  if base % size ≠ 0 then [(cVEC_ADDR, base)]
  else match idx.findSome? fun i => outsideCore n (base + size * i) size with
    | some a => [(cVEC_ADDR, a)]
    | none => []

def vStatLegal (y : Syl) : Bool := vVD y == 0 && vVB y == 0 && fb y 6 6 == 0
def vStatCheck (u : Nat) (y : Syl) (s : State) : List FaultC :=
  tileBusy u y s ++ recCheck y.n (vBase y s) 64 (if vAX y then activeLanes (vMask y s) else List.range 32)
def vStatApply (u : Nat) (y : Syl) (s : State) : State :=
  (vecIssue y u 24 s).pushLate y.n (u + 16) 1
    (.statRecs (vAX y) (fb y 8 8 == 1) (fb y 7 7 == 1) (vMask y s) (vBase y s) (tileOf (s.core y.n) (vVA y)))

/-- V.STAT: its records are read in cycle u+16 and written in cycle u+23 (R193). -/
def statRecsStep (s : State) (n : Nat) (ax acc fin : Bool) (mask : BitVec 256) (base : Nat) (t : Tile) : State :=
  let ls := activeLanes mask
  let recs : List (Nat × List Nat) :=
    if ax then ls.map fun l => (l, (List.range 32).map fun r => tileAt t r l)
    else (List.range 32).map fun r => (r, ls.map fun l => tileAt t r l)
  let outs := recs.map fun x =>
    let old := StatRec.ofBytes (s.readBytes (.flat (base + 64 * x.1)) 64)
    let r := statStep old acc fin (x.2.map d32)
    let inv := fin && bitOf (leNat ((r.1.drop 28).take 4)) 1
    (x.1, r.1, vEMPTY * b2n r.2 ||| vINV * b2n inv ||| x.2.foldl (fun a p => a ||| snanStat p) 0)
  let s1 := outs.foldl (fun st o => st.pushLate n (s.now + 8) 0 (.mem (.flat (base + 64 * o.1)) o.2.1)) s
  s1.pushLate n (s.now + 8) 0 (.vstat (outs.foldl (fun a o => a ||| o.2.2) 0))

/-! ### Softmax and normalisation (R194 to R196) -/

def vSmsLegal (y : Syl) : Bool := vVD y == 0 && vVB y == 0 && fb y 8 6 == 0
def vSmsCheck (u : Nat) (y : Syl) (s : State) : List FaultC := tileBusy u y s ++ recCheck y.n (vBase y s) 32 (List.range 32)
def vSmsApply (u : Nat) (y : Syl) (s : State) : State :=
  (vecIssue y u 24 s).pushLate y.n (u + 16) 1
    (.smsRecs (vAX y) (vMask y s) (vBase y s) (tileOf (s.core y.n) (vVA y)))

def smsRecsStep (s : State) (n : Nat) (init : Bool) (mask : BitVec 256) (base : Nat) (t : Tile) : State :=
  let ls := activeLanes mask
  let outs := (List.range 32).map fun r =>
    let old := if init then SoftRec.init else SoftRec.ofBytes (s.readBytes (.flat (base + 32 * r)) 32)
    let ps := ls.map fun l => tileAt t r l
    (r, (old.update (ps.map d32)).bytes, ps.foldl (fun a p => a ||| snanStat p) 0)
  let s1 := outs.foldl (fun st o => st.pushLate n (s.now + 8) 0 (.mem (.flat (base + 32 * o.1)) o.2.1)) s
  s1.pushLate n (s.now + 8) 0 (.vstat (outs.foldl (fun a o => a ||| o.2.2) 0))

def vSmnLegal (y : Syl) : Bool := vVB y == 0 && fb y 8 6 == 0
def vSmnCheck (u : Nat) (y : Syl) (s : State) : List FaultC := tileBusy u y s ++ recCheck y.n (vBase y s) 32 (List.range 32)
def vSmnApply (u : Nat) (y : Syl) (s : State) : State :=
  (vecIssue y u 16 s).pushLate y.n (u + 4) 1
    (.smnRecs (vVD y) (vAX y) (vMask y s) (vBase y s) (tileOf (s.core y.n) (vVA y)))

def smnRecsStep (s : State) (n vd : Nat) (lse : Bool) (mask : BitVec 256) (base : Nat) (t : Tile) : State :=
  let ls := activeLanes mask
  let rows := (List.range 32).map fun r =>
    let rec' := SoftRec.ofBytes (s.readBytes (.flat (base + 32 * r)) 32)
    let o := rec'.row lse (ls.map fun l => d32 (tileAt t r l))
    ((ls.zip o.1).map fun x => (r * 256 + x.1, BitVec.ofNat 32 x.2), o.2)
  s.pushLate n (s.now + 12) 0 (.vwrite vd (rows.flatMap (·.1)) (rows.foldl (fun a o => a ||| o.2) 0))

def vNormLegal (y : Syl) : Bool := vVB y == 0 && fb y 8 6 == 0 && decide (vB y < 63)
def vNormCheck (u : Nat) (y : Syl) (s : State) : List FaultC :=
  tileBusy u y s ++ recCheck y.n (vBase y s) 64 (List.range 32)
def vNormApply (u : Nat) (y : Syl) (s : State) : State :=
  (vecIssue y u 16 s).pushLate y.n (u + 4) 1
    (.normRecs (vVD y) (vAX y) (vMask y s) (vBase y s) (getBits (s.sr y.n (vB y + 1)) 31 0) (tileOf (s.core y.n) (vVA y)))

def normRecsStep (s : State) (n vd : Nat) (rms : Bool) (mask : BitVec 256) (base eps : Nat) (t : Tile) : State :=
  let ls := activeLanes mask
  let rows := (List.range 32).flatMap fun r =>
    (ls.zip (normRow rms (s.readBytes (.flat (base + 64 * r)) 64) eps (ls.map fun l => tileAt t r l))).map fun x =>
      (r * 256 + x.1, x.2)
  s.pushLate n (s.now + 12) 0
    (.vwrite vd (rows.map fun x => (x.1, BitVec.ofNat 32 x.2.1)) (orStat (rows.map (·.2))))

/-! ### V.EXT (R198) -/

def vExtLegal (y : Syl) : Bool := fb y 12 6 == 0
def vExtApply (u : Nat) (y : Syl) (s : State) : State :=
  let sel := s.sr y.n (vB y)
  let x := tileElem (s.core y.n) (vVB y) (getBits sel 4 0 * 256 + getBits sel 15 8)
  writeSr y u 12 (fb y 21 16) (x.setWidth 64) (vecFlight y u 12 s)

/-! ### V.BOXDEC and V.NMS (R331 to R340) -/

/-- The parameter block, 64 bytes at s[B], where it can be read. -/
def parBad (y : Syl) (s : State) : List FaultC :=
  let a := vBase y s
  if a % 64 ≠ 0 then [(cVEC_ADDR, a)]
  else match outsideCore y.n a 64 with
    | some b => [(cVEC_ADDR, b)]
    | none => []
def parBytes (y : Syl) (s : State) : List Byte := s.readBytes (.flat (vBase y s)) 64
def parReserved (y : Syl) (s : State) : Bool := leAt (parBytes y s) 40 24 != 0
/-- An array of len bytes of a parameter block. -/
def arrCheck (n a len : Nat) : List FaultC :=
  if a % 64 ≠ 0 then [(cVEC_ADDR, a)]
  else match outsideCore n a len with
    | some b => [(cVEC_ADDR, b)]
    | none => []

def vBoxdecLegal (y : Syl) : Bool := vVB y == 0
def vBoxdecCheck (u : Nat) (y : Syl) (s : State) : List FaultC :=
  let pb := parBad y s
  let p := BoxPar.ofBytes (parBytes y s)
  let lane (l : Nat) : Option Nat := (List.range 8).findSome? fun k =>
    outsideCore y.n (p.anchors + 16 * (p.abase + 256 * k + l)) 16
  faultIf (fb y 8 6 != 0 || (pb.isEmpty && parReserved y s)) cVEC_FORMAT 0 ++ tileBusy u y s ++
    (if !pb.isEmpty then pb
     else if p.anchors % 64 ≠ 0 then [(cVEC_ADDR, p.anchors)]
     else match (activeLanes (vMask y s)).findSome? lane with
       | some a => [(cVEC_ADDR, a)]
       | none => [])
def vBoxdecApply (u : Nat) (y : Syl) (s : State) : State :=
  (vecIssue y u 24 s).pushLate y.n (u + 1) 1
    (.boxRead (vVD y) (vAX y) (vMask y s) ((parBytes y s).map (·.toNat)) (tileOf (s.core y.n) (vVA y)) u 0 [] 0)

/-- Boxes 256k to 256k+255: their anchors are read in cycle u+1+k (R340). -/
def boxReadStep (s : State) (n vd : Nat) (clip : Bool) (mask : BitVec 256) (params : List Nat) (t : Tile) (u k : Nat)
    (out : Tile) (stat : Nat) : State :=
  let p := BoxPar.ofBytes (params.map (BitVec.ofNat 8 ·))
  let res := (activeLanes mask).flatMap fun l =>
    let a := s.readBytes (.flat (p.anchors + 16 * (p.abase + 256 * k + l))) 16
    let o (i : Nat) : Nat := tileAt t (4 * k + i) l
    let cs := boxDecode p clip (o 0) (o 1) (o 2) (o 3) (leAt a 0 4) (leAt a 4 4) (leAt a 8 4) (leAt a 12 4)
    cs.zipIdx.map fun c => ((4 * k + c.2) * 256 + l, c.1)
  let out' := out ++ res.map fun x => (x.1, BitVec.ofNat 32 x.2.1)
  let stat' := stat ||| orStat (res.map (·.2))
  if k < 7 then s.pushLate n (u + 2 + k) 1 (.boxRead vd clip mask params t u (k + 1) out' stat')
  else s.pushLate n (u + 24) 0 (.vwrite vd out' stat')

/-- Fields of the V.NMS parameter block (Table 13.4). -/
structure NmsPar where
  scores : Nat
  classes : Nat
  out : Nat
  n : Nat
  maxout : Nat
  thr : Nat
  smin : Nat
deriving DecidableEq, Repr
def NmsPar.ofBytes (bs : List Byte) : NmsPar :=
  ⟨leAt bs 0 8, leAt bs 8 8, leAt bs 16 8, leAt bs 24 4, leAt bs 28 4, leAt bs 32 4, leAt bs 36 4⟩

def nmsCap (y : Syl) : Nat := 256 * (fb y 8 6 + 1)
def nmsLat (y : Syl) : Nat := 64 + nmsCap y + nmsCap y * nmsCap y / 512

def vNmsLegal (y : Syl) : Bool := vVB y == 0
def vNmsCheck (u : Nat) (y : Syl) (s : State) : List FaultC :=
  let pb := parBad y s
  let p := NmsPar.ofBytes (parBytes y s)
  let cap := nmsCap y
  let thr := d32 p.thr
  let thrOk : Bool := match thr.cmp (.fin false 0 0), thr.cmp XVal.one with
    | some a, some b => decide (0 ≤ a) && decide (b ≤ 0)
    | _, _ => false
  let bad := parReserved y s || decide (cap < p.n) || p.maxout == 0 || decide (cap < p.maxout) || !thrOk ||
    (d32 p.smin).isNan
  faultIf (pb.isEmpty && bad) cVEC_FORMAT 0 ++
    faultIf (decide (u < (s.core y.n).vecFree) || decide (u < (s.core y.n).nmsDone)) cVEC_OCCUPIED 0 ++
    (if !pb.isEmpty then pb
     else (arrCheck y.n p.scores (cap * 4) ++ (if vAX y then arrCheck y.n p.classes (cap * 4) else []) ++
       arrCheck y.n p.out (4 + 4 * p.maxout)).take 1)
def vNmsApply (u : Nat) (y : Syl) (s : State) : State :=
  let s1 := vecIssue y u 0 s
  let s2 := s1.setCore y.n { s1.core y.n with nmsDone := u + nmsLat y }
  s2.pushLate y.n (u + 1) 1
    (.nmsRead (vVD y) (vAX y) (fb y 8 6) (vMask y s) ((parBytes y s).map (·.toNat)) (tileOf (s.core y.n) (vVA y)) u 0 [] [])

/-- The candidates of V.NMS in index order, and whether INV is set (R335). -/
def nmsCandidates (p : NmsPar) (mask : BitVec 256) (t : Tile) (scores classes : List Nat) : List NmsBox × Bool :=
  let boxes := (List.range p.n).filter fun i => mask.getLsbD (i % 256)
  let co (i j : Nat) : XVal := d32 (tileAt t (4 * (i / 256) + j) (i % 256))
  let inv := boxes.any fun i => (d32 (scores.getD i 0)).isNan || (List.range 4).any fun j => (co i j).isNan
  let cand := boxes.filterMap fun i =>
    let sc := d32 (scores.getD i 0)
    if !sc.isNan && !(sc.lt (d32 p.smin)) && (List.range 4).all fun j => (co i j).isFin then
      some (⟨i, sc, co i 0, co i 1, co i 2, co i 3, classes.getD i 0⟩ : NmsBox) else none
  (cand, inv)

/-- V.NMS reads its scores and classes in 16 equal parts in cycles u+1 to u+16; the list is written in cycle u+L−1 and
the register in cycle u+L (R338, R340). -/
def nmsReadStep (s : State) (n vd : Nat) (cm : Bool) (size : Nat) (mask : BitVec 256) (params : List Nat) (t : Tile)
    (u i : Nat) (scores classes : List Nat) : State :=
  let p := NmsPar.ofBytes (params.map (BitVec.ofNat 8 ·))
  let cap := 256 * (size + 1)
  let part := cap / 16
  let rd (a : Nat) : List Nat := (List.range part).map fun j => s.readLE (.flat (a + 4 * (i * part + j))) 4
  let sc := scores ++ rd p.scores
  let cl := if cm then classes ++ rd p.classes else []
  if i < 15 then s.pushLate n (u + 2 + i) 1 (.nmsRead vd cm size mask params t u (i + 1) sc cl)
  else
    let lat := 64 + cap + cap * cap / 512
    let c := nmsCandidates p mask t sc cl
    let kept := nmsVisit (d32 p.thr) cm p.maxout (c.1.foldl (fun l b => rankInsert b l) [])
    let words := kept.length :: (kept ++ List.replicate (p.maxout - kept.length) 0xFFFFFFFF)
    let res := (activeLanes mask).flatMap fun l => (List.range 32).map fun r =>
      (r * 256 + l, BitVec.ofNat 32 (if kept.contains (256 * (r / 4) + l) then oneF32 else 0))
    (s.pushLate n (u + lat) 0 (.mem (.flat p.out) (words.flatMap (leBytes 4)))).pushLate n (u + lat) 0
      (.vwrite vd res (vINV * b2n c.2))

/-! ### Results (R175, R201) -/

/-- A destination tile register written whole in its active lanes, with the operation's status. -/
def vwriteStep (s : State) (n vd : Nat) (t : Tile) (stat : Nat) : State :=
  let s1 := s.setCore n ((s.core n).setTile vd t)
  s1.setReg (R.VEC_STATUS n) (s1.reg (R.VEC_STATUS n) ||| BitVec.ofNat 64 stat)
def vstatStep (s : State) (n stat : Nat) : State :=
  s.setReg (R.VEC_STATUS n) (s.reg (R.VEC_STATUS n) ||| BitVec.ofNat 64 stat)

end Sys2Proof.Machine
end

