-- ==== Sys2Proof/Machine/Syllables.lean ====
section
/-! DEFINITION. The table of syllables: for every instruction of the four slots (Tables 6.1 and 7.3) its slot, opcode,
encoding check, stall conditions, fault conditions in order, and its effect at issue. -/

namespace Sys2Proof.Machine

/-- What a syllable is to the sequencer (R108, R109, R115, R124): slot and opcode; whether its fields are legal; its
accumulator hold, tier stall and explicit wait in a cycle; its fault conditions in order; its effect at issue. -/
structure SylInfo where
  slot : SlotL
  op : Nat
  y : Syl
  legal : Bool := true
  hold : Nat → Syl → State → Bool := fun _ _ _ => false
  tier : Nat → Syl → State → Option TierStall := fun _ _ _ => none
  wait : Syl → State → Bool := fun _ _ => false
  qsync : Bool := false
  check : Nat → Syl → State → List FaultC := fun _ _ _ => []
  apply : Nat → Syl → State → State

/-- An opcode that Table 6.1 or Table 7.3 gives an instruction other than NOP. -/
def definedOp (slot : SlotL) (op : Nat) : Bool :=
  match slot with
  | .s => decide (1 ≤ op) && decide (op ≤ 0x25)
  | .m => [1, 2, 3, 4, 5, 6, 8, 9, 10, 11, 12, 13, 14, 16, 17, 18].contains op
  | .a => decide (1 ≤ op) && decide (op ≤ 4)
  | .v => decide (1 ≤ op) && decide (op ≤ 0x1E)

/-- A NOP syllable is legal with opcode 0 and zero fields; with another opcode it stands for one that its slot does not
list (R135). -/
def nopInfo (y : Syl) (slot : SlotL) (op : Nat) : SylInfo :=
  { slot := slot, op := op, y := y, legal := op == 0 && y.f == 0#22, apply := fun _ _ s => s }

/-- The syllable that a command is. -/
def sylInfo (i : Instr) : Option SylInfo :=
  match i with
  | .nop y slot op _ => if definedOp slot op.toNat then none else some (nopInfo y slot op.toNat)
  | .sAdd y => some { slot := .s, op := 0x01, y := y, legal := sRegLegal y, apply := sAddApply }
  | .sSub y => some { slot := .s, op := 0x02, y := y, legal := sRegLegal y, apply := sSubApply }
  | .sAnd y => some { slot := .s, op := 0x03, y := y, legal := sRegLegal y, apply := sAndApply }
  | .sOr y => some { slot := .s, op := 0x04, y := y, legal := sRegLegal y, apply := sOrApply }
  | .sXor y => some { slot := .s, op := 0x05, y := y, legal := sRegLegal y, apply := sXorApply }
  | .sShl y => some { slot := .s, op := 0x06, y := y, legal := sRegLegal y, apply := sShlApply }
  | .sShr y => some { slot := .s, op := 0x07, y := y, legal := sRegLegal y, apply := sShrApply }
  | .sSra y => some { slot := .s, op := 0x08, y := y, legal := sRegLegal y, apply := sSraApply }
  | .sMin y => some { slot := .s, op := 0x09, y := y, legal := sRegLegal y, apply := sMinApply }
  | .sMax y => some { slot := .s, op := 0x0A, y := y, legal := sRegLegal y, apply := sMaxApply }
  | .sMinu y => some { slot := .s, op := 0x0B, y := y, legal := sRegLegal y, apply := sMinuApply }
  | .sMaxu y => some { slot := .s, op := 0x0C, y := y, legal := sRegLegal y, apply := sMaxuApply }
  | .sMul y => some { slot := .s, op := 0x0D, y := y, legal := sRegLegal y, apply := sMulApply }
  | .sMulhu y => some { slot := .s, op := 0x0E, y := y, legal := sRegLegal y, apply := sMulhuApply }
  | .sSel y => some { slot := .s, op := 0x0F, y := y, apply := sSelApply }
  | .sAddi y => some { slot := .s, op := 0x10, y := y, apply := sAddiApply }
  | .sAndi y => some { slot := .s, op := 0x11, y := y, apply := sAndiApply }
  | .sShli y => some { slot := .s, op := 0x12, y := y, legal := sShiLegal y, apply := sShliApply }
  | .sShri y => some { slot := .s, op := 0x13, y := y, legal := sShiLegal y, apply := sShriApply }
  | .sSrai y => some { slot := .s, op := 0x14, y := y, legal := sShiLegal y, apply := sSraiApply }
  | .sLi y => some { slot := .s, op := 0x15, y := y, apply := sLiApply }
  | .sLih16 y => some { slot := .s, op := 0x16, y := y, apply := sLih16Apply }
  | .sLih32 y => some { slot := .s, op := 0x17, y := y, apply := sLih32Apply }
  | .sLih48 y => some { slot := .s, op := 0x18, y := y, apply := sLih48Apply }
  | .sCmp y => some { slot := .s, op := 0x19, y := y, legal := sCmpLegal y, apply := sCmpApply }
  | .sCmpi y => some { slot := .s, op := 0x1A, y := y, legal := sCmpiLegal y, apply := sCmpiApply }
  | .sPlog y => some { slot := .s, op := 0x1B, y := y, legal := sPlogLegal y, apply := sPlogApply }
  | .sRdp y => some { slot := .s, op := 0x1C, y := y, legal := sRdpLegal y, apply := sRdpApply }
  | .sWrp y => some { slot := .s, op := 0x1D, y := y, legal := sWrpLegal y, apply := sWrpApply }
  | .sLd y => some { slot := .s, op := 0x1E, y := y, legal := sLdLegal y, check := fun _ => sLdCheck, apply := sLdApply }
  | .sSt y => some { slot := .s, op := 0x1F, y := y, legal := sStLegal y, check := fun _ => sStCheck, apply := sStApply }
  | .sBr y => some { slot := .s, op := 0x20, y := y, legal := sBrLegal y, check := fun _ => sBrCheck, apply := sBrApply }
  | .sBrl y => some { slot := .s, op := 0x21, y := y, legal := sBrlLegal y, check := fun _ => sBrlCheck, apply := sBrlApply }
  | .sBrr y => some { slot := .s, op := 0x22, y := y, legal := sBrrLegal y, check := fun _ => sBrrCheck, apply := sBrrApply }
  | .sBrk y => some { slot := .s, op := 0x23, y := y, legal := sBrLegal y, check := fun _ => sBrkCheck, apply := sBrkApply }
  | .sLoop y => some { slot := .s, op := 0x24, y := y, legal := sLoopLegal y, check := fun _ => sLoopCheck, apply := sLoopApply }
  | .sHalt y => some { slot := .s, op := 0x25, y := y, legal := sHaltLegal y, apply := sHaltApply }
  | .mLd y => some { slot := .m, op := 0x01, y := y, legal := mLdLegal y, check := mLdCheck, tier := mLdStall, apply := mLdApply }
  | .mSt y => some { slot := .m, op := 0x02, y := y, legal := mStLegal y, check := mStCheck, apply := mStApply }
  | .mLds y => some { slot := .m, op := 0x03, y := y, legal := mLdsLegal y, check := mLdsCheck, tier := mLdsStall, apply := mLdsApply }
  | .mSts y => some { slot := .m, op := 0x04, y := y, legal := mStsLegal y, check := mStsCheck, apply := mStsApply }
  | .mSopen y => some { slot := .m, op := 0x05, y := y, legal := mSopenLegal y, check := fun _ => mSopenCheck, apply := mSopenApply }
  | .mSclose y => some { slot := .m, op := 0x06, y := y, legal := mScloseLegal y, check := fun _ => mScloseCheck, apply := mScloseApply }
  | .mPut y => some { slot := .m, op := 0x08, y := y, legal := mPutLegal y, check := mPutCheck, apply := mPutApply }
  | .mGet y => some { slot := .m, op := 0x09, y := y, legal := mGetLegal y, check := mGetCheck, apply := mGetApply }
  | .mRadd y => some { slot := .m, op := 0x0A, y := y, legal := mRaddLegal y, check := mRaddCheck, apply := mRaddApply }
  | .mFadd y => some { slot := .m, op := 0x0B, y := y, legal := mFaddLegal y, check := mFaddCheck, apply := mFaddApply }
  | .mMsg y => some { slot := .m, op := 0x0C, y := y, legal := mMsgLegal y, check := mMsgCheck, apply := mMsgApply }
  | .mFence y => some { slot := .m, op := 0x0D, y := y, legal := mFenceLegal y, check := mFenceCheck, apply := mFenceApply }
  | .mClaimr y => some { slot := .m, op := 0x0E, y := y, legal := mClaimrLegal y, check := mClaimrCheck, apply := mClaimrApply }
  | .mClaim y => some { slot := .m, op := 0x10, y := y, legal := mClaimLegal y, apply := mClaimApply }
  | .mWait y => some { slot := .m, op := 0x11, y := y, legal := mWaitLegal y, wait := mWaitHolds, apply := mWaitApply }
  | .mQsync y => some { slot := .m, op := 0x12, y := y, legal := mQsyncLegal y, qsync := true, apply := mQsyncApply }
  | .aWld y => some { slot := .a, op := 0x01, y := y, legal := aWldLegal y, check := aWldCheck, apply := aWldApply }
  | .aMm y => some { slot := .a, op := 0x02, y := y, legal := aMmLegal y, check := aMmCheck, hold := aMmHold, apply := aMmApply }
  | .aSadd y => some { slot := .a, op := 0x03, y := y, legal := aSaddLegal y, check := aSaddCheck, hold := aSaddHold, apply := aSaddApply }
  | .aDrain y => some { slot := .a, op := 0x04, y := y, legal := aDrainLegal y, check := aDrainCheck, hold := aDrainHold, apply := aDrainApply }
  | .vFop y => some { slot := .v, op := 0x01, y := y, legal := vFopLegal y, check := tileBusy, apply := vFopApply }
  | .vFops y => some { slot := .v, op := 0x02, y := y, legal := vFopsLegal y, check := tileBusy, apply := vFopsApply }
  | .vIop y => some { slot := .v, op := 0x03, y := y, legal := vIopLegal y, check := tileBusy, apply := vIopApply }
  | .vIops y => some { slot := .v, op := 0x04, y := y, legal := vIopsLegal y, check := tileBusy, apply := vIopsApply }
  | .vFaddi y => some { slot := .v, op := 0x05, y := y, check := tileBusy, apply := vFaddiApply }
  | .vFmuli y => some { slot := .v, op := 0x06, y := y, check := tileBusy, apply := vFmuliApply }
  | .vFmaxi y => some { slot := .v, op := 0x07, y := y, check := tileBusy, apply := vFmaxiApply }
  | .vFmini y => some { slot := .v, op := 0x08, y := y, check := tileBusy, apply := vFminiApply }
  | .vIaddi y => some { slot := .v, op := 0x09, y := y, check := tileBusy, apply := vIaddiApply }
  | .vFma y => some { slot := .v, op := 0x0A, y := y, legal := vFmaLegal y, check := tileBusy, apply := vFmaApply }
  | .vFmas y => some { slot := .v, op := 0x0B, y := y, legal := vFmasLegal y, check := tileBusy, apply := vFmasApply }
  | .vFun y => some { slot := .v, op := 0x0C, y := y, legal := vFunLegal y, check := tileBusy, apply := vFunApply }
  | .vFcmp y => some { slot := .v, op := 0x0D, y := y, legal := vFcmpLegal y, check := tileBusy, apply := vFcmpApply }
  | .vSel y => some { slot := .v, op := 0x0E, y := y, legal := vSelLegal y, check := tileBusy, apply := vSelApply }
  | .vMov y => some { slot := .v, op := 0x0F, y := y, legal := vMovLegal y, check := tileBusy, apply := vMovApply }
  | .vBcs y => some { slot := .v, op := 0x10, y := y, legal := vBcsLegal y, check := tileBusy, apply := vBcsApply }
  | .vBci y => some { slot := .v, op := 0x11, y := y, legal := vBciLegal y, check := tileBusy, apply := vBciApply }
  | .vCvt y => some { slot := .v, op := 0x12, y := y, legal := vCvtLegal y, check := tileBusy, apply := vCvtApply }
  | .vSplit y => some { slot := .v, op := 0x13, y := y, legal := vSplitLegal y, check := tileBusy, apply := vSplitApply }
  | .vLd y => some { slot := .v, op := 0x14, y := y, legal := vLdLegal y, check := vLdCheck, apply := vLdApply }
  | .vSt y => some { slot := .v, op := 0x15, y := y, legal := vStLegal y, check := vStCheck, apply := vStApply }
  | .vRed y => some { slot := .v, op := 0x16, y := y, legal := vRedLegal y, check := tileBusy, apply := vRedApply }
  | .vStat y => some { slot := .v, op := 0x17, y := y, legal := vStatLegal y, check := vStatCheck, apply := vStatApply }
  | .vSms y => some { slot := .v, op := 0x18, y := y, legal := vSmsLegal y, check := vSmsCheck, apply := vSmsApply }
  | .vSmn y => some { slot := .v, op := 0x19, y := y, legal := vSmnLegal y, check := vSmnCheck, apply := vSmnApply }
  | .vNorm y => some { slot := .v, op := 0x1A, y := y, legal := vNormLegal y, check := vNormCheck, apply := vNormApply }
  | .vExt y => some { slot := .v, op := 0x1B, y := y, legal := vExtLegal y, apply := vExtApply }
  | .vMset y => some { slot := .v, op := 0x1C, y := y, legal := vMsetLegal y, check := fun _ => vMsetCheck, apply := vMsetApply }
  | .vBoxdec y => some { slot := .v, op := 0x1D, y := y, legal := vBoxdecLegal y, check := vBoxdecCheck, apply := vBoxdecApply }
  | .vNms y => some { slot := .v, op := 0x1E, y := y, legal := vNmsLegal y, check := vNmsCheck, apply := vNmsApply }
  | _ => none

end Sys2Proof.Machine
end

