-- ==== Sys2Proof/Machine/Bundle.lean ====
section
/-! DEFINITION. A bundle at issue (R107 to R125): which syllables execute, what holds it, its faults in order, taking a
fault, the loop stack and the next bundle address, the control-flow signatures. -/

namespace Sys2Proof.Machine

/-! ### The syllables of a bundle -/

/-- The syllables of a bundle in the order S, M, A, V. -/
def bundleSyls (b : List Instr) : List SylInfo :=
  let xs := b.filterMap sylInfo
  [SlotL.s, .m, .a, .v].flatMap fun k => xs.filter fun x => x.slot == k

/-- The executing syllables: legal, with their predicate 1 (R109). -/
def execSyls (s : State) (b : List Instr) : List SylInfo :=
  (bundleSyls b).filter fun x => x.legal && s.pr x.y.n x.y.pred.toNat

/-! ### Stalls (R115, R116, R157) -/

/-- What holds a bundle in a cycle. -/
structure Stalls where
  acc : Bool
  tier : Option TierStall
  wait : Bool
deriving DecidableEq, Repr

def Stalls.any (t : Stalls) : Bool := t.acc || t.tier.isSome || t.wait
def Stalls.mask (t : Stalls) : StallMask := ⟨t.acc, t.tier.isSome, t.wait⟩

def accHeldBy (s : State) (u : Nat) (xs : List SylInfo) : Bool := xs.any fun x => x.hold u x.y s

/-- Core m is held at an executing M.QSYNC that alone holds its bundle. -/
def atQsync (s : State) (u m : Nat) : Bool :=
  match (s.core m).held with
  | some h => coreState s m == 1 && (execSyls s h.bundle).any (fun x => x.qsync) && !(accHeldBy s u (execSyls s h.bundle))
  | none => false

/-- The other three cores of the quartet are at the barrier. -/
def quartetReady (s : State) (n u : Nat) : Bool :=
  (List.range 4).all fun k => 4 * (n / 4) + k == n || atQsync s u (4 * (n / 4) + k)

def bundleStalls (s : State) (n u : Nat) (b : List Instr) : Stalls :=
  let xs := execSyls s b
  let acc := accHeldBy s u xs
  { acc := acc, tier := xs.findSome? fun x => x.tier u x.y s,
    wait := (xs.any fun x => x.wait x.y s) || ((xs.any fun x => x.qsync) && (acc || !(quartetReady s n u))) }

/-- The cause counters of Table 9.5. -/
def causeFld (n cause : Nat) : Fld :=
  match cause with
  | 0 => F.LPDDR_LATE_COUNT n
  | 1 => F.CHECKBIT_MISS_COUNT n
  | 2 => F.FLASH_LATE_COUNT n
  | 3 => F.FABRIC_LATE_COUNT n
  | 4 => F.GUARD_STALL_COUNT n
  | _ => F.EXTENT_STALL_COUNT n

/-- k cycles of a hold counted (R95, R116, R244). -/
def countStall (s : State) (n : Nat) (was : Bool) (t : Stalls) (k : Nat) : State :=
  let s1 := s.incFld (F.STALL_TOTAL_COUNT n) k
  let s2 := if t.acc then (s1.incFld (F.ACC_HOLD_CYCLES_COUNT n) k).incFld (F.ACC_HOLD_COUNT_COUNT n) (if was then 0 else 1)
    else s1
  let s3 := match t.tier with
    | some x => (s2.incFld (F.STALL_TIER_COUNT n) k).incFld (causeFld n x.cause) k
    | none => s2
  if t.wait then s3.incFld (F.STALL_WAIT_COUNT n) k else s3

/-- The slot that a tier stall awaits; the fixed part of a refetch begins in the cycle in which a load first reaches a
STALE slot (R248). -/
def noteAwaited (s : State) (n u : Nat) (t : Stalls) : Option (Nat × Nat) × State :=
  match t.tier with
  | some ⟨_, _, d, some i, _⟩ =>
    match (s.core n).stream d with
    | some st =>
      let x := st.slots.getD i StgSlot.reset
      if x.st = .stale ∧ x.guardAt = none then
        (some (d, i), s.setCore n ((s.core n).setStream d (st.setSlot i { x with guardAt := some u })))
      else (some (d, i), s)
    | none => (none, s)
  | _ => (none, s)

def maskNat (m : StallMask) : Nat := b2n m.acc + 2 * b2n m.tier + 4 * b2n m.wait

/-- The held bundle of core n, with its status. -/
def setHeld (s : State) (n : Nat) (h : Held) : State :=
  ((s.setCore n { s.core n with held := some h }).setFld (F.SEQ_STATUS_STALL n) (maskNat h.mask)).setFld
    (F.SEQ_STATUS_RUN n) runSTALLED

/-! ### Faults (R123 to R125) -/

/-- A fault condition found at a bundle: code, slot, KIND of Table 5.14, originating bundle where it differs, detail. -/
structure FaultF where
  code : Nat
  slot : Nat
  kind : Nat
  origin : Option Nat
  info : Nat
deriving DecidableEq, Repr

def insDef (d : DefFault) : List DefFault → List DefFault
  | [] => [d]
  | x :: xs => if d.ord < x.ord then d :: x :: xs else x :: insDef d xs

/-- Deferred faults in the order of their originating bundles. -/
def sortDef (l : List DefFault) : List DefFault := l.foldl (fun a d => insDef d a) []

def defFaultF (d : DefFault) : FaultF := ⟨d.code, d.slot, 2, d.origin, d.info⟩

def cIMEM_RANGE : Nat := 0x02
def cIMEM_UNCORR : Nat := 0x03
def cCFS_MISMATCH : Nat := 0x04

/-- Fetch faults: issue past bundle 16,383 and an uncorrectable bundle (R105, R122). -/
def fetchFaults (s : State) (n : Nat) : List FaultF :=
  if (s.core n).pastEnd then [⟨cIMEM_RANGE, 0, 1, none, 16384⟩]
  else if look (fun _ => 0) (s.core n).imemErr (pcOf s n) = 2 then [⟨cIMEM_UNCORR, 0, 1, none, 0⟩]
  else []

/-- The conditions of one syllable: ILLEGAL_OP whatever its predicate, else its own in order (R109, R124). -/
def sylFaults (s : State) (u : Nat) (x : SylInfo) : List FaultF :=
  if !x.legal then [⟨cILLEGAL, slotNo x.slot, 0, none, sylWord x.op x.y⟩]
  else if s.pr x.y.n x.y.pred.toNat then (x.check u x.y s).map fun f => ⟨f.1, slotNo x.slot, 0, none, f.2⟩
  else []

/-- Every fault condition that holds at a bundle in cycle u, in the order of R124. -/
def bundleFaults (s : State) (n u : Nat) (b : List Instr) : List FaultF :=
  let ff := fetchFaults s n
  (sortDef (s.core n).dueFaults).map defFaultF ++ ff ++
    (if ff.isEmpty then (bundleSyls b).flatMap (sylFaults s u) else [])

/-- The FAILED slot that the executing load of a bundle meets: stream and slot. -/
def failedSlot (s : State) (x : SylInfo) : Option (Nat × Nat) :=
  let c := s.core x.y.n
  if x.slot ≠ .m then none
  else if x.op = 3 then (c.stream (fb x.y 4 0)).map fun t => (fb x.y 4 0, t.slotIdx t.taken)
  else if x.op = 1 then
    (overlapped c (getBits (mTA x.y s) 47 0) (mTileLen x.y)).findSome? fun o =>
      match c.stream o.1 with
      | some t => if (t.slots.getD o.2.1 StgSlot.reset).st = .failed then some (o.1, o.2.1) else none
      | none => none
  else none

/-- A TIER_FAIL taken counts and writes a TIER_ERR record (R245). -/
def tierFailNote (s : State) (n : Nat) (b : List Instr) : State :=
  match (execSyls s b).findSome? (failedSlot s) with
  | none => s
  | some (d, i) => match (s.core n).stream d with
    | none => s
    | some t =>
      let x := t.slots.getD i StgSlot.reset
      tierErr (s.incFld (F.TIER_FAIL_COUNT n) 1) n x.fkind (dTier t.desc) false d x.fstatus x.tile

/-- The first of the faults found is taken at the bundle about to issue (R123): nothing of the bundle takes effect, RUN
becomes FAULT, the records are written and the core's event raised. -/
def takeFaults (s : State) (n : Nat) (fs : List FaultF) : State :=
  match fs with
  | [] => s
  | f :: rest =>
    let pc := pcOf s n
    let s1 := recordFault s n f.code f.slot f.kind (f.origin.getD pc) pc f.info (!rest.isEmpty)
    let s2 := (s1.setFld (F.SEQ_STATUS_RUN n) runFAULT).setFld (F.SEQ_STATUS_STALL n) 0
    let s3 := s2.setCore n { s2.core n with held := none, latch := [], dueFaults := [] }
    faultOutside (s3.raise n) n f.code

/-- The faults of a bundle at issue taken. -/
def faultBundle (s : State) (n : Nat) (b : List Instr) (fs : List FaultF) : State :=
  let s1 := match fs with
    | f :: _ => if f.code = cTIER_FAIL then tierFailNote s n b else s
    | [] => s
  takeFaults s1 n fs

/-- A deferred fault that is not taken at a bundle, as the sequencer is not issuing (R125). -/
def recordDeferred (s : State) (n : Nat) (ds : List DefFault) : State :=
  match sortDef ds with
  | [] => s
  | d :: rest =>
    if s.flag (F.FAULT_REC_VALID n) then s.setFld (F.FAULT_REC_MULTI n) 1
    else
      let pc := pcOf s n
      let s1 := recordFault s n d.code d.slot 2 (d.origin.getD pc) pc d.info (!rest.isEmpty)
      let s2 :=
        if coreState s n = 2 then s1.setFld (F.SEQ_STATUS_RUN n) runFAULT
        else if coreRun s n = runDONE then (s1.setFld (F.SEQ_STATUS_RUN n) runFAULT).raise n
        else s1
      faultOutside s2 n d.code

/-- Deferred faults of core n come due in this cycle: taken at a held bundle, kept for the next bundle of a running
core, or recorded at once. The stall cycles of a held bundle are counted up to this one. -/
def deferredDue (s : State) (n : Nat) (ds : List DefFault) : State :=
  if coreState s n = 1 ∧ (coreRun s n = runRUNNING ∨ coreRun s n = runSTALLED) then
    let c := s.core n
    let s1 := s.setCore n { c with dueFaults := c.dueFaults ++ ds }
    match c.held with
    | none => s1
    | some h =>
      let t := bundleStalls s1 n s1.now h.bundle
      let s2 := countStall s1 n h.mask.acc { t with acc := h.mask.acc, wait := h.mask.wait, tier := if h.mask.tier then t.tier else none } (s1.now - h.upto)
      takeFaults s2 n (bundleFaults s2 n s2.now h.bundle)
  else recordDeferred s n ds

/-! ### Control-flow signatures (R129) -/

def cfsStep (sig addr : Nat) : Nat :=
  (List.range 16).foldl (fun g i => (g / 2) ^^^ (if (g ^^^ (addr >>> i)) % 2 = 1 then 0x82F63B78 else 0)) sig

/-- Both signatures take the address of an issued bundle; a full window or S.HALT is compared in the next cycle. -/
def cfsIssue (s : State) (n u pc : Nat) (halt : Bool) : State :=
  let w := s.fld (F.CFS_FETCH_WCOUNT n) + 1
  let s1 := (s.setFld (F.CFS_FETCH_SIG n) (cfsStep (s.fld (F.CFS_FETCH_SIG n)) pc)).setFld (F.CFS_FETCH_WCOUNT n) w
  let s2 := (s1.setFld (F.CFS_CHECK_SIG n) (cfsStep (s.fld (F.CFS_CHECK_SIG n)) pc)).setFld (F.CFS_CHECK_WCOUNT n) w
  if halt || w == 4096 then s2.pushLate n (u + 1) 0 (.cfsCompare pc (s2.core n).cur) else s2

/-- The comparison: both signatures and the window count start again; a mismatch is a deferred fault due now. -/
def cfsCompareStep (s : State) (n origin ord : Nat) : State :=
  let f := s.fld (F.CFS_FETCH_SIG n)
  let k := s.fld (F.CFS_CHECK_SIG n)
  let s1 := (s.setReg (R.CFS_FETCH n) 0xFFFFFFFF#64).setReg (R.CFS_CHECK n) 0xFFFFFFFF#64
  if f = k then s1 else deferredDue s1 n [⟨cCFS_MISMATCH, 0, some origin, f * 2 ^ 32 + k, ord⟩]

/-! ### The next bundle (R110, R118 to R122) -/

/-- The loop ends at bundle pc: the start of the loop that continues, if one does (R119). -/
def loopEnd (n pc : Nat) : Nat → State → Option Nat × State
  | 0, s => (none, s)
  | k + 1, s =>
    let d := kdepth s n
    if d = 0 ∨ s.fld (F.KREG_END n (d - 1)) ≠ pc then (none, s)
    else
      let cnt := (s.fld (F.KREG_COUNT n (d - 1)) + 2 ^ 32 - 1) % 2 ^ 32
      let s1 := s.setFld (F.KREG_COUNT n (d - 1)) cnt
      if cnt ≠ 0 then (some (s.fld (F.KREG_START n (d - 1))), s1)
      else loopEnd n pc k (s1.setFld (F.SEQ_STATUS_KDEPTH n) (d - 1))

/-- Address of the bundle after pc, and the state with loop stack and delay slots advanced. -/
def nextBundle (s : State) (n pc : Nat) : Nat × State :=
  let c := s.core n
  let le := loopEnd n pc 5 s
  let seq : Nat := match c.ctl.skip, le.1 with
    | some e, _ => e
    | none, some st => st
    | none, none => pc + 1
  match c.branch, c.ctl.taken with
  | some (1, target), _ => (target, le.2.setCore n { le.2.core n with branch := none })
  | some (k, target), _ => (seq, le.2.setCore n { le.2.core n with branch := some (k - 1, target) })
  | none, some target => (seq, le.2.setCore n { le.2.core n with branch := some (2, target) })
  | none, none => (seq, le.2)

/-- The program counter set to a bundle address; 16,384 is past the end and reads 0 (R122). -/
def setPc (s : State) (n a : Nat) : State :=
  (s.setFld (F.SEQ_STATUS_PC n) (a % 16384)).setCore n { s.core n with pastEnd := decide (16384 ≤ a) }

/-- Before a bundle issues nothing is asked of the sequencer. -/
def clearCtl (s : State) (n : Nat) : State := s.setCore n { s.core n with ctl := ⟨none, none, false⟩ }

/-- The syllable whose work is added next. -/
def setCur (s : State) (n k : Nat) : State := s.setCore n { s.core n with cur := k }

/-- Core n has issued its k-th bundle, of issue order ord, in cycle u. -/
def countIssue (s : State) (n u k ord : Nat) : State :=
  (s.setCore n { s.core n with issued := k, cur := ord, nextIssue := u + 1 }).incFld (F.BUNDLE_COUNT_COUNT n) 1

/-- What the sequencer does at an issue in cycle u after the effects of the syllables: counts, signatures, the next bundle. -/
def sequence (s : State) (n u k pc : Nat) : State :=
  let halt := (s.core n).ctl.halt
  let s3 := cfsIssue (countIssue s n u k ((k - 1) * 4)) n u pc halt
  let nx := nextBundle s3 n pc
  let s4 := setPc nx.2 n nx.1
  if halt then (s4.setFld (F.SEQ_STATUS_RUN n) runDONE).raise n else s4

/-- The effects of the executing syllables in order; the bundle has issue order ord. -/
def applySyls (u ord n : Nat) (s : State) (xs : List SylInfo) : State :=
  xs.foldl (fun st x => x.apply u x.y (setCur st n (ord + slotNo x.slot))) s

/-- The bundle issues in cycle u: every executing syllable takes effect, then the sequencer moves on. -/
def applyBundle (s : State) (n u : Nat) (b : List Instr) : State :=
  let k := (s.core n).issued
  sequence (applySyls u (k * 4) n (clearCtl s n) (execSyls s b)) n u (k + 1) (pcOf s n)

/-- A bundle that nothing holds issues in cycle u, or faults (R124). -/
def issueBundle (s : State) (n u : Nat) (b : List Instr) : State :=
  match bundleFaults s n u b with
  | [] => applyBundle s n u b
  | fs => faultBundle s n b fs

end Sys2Proof.Machine
end

