-- ==== Sys2Proof/Machine/Supervisor.lean ====
section
/-! DEFINITION. The supervisor complex and the event controller (R428 to R446): lockstep, shared SRAM, private registers,
fabric aperture, timers, claims and completions of event sources. -/

namespace Sys2Proof.Machine

def sramBase : Nat := 0x1000000000000
def sramSize : Nat := 0x800000
def romBase : Nat := 0x1000100000000
def bootFlashBase : Nat := 0x1000200000000
def bootFlashSize : Nat := 0x4000000

def supOf (s : State) (k : Nat) : Sup := look (fun _ => Sup.reset) s.sup k
def setSup (s : State) (k : Nat) (x : Sup) : State := { s with sup := put (fun _ => Sup.reset) s.sup k x }
def supStopped (s : State) (k : Nat) : Bool := s.flag (F.SUP_STATUS_STOPPED k)

/-! ### Lockstep (R429) -/

/-- LOCKSTEP_MISMATCH: the pair stops, the error is recorded, source 161 is raised and the safe state entered. -/
def lockstepMismatch (s : State) (k : Nat) : State :=
  safeEnter (((s.setFld (F.SUP_STATUS_STOPPED k) 1).setFld (F.SUP_STATUS_LOCKSTEP_ERR k) 1).raise 161) causeLockstep 161

/-! ### Shared SRAM (R431) -/

/-- A load or store of SRAM that meets the word's check bits. -/
def sramAccess (s : State) (k off size : Nat) (v : Option Word) (o : Ecc) : State :=
  if supStopped s k then s
  else if !([1, 2, 4, 8].contains size) || decide (sramSize < off + size) then { s with reply := .accessError }
  else match o with
    | .uncorr => { (s.incFld F.SRAM_UE_COUNT 1).raise 160 with reply := .accessError }
    | _ =>
      let s1 := if o = .single then s.incFld F.SRAM_CE_COUNT 1 else s
      let p : Place := .flat (sramBase + off)
      match v with
      | none => { s1 with reply := .value (BitVec.ofNat 64 (s1.readLE p size)) }
      | some w => { s1.writeBytes p (leBytes size w.toNat) with reply := .ok }

/-! ### Fabric aperture (R432) -/

/-- A supervisor core waits for the completion of an aperture access or a fence. -/
def supWaiting (s : State) (k : Nat) : Bool :=
  s.fab.txs.any fun t => t.owner == .aperture k || t.owner == .fence k

/-- The class of the aperture: 0b11 acts as 0b10. -/
def fabwinClass (s : State) (k : Nat) : Nat := min 2 (s.fld (F.SUP_FABWIN_CLASS k))

/-- A 64-bit load or store of the aperture becomes a READ or WRITE of LEN 8. -/
def apertureIssue (s : State) (k a : Nat) (v : Option Word) : State :=
  if supWaiting s k then s
  else if a % 8 ≠ 0 then { s with reply := .accessError }
  else
    let node := s.fld (F.SUP_FABWIN_NODE k)
    match v with
    | none => s.issueTx (.aperture k) (fabwinClass s k) node opREAD 0 8 a []
    | some w => s.issueTx (.aperture k) (fabwinClass s k) node opWRITE 0 8 a (leBytes 8 w.toNat)

def apertureAccess (s : State) (k a : Nat) (v : Option Word) : State :=
  if supStopped s k then s else apertureIssue s k a v

/-- A write of SUP_FENCE sends a FENCE to the aperture's node in its class. -/
def supFence (s : State) (k : Nat) (v : Word) : State :=
  if v.getLsbD 0 = false ∨ supWaiting s k = true then s
  else (s.setFld (F.SUP_FENCE_FENCE k) 1).issueTx (.fence k) (fabwinClass s k) (s.fld (F.SUP_FABWIN_NODE k)) opFENCE 0 0 0 []

/-! ### Timers and software interrupts (R433, R453) -/

/-- SCLK cycles since the release from reset: eight in five ACLK cycles (Table 1.5). -/
def sclkNow (s : State) : Nat := s.now * 8 / 5
/-- SUP_MTIME as read: the register holds the difference to the count. -/
def mtime (s : State) (k : Nat) : Nat := ((s.reg (R.SUP_MTIME k)).toNat + sclkNow s) % 2 ^ 64
def mtimeDue (s : State) (k : Nat) : Bool := decide ((s.reg (R.SUP_MTIMECMP k)).toNat ≤ mtime s k)
def mtipSync (s : State) (k : Nat) : State := setSup s k { supOf s k with mtip := mtimeDue s k }

/-- MTIMER_EXPIRE: the timer has reached its compare value. -/
def mtimerExpire (s : State) (k : Nat) : State :=
  if mtimeDue s k then setSup s k { supOf s k with mtip := true } else s

/-- SUP_MSIP: a core that waits in the ROM clears the interrupt and jumps to its start address. -/
def msipWrite (s : State) (k : Nat) (v : Word) : State :=
  let s1 := s.setFld (F.SUP_MSIP_MSIP k) (getBits v 0 0)
  if k ≠ 0 ∧ (supOf s k).inRom = true ∧ getBits v 0 0 = 1 ∧ supStopped s k = false then
    let at8 := s1.readLE (.flat (sramBase + 0x7C0000 + 8 * k)) 8
    setSup (s1.setFld (F.SUP_MSIP_MSIP k) 0) k { supOf s k with inRom := false, start := some at8 }
  else s1

/-- A 64-bit write of a private register of supervisor k (Table 17.6). -/
def supWrite (s : State) (k off : Nat) (v : Word) : State :=
  let s0 := { s with reply := .ok }
  if off = 0x000 then
    mtipSync (s0.setReg (R.SUP_MTIME k) (BitVec.ofNat 64 (v.toNat + (2 ^ 64 - sclkNow s % 2 ^ 64)))) k
  else if off = 0x008 then mtipSync (s0.setReg (R.SUP_MTIMECMP k) v) k
  else if off = 0x010 then msipWrite s0 k v
  else if off = 0x028 then supFence s0 k v
  else s0.writeByType (R.SUP_MTIME k + off) .w64 v

/-- A private register as read. -/
def supView (s : State) (k off : Nat) : Word :=
  if off = 0 then BitVec.ofNat 64 (mtime s k) else s.reg (R.SUP_MTIME k + off)

/-! ### Event sources (R434, R435) -/

/-- Sources that some block drives (Tables 17.2, 18.10 and 19.14). -/
def sourceDriven (i : Nat) : Bool :=
  decide (i < 121) || (decide (128 ≤ i) && decide (i < 134)) || (decide (144 ≤ i) && decide (i < 151)) || i == 152 ||
    (decide (160 ≤ i) && decide (i < 170)) || decide (192 ≤ i)

/-- A software trigger (R435); source 192 is the request of the plan loader (R210). -/
def swTrigger (s : State) (i : Nat) : State :=
  if i < 192 then s
  else
    let s1 := s.raise i
    if i = 192 then { s1 with ldr := { s1.ldr with latched := true } } else s1

/-- EVENT_PULSE of one source. -/
def eventPulse (s : State) (i : Nat) : State :=
  if sourceDriven i then (if 192 ≤ i then swTrigger s i else s.raise i) else s

/-- EVC_SWSET: a write that reaches bits 8:0 raises the source they name. -/
def swsetWrite (s : State) (sz : AccSz) (v : Word) : State :=
  match sz with
  | .hi => s
  | _ => swTrigger s (getBits v 8 0)

/-- EVENT_ASSIGN: a level source follows RAW, and a pending source is assigned (R436, R438). -/
def eventAssign (s : State) (i : Nat) : State := (s.levelSync i).assignSource i

/-- The group of a priority (R437). -/
def groupOf (s : State) (prio : Nat) : Nat := prio >>> min 8 (s.fld F.EVC_CTRL_GROUP_SPLIT)

/-- Source i is a candidate for target t (R439). -/
def candidate (s : State) (t i : Nat) : Bool :=
  let prio := s.fld (F.SRC_CFG_PRIO i)
  s.flag (pendFld i) && s.flag (F.SRC_CFG_EN i) && decide (1 ≤ prio) && decide (s.fld (F.TGT_CTRL_THRESHOLD t) < prio) &&
    s.assignedTo i == t + 1 && !(s.flag (inservFld i)) && decide ((s.tgtStack t).length < 8) &&
    (match s.tgtStack t with
      | [] => true
      | top :: _ => decide (top.2 < groupOf s prio))

/-- The better of two candidates: a higher priority (the group and then the sub-priority), then the lower ID. -/
def betterSource (s : State) (best : Option Nat) (i : Nat) : Option Nat :=
  match best with
  | none => some i
  | some b => if s.fld (F.SRC_CFG_PRIO b) < s.fld (F.SRC_CFG_PRIO i) then some i else some b

/-- The best candidate of a target: highest group, then highest sub-priority, then lowest ID. -/
def bestSource (s : State) (t : Nat) : Option Nat :=
  ((List.range 512).filter (candidate s t)).foldl (betterSource s) none

def setStack (s : State) (t : Nat) (l : List (Nat × Nat)) : State :=
  { s with evc := { s.evc with stk := put (fun _ => []) s.evc.stk t l } }

/-- TGT_CLAIM: the claimed source leaves PEND, enters service and is pushed on the stack. -/
def tgtClaim (s : State) (t : Nat) : Option Nat × State :=
  match bestSource s t with
  | none => (none, s)
  | some i =>
    let s1 := (s.setFld (pendFld i) 0).setFld (inservFld i) 1
    (some i, (setStack s1 t ((i, groupOf s (s.fld (F.SRC_CFG_PRIO i))) :: s.tgtStack t)).assignSource i)

/-- A read of TGT_CLAIM: the best candidate, or 0x3FF. The upper half of the register is reserved and claims nothing. -/
def tgtClaimRead (s : State) (t : Nat) (sz : AccSz) : State :=
  match sz with
  | .hi => { s with reply := .value 0#64 }
  | _ =>
    let r := tgtClaim s t
    { r.2 with reply := .value (BitVec.ofNat 64 (r.1.getD 0x3FF)) }

/-- TGT_COMPLETE of source x at target t (R440). -/
def tgtComplete (s : State) (t x : Nat) : State :=
  match s.tgtStack t with
  | (i, _) :: rest =>
    if i = x then eventAssign ((setStack s t rest).setFld (inservFld i) 0) i
    else s.setFld (F.TGT_STATUS_COMP_ERR t) 1
  | [] => s.setFld (F.TGT_STATUS_COMP_ERR t) 1

def tgtCompleteWrite (s : State) (t : Nat) (sz : AccSz) (v : Word) : State :=
  match sz with
  | .hi => s
  | _ => tgtComplete s t (getBits v 8 0)

/-- TGT_STATUS as read: line, depth and top of the stack are views. -/
def tgtStatusView (s : State) (t : Nat) (raw : Word) : Word :=
  let top := match s.tgtStack t with | x :: _ => x | [] => (0, 0)
  setBits (setBits (setBits (setBits raw 28 28 (b2n (bestSource s t).isSome)) 27 24 (s.tgtStack t).length) 16 8 top.1) 7 0 top.2

/-- Sources of a word re-evaluated after a write of PEND or RAW. -/
def evcWordSync (s : State) (w : Nat) : State :=
  (List.range 64).foldl (fun st j => eventAssign st (64 * w + j)) s

/-- A write of an event controller register at an offset of its block (Table 17.9). -/
def evcWrite (s : State) (off : Nat) (sz : AccSz) (v : Word) : State :=
  let a := R.EVC_CTRL + off
  if off = 0x0008 then swsetWrite s sz v
  else if 0x1000 ≤ off ∧ off < 0x2000 then
    let s1 := s.writeByType a sz v
    let i := (off - 0x1000) / 8
    if s1.reg a = s.reg a then s1 else s1.levelSync i
  else if (0x2000 ≤ off ∧ off < 0x2040) ∨ (0x2100 ≤ off ∧ off < 0x2140) then
    evcWordSync (s.writeByType a sz v) (off % 0x100 / 8)
  else if 0x3000 ≤ off ∧ off < 0x3400 ∧ off % 0x100 = 0x10 then tgtCompleteWrite s ((off - 0x3000) / 0x100) sz v
  else if 0x3000 ≤ off ∧ off < 0x3400 ∧ off % 0x100 = 0x08 then s
  else s.writeByType a sz v

end Sys2Proof.Machine
end

