-- ==== Sys2Proof/Machine/Dike.lean ====
section
/-! DEFINITION. Reset and power (R422 to R426, R445), the dike (R447, R448, R458 to R461, R470 to R473) and the boot ROM
(R449 to R457). -/

namespace Sys2Proof.Machine

def setMgt (s : State) (m : Mgt) : State := { s with out := { s.out with mgt := m } }
def setDike (s : State) (d : Dike) : State := { s with dike := d }

/-- Registers written word by word, each with the little-endian bytes of its word. -/
def setWords (s : State) (a : Nat) (bs : List Byte) : Nat → State
  | 0 => s
  | k + 1 => (setWords s a bs k).setReg (a + 8 * k) (BitVec.ofNat 64 (leNat ((bs.drop (8 * k)).take 8)))

def getWords (s : State) (a k : Nat) : List Byte := (List.range k).flatMap fun i => leBytes 8 (s.reg (a + 8 * i)).toNat

def dikeGen (s : State) : Nat := s.fld F.SEC_STATUS_GEN

/-! ### Release from reset -/

/-- A field keeps through a release from reset. -/
def keepFld (old : State) (s : State) (f : Fld) : State := s.setFld f (old.fld f)

/-- The fields that a release from reset leaves unchanged: those of Reset entry Kept, Fuse and Record, and the causes
that the power monitor shows. -/
def keptFlds : List Fld :=
  (List.range 16).flatMap (fun c => [F.MC_STATUS_RESERVE c, F.RETIRE_STATUS_STATE c, F.RETIRE_STATUS_SUBCH c]) ++
    [⟨R.SPILL_BALANCE, 63, 0⟩, ⟨R.BOOT_REC, 63, 0⟩, ⟨R.LMS_NEXT, 63, 0⟩, ⟨R.SVN_MIN, 63, 0⟩, F.SEC_STATUS_GEN,
     F.SEC_STATUS_POLICY, F.SEC_STATUS_VREVOKE, F.PWR_STATUS_REFCLK_LOSS, F.PWR_STATUS_INLET_HOT, F.PWR_STATUS_JUNCTION_HOT,
     F.PWR_STATUS_SUPPLY, F.PWR_STATUS_PWR_GOOD]

/-- Memory that a package reset leaves unchanged: LPDDR 6, flash and the boot flash (R445). -/
def keptAddr (a : Nat) : Bool :=
  decide (a < lpddrEnd) || (decide (flashBase ≤ a) && decide (a < flashEnd)) ||
    (decide (bootFlashBase ≤ a) && decide (a < bootFlashBase + bootFlashSize))

/-- The device keys derived at a release from reset (R458). -/
def deriveKeys (s : State) : State :=
  if dikeGen s = 16 then s else setWords (s.setFld F.SEC_STATUS_KEYS_VALID 1) (R.IDK_PUB 0) (Config.idkPub (dikeGen s)) 12

/-- The package is released from reset, with the causes of RST_CAUSE that apply (R445, R453, R458, R497). -/
def pkgReset (s : State) (causes : Nat) : State :=
  let m := s.out.mgt
  let s0 : State :=
    { State.reset with
      fresh := s.fresh, pending := s.pending, mem := s.mem.filter fun c => keptAddr c.1,
      mc := { Mc.reset with remap := s.mc.remap, used := s.mc.used, poison := s.mc.poison },
      fl := { Flash.reset with bad := s.fl.bad, frac := s.fl.frac },
      out := { Outside.reset with mgt := { m with inReset := false, applied := false } },
      dike := { Dike.reset with owner := s.dike.owner } }
  let s1 := keptFlds.foldl (keepFld s) s0
  let s2 := s1.setReg R.RST_CAUSE (BitVec.ofNat 64 (causes + 8 * b2n (safeActive s)))
  let s3 := match m.spareSel with
    | some k => s2.setFld (F.SUP_STATUS_SPARE k) 1
    | none => s2
  let s4 := upTo 4 (fun st k => st.setFld (F.SUP_STATUS_RUNNING k) 1) s3
  deriveKeys ((s4.setFld F.CLK_STATUS_REF_OK (b2n m.refclk)).setFld F.CLK_STATUS_PLL_LOCK (b2n m.refclk))

def causePOWER : Nat := 1
def causePIN : Nat := 2
def causeSOFT : Nat := 4

/-- PKG_RST: a write of RST_CTRL. -/
def rstCtrlWrite (s : State) (sz : AccSz) (v : Word) : State :=
  let s1 := s.writeByType R.RST_CTRL sz v
  if s1.flag F.RST_CTRL_PKG_RST then pkgReset s1 causeSOFT else s1

/-! ### Power and the module's inputs -/

/-- Both inputs are in range: every rail is good and the supply cause ends (R425). -/
def inputsGood (s : State) : State :=
  if s.out.mgt.standby && s.out.mgt.main then (s.setFld F.PWR_STATUS_PWR_GOOD 1).setFld F.PWR_STATUS_SUPPLY 0 else s

/-- STANDBY_POWER_ON: the management endpoint starts without an address, and the boot record is zero with PREF slot A
(R455). -/
def standbyPowerOn (s : State) : State :=
  let m := s.out.mgt
  if m.standby then s
  else
    inputsGood ((setMgt s { m with standby := true, addr := none, eid := none, update := none }).setReg R.BOOT_REC 0x200#64)

/-- MAIN_POWER_ON: a package that was without power holds nothing and waits for its release. -/
def mainPowerOn (s : State) : State :=
  let m := s.out.mgt
  if m.main then inputsGood s
  else
    inputsGood { setMgt s { m with main := true, applied := true, inReset := true } with
      mem := s.mem.filter fun c => decide (lpddrEnd ≤ c.1) && keptAddr c.1 }

/-- MOD_RESET_ASSERT. -/
def modResetAssert (s : State) : State := setMgt s { s.out.mgt with resetN := false, inReset := true }

/-- The package leaves reset if both inputs and the reference are present. -/
def release (s : State) : State :=
  let m := s.out.mgt
  if m.inReset && m.resetN && m.refclk && m.main && m.standby then pkgReset s (causePIN * b2n (!m.applied) + causePOWER * b2n m.applied) else s

/-- MOD_RESET_RELEASE: the rising edge. -/
def modResetRelease (s : State) : State := release (setMgt s { s.out.mgt with resetN := true })

/-- A dangerous failure of a class whose reaction is the safe state, on a package that is not in reset. -/
def enterIfUp (s : State) (cause : Nat) : State := if s.out.mgt.inReset then s else safeEnter s cause srcPower

/-- SUPPLY_FAIL of the main input, or of the standby input. -/
def supplyFail (s : State) (standby : Bool) : State :=
  let m := s.out.mgt
  let s1 := setMgt s (if standby then { m with standby := false } else { m with main := false })
  enterIfUp (pwrCause (s1.setFld F.PWR_STATUS_PWR_GOOD 0) F.PWR_STATUS_SUPPLY true) causeSupply

/-- REFCLK_LOSS (R445). -/
def refclkLoss (s : State) : State :=
  let s1 := setMgt s { s.out.mgt with refclk := false }
  let s2 := (s1.setFld F.CLK_STATUS_REF_OK 0).setFld F.CLK_STATUS_PLL_LOCK 0
  enterIfUp (pwrCause s2 F.PWR_STATUS_REFCLK_LOSS true) causeClock

/-- REFCLK_RETURN; a package that waited in reset for the reference is released. -/
def refclkReturn (s : State) : State :=
  let s1 := setMgt s { s.out.mgt with refclk := true }
  let s2 := (s1.setFld F.CLK_STATUS_REF_OK 1).setFld F.CLK_STATUS_PLL_LOCK 1
  release (pwrCause s2 F.PWR_STATUS_REFCLK_LOSS false)

def junctionWarning (s : State) (hot : Bool) : State := pwrCause s F.PWR_STATUS_JUNCTION_HOT hot
def inletHot (s : State) (hot : Bool) : State := pwrCause s F.PWR_STATUS_INLET_HOT hot
/-- OVER_TEMPERATURE (R474). -/
def overTemperature (s : State) : State := safeEnter s causeTemp srcPower

/-! ### Erasure and alarms (R459, R470) -/

/-- An erasure begins, or a request joins the one in progress. -/
def eraseBegin (s : State) (unlock reset : Bool) : State :=
  setDike (s.setFld F.SEC_STATUS_ERASING 1)
    { s.dike with unlocking := s.dike.unlocking || unlock, thenReset := s.dike.thenReset || reset }

/-- An alarm (Table 18.10): its bit, the boot record, its source, its action. -/
def alarm (s : State) (i : Nat) : State :=
  let s1 := s.orFld F.DIKE_ALARM_ALARM (2 ^ i)
  let last := if s.dike.alarmAt = some s.now then min (i + 1) (s.fld F.BOOT_REC_LAST_ALARM) else i + 1
  let s2 := setDike ((s1.setFld F.BOOT_REC_LAST_ALARM last).raise (144 + i))
    { s1.dike with alarmAt := some s.now, cmdAlarm := s1.dike.cmdAlarm || s1.flag F.SEC_CMD_GO }
  match getBits (s2.reg R.DIKE_ACTION) (2 * i + 1) (2 * i) with
  | 0 => s2
  | 1 => if s2.flag F.SEC_STATUS_ERASING then setDike s2 { s2.dike with thenReset := true } else pkgReset s2 causeSOFT
  | _ => eraseBegin s2 false true

/-- ERASE_COMPLETE: the next GEN bit is blown, the key store is zero, source 150 is raised; then the unlock that waited
opens debug and answers OK, or the reset follows (R459, R469, Table 18.11). -/
def eraseComplete (s : State) : State :=
  if !(s.flag F.SEC_STATUS_ERASING) then s
  else
    let d := s.dike
    let s1 := ((s.setFld F.SEC_STATUS_GEN (min 16 (dikeGen s + 1))).setFld F.SEC_STATUS_KEYS_VALID 0).setFld F.SEC_STATUS_ERASING 0
    let s2 := setDike ((setWords s1 (R.IDK_PUB 0) [] 12).raise 150) { d with unlocking := false, thenReset := false }
    if d.thenReset then pkgReset s2 causeSOFT
    else if d.unlocking then
      let s3 := (s2.setFld F.SEC_STATUS_DEBUG_OPEN 1).setFld F.BOOT_REC_AUTH_FAILS 0
      { s3 with reply := .bytes ((leBytes 4 (s.fld F.SEC_IANA_NUMBER)).reverse ++ [0x83#8, 0x00#8]) }
    else s2

/-! ### Dike commands (R461, R472) -/

def fuseLocked (s : State) : Bool := s.flag F.SEC_LOCK_FUSE_LOCK
def policyOf (s : State) : Nat := s.fld F.SEC_STATUS_POLICY
/-- Vendor slots that would stay unrevoked. -/
def unrevoked (s : State) : List Nat := (List.range 4).filter fun i => !(s.fld F.SEC_STATUS_VREVOKE).testBit i

/-- A fuse command is refused (Table 18.12, R461). -/
def fuseRefused (s : State) (op arg : Nat) : Bool :=
  fuseLocked s ||
    (if op = 2 then policyOf s != 0 || !(arg == 1 || arg == 3)
     else if op = 3 then policyOf s != 1
     else if op = 4 then
       decide (4 ≤ arg) || arg == s.fld F.SEC_STATUS_RUN_KEY || unrevoked s == [arg]
     else decide (64 < arg) || decide (s.dike.svn < arg))

/-- The fuses of a command are blown (R461). -/
def fuseBlow (s : State) (op arg : Nat) : State :=
  if op = 2 then setDike (s.setFld F.SEC_STATUS_POLICY arg) { s.dike with owner := getWords s (R.SEC_DATA 0) 6 }
  else if op = 3 then s.setFld F.SEC_STATUS_POLICY 3
  else if op = 4 then s.orFld F.SEC_STATUS_VREVOKE (2 ^ arg)
  else s.setFld F.SVN_MIN_MIN (max arg (s.fld F.SVN_MIN_MIN))

/-- A command ends with a result. -/
def secEnd (s : State) (result : Nat) : State := (s.setFld F.SEC_CMD_RESULT result).setFld F.SEC_CMD_GO 0

/-- The slot that an update writes: the A or B slot that does not run, or the one that is not PREF (R457). -/
def updateSlot (s : State) : Nat :=
  match s.fld F.SEC_STATUS_RUN_SLOT with
  | 1 => 2
  | 2 => 1
  | _ => if s.fld F.BOOT_REC_PREF = 1 then 2 else 1

/-- CONFIRM_BOOT (R456). -/
def confirmBoot (s : State) : State :=
  let s1 := ((s.setFld F.BOOT_REC_INFLIGHT 0).setFld F.BOOT_REC_STEP 0).setFld F.BOOT_REC_STATE 5
  let run := s.fld F.SEC_STATUS_RUN_SLOT
  if run = 1 ∨ run = 2 then s1.setFld F.BOOT_REC_PREF run else s1

/-- SET_FLASH_WIN (R449): one window, or none. -/
def setFlashWin (s : State) (arg : Nat) : State :=
  if 3 < arg then s else setDike s { s.dike with win := arg, winSlot := if arg = 1 then updateSlot s else 0 }

/-- A dike command starts; one that programs fuses runs until SEC_CMD_END. -/
def secCommand (s : State) (op arg : Nat) : State :=
  if op = 1 then secEnd (confirmBoot s) 1
  else if op = 6 then secEnd (setFlashWin s arg) 1
  else if op = 7 then secEnd (setDike s { s.dike with plan := getWords s (R.SEC_DATA 0) 6 }) 1
  else if 2 ≤ op ∧ op ≤ 5 then
    (if fuseRefused s op arg then secEnd s 2
     else setDike ((s.setFld F.SEC_CMD_RESULT 3).setFld F.SEC_CMD_GO 1) { s.dike with cmdAlarm := false })
  else secEnd s 2

/-- A write of SEC_CMD; a GO written while a command runs is ignored. -/
def secCmdWrite (s : State) (sz : AccSz) (v : Word) : State :=
  if s.flag F.SEC_CMD_GO then s
  else
    let s1 := s.writeByType R.SEC_CMD sz v
    if s1.flag F.SEC_CMD_GO then secCommand s1 (s1.fld F.SEC_CMD_OP) (s1.fld F.SEC_CMD_ARG) else s1

/-- The command of one row, as a write of SEC_CMD with OP, ARG and GO. -/
def secRow (s : State) (op arg : Nat) : State :=
  secCmdWrite s .w64 (BitVec.ofNat 64 (2 ^ 40 * op + 2 ^ 8 * (arg % 2 ^ 32) + 1))

/-- SEC_CMD_END. An alarm during the command ends it refused; took says whether the fuse cells took (Table 18.11). -/
def secCmdEnd (s : State) (took : Bool) : State :=
  if !(s.flag F.SEC_CMD_GO) then s
  else
    let op := s.fld F.SEC_CMD_OP
    let arg := s.fld F.SEC_CMD_ARG
    if s.dike.cmdAlarm then secEnd (if took then fuseBlow s op arg else s) 2 else secEnd (fuseBlow s op arg) 1

/-- A write of DIKE_ACTION: ignored while ACTION_LOCK is 1 (R470). -/
def dikeActionWrite (s : State) (sz : AccSz) (v : Word) : State :=
  if s.flag F.SEC_LOCK_ACTION_LOCK then s else s.writeByType R.DIKE_ACTION sz v

/-! ### The boot ROM (R450 to R456) -/

/-- Flash offset and size of a slot: 1 A, 2 B, 3 recovery (Table 18.2). -/
def slotBase (slot : Nat) : Nat := match slot with | 1 => 0 | 2 => 0x1800000 | _ => 0x3000000
def slotSize (slot : Nat) : Nat := if slot = 3 then 0x800000 else 0x1800000

def bytesAt (bs : List Byte) (o k : Nat) : List Byte := (bs.drop o).take k
def numAt (bs : List Byte) (o k : Nat) : Nat := leNat (bytesAt bs o k)
def allZero (bs : List Byte) : Bool := bs.all fun b => b == 0#8

/-- "RDX-PX64-1T5" and "B0" as little-endian numbers. -/
def orderCode : Nat := 0x3554312D343658502D584452
def stepCode : Nat := 0x3042

/-- The header of an image breaks Table 18.5, code 0x02. -/
def hdrBad (h : List Byte) (slot : Nat) : Bool :=
  numAt h 0 8 != 0x31544F4F42584452 || numAt h 8 2 != 0x0100 || numAt h 10 2 != 4096 || numAt h 16 12 != orderCode ||
    numAt h 28 2 != stepCode || !(allZero (bytesAt h 12 4)) || !(allZero (bytesAt h 30 2)) || !(allZero (bytesAt h 3180 916)) ||
    decide (slotSize slot < 4096 + numAt h 40 8) || decide (0x7C0000 < numAt h 48 4 + numAt h 40 8) ||
    decide (numAt h 40 8 ≤ numAt h 52 4)

/-- RUN_KEY of the key hash of 152 bytes of keys, where it is accepted (Table 18.4). -/
def keyAccepted (s : State) (keys : List Byte) (slot : Nat) : Option Nat :=
  let hash := sha384 keys
  let vendor := (unrevoked s).find? fun i => leNat (Config.vkey i) == hash
  let owner := if leNat s.dike.owner = hash then some 4 else none
  if slot = 3 ∨ policyOf s = 0 then vendor
  else if policyOf s = 1 then (match vendor with | some i => some i | none => owner)
  else owner

/-- Both signatures over bytes 0 to 255, with the keys at 104 and the signatures at 256 (R450): the code of the first
that fails. -/
def imageSigFail (h : List Byte) : Option Nat :=
  let msg := bytesAt h 0 256
  if !(Config.ecdsaVerify (bytesAt h 104 96) msg (bytesAt h 256 96)) then some 5
  else if !(Config.lmsVerify (bytesAt h 200 56) msg (bytesAt h 352 2828)) then some 6
  else none

/-- The checks of one attempt in code order (Table 18.5): the code of the first that fails, or the accepted RUN_KEY, and
the state with the body copied into SRAM where it was. -/
def attemptChecks (s : State) (slot : Nat) (readable : Bool) : (Nat ⊕ Nat) × State :=
  let at' := bootFlashBase + slotBase slot
  let h := s.readBytes (.flat at') 4096
  if !readable then (.inl 1, s)
  else if hdrBad h slot then (.inl 2, s)
  else match keyAccepted s (bytesAt h 104 152) slot with
    | none => (.inl 3, s)
    | some key =>
      let svn := numAt h 32 4
      if slot ≠ 3 ∧ (svn < s.fld F.SVN_MIN_MIN ∨ 64 < svn) then (.inl 4, s)
      else match imageSigFail h with
        | some c => (.inl c, s)
        | none =>
          let body := s.readBytes (.flat (at' + 4096)) (numAt h 40 8)
          let s1 := s.writeBytes (.flat (sramBase + numAt h 48 4)) body
          if sha384 body ≠ numAt h 56 48 then (.inl 7, s1) else (.inr key, s1)

/-- Cycles of the wait before the attempt with a STEP (R454). -/
def bootWait (step : Nat) : Nat := if step = 0 then 0 else min (2 ^ (step - 1)) 64 * 700000000

/-- The slot of the attempt with a STEP: PREF, the other of A and B, recovery. -/
def bootSlot (pref step : Nat) : Nat :=
  match step % 3 with
  | 0 => if pref = 2 then 2 else 1
  | 1 => if pref = 2 then 1 else 2
  | _ => 3

/-- The wait before the next attempt starts. -/
def bootWaitStart (s : State) : State :=
  let step := s.fld F.BOOT_REC_STEP
  let s1 := if step = 0 then s else s.setFld F.BOOT_REC_STATE 2
  setDike s1 { s1.dike with waitEnd := some (s.now + bootWait step) }

/-- ROM_START (R456). -/
def romStart (s : State) : State :=
  if s.dike.romStarted then s
  else
    let s1 := s.setFld F.BOOT_REC_STATE 1
    let s2 := if s1.flag F.BOOT_REC_INFLIGHT then
        ((s1.setFld F.BOOT_REC_CAUSE 8).setFld F.BOOT_REC_INFLIGHT 0).incFld F.BOOT_REC_STEP 1
      else s1
    bootWaitStart (setDike s2 { s2.dike with romStarted := true })

/-- BOOT_ATTEMPT, after its wait. readable says that the flash could be read. -/
def bootAttempt (s : State) (readable : Bool) : State :=
  match s.dike.waitEnd with
  | none => s
  | some t =>
    if s.dike.rom = false ∨ s.dike.romStarted = false ∨ s.now < t then s
    else
      let slot := bootSlot (s.fld F.BOOT_REC_PREF) (s.fld F.BOOT_REC_STEP)
      let s1 := (((s.incFld F.BOOT_REC_ATTEMPTS 1).setFld F.BOOT_REC_LAST_SLOT slot).setFld F.BOOT_REC_INFLIGHT 1).setFld
        F.BOOT_REC_STATE 3
      match attemptChecks s1 slot readable with
      | (.inl cause, s2) =>
        bootWaitStart (((s2.setFld F.BOOT_REC_CAUSE cause).setFld F.BOOT_REC_INFLIGHT 0).incFld F.BOOT_REC_STEP 1)
      | (.inr key, s2) =>
        let h := s2.readBytes (.flat (bootFlashBase + slotBase slot)) 4096
        let s3 := setWords s2 (R.IMG_DIGEST 0) (leBytes 48 (sha384 (bytesAt h 0 256))) 6
        let s4 := ((s3.setFld F.SEC_STATUS_RUN_SLOT slot).setFld F.SEC_STATUS_RUN_KEY key).setFld F.BOOT_REC_STATE 4
        setDike s4 { s4.dike with rom := false, waitEnd := none, svn := numAt h 32 4, entry := some (sramBase + numAt h 48 4 + numAt h 52 4) }

end Sys2Proof.Machine
end

