-- ==== Sys2Proof/Machine/RegOps.lean ====
section
/-! DEFINITION. Every control register read and written through one operation (R4 to R10, R221): the block that an address
lies in chooses the register's own rule. Work counters (R158, R159, R223, R224). -/

namespace Sys2Proof.Machine

/-! ### Work counters -/

/-- A claim from counter i: EPOCH and index; NEXT advances while it is below LIMIT (R158). -/
def claimTake (s : State) (i : Nat) : (Nat × Nat) × State :=
  let e := s.fld (F.CLAIM_STATE_EPOCH i)
  let x := s.fld (F.CLAIM_STATE_NEXT i)
  if x < s.fld (F.CLAIM_SET_LIMIT i) then ((e, x), s.setFld (F.CLAIM_STATE_NEXT i) (x + 1)) else ((e, 0xFFFFFFFF), s)

/-- The 64-bit pair of a claim. -/
def claimPair (p : Nat × Nat) : Nat := p.1 * 2 ^ 32 + p.2

/-- A software write of CLAIM_SET[i] (R223): the halves written, and a new epoch. -/
def claimSetWrite (s : State) (i : Nat) (sz : AccSz) (v : Word) : State :=
  let w := sz.merge (setBits (s.reg (R.CLAIM_SET i)) 31 0 (s.fld (F.CLAIM_STATE_NEXT i))) (v)
  let s1 := s.setFld (F.CLAIM_SET_LIMIT i) (getBits w 63 32)
  (s1.setFld (F.CLAIM_STATE_NEXT i) (getBits w 31 0)).setFld (F.CLAIM_STATE_EPOCH i)
    ((s.fld (F.CLAIM_STATE_EPOCH i) + 1) % 2 ^ 32)

/-! ### Control registers of engines (R442) -/

/-- A write of an engine's control register: its other fields by access type; ENABLE set or cleared acts through the
engine's own rule. -/
def ctrlWrite (s : State) (a : Nat) (sz : AccSz) (v : Word) (enable disable : State → State) : State :=
  match sz with
  | .hi => s.writeByType a sz v
  | _ =>
    let s1 := (s.writeByType a sz v).setEnable a (getBits (s.reg a) 0 0)
    if getBits v 0 0 = 1 then enable s1 else disable s1

/-- ENABLE of an engine without a rule of its own: it turns ON in the next cycle, and a self-test of it is abandoned. -/
def coreOnTest (s : State) (n : Nat) : State := coreEnable (stAbandon s n) n
def updEnable (s : State) (c : Nat) : State := (stAbandon s (64 + c)).engineEnable (R.UPD_CTRL c)
def attEnable (s : State) (q : Nat) : State := (stAbandon s (80 + q)).engineEnable (R.ATT_CTRL q)
def mcEnable (s : State) (c : Nat) : State := s.engineEnable (R.MC_CTRL c)
def ethEnable (s : State) (e : Nat) : State := s.engineEnable (R.ETH_CTRL e)
def cxlEnable (s : State) : State := s.engineEnable R.CXL_CTRL

/-! ### Writes -/

/-- Who writes a control register: a core with the bundle address and the syllable of its store, the supervisor or the
debug channel, a fabric request of a source node. -/
inductive Writer where
  | core (n pc syl : Nat)
  | sup
  | fab (src : Nat)
deriving DecidableEq, Repr

def accErrReply (s : State) : State := { s with reply := .accessError }

/-- Every core is OFF. -/
def coresOff (s : State) : Bool := (List.range 64).all fun n => coreState s n == 0

/-- A write of a register in the control block of core n at an offset. -/
def coreWrite (s : State) (w : Writer) (n off : Nat) (sz : AccSz) (v : Word) : State :=
  let a := coreBlock n + off
  if off < 0x200 then seqRegWrite s n (.sreg (Fin.ofNat 64 (off / 8))) sz v
  else if off = 0x200 then seqRegWrite s n .pred sz v
  else if 0x210 ≤ off ∧ off < 0x230 then seqRegWrite s n (.kreg (Fin.ofNat 4 ((off - 0x210) / 8))) sz v
  else if 0x400 ≤ off ∧ off < 0x800 then
    seqRegWrite s n (.dreg (Fin.ofNat 32 ((off - 0x400) / 0x20)) (Fin.ofNat 4 (off % 0x20 / 8))) sz v
  else if off = 0x1000 then ctrlWrite s a sz v (fun st => coreOnTest st n) (fun st => coreDisable st n)
  else if off = 0x1008 then seqStartWrite s n sz v
  else if off = 0x1068 then imemPtrWrite s n sz v
  else if off = 0x1070 then imemDataWrite s n sz v
  else if 0x1100 ≤ off ∧ off < 0x1180 then compWrite s n ((off - 0x1100) / 8) s.now sz v
  else if 0x2000 ≤ off ∧ off < 0x3000 then windowWrite s n ((off - 0x2000) / 0x10) (off % 0x10 == 8) sz v
  else if off = 0x4010 ∨ off = 0x4018 then lichenWrite s n false ((off - 0x4010) / 8) sz v
  else if off = 0x4020 ∨ off = 0x4028 then lichenWrite s n true ((off - 0x4020) / 8) sz v
  else if off = 0x4100 then srStateWrite s n sz v
  else if off = 0x4208 then accRemoteWrite s n sz v
  else if 0x4440 ≤ off ∧ off < 0x4540 then mregWrite s n ((off - 0x4440) / 0x20) (off % 0x20 / 8) sz v
  else if off = 0x4548 then vregDataWrite s n sz v
  else if off = 0x5400 then
    match w, sz with
    | .core m pc y, .w64 => if m = n then jrnMark s n pc y v else s
    | _, _ => s
  else s.writeByType a sz v

/-- A write of a register of port p. -/
def portWrite (s : State) (p off : Nat) (sz : AccSz) (v : Word) : State :=
  let a := portBlock p + off
  if off = 0x00 then ctrlWrite s a sz v (fun st => portEnable st p) (fun st => portDisable st p)
  else if off = 0x10 then
    let s1 := s.writeByType a sz v
    s1.setReg a (s1.reg a &&& s1.reg R.FAB_VER)
  else if off = 0x18 then laneSpareRow s p sz v
  else s.writeByType a sz v

/-- A write of a register of memory controller or update unit c. -/
def mcRegWrite (s : State) (c off : Nat) (sz : AccSz) (v : Word) : State :=
  let a := R.MC_CTRL c + off
  if off = 0x00 then ctrlWrite s a sz v (fun st => mcEnable st c) (fun st => mcDisable st c)
  else if off = 0x50 then spareCmdWrite s c sz v
  else if off = 0x60 then retireCmdWrite s c sz v
  else if off = 0x8000 then ctrlWrite s a sz v (fun st => updEnable st c) (fun st => updDisable st c)
  else if off = 0x8008 then updRingWrite s c sz v
  else if off = 0x8010 then updPtrWrite s c sz v
  else if off = 0x8018 then (match sz with | .hi => s | _ => (updDoor s c (getBits v 31 0)).2)
  else s.writeByType a sz v

/-- A write of a register of the flash controller. -/
def flashRegWrite (s : State) (off : Nat) (sz : AccSz) (v : Word) : State :=
  if off = 0x00 then ctrlWrite s R.FL_CTRL sz v flashEnable flashDisable
  else if off = 0x20 then spillRateWrite s sz v
  else if off = 0x28 then spillBurstWrite s sz v
  else s.writeByType (R.FL_CTRL + off) sz v

/-- A write of a register of attention engine q. -/
def attRegWrite (s : State) (q off : Nat) (sz : AccSz) (v : Word) : State :=
  let a := R.ATT_CTRL q + off
  if off = 0x00 then ctrlWrite s a sz v (fun st => attEnable st q) (fun st => attDisable st q)
  else if attConfigOff off then attConfigWrite s q off sz v
  else if off = 0x30 ∨ off = 0x48 then (match sz with | .hi => s | _ => (attDoor s q (getBits v 31 0) (off == 0x48)).2)
  else s.writeByType a sz v

/-- A write of a register of the interfaces block (chapter 16). -/
def outWrite (s : State) (off : Nat) (sz : AccSz) (v : Word) : State :=
  let a := R.ETH_CTRL 0 + off
  if off < 0x2000 then
    let e := off / 0x1000
    if off % 0x1000 = 0 then ctrlWrite s a sz v (fun st => ethEnable st e) (fun st => ethDisable st e) else s.writeByType a sz v
  else if off < 0x3000 then
    let t := (off - 0x2000) / 0x40
    let o := off % 0x40
    if o = 0 then ingCtrlWrite s t sz v
    else if o = 0x08 ∨ o = 0x10 ∨ o = 0x18 ∨ o = 0x20 then ingConfigWrite s t o sz v
    else s.writeByType a sz v
  else if off = 0x4000 then ctrlWrite s a sz v cxlEnable cxlDisable
  else if off = 0x4010 then cxlWinWrite s false sz v
  else if off = 0x4018 then cxlWinWrite s true sz v
  else s.writeByType a sz v

/-- The pair registers accept the supervisor, and fabric requests of PARTNER (R491). -/
def pairMay (s : State) (w : Writer) : Bool :=
  match w with
  | .sup => true
  | .fab src => src == s.fld F.PAIR_CTRL_PARTNER
  | .core _ _ _ => false

/-- A write of PAIR_RECV, PAIR_ACK, PAIR_HB or PAIR_PEER (R490 to R492). -/
def pairWrite (s : State) (w : Writer) (off : Nat) (sz : AccSz) (v : Word) : State :=
  if !(pairMay s w) then accErrReply s
  else
    let x := sz.merge (s.reg (R.SAFE_STATUS + off)) v
    if off = 0x120 then pairRecv s x else if off = 0x128 then pairAck s x else if off = 0x130 then pairHb s x else pairPeer s x

/-- A write of a journal or pair configuration register: ignored while any core is not OFF; the bases read bits 5:0 as
zero (R504). -/
def jrnConfigWrite (s : State) (off : Nat) (sz : AccSz) (v : Word) : State :=
  let a := R.SAFE_STATUS + off
  if !(coresOff s) then s
  else
    let s1 := s.writeByType a sz v
    if off = 0x48 ∨ off = 0x50 then s1.setReg a (setBits (s1.reg a) 5 0 0) else s1

/-- A write of a register of the maintenance block (chapter 19). -/
def maintWrite (s : State) (w : Writer) (off : Nat) (sz : AccSz) (v : Word) : State :=
  if off = 0x008 then safeCtrlWrite s sz v
  else if off = 0x040 ∨ off = 0x048 ∨ off = 0x050 ∨ off = 0x100 then jrnConfigWrite s off sz v
  else if off = 0x058 then jrnCmdWrite s sz v
  else if 0x120 ≤ off ∧ off < 0x140 then pairWrite s w off sz v
  else if off = 0x200 then arbCkptWrite s sz v
  else if 0x400 ≤ off ∧ off < 0x440 then coreSpareWrite s ((off - 0x400) / 8) sz v
  else if off = 0x440 then supSpareWrite s sz v
  else s.writeByType (R.SAFE_STATUS + off) sz v

/-- A write of a register of the dike. -/
def dikeWrite (s : State) (off : Nat) (sz : AccSz) (v : Word) : State :=
  if off = 0x008 then secCmdWrite s sz v
  else if off = 0x048 then dikeActionWrite s sz v
  else s.writeByType (R.SEC_STATUS + off) sz v

/-- A software write of a control register at its address. The reply says whether the register's own rule answered with
the access error. -/
def regWrite (s0 : State) (w : Writer) (a : Nat) (sz : AccSz) (v : Word) : State :=
  let s := { s0 with reply := .ok }
  if a < 0x7F0000100000 then s.writeByType a sz v
  else if a < 0x7F0000200000 then (if a = R.RST_CTRL then rstCtrlWrite s sz v else s.writeByType a sz v)
  else if a < 0x7F0000280000 then evcWrite s (a - R.EVC_CTRL) sz v
  else if a < 0x7F0000300000 then
    (if a < 0x7F0000280400 ∧ a % 0x10 = 8 then claimSetWrite s ((a - 0x7F0000280000) / 0x10) sz v else s.writeByType a sz v)
  else if a < 0x7F0000400000 then dikeWrite s (a - R.SEC_STATUS) sz v
  else if a < 0x7F0000580000 then portWrite s ((a - 0x7F0000400000) / 0x10000) (a % 0x10000) sz v
  else if a < 0x7F0000600000 then (if a = R.FAB_NODE then fabNodeWrite s sz v else s.writeByType a sz v)
  else if a < 0x7F0000700000 then mcRegWrite s ((a - 0x7F0000600000) / 0x10000) (a % 0x10000) sz v
  else if a < 0x7F0000800000 then s.writeByType a sz v
  else if a < 0x7F0000A00000 then flashRegWrite s (a - R.FL_CTRL) sz v
  else if a < 0x7F0000B00000 then attRegWrite s ((a - 0x7F0000A00000) / 0x10000) (a % 0x10000) sz v
  else if a < 0x7F0000C00000 then maintWrite s w (a - R.SAFE_STATUS) sz v
  else if a < 0x7F0001000000 then outWrite s (a - R.ETH_CTRL 0) sz v
  else if a < 0x7F0001400000 then coreWrite s w ((a - 0x7F0001000000) / 0x10000) (a % 0x10000) sz v
  else s

/-! ### Reads -/

/-- A register outside the core blocks as a read finds it: the stored value with its views. -/
def regView (s : State) (a : Nat) : Word :=
  let raw := s.reg a
  if a = R.EVC_SWSET then 0#64
  else if 0x7F0000203000 ≤ a ∧ a < 0x7F0000203400 then
    let t := (a - 0x7F0000203000) / 0x100
    if a % 0x100 = 0x10 then 0#64 else if a % 0x100 = 0x18 then tgtStatusView s t raw else raw
  else if 0x7F0000280000 ≤ a ∧ a < 0x7F0000280400 ∧ a % 0x10 = 8 then
    setBits raw 31 0 (s.fld (F.CLAIM_STATE_NEXT ((a - 0x7F0000280000) / 0x10)))
  else if 0x7F0000400000 ≤ a ∧ a < 0x7F0000580000 then portView s ((a - 0x7F0000400000) / 0x10000) (a % 0x10000) raw
  else if 0x7F0000600000 ≤ a ∧ a < 0x7F0000700000 then
    let c := (a - 0x7F0000600000) / 0x10000
    if a % 0x10000 = 0x8018 then 0#64 else mcView s c (a % 0x10000) raw
  else if 0x7F0000A00000 ≤ a ∧ a < 0x7F0000B00000 then attView s ((a - 0x7F0000A00000) / 0x10000) (a % 0x10000) raw
  else raw

/-- A software read of a control register: its data in the reply, and its RC fields cleared (R5, R6). -/
def regRead (s : State) (a : Nat) (sz : AccSz) : State :=
  if 0x7F0001000000 ≤ a ∧ a < 0x7F0001400000 then
    let r := coreRead s ((a - 0x7F0001000000) / 0x10000) (a % 0x10000) sz
    { r.2 with reply := .value r.1 }
  else if 0x7F0000203000 ≤ a ∧ a < 0x7F0000203400 ∧ a % 0x100 = 0x08 then tgtClaimRead s ((a - 0x7F0000203000) / 0x100) sz
  else { s.clearRead a sz with reply := .value (sz.get (regView s a)) }

/-- A supervisor access of a control register by address and size; any other size or alignment is not performed (R4). -/
def ctlWrite (s : State) (w : Writer) (addr size : Nat) (v : Word) : State :=
  match accOf addr size with
  | none => accErrReply s
  | some (a, sz) => regWrite s w a sz v
def ctlRead (s : State) (addr size : Nat) : State :=
  match accOf addr size with
  | none => accErrReply s
  | some (a, sz) => regRead s a sz

end Sys2Proof.Machine
end

