-- ==== Sys2Proof/Machine/Txn.lean ====
section
/-! DEFINITION. What a transaction does at its destination (R210, R221, R346, R387 to R395, R477): targets, memory and
register accesses, doorbells, fetch-add, claims, fences, reduce-add. -/

namespace Sys2Proof.Machine

/-! ### Targets (Table 15.9) -/

/-- A range inside one configured flash region. -/
def flashOk (a len : Nat) : Bool :=
  match flashRegion a, flashRegion (a + (len - 1)) with
  | some x, some y => x == y
  | _, _ => false

def lpddrOk (s : State) (a len : Nat) : Bool := inRange a len 0 (usableEnd s)
def stackOk (a len : Nat) : Bool := inRange a len stackBase stackEnd
/-- Stack memory, usable LPDDR 6, configured flash. -/
def memOk (s : State) (a len : Nat) : Bool := lpddrOk s a len || stackOk a len || flashOk a len
/-- A range that touches the loader mailbox (R209). -/
def inMailbox (a len : Nat) : Bool := decide (a < stackBase + 0x10000) && decide (stackBase < a + len)
/-- The 256-byte units of a range. -/
def rangeUnits (a len : Nat) : List Nat := (List.range ((a + (len - 1)) / 256 + 1 - a / 256)).map fun i => a / 256 + i

/-! ### Memory at the destination -/

/-- Units of a range whose controller is CLOSING: each is a refused request (R443). -/
def closingUnits (s : State) (a len : Nat) : List Nat :=
  if lpddrEnd ≤ a then [] else (rangeUnits a len).filter fun u => mcState s (mcOf u) == 2
def countClosing (s : State) (us : List Nat) : State := us.foldl (fun st u => st.incFld (F.MC_CLOSE_ABANDONED (mcOf u)) 1) s
def poisonUnits (s : State) (a len : Nat) : List Nat :=
  if lpddrEnd ≤ a then [] else (rangeUnits a len).filter s.poisoned

/-- A read of memory by a fabric request: status and bytes. A poisoned unit is reported on every read (R258, R259). -/
def memRead (s : State) (a len : Nat) : Nat × List Byte × State :=
  if flashBase ≤ a ∧ a < flashEnd then
    (if flashReadable s a len then (csOK, s.readBytes (.flat a) len, s)
     else (csUNCORR, [], if flState s = 2 then s.incFld F.FL_CLOSE_ABANDONED 1 else s))
  else
    let cs := closingUnits s a len
    let ps := poisonUnits s a len
    if cs ≠ [] then (csUNCORR, [], countClosing s cs)
    else if ps ≠ [] then (csUNCORR, [], ps.foldl (fun st u => mcUncorrRow st u 32 0) s)
    else (csOK, s.readBytes (.flat a) len, s)

/-- A write of memory by a fabric request; the guard never sees it (R395). -/
def memWrite (s : State) (a : Nat) (bs : List Byte) : Nat × State :=
  if s.fernTouched a bs.length then (csADDR_ERR, s)
  else if flashBase ≤ a ∧ a < flashEnd then flashWrite s a bs
  else
    let cs := closingUnits s a bs.length
    if cs ≠ [] then (csUNCORR, countClosing s cs)
    else (csOK, (s.writeBytes (.flat a) bs).wholeUnits a bs.length)

/-! ### The transactions -/

/-- Status, value and data of an applied transaction, with the state it leaves. -/
structure TxnOut where
  status : Nat
  value : Nat
  data : List Byte
  st : State

def TxnOut.fail (s : State) (status : Nat) : TxnOut := ⟨status, 0, [], s⟩
def TxnOut.ok (s : State) : TxnOut := ⟨csOK, 0, [], s⟩

/-- A control register access of 64 bits in management class. -/
def isCtl (t : TxnIn) : Bool := t.cls == 2 && t.len == 8 && t.addr % 8 == 0 && inRange t.addr 8 ctlBase ctlEnd
/-- LEN and ADDR of a READ or WRITE. -/
def rwSize (t : TxnIn) : Bool := decide (8 ≤ t.len) && decide (t.len ≤ 4096) && t.len % 8 == 0 && t.addr % 8 == 0

/-- The reply field keeps what it held: a fabric request answers through its completion. -/
def keepReply (old s : State) : State := { s with reply := old.reply }

def doREAD (s : State) (t : TxnIn) : TxnOut :=
  if isCtl t then
    let s1 := regRead s t.addr .w64
    match s1.reply with
    | .value v => ⟨csOK, 0, leBytes 8 v.toNat, keepReply s s1⟩
    | _ => .fail (keepReply s s1) csADDR_ERR
  else if rwSize t && memOk s t.addr t.len then
    let r := memRead s t.addr t.len
    ⟨r.1, 0, r.2.1, r.2.2⟩
  else .fail s csADDR_ERR

def doWRITE (s : State) (t : TxnIn) : TxnOut :=
  if t.data.length ≠ t.len then .fail s csADDR_ERR
  else if isCtl t then
    let s1 := regWrite s (.fab t.src) t.addr .w64 (BitVec.ofNat 64 (leNat t.data))
    ⟨if s1.reply = .accessError then csADDR_ERR else csOK, 0, [], keepReply s s1⟩
  else if rwSize t && memOk s t.addr t.len && (t.cls == 2 || !(inMailbox t.addr t.len)) then
    let r := memWrite s t.addr t.data
    .fail r.2 r.1
  else .fail s csADDR_ERR

/-- Bytes of a tile of a size code. -/
def tileLen (sz : Nat) : Nat := 32 * szBytes sz

def doGET (s : State) (t : TxnIn) : TxnOut :=
  let len := tileLen t.sz
  if decide (t.sz < 6) && t.addr % 64 == 0 && memOk s t.addr len then
    let r := memRead s t.addr len
    ⟨r.1, 0, r.2.1, r.2.2⟩
  else .fail s csADDR_ERR

def doPUT (s : State) (t : TxnIn) : TxnOut :=
  let len := tileLen t.sz
  if decide (t.sz < 6) && t.data.length == len && t.addr % 64 == 0 && memOk s t.addr len &&
      (t.cls == 2 || !(inMailbox t.addr len)) then
    let r := memWrite s t.addr t.data
    .fail r.2 r.1
  else .fail s csADDR_ERR

/-- FADD: one indivisible read-modify-write (R390). -/
def doFADD (s : State) (t : TxnIn) : TxnOut :=
  if t.addr % 8 == 0 && (lpddrOk s t.addr 8 || stackOk t.addr 8) && (t.cls == 2 || !(inMailbox t.addr 8)) &&
      !(s.fernTouched t.addr 8) then
    let r := memRead s t.addr 8
    if r.1 ≠ csOK then .fail r.2.2 r.1
    else
      let old := leNat r.2.1
      let w := memWrite r.2.2 t.addr (leBytes 8 ((old + leNat (t.data.take 8)) % 2 ^ 64))
      ⟨w.1, old, [], w.2⟩
  else .fail s csADDR_ERR

/-- The doorbells of R392. -/
inductive Doorbell where
  | comp (n c : Nat)
  | upd (c : Nat)
  | att (q : Nat) (commit : Bool)
  | swset
deriving DecidableEq, Repr

def doorbellAt (a : Nat) : Option Doorbell :=
  if a = R.EVC_SWSET then some .swset
  else if coreBlock 0 ≤ a ∧ a < coreBlock 64 then
    let off := (a - coreBlock 0) % 0x10000
    if 0x1100 ≤ off ∧ off < 0x1180 ∧ off % 8 = 0 then some (.comp ((a - coreBlock 0) / 0x10000) ((off - 0x1100) / 8)) else none
  else match (List.range 16).find? fun c => a == R.UPD_DOOR c || a == R.ATT_SDOOR c || a == R.ATT_CDOOR c with
    | some c => if a = R.UPD_DOOR c then some (.upd c) else some (.att c (a == R.ATT_CDOOR c))
    | none => none

def doMSG (s : State) (t : TxnIn) : TxnOut :=
  let k := leNat (t.data.take 4)
  let ring (r : Bool × State) : TxnOut := .fail r.2 (if r.1 then csOK else csRING_FULL)
  match doorbellAt t.addr with
  | none => .fail s csADDR_ERR
  | some (.comp n c) => .ok (compAdd s n c k)
  | some (.upd c) => ring (updDoor s c k)
  | some (.att q commit) => ring (attDoor s q k commit)
  | some .swset => if t.cls = 2 then .ok (swsetWrite s .lo (BitVec.ofNat 64 k)) else .fail s csADDR_ERR

/-- CLAIM at CLAIM_STATE[i] (R224). -/
def doCLAIM (s : State) (t : TxnIn) : TxnOut :=
  match (List.range 64).find? fun i => t.addr == R.CLAIM_STATE i with
  | none => .fail s csADDR_ERR
  | some i =>
    let r := claimTake s i
    ⟨csOK, claimPair r.1, [], r.2⟩

/-- A transaction other than RADD applied at this device. -/
def txnEffect (s : State) (t : TxnIn) : TxnOut :=
  if safeActive s && t.cls != 2 then .fail s csPORT_CLOSED
  else if t.op = opREAD then doREAD s t
  else if t.op = opWRITE then doWRITE s t
  else if t.op = opGET then doGET s t
  else if t.op = opPUT then doPUT s t
  else if t.op = opFADD then doFADD s t
  else if t.op = opMSG then doMSG s t
  else if t.op = opFENCE then .ok s
  else if t.op = opCLAIM then doCLAIM s t
  else .fail s csADDR_ERR

/-- A transaction is applied and its completion sent (R394). -/
def applyTxn (s : State) (t : TxnIn) : State :=
  let r := txnEffect s t
  replyTxn r.st t.port t.cls t.src t.tag t.op r.status r.value r.data

/-- A transaction arrives whole; behind a held reduce-add flit of its port and class it waits (R398). -/
def arriveTxn (s : State) (t : TxnIn) : State :=
  if classStopped s t.port t.cls then (if t.port = loopPort then s else holdWaiting s t.port (.txn t)) else applyTxn s t

/-- The loopback transaction as it arrives. -/
def TxReq.arrives (t : TxReq) (node : Nat) : TxnIn :=
  { port := loopPort, cls := t.cls, src := node, tag := t.id, op := t.op, sz := t.sz, len := t.len, addr := t.addr, data := t.data }

/-- The row of one transaction type: the next transaction of a class on the loopback path, if it has that type, or one
that came in on a port that is ACTIVE. -/
def txnRow (op : Nat) (a : Arr) (s : State) : State :=
  match a with
  | .loop cls =>
    (match loopHead s cls.val with
     | some t => if t.op = op then arriveTxn s (t.arrives (ownNode s)) else s
     | none => s)
  | .link p cls src tag sz len addr data =>
    if lstate s p.val = 4 then
      arriveTxn s { port := p.val, cls := cls.val, src := src.toNat, tag := tag.toNat, op := op, sz := sz.toNat, len := len.toNat,
                    addr := addr.toNat, data := data }
    else s

/-! ### Reduce-add arrivals -/

/-- A reduce-add flit arrives; in the safe state this device takes none of the planned or background class (R477). -/
def raddIn (s : State) (port : Nat) (f : RaddFlit) : State :=
  if safeActive s && f.cls != 2 && !(classStopped s port f.cls) then raddFlitDone s port f csPORT_CLOSED else raddArrive s port f

/-- The flits of a loopback reduce-add: 18 entries, then 20 in each further flit (R388). -/
def loopFlits (t : TxReq) : List RaddFlit :=
  let es := l96sOf 8192 t.data
  let mk (pos k : Nat) : RaddFlit :=
    { cls := t.cls, src := 0, tag := t.id, sz := t.sz, base := t.addr, pos := pos, entries := (es.drop pos).take k,
      last := decide (8192 ≤ pos + k) }
  mk 0 18 :: (List.range 409).map fun i => mk (18 + 20 * i) 20

/-- RADD: the next loopback reduce-add, or one flit of a packet from a port. -/
def raddRow (a : RaddArr) (s : State) : State :=
  match a with
  | .loop cls =>
    (match loopHead s cls.val with
     | some t =>
       if t.op = opRADD ∧ classStopped s loopPort cls.val = false then
         (loopFlits t).foldl (fun st f => raddIn st loopPort f) (s.mapTx t.id fun x => { x with st := .sent loopPort 0 0 false })
       else s
     | none => s)
  | .link p cls src tag sz base pos entries last =>
    if lstate s p.val = 4 then
      raddIn s p.val { cls := cls.val, src := src.toNat, tag := tag.toNat, sz := sz.toNat, base := base.toNat, pos := pos,
                       entries := entries, last := last }
    else s

/-- CLAIM_ARRIVAL: the changes of claim counters in one cycle, in the order of R224: the software write, the claims of
this device's cores, those that came over the fabric. -/
def claimArrival (s : State) (w : Option (Fin 64 × AccSz × Word)) (fs : List Arr) : State :=
  let isLoop (a : Arr) : Bool := match a with
    | .loop _ => true
    | .link .. => false
  let portOf (a : Arr) : Nat := match a with
    | .loop _ => 0
    | .link p .. => p.val
  let s1 := match w with
    | some (i, sz, v) => claimSetWrite s i.val sz v
    | none => s
  let s2 := (fs.filter isLoop).foldl (fun st a => txnRow opCLAIM a st) s1
  (List.range 24).foldl (fun st p => (fs.filter fun a => !(isLoop a) && portOf a == p).foldl (fun st a => txnRow opCLAIM a st) st) s2

/-! ### The supervisor and the debug channel on the local address map (R430, R467) -/

/-- A store of the supervisor or the debug channel to memory: the guard sees it, a fern region refuses it (R247, R346). -/
def mapMemWrite (s : State) (a : Nat) (bs : List Byte) : State :=
  if s.fernTouched a bs.length then { s with reply := .accessError }
  else if flashBase ≤ a ∧ a < flashEnd then
    let r := flashWrite s a bs
    { r.2 with reply := if r.1 = csOK then .ok else .accessError }
  else
    let cs := closingUnits s a bs.length
    if cs ≠ [] then { countClosing s cs with reply := .accessError } else { unitWrite s a bs with reply := .ok }

def mapMemRead (s : State) (a len : Nat) : State :=
  let r := memRead s a len
  if r.1 = csOK then { r.2.2 with reply := .value (BitVec.ofNat 64 (leNat r.2.1)) } else { r.2.2 with reply := .accessError }

/-- Core memory, which the map shows at its own addresses (R2, Table 9.1). -/
def coreMemOk (a len : Nat) : Bool := inRange a len coreMemBase (coreMemBase + 64 * coreMemSize)

/-- An aligned 64-bit read of the supervisor physical map by the debug channel. -/
def dbgRead (s : State) (a : Nat) : State :=
  if a % 8 ≠ 0 then { s with reply := .accessError }
  else if inRange a 8 ctlBase ctlEnd then ctlRead s a 8
  else if inRange a 8 accWinBase (accWinBase + 64 * coreMemSize) then
    accWindowRead s ((a - accWinBase) / coreMemSize) ((a - accWinBase) % coreMemSize) 8
  else if memOk s a 8 || coreMemOk a 8 then mapMemRead s a 8
  else if inRange a 8 sramBase (sramBase + sramSize) then mapMemRead s a 8
  else if inRange a 8 romBase (romBase + 0x10000) || inRange a 8 bootFlashBase (bootFlashBase + bootFlashSize) then mapMemRead s a 8
  else if inRange a 8 0x1000300000000 0x1000300004000 then
    { s with reply := .value (supView s ((a - 0x1000300000000) / 0x1000) (a % 0x1000)) }
  else if inRange a 8 0x2000000000000 0x3000000000000 then apertureIssue s 0 (a - 0x2000000000000) none
  else { s with reply := .accessError }

/-- An aligned 64-bit write. -/
def dbgWrite (s : State) (a : Nat) (v : Word) : State :=
  if a % 8 ≠ 0 then { s with reply := .accessError }
  else if inRange a 8 ctlBase ctlEnd then ctlWrite s .sup a 8 v
  else if inRange a 8 accWinBase (accWinBase + 64 * coreMemSize) then
    accWindowWrite s ((a - accWinBase) / coreMemSize) ((a - accWinBase) % coreMemSize) 8 v
  else if memOk s a 8 || coreMemOk a 8 then mapMemWrite s a (leBytes 8 v.toNat)
  else if inRange a 8 sramBase (sramBase + sramSize) then { s.writeBytes (.flat a) (leBytes 8 v.toNat) with reply := .ok }
  else if inRange a 8 0x1000300000000 0x1000300004000 then supWrite s ((a - 0x1000300000000) / 0x1000) (a % 0x1000) v
  else if inRange a 8 0x2000000000000 0x3000000000000 then apertureIssue s 0 (a - 0x2000000000000) (some v)
  else { s with reply := .accessError }

end Sys2Proof.Machine
end

