-- ==== Sys2Proof/Machine/LinkRx.lean ====
section
/-! DEFINITION. Reception at a port (R366 to R376, R384, R391, R397): flits, packets, delivery here or to another port. -/

namespace Sys2Proof.Machine

/-! ### Packets for this device -/

/-- Completion records (Table 15.10), each completing the transaction of its tag. -/
def complRecords (s : State) : List (List Byte) → State
  | [] => s
  | r :: rs => complRecords (completionReceive s (pf r 4 2) (pf r 3 1) (pf r 8 8) []) rs

/-- A packet received whole at port p: a response with its data, completion records, or a request. -/
def localPacket (s : State) (p cls : Nat) (b : List Byte) : State :=
  let op := pf b 2 1
  if (op = 0x81 ∨ op = 0x83) ∧ 16 < b.length then completionReceive s (pf b 4 2) (pf b 3 1) (pf b 8 8) (b.drop 16)
  else if 0x80 ≤ op then
    complRecords s (if (s.port p).running = 0x100 then [b.take 16] else (pieces 16 b).filter fun r => r.length == 16)
  else
    let len := if op = opREAD ∨ op = opWRITE then pf b 6 2 else 0
    -- a tile's last flit may be padded: the request's own size bounds its data
    arriveTxn s { port := p, cls := cls, src := pf b 0 2, tag := pf b 4 2, op := op, sz := pf b 3 1, len := len,
                  addr := pf b 8 6, data := b.drop 16 }

def rxOf (x : Port) (cls : Nat) : Option RxPkt := x.rx.find? fun r => r.cls == cls
def setRx (x : Port) (r : RxPkt) : Port := { x with rx := r :: x.rx.filter fun q => q.cls != r.cls }
def dropRx (x : Port) (cls : Nat) : Port := { x with rx := x.rx.filter fun q => q.cls != cls }

/-- A reduce-add flit cut from a packet of port p with the header h of its first flit. -/
def raddCut (cls : Nat) (h entries : List Byte) (pos : Nat) (last : Bool) : RaddFlit :=
  { cls := cls, src := pf h 0 2, tag := pf h 4 2, sz := pf h 3 1, base := pf h 8 6, pos := pos,
    entries := l96sOf (min (entries.length / 12) (8192 - pos)) entries, last := last }

/-- A flit of a packet for this device leaves its ingress buffer: reduce-add flits pass to their slot one by one, others
are gathered until their packet is whole. -/
def localFlit (s : State) (p : Nat) (f : Flit) : State :=
  let x := s.port p
  let b := f.payload
  let first := f.kind == 1 || f.kind == 4
  let last := f.kind == 3 || f.kind == 4
  if first then
    if pf b 2 1 = opRADD then
      let r : RxPkt := { cls := f.cls, dest := f.dest, flits := [f], egress := none, pos := 18 }
      raddIn (s.setPort p (if last then dropRx x f.cls else setRx x r)) p (raddCut f.cls b ((b.drop 16).take 216) 0 last)
    else if last then oweCredit (localPacket (s.setPort p (dropRx x f.cls)) p f.cls b) p f.cls
    else oweCredit (s.setPort p (setRx x { cls := f.cls, dest := f.dest, flits := [f], egress := none, pos := 0 })) p f.cls
  else match rxOf x f.cls with
    | none => oweCredit s p f.cls
    | some r =>
      let h := match r.flits with
        | g :: _ => g.payload
        | [] => []
      if pf h 2 1 = opRADD then
        let x1 := if last then dropRx x f.cls else setRx x { r with pos := r.pos + b.length / 12 }
        raddIn (s.setPort p x1) p (raddCut f.cls h b r.pos last)
      else if last then
        oweCredit (localPacket (s.setPort p (dropRx x f.cls)) p f.cls ((r.flits ++ [f]).flatMap (·.payload))) p f.cls
      else oweCredit (s.setPort p (setRx x { r with flits := r.flits ++ [f] })) p f.cls

/-! ### Packets for other devices -/

/-- A packet of ingress p and a class whose last flit has not come. -/
def openPkt (p cls : Nat) (k : Pkt) : Bool :=
  k.ingress == some p && k.cls == cls && (match k.flits.getLast? with
    | some f => f.kind != 3 && f.kind != 4
    | none => true)

/-- The egress whose queue holds the unfinished packet. -/
def openEgress (s : State) (p cls : Nat) : Option Nat := (List.range 24).find? fun e => (s.port e).q.any (openPkt p cls)

/-- A pass-through flit: the first is routed, the later ones follow it (R376, R384). -/
def passFlit (s : State) (p : Nat) (f : Flit) : State :=
  if f.kind = 1 ∨ f.kind = 4 then routePkt s ⟨f.dest, f.cls, [f], false, some p, none⟩
  else match openEgress s p f.cls with
    | none => oweCredit s p f.cls
    | some e =>
      let x := s.port e
      s.setPort e { x with q := x.q.map fun k => if openPkt p f.cls k then { k with flits := k.flits ++ [f] } else k }

/-! ### One flit in order -/

/-- A flit delivered in order: for this device or through it; behind a held reduce-add flit of its class it waits in its
ingress buffer (R398). -/
def deliverFlit (s : State) (p : Nat) (f : Flit) : State :=
  if classStopped s p f.cls then holdWaiting s p (.flit f)
  else if s.nodeLocal f.dest then localFlit s p f
  else passFlit s p f

/-- The header of a flit (Table 15.1). -/
def hdr (raw : List Byte) (hi lo : Nat) : Nat := bitsOf (leNat (raw.take 8)) hi lo

/-- The CONTROL flit of Table 15.2. -/
def controlFlit (s : State) (p : Nat) (b : List Byte) : State :=
  match pf b 0 1 with
  | 2 => replayFrom s p (pf b 2 2 % 1024)
  | 3 => creditRx s p (pf b 2 2) (pf b 4 2) (pf b 6 2)
  | 4 => negotiateRx s p ⟨pf b 2 4, pf b 6 4, pf b 10 2, pf b 12 2, pf b 14 2, pf b 16 2⟩
  | 5 => laneSwapRx s p (pf b 2 1 % 2) (pf b 3 1) (pf b 4 1 == 1)
  | 6 => negAckRx s p (pf b 18 2)
  | _ => s

/-- A correctly received flit restarts the 2 µs of R373. -/
def goodFlit (s : State) (p : Nat) : State := s.setPort p { s.port p with lastGood := s.now }

/-- A stomped flit leaves by the egress its packet takes (R369). -/
def countStomp (s : State) (p dest cls kind : Nat) : State :=
  if s.nodeLocal dest then s
  else match (if kind = 1 ∨ kind = 4 then routePort s dest else openEgress s p cls) with
    | some e => s.incFld (F.STOMP_COUNT_COUNT e) 1
    | none => s

/-- A sequenced flit with the expected number is next. -/
def inOrder (s : State) (p : Nat) (raw : List Byte) : Bool :=
  let k := hdr raw 45 43
  lstate s p == 4 && decide (1 ≤ k) && decide (k ≤ 4) && hdr raw 42 33 == (s.port p).rxExp && hdr raw 47 46 != 3
def advanceRx (s : State) (p : Nat) : State :=
  let x := s.port p
  s.setPort p { x with rxExp := (x.rxExp + 1) % 1024, rxAny := true, rxDrop := false }

/-- A good flit: its acknowledgement and credits, then a CONTROL flit, or the next sequenced flit in order; any other
sequenced flit is discarded (R370 to R372). -/
def acceptFlit (s : State) (p : Nat) (raw : List Byte) (clean : Bool) : State :=
  let s1 := goodFlit s p
  let s2 := if hdr raw 22 22 = 1 then ackRx s1 p (hdr raw 32 23) else s1
  let n := hdr raw 19 12
  let s3 := creditRx s2 p (if hdr raw 21 20 = 0 then n else 0) (if hdr raw 21 20 = 1 then n else 0) (if hdr raw 21 20 = 2 then n else 0)
  if hdr raw 45 43 = 5 then controlFlit s3 p (raw.drop 8)
  else if inOrder s3 p raw then
    let f : Flit := { dest := hdr raw 63 48, cls := hdr raw 47 46, kind := hdr raw 45 43,
                      payload := (raw.drop 8).take (if hdr raw 45 43 = 1 ∨ hdr raw 45 43 = 2 then 240 else hdr raw 11 4 + 1) }
    deliverFlit (advanceRx (if clean then s3 else countStomp s3 p f.dest f.cls f.kind) p) p f
  else s3

/-- The NAK that names the expected number; sequenced flits are discarded until it comes (R371). -/
def sendNak (s : State) (p : Nat) : State :=
  let x := s.port p
  s.setPort p { x with rxDrop := true, ctl := x.ctl ++ [.nak x.rxExp] }

/-- FLIT_RECEIVE (R368, R369): raw are the 256 bytes as received, descrambled. -/
def flitReceive (s : State) (p : Nat) (raw : List Byte) : State :=
  if lstate s p < 3 ∨ raw.length ≠ 256 then s
  else match flitVerdict ((s.port p).feats.testBit 0) raw with
    | .clean r => acceptFlit s p r true
    | .corrected r => acceptFlit (s.incFld (F.FLIT_CORR_COUNT p) 1) p r false
    | .stomped =>
      if inOrder s p raw then
        oweCredit (advanceRx (countStomp s p (hdr raw 63 48) (hdr raw 47 46) (hdr raw 45 43)) p) p (hdr raw 47 46)
      else s
    | .uncorrectable =>
      let s1 := s.incFld (F.FLIT_UNCORR_COUNT p) 1
      if lstate s p = 4 then
        sendNak (if inOrder s1 p raw then countStomp s1 p (hdr raw 63 48) (hdr raw 47 46) (hdr raw 45 43) else s1) p
      else s1

/-- RADD_HELD_RELEASE: what waits at a port in a class is evaluated again in its order (R397). -/
def raddHeldRelease (s : State) (p cls : Nat) : State :=
  let x := s.port p
  let mine := x.held.filter fun w => w.cls == cls
  mine.foldl (fun st w =>
    match w with
    | .radd f => raddIn st p f
    | .flit f => deliverFlit st p f
    | .txn t => arriveTxn st t) (s.setPort p { x with held := x.held.filter fun w => w.cls != cls })

/-! ### Link events (R373, R374) -/

def trainDone (s : State) (p : Nat) : State :=
  if lstate s p = 1 then goodFlit (s.setFld (F.PORT_STATUS_LSTATE p) 2) p else s

/-- ALIGN_LOCK: the port enters NEGOTIATE and sends its NEGOTIATE flit. -/
def alignLock (s : State) (p : Nat) : State :=
  if lstate s p = 2 then
    let s1 := s.setFld (F.PORT_STATUS_LSTATE p) 3
    s1.setPort p { s1.port p with ctl := (s1.port p).ctl ++ [.negotiate], lastGood := s.now }
  else s

def laneLockLoss (s : State) (p : Nat) : State := if lstate s p = 0 then s else portDown s p

/-- FABRIC_TRACKER_GRANT; the mirror's PUTs take the candidate ports of their route in turn (R489). -/
def fabTrackerGrant (s : State) (id : Nat) : State :=
  match s.tx id with
  | none => s
  | some t =>
    match t.owner, s.jrn.mir with
    | .mirror _, some m =>
      if t.op = opPUT ∧ t.st = .waiting then
        let s1 := trackerGrant s id (some (mirrorPort s m))
        { s1 with jrn := { s1.jrn with mir := s1.jrn.mir.map fun k => { k with turn := k.turn + 1 } } }
      else trackerGrant s id none
    | _, _ => trackerGrant s id none

end Sys2Proof.Machine
end

