-- ==== Sys2Proof/Machine/Time.lean ====
section
/-! DEFINITION. The passing of time: operations in flight have their effects in their cycles (R111, R113), in the order of
the list of operations in flight; the fabric request queue (R151 to R153). -/

namespace Sys2Proof.Machine

/-! ### The fabric request queue -/

/-- A failed completion recorded (R152, Table 6.25). -/
def moveErr (s : State) (n : Nat) (o : FqOp) (status : Nat) : State :=
  let s1 := s.incFld (F.MOVE_ERR_COUNT_COUNT n) 1
  let s2 := if s1.flag (F.MOVE_ERR_VALID n) then s1
    else s1.setReg (R.MOVE_ERR n) (BitVec.ofNat 64 (2 ^ 63 + 2 ^ 32 * o.bundle + 2 ^ 8 * o.opcode + status))
  if o.kind = .put ∨ o.kind = .radd then s2.tileFail n o.syl else s2

/-- What a successful operation writes into core memory: a tile, or a 64-bit value (Table 6.11). -/
def fqResult (s : State) (n : Nat) (o : FqOp) (value : Nat) (data : List Byte) : State :=
  match o.kind with
  | .get => s.writeBytes (.core n o.dst) data
  | .fadd => s.writeBytes (.core n o.dst) (leBytes 8 value)
  | .claimr => s.writeBytes (.core n o.dst) (leBytes 8 value)
  | _ => s

/-- An operation completes: it leaves the queue, COMP[CTR] counts it, its result is written on success, a failure is
recorded (R152); a closing core reports it as done. -/
def finishFq (s : State) (n : Nat) (o : FqOp) (status value : Nat) (data : List Byte) : State :=
  let c := s.core n
  let s1 := s.setCore n { c with fq := c.fq.filter fun q => q.id != o.id }
  let s2 := if status = csOK then fqResult s1 n o value data else moveErr s1 n o status
  let s3 := compAdd s2 n o.ctr 1
  if coreState s3 n = 2 then s3.incFld (F.CORE_CLOSE_DONE n) 1 else s3

/-- Fences with no earlier operation left complete (R153). -/
def settleFences (n : Nat) : Nat → State → State
  | 0, s => s
  | k + 1, s =>
    match (s.core n).fq with
    | o :: _ => if o.kind = .fence ∧ o.readyAt < s.now then settleFences n k (finishFq s n o csOK 0 []) else s
    | [] => s

def completeFq (s : State) (n id status value : Nat) (data : List Byte) : State :=
  match (s.core n).fq.find? fun o => o.id == id with
  | none => s
  | some o => let s1 := finishFq s n o status value data
    settleFences n (s1.core n).fq.length s1

/-- Transaction type of a fabric operation (Table 6.11). -/
def fqTxn (k : FqKind) : Nat :=
  match k with
  | .put => opPUT
  | .get => opGET
  | .radd => opRADD
  | .fadd => opFADD
  | .msg => opMSG
  | .claimr => opCLAIM
  | .fence => opFENCE

def FqOp.ready (o : FqOp) (now : Nat) : Bool :=
  decide (o.readyAt ≤ now) && (!(o.kind == .put || o.kind == .radd) || o.data.length == 32 * szBytes o.sz)

/-- An operation is handed to the switch. -/
def sendFq (s : State) (n : Nat) (o : FqOp) : State :=
  let c := s.core n
  let s1 := s.setCore n { c with fq := c.fq.map fun q => if q.id == o.id then { q with sent := true, data := [] } else q }
  let data := if o.kind = .fadd ∨ o.kind = .msg then leBytes 8 o.val else o.data
  s1.issueTx (.core n o.id) o.cls (o.addr / 2 ^ 48) (fqTxn o.kind) o.sz 0 (o.addr % 2 ^ 48) data

/-- The queue sends its operations in order, as far as they are ready. -/
def pumpFq (s : State) (n : Nat) : State :=
  let go (a : Bool × State) (o : FqOp) : Bool × State :=
    if a.1 || o.sent || o.suppressed || o.kind == .fence then a
    else if o.ready a.2.now then (false, sendFq a.2 n o) else (true, a.2)
  ((s.core n).fq.foldl go (false, s)).2

/-- Row r of a put-tile or reduce-add is read from core memory in its cycle; after the last row the operation can be sent
(R153). -/
def fqRowsStep (s : State) (n id off b u r : Nat) : State :=
  if 32 ≤ r then pumpFq s n
  else
    let c := s.core n
    let bs := s.readBytes (.core n (off + r * b)) b
    let s1 := s.setCore n { c with fq := c.fq.map fun q => if q.id == id then { q with data := q.data ++ bs } else q }
    if r + 1 < 32 then s1.pushLate n (u + (r + 1) * b / 512) 1 (.fqRows id off b u (r + 1))
    else s1.pushLate n (u + max 1 (32 * b / 512)) 0 (.fqRows id off b u 32)

def fqDoneStep (s : State) (n id : Nat) : State :=
  match (s.core n).fq.find? fun o => o.id == id with
  | none => s
  | some o => if o.suppressed then completeFq s n id csOK 0 [] else settleFences n (s.core n).fq.length s

/-! ### Moves and claims -/

/-- Row r of a tile move is read in its cycle and complete 24 cycles and its transfer later (R146, R147). -/
def moveRowsStep (s : State) (n : Nat) (rows : List (Place × Place)) (b u r : Nat) : State :=
  match rows with
  | [] => s
  | (src, dst) :: rest =>
    let s1 := s.pushLate n (u + 25 + ((r + 1) * b - 1) / 512) 0 (.mem dst (s.readBytes src b))
    match rest with
    | [] => s1
    | _ => s1.pushLate n (u + (r + 1) * b / 512) 1 (.moveRows rest b u (r + 1))

/-- The declared bytes of a moss tile (R242, R289). -/
def mossMoveStep (s : State) (n : Nat) (src dst : Place) (u : Nat) : State :=
  (mossCopyBytes s src).foldl (fun st p => st.pushLate n (u + 57) 0 (.mem (dst.plus p.1) p.2)) s

/-- Bytes written by an operation of a core: into core memory, or into stack memory, where the guard sees it. -/
def memStep (s : State) (p : Place) (bs : List Byte) : State :=
  match p with
  | .flat a => if stackBase ≤ a ∧ a < stackEnd then unitWrite s a bs else s.writeBytes p bs
  | .core _ _ => s.writeBytes p bs

/-- A claim of the core at the claim unit; its pair returns nine cycles later (R158). -/
def claimLocalStep (s : State) (n rd ci : Nat) : State :=
  let r := claimTake s ci
  r.2.pushLate n (s.now + 9) 0 (.claimBack rd ci r.1.1 r.1.2)

def claimBackStep (s : State) (n rd ci epoch idx : Nat) : State :=
  (s.setSr n rd (BitVec.ofNat 64 (claimPair (epoch, idx)))).setReg (R.CLAIM_CUR n)
    (BitVec.ofNat 64 (2 ^ 63 + 2 ^ 32 * ci + epoch))

/-- An engine that is still enabled and OFF becomes ON (R442). -/
def engineOnStep (s : State) (ctl : Nat) : State :=
  if getBits (s.reg ctl) 0 0 = 1 ∧ s.engState ctl = 0 then s.setEngState ctl 1 else s

/-- A deferred fault comes due, with the others of its core in this cycle. -/
def deferredStep (s : State) (n : Nat) (d : DefFault) : State :=
  let mine (l : Late) : Option DefFault :=
    if l.n == n && decide (l.due ≤ s.now) then (match l.op with | .deferred x => some x | _ => none) else none
  deferredDue { s with late := s.late.filter fun l => (mine l).isNone } n (d :: s.late.filterMap mine)

/-- The effect of one operation in flight that has come due. -/
def applyLate (s0 : State) (l : Late) : State :=
  let s := s0.setCore l.n { s0.core l.n with cur := l.syl }
  let n := l.n
  match l.op with
  | .sreg r v => s.setSr n r v
  | .pred p v => s.setPr n p v
  | .preds v => s.setReg (R.PRED n) (setBits (s.reg (R.PRED n)) 15 1 (v / 2))
  | .mregs i v => s.setMask n i v
  | .mem p bs => memStep s p bs
  | .regStore pc a size v => keepReply s (ctlWrite s (.core n pc l.syl) a size v)
  | .compInc c k => compAdd s n c k
  | .moveRows rows b u r => moveRowsStep s n rows b u r
  | .mossMove src dst u => mossMoveStep s n src dst u
  | .fqRows id off b u r => fqRowsStep s n id off b u r
  | .fqDone id => fqDoneStep s n id
  | .claimLocal rd ci => claimLocalStep s n rd ci
  | .claimBack rd ci epoch idx => claimBackStep s n rd ci epoch idx
  | .wldLine u i fmt kt nt tr diag base got exps => wldStep s n u i fmt kt nt tr diag base got exps
  | .mmVec m j hist => mmVecStep s n m j hist
  | .mmRow m row vecs col flip => mmRowStep s n m row vecs col flip
  | .bcastClose q us => bcastCloseStep s q us
  | .saddRow slot pc u v j base stride => saddRowStep s n slot pc u v j base stride
  | .saddAdd slot pc j es last => addRow s n slot j 0 1 (some pc) l.syl last es
  | .drainRec u j base _ acc fin vals => drainRecStep s n u j base acc fin vals
  | .drainStat flags => drainStatStep s n flags
  | .drainDone slot origin ord fails skips => drainDoneStep s n slot origin ord fails skips
  | .deferred d => deferredStep s n d
  | .cfsCompare origin ord => cfsCompareStep s n origin ord
  | .vwrite vd t stat => vwriteStep s n vd t stat
  | .vstat bits => vstatStep s n bits
  | .vldRows vt fmt rm ir mask base stride u i got stat => vldRowsStep s n vt fmt rm ir mask base stride u i got stat
  | .vldMoss vt fmt base u i hs got bad stat => vldMossStep s n vt fmt base u i hs got bad stat
  | .statRecs ax acc fin mask base t => statRecsStep s n ax acc fin mask base t
  | .smsRecs init mask base t => smsRecsStep s n init mask base t
  | .smnRecs vd lse mask base t => smnRecsStep s n vd lse mask base t
  | .normRecs vd rms mask base eps t => normRecsStep s n vd rms mask base eps t
  | .boxRead vd clip mask params t u k out stat => boxReadStep s n vd clip mask params t u k out stat
  | .nmsRead vd cm size mask params t u i sc cl => nmsReadStep s n vd cm size mask params t u i sc cl
  | .raddDone _ => s
  | .engineOn ctl => engineOnStep s ctl

/-! ### The clock -/

/-- An operation in flight is due by cycle t. -/
def lateDue (t : Nat) (s : State) : Bool :=
  match s.late with
  | [] => false
  | l :: _ => decide (l.due ≤ t)

/-- The first operation in flight has its effect, in its cycle, if it is due by cycle t. -/
def lateStep (t : Nat) (s : State) : State :=
  match s.late with
  | [] => s
  | l :: rest => if l.due ≤ t then applyLate (({ s with late := rest } : State).clock l.due) l else s

/-- Every operation in flight due by cycle t has its effect, in order; each may put further operations in flight. Up to 2^k
operations have their effects. -/
def runLate (t : Nat) : Nat → State → State
  | 0, s => lateStep t s
  | k + 1, s => if lateDue t s then runLate t k (runLate t k s) else s

/-- Operations in flight that one advance allows: 2^40, far more than the device can hold. -/
def lateDepth : Nat := 40

/-- The clock moves on to cycle t. -/
def tickTo (s : State) (t : Nat) : State := (runLate t lateDepth s).clock t

end Sys2Proof.Machine
end

