-- ==== Sys2Proof/Machine/Issue.lean ====
section
/-! DEFINITION. Issue at a core (R107 to R125): syllables gathered into bundles, holds, stall bounds, the quartet barrier, and
the rows of the sequencer's own events. -/

namespace Sys2Proof.Machine

/-! ### Holds -/

/-- A bundle that something holds in cycle u is kept (R116). -/
def startHold (s : State) (n u : Nat) (b : List Instr) (t : Stalls) : State :=
  let w := noteAwaited s n u t
  let s1 := if t.acc then w.2.incFld (F.ACC_HOLD_COUNT_COUNT n) 1 else w.2
  setHeld s1 n { bundle := b, since := u, upto := u, mask := t.mask, waited := 0, tierWaited := 0, awaited := w.1 }

/-- The held bundle of core n leaves its hold. -/
def clearHeld (s : State) (n : Nat) : State :=
  ((s.setCore n { s.core n with held := none }).setFld (F.SEQ_STATUS_STALL n) 0).setFld (F.SEQ_STATUS_RUN n) runRUNNING

/-- Core n issues a bundle in cycle u; the cycles of its hold that are not yet counted are counted first. -/
def issueAt (u : Nat) (s : State) (nb : Nat × List Instr) : State :=
  match (s.core nb.1).held with
  | none => issueBundle s nb.1 u nb.2
  | some h =>
    let t : Stalls := { acc := h.mask.acc, tier := if h.mask.tier then (bundleStalls s nb.1 u nb.2).tier else none,
                        wait := h.mask.wait }
    issueBundle (clearHeld (countStall s nb.1 h.mask.acc t (u - h.upto)) nb.1) nb.1 u nb.2

/-- The cores that issue with core n: with an executing M.QSYNC its whole quartet, in core order (R157). -/
def issueGroup (s : State) (n : Nat) (b : List Instr) : List (Nat × List Instr) :=
  if (execSyls s b).any fun x => x.qsync then
    (List.range 4).map fun k =>
      let m := 4 * (n / 4) + k
      (m, if m = n then b else match (s.core m).held with | some h => h.bundle | none => [])
  else [(n, b)]

/-- Nothing holds the bundle of core n in cycle u: it issues, and its quartet with it where it is at the barrier. -/
def releaseAt (s : State) (n u : Nat) (b : List Instr) : State := (issueGroup s n b).foldl (issueAt u) s

/-- The fault that ends a stall at its limit (R117, R245), if the limit is reached. -/
def limitFault (s : State) (n : Nat) (h : Held) (t : Stalls) : Option (FaultF × Option TierStall) :=
  let lim := s.fld (F.WAIT_LIMIT_LIMIT n)
  if t.wait && lim != 0 && decide (lim ≤ h.waited) then some (⟨cWAIT_TIMEOUT, 1, 0, none, h.waited⟩, none)
  else match t.tier with
    | none => none
    | some x =>
      let b := s.fld (F.TIER_BOUND_BOUND n x.bound)
      if b ≠ 0 ∧ b ≤ h.tierWaited then
        (match (s.core n).stream x.d with
         | some st => some (⟨cTIER_FAIL, 1, 0, none, tileGlobal st.desc x.tile⟩, some x)
         | none => none)
      else none

/-- A stall ends with its limit's fault; a stall bound writes a TIER_ERR record. -/
def limitEnd (s : State) (n u : Nat) (h : Held) (f : FaultF) (x : Option TierStall) : State :=
  let s1 := match x with
    | none => s
    | some t => match (s.core n).stream t.d with
      | some st => tierErr (s.incFld (F.TIER_FAIL_COUNT n) 1) n (if t.cause = 5 then 4 else 5) (dTier st.desc) false t.d 0 t.tile
      | none => s
  takeFaults s1 n (f :: bundleFaults s1 n u h.bundle)

def least (a : Nat) (l : List Nat) : Nat := l.foldl min a
def greatest (l : List Nat) : Nat := l.foldl max 0

/-- The last cycle in which something that is already in flight can change what holds core n. -/
def horizon (s : State) (n : Nat) : Nat :=
  let c := s.core n
  let slots := c.streams.flatMap fun p => p.2.slots
  greatest (s.late.map (fun l => l.due) ++ c.slotOps.map (fun o => o.last + 1) ++ slots.map (fun x => x.readyAt) ++
    slots.filterMap (fun x => x.guardAt.map (· + 64)))

/-- Cycles, from the present one on, that the stall can last before a limit is reached. -/
def limitRoom (s : State) (n k : Nat) (h : Held) (t : Stalls) : Nat :=
  let lim := s.fld (F.WAIT_LIMIT_LIMIT n)
  let a := if t.wait && lim != 0 then [lim - h.waited] else []
  let b := match t.tier with
    | some x => let m := s.fld (F.TIER_BOUND_BOUND n x.bound)
      if m = 0 then [] else [m - h.tierWaited]
    | none => []
  least k (a ++ b)

/-- k cycles of the hold counted, with what each stall has lasted. -/
def holdFor (s : State) (n u k : Nat) (h : Held) (t : Stalls) : State :=
  let w := noteAwaited s n u t
  let t1 := if w.1.isSome && (h.awaited != w.1) then bundleStalls w.2 n u h.bundle else t
  setHeld (countStall w.2 n h.mask.acc t1 k) n
    { h with upto := h.upto + k, mask := t.mask, waited := h.waited + (if t.wait then k else 0),
             tierWaited := h.tierWaited + (if t.tier.isSome then k else 0), awaited := w.1 }

/-- The held bundle of core n is evaluated in every cycle up to e: it issues in the first in which nothing holds it,
or faults at a limit; the cycles of the hold are counted. Where nothing in flight can change what holds it, the
remaining cycles are counted at once. -/
def runHeld (n e : Nat) : Nat → State → State
  | 0, s => s
  | k + 1, s0 =>
    match (s0.core n).held with
    | none => s0
    | some h0 =>
      if e < h0.upto then s0
      else
        let c := h0.upto
        let s := tickTo s0 (max s0.now c)
        match (s.core n).held with
        | none => s
        | some h =>
          let t := bundleStalls s n c h.bundle
          if !t.any then releaseAt s n (max s.now c) h.bundle
          else match limitFault s n h t with
            | some f => limitEnd s n c h f.1 f.2
            | none =>
              let j := if horizon s n < c then max 1 (limitRoom s n (e + 1 - c) h t) else 1
              runHeld n e k (holdFor s n c j h t)

/-- The held bundle of core n evaluated up to cycle e. -/
def evalHeld (s : State) (n e : Nat) : State :=
  match (s.core n).held with
  | none => s
  | some h => let r := runHeld n e (e + 2 - h.upto) s
    tickTo r r.now

/-! ### Bundles -/

/-- The ECC outcome that a syllable carries: 0 none, 1 a single-bit error, 2 an uncorrectable one. -/
def fetchEcc (i : Instr) : Nat :=
  match i with
  | .nop _ _ _ .single => 1
  | .nop _ _ _ .uncorr => 2
  | _ => 0

/-- What the fetch of the bundle finds, as its NOP syllables carry it (R105). -/
def plantEcc (s : State) (n : Nat) (b : List Instr) : State :=
  let worst := b.foldl (fun a i => max a (fetchEcc i)) 0
  if worst = 0 ∨ (s.core n).pastEnd then s
  else
    let c := s.core n
    s.setCore n { c with imemErr := put (fun _ => 0) c.imemErr (pcOf s n) worst }

/-- A fetch corrects a single-bit error in storage and counts it (R105). -/
def fetchBundle (s : State) (n : Nat) : State :=
  let c := s.core n
  if c.pastEnd = false ∧ look (fun _ => 0) c.imemErr (pcOf s n) = 1 then
    (s.setCore n { c with imemErr := put (fun _ => 0) c.imemErr (pcOf s n) 0 }).incFld (F.IMEM_CE_COUNT_COUNT n) 1
  else s

/-- A core that can issue: its STATE is ON and RUN is RUNNING. -/
def coreIssues (s : State) (n : Nat) : Bool := coreState s n == 1 && coreRun s n == runRUNNING

/-- A bundle reaches issue at core n in the first cycle in which it can (R110). -/
def reachIssue (s0 : State) (n : Nat) (b : List Instr) : State :=
  let u := max s0.now (s0.core n).nextIssue
  let s := tickTo s0 u
  if !(coreIssues s n) then s
  else
    let s1 := fetchBundle (plantEcc s n b) n
    let r :=
      if !((s1.core n).dueFaults.isEmpty) || !((fetchFaults s1 n).isEmpty) then faultBundle s1 n b (bundleFaults s1 n u b)
      else
        let t := bundleStalls s1 n u b
        if t.any then startHold s1 n u b t else releaseAt s1 n u b
    tickTo r u

/-- The slot of a syllable command. -/
def slotOfSyl (i : Instr) : Option SlotL := (sylInfo i).map fun x => x.slot

/-- A syllable reaches its core: it joins the bundle being gathered, and the last syllable sends the bundle to issue. A
core that is not issuing takes none. -/
def addSyl (i : Instr) (s : State) : State :=
  match sylInfo i with
  | none => s
  | some x =>
    let n : Nat := x.y.n
    if !(coreIssues s n) then s
    else
      let c := s.core n
      let b := c.latch.filter (fun j => slotOfSyl j != some x.slot) ++ [i]
      if x.y.last then reachIssue (s.setCore n { c with latch := [] }) n b else s.setCore n { c with latch := b }

/-! ### Events of the sequencer -/

/-- STALL_END (R116): the held bundle issues in the first cycle in which no stall condition holds, found among the cycles
in which something already in flight can change them; otherwise one more cycle of the hold passes. -/
def stallEnd (s : State) (n : Nat) : State :=
  match (s.core n).held with
  | none => s
  | some h =>
    let r := evalHeld s n (max (horizon s n + 1) (max s.now h.upto))
    if (r.core n).held.isNone then r else evalHeld s n (max s.now h.upto)

/-- A held bundle evaluated up to a cycle by which a limit is reached; nothing happens where none is. -/
def toLimit (s : State) (n : Nat) (room : Held → Option Nat) : State :=
  match (s.core n).held with
  | none => s
  | some h => match room h with
    | none => s
    | some k =>
      let r := evalHeld s n (h.upto + k)
      if (r.core n).held.isNone then r else s

/-- WAIT_TIMEOUT (R117). -/
def waitTimeout (s : State) (n : Nat) : State :=
  toLimit s n fun h =>
    let lim := s.fld (F.WAIT_LIMIT_LIMIT n)
    if lim = 0 then none else some (lim - h.waited)

/-- TIER_BOUND_EXPIRY (R245). -/
def tierBoundExpiry (s : State) (n : Nat) : State :=
  toLimit s n fun h =>
    match (bundleStalls s n (max s.now h.upto) h.bundle).tier with
    | none => none
    | some x => let b := s.fld (F.TIER_BOUND_BOUND n x.bound)
      if b = 0 then none else some (b - h.tierWaited)

/-- Time passes until the next operation in flight of core n of one kind has had its effect. -/
def untilLate (s : State) (n : Nat) (sel : LateOp → Bool) : State :=
  match s.late.find? fun l => l.n == n && sel l.op with
  | some l => tickTo s l.due
  | none => s

/-- DEFERRED_FAULT_DUE (R125). -/
def deferredFaultDue (s : State) (n : Nat) : State :=
  untilLate s n fun o => match o with
    | .deferred _ => true
    | _ => false

/-- CFS_COMPARE (R129): the pending comparison, after an upset of nature in the fetch signature. -/
def cfsCompareRow (s : State) (n : Nat) (upset : Nat) : State :=
  let sel (o : LateOp) : Bool := match o with
    | .cfsCompare .. => true
    | _ => false
  if s.late.any fun l => l.n == n && sel l.op then
    untilLate (s.setFld (F.CFS_FETCH_SIG n) (s.fld (F.CFS_FETCH_SIG n) ^^^ upset)) n sel
  else s

/-- DELAYED_RESULT_WRITE (R111): the next result of the core becomes visible. -/
def delayedResult (s : State) (n : Nat) : State :=
  untilLate s n fun o => match o with
    | .sreg .. => true
    | .pred .. => true
    | .preds _ => true
    | .mregs .. => true
    | .mem .. => true
    | .regStore .. => true
    | .vwrite .. => true
    | .vstat _ => true
    | .claimBack .. => true
    | .compInc .. => true
    | _ => false

/-- WEIGHT_LOAD_COMPLETE (R29): the load in progress completes 256 cycles after its issue. -/
def weightLoadDone (s : State) (n : Nat) : State :=
  let start (l : Late) : Option Nat := if l.n == n then (match l.op with | .wldLine u .. => some u | _ => none) else none
  match s.late.findSome? start with
  | some u => tickTo s (u + 256)
  | none => s

/-- An upset of nature in the operations in flight: the next output row of core n is computed with one column flipped. -/
def flipRow (n col : Nat) (flip : L96) : List Late → List Late
  | [] => []
  | l :: ls => match l.op with
    | .mmRow m row vecs _ _ =>
      if l.n = n then { l with op := .mmRow m row vecs col flip } :: ls else l :: flipRow n col flip ls
    | _ => l :: flipRow n col flip ls

/-- MM_ROW_WRITE (R34): the next output row of core n is written; an entry of an accumulator slot may be struck (R85). -/
def mmRowWrite (s : State) (n : Nat) (upset : ArrayUpset) : State :=
  let sel (o : LateOp) : Bool := match o with
    | .mmRow .. => true
    | _ => false
  match upset with
  | .none => untilLate s n sel
  | .column col flip => untilLate { s with late := flipRow n col.val flip s.late } n sel
  | .entry slot row col uncorr =>
    let s1 := untilLate s n sel
    let c := s1.core n
    s1.setCore n { c with accErr := put (fun _ => 0) c.accErr (entryKey (2 + slot.val) row.val col.val) (if uncorr then 2 else 1) }

/-- BCAST_STREAM_CLOSE (R37). -/
def bcastClose (s : State) (q : Nat) : State :=
  match s.late.find? fun l => match l.op with
    | .bcastClose k _ => k == q
    | _ => false with
  | some l => tickTo s l.due
  | none => s

/-- DRAIN_CHECK_VERDICT (R49). -/
def drainVerdict (s : State) (n : Nat) : State :=
  untilLate s n fun o => match o with
    | .drainDone .. => true
    | _ => false

/-- RADD_ADD_COMPLETE (R87). -/
def raddAddDone (s : State) (n : Nat) : State :=
  untilLate s n fun o => match o with
    | .raddDone _ => true
    | _ => false

/-- NMS_COMPLETE (R340). -/
def nmsComplete (s : State) (n : Nat) : State := tickTo s (s.core n).nmsDone

/-! ### Completion of fabric operations (R152) -/

/-- A transaction of this device on the loopback path is applied when it is the oldest of its class. -/
def loopApply (s : State) (t : TxReq) : State :=
  match loopHead s t.cls with
  | some h =>
    if h.id ≠ t.id then s
    else if t.op = opRADD then raddRow (.loop (Fin.ofNat 3 t.cls)) s
    else arriveTxn s (t.arrives (ownNode s))
  | none => s

/-- FABRIC_OP_COMPLETE: an operation of the core's queue whose transaction has ended completes with its status. -/
def fabricOpComplete (s : State) (n id : Nat) : State :=
  let mine (t : TxReq) : Bool := t.owner == .core n id
  match s.fab.txs.find? mine with
  | none => s
  | some t0 =>
    let s1 := if t0.st = .loop then loopApply s t0 else s
    match s1.fab.txs.find? mine with
    | none => s1
    | some t => match t.st with
      | .done status value data => completeFq (s1.dropTx t.id) n id status value data
      | _ => s1

end Sys2Proof.Machine
end

