-- ==== Sys2Proof/Machine/Mgmt.lean ====
section
/-! DEFINITION. The management endpoint: PLDM, SPDM and the Ridom message (R418 to R420, R457, R462 to R469). -/

namespace Sys2Proof.Machine

/-- The endpoint answers whenever standby power is present (R418). -/
def mgmt (s : State) (f : State → State) : State := if s.out.mgt.standby then f s else s

def i3cAddressAssign (s : State) (a : Nat) : State := mgmt s fun s => { setMgt s { s.out.mgt with addr := some a } with reply := .ok }
def setEndpointId (s : State) (e : Nat) : State := mgmt s fun s => { setMgt s { s.out.mgt with eid := some e } with reply := .ok }

/-- A supported request whose answer PLDM or SPDM defines. -/
def mgmtAnswer (s : State) : State := mgmt s State.answerFree

/-! ### Sensors (Table 16.5) -/

/-- Numeric sensors in the order of Table 16.5: 0 to 6 the management controller's, 7 to 20 the package's, 21 the attempt
counter. -/
def packageSensor (k : Nat) : Bool := decide (7 ≤ k) && decide (k ≤ 20)
def numericSensor (s : State) (k : Nat) : State :=
  mgmt s fun s =>
    if packageSensor k && s.out.mgt.inReset then s.answer .unavailable
    else if k = 21 then s.answer (.list [s.fld F.BOOT_REC_ATTEMPTS])
    else s.answerFree

/-- Boot state, last failure cause, and the causes of the module alarm. -/
def stateSensors (s : State) : State :=
  mgmt s fun s => s.answer (.list [s.fld F.BOOT_REC_STATE, s.fld F.BOOT_REC_CAUSE, s.fld F.PWR_STATUS_SAFE,
    s.fld F.PWR_STATUS_REFCLK_LOSS, s.fld F.PWR_STATUS_INLET_HOT, s.fld F.PWR_STATUS_JUNCTION_HOT, s.fld F.PWR_STATUS_SUPPLY])

/-- A sensor crosses a limit: PlatformEventMessage is sent. -/
def sensorLimitCross (s : State) (k : Nat) : State :=
  mgmt s fun s => if packageSensor k && s.out.mgt.inReset then s else s.answer (.event k)

def pldmUnsupported (s : State) : State := mgmt s fun s => s.answer .unsupportedPldmCmd

/-! ### Firmware update (R457) -/

/-- The relay tells the running firmware (source 132). -/
def relayNotice (s : State) : State := if s.out.mgt.inReset then s else s.raise 132

/-- RequestUpdate: the slot to be written is fixed. -/
def requestUpdate (s : State) : State :=
  mgmt s fun s => relayNotice { setMgt s { s.out.mgt with update := some (updateSlot s) } with reply := .ok }

/-- Data relayed: the running firmware writes it into the slot it has opened with SET_FLASH_WIN. -/
def updateDataRelay (s : State) (off : Nat) (data : List Byte) : State :=
  mgmt s fun s =>
    match s.out.mgt.update with
    | none => s
    | some slot =>
      let s1 := relayNotice s
      if s.out.mgt.inReset = false ∧ s.dike.win = 1 ∧ s.dike.winSlot = slot ∧ off + data.length ≤ slotSize slot then
        { s1.writeBytes (.flat (bootFlashBase + slotBase slot + off)) data with reply := .ok }
      else s1

/-- ActivateFirmware: PREF is the written slot. -/
def activateFirmware (s : State) : State :=
  mgmt s fun s =>
    match s.out.mgt.update with
    | none => s.answerFree
    | some slot => { (setMgt s { s.out.mgt with update := none }).setFld F.BOOT_REC_PREF slot with reply := .ok }

/-! ### SPDM (R462 to R465) -/

def spdmUnsupported (s : State) : State := mgmt s fun s => s.answer .spdmUnsupportedRequest

/-- GET_CERTIFICATE: bytes of the chain in the certificate store. -/
def getCertificate (s : State) (off len : Nat) : State :=
  mgmt s fun s => s.answer (.data (s.readBytes (.flat (bootFlashBase + 0x3C00000 + off)) len))

/-- The dike does not sign while the package is in reset, while it has no keys, and while it erases. -/
def spdmBusy (s : State) : Bool :=
  s.out.mgt.inReset || !(s.flag F.SEC_STATUS_KEYS_VALID) || s.flag F.SEC_STATUS_ERASING

/-- The measurement blocks of Table 18.7. -/
def measurements (s : State) : List (List Byte) :=
  [Config.romDigest, getWords s (R.IMG_DIGEST 0) 6,
   [s.fld F.SVN_MIN_MIN, policyOf s, s.fld F.SEC_STATUS_VREVOKE, dikeGen s, s.fld F.SEC_STATUS_DEBUG_OPEN,
    s.fld F.SEC_STATUS_RUN_SLOT, s.fld F.SEC_STATUS_RUN_KEY].map (BitVec.ofNat 8 ·) ++ List.replicate 9 0#8,
   if s.dike.plan = [] then List.replicate 48 0#8 else s.dike.plan, Config.hssPub (dikeGen s)]

def leafCount : Nat := 2 ^ 25

/-- The co-signature of one signed response with message m (R465). -/
def coSign (s : State) (m : List Byte) : State :=
  let n := s.fld F.LMS_NEXT_LEAF
  if leafCount ≤ n then setDike s { s.dike with signed := some none }
  else
    let s1 := s.setFld F.LMS_NEXT_LEAF (n + 1)
    let s2 := setDike s1 { s1.dike with signed := some (some (n, Config.hssSign (dikeGen s) n m)) }
    let left := leafCount - (n + 1)
    if left = 2 ^ 20 - 1 ∨ left = 0 then s2.raise 152 else s2

/-- CHALLENGE and GET_MEASUREMENTS over the message m that SPDM defines for the response. -/
def signedResponse (s : State) (m : List Byte) : State :=
  mgmt s fun s =>
    if spdmBusy s then s.answer .spdmBusy
    else
      let n := s.fld F.LMS_NEXT_LEAF
      (coSign s m).answer (.signed (dikeGen s) m (measurements s) (if leafCount ≤ n then none else some n))

/-! ### The Ridom message (R466 to R469) -/

/-- A response: enterprise number, command with bit 7 set, status, contents. -/
def ridom (s : State) (cmd status : Nat) (b : List Byte) : State :=
  { s with reply := .bytes ((leBytes 4 (s.fld F.SEC_IANA_NUMBER)).reverse ++ [BitVec.ofNat 8 (128 + cmd), BitVec.ofNat 8 status] ++ b) }

def rOK : Nat := 0
def rBUSY : Nat := 1
def rEXHAUSTED : Nat := 2
def rNONE : Nat := 3
def rDENIED : Nat := 4
def rACCESS : Nat := 5
def rFORMAT : Nat := 6

def getCosig (s : State) : State :=
  mgmt s fun s =>
    match s.dike.signed with
    | none => ridom s 1 rNONE []
    | some none => ridom s 1 rEXHAUSTED []
    | some (some (n, b)) => ridom s 1 rOK (leBytes 4 n ++ b)

/-- GET_NONCE: 32 fresh bytes of the random source. -/
def getNonce (s : State) : State :=
  mgmt s fun s =>
    if s.out.mgt.inReset then ridom s 2 rBUSY []
    else
      let v := s.freeVal
      let b := leBytes 32 v.1
      ridom (setDike v.2 { v.2.dike with nonce := some b }) 2 rOK b

/-- The conditions of R468 on a token of 4,096 bytes. -/
def tokenValid (s : State) (t : List Byte) : Bool :=
  numAt t 0 8 == 0x314B4C4E55584452 && numAt t 8 2 == 0x0100 && allZero (bytesAt t 10 6) && allZero (bytesAt t 60 44) &&
    allZero (bytesAt t 3180 916) && numAt t 16 8 == s.fld F.ID_SERIAL_SERIAL && s.dike.nonce == some (bytesAt t 24 32) &&
    numAt t 56 4 == dikeGen s && (keyAccepted s (bytesAt t 104 152) 1).isSome && (imageSigFail t).isNone

/-- UNLOCK (R469): a valid token starts the erasure, whose end opens debug and answers; an invalid one is denied. -/
def unlock (s : State) (t : List Byte) : State :=
  mgmt s fun s =>
    if s.out.mgt.inReset || s.flag F.SEC_STATUS_ERASING then ridom s 3 rBUSY []
    else
      let used := setDike s { s.dike with nonce := none }
      if t.length ≠ 4096 then ridom used 3 rFORMAT []
      else if tokenValid s t then { eraseBegin used true false with reply := .none }
      else
        let k := min 7 (s.fld F.BOOT_REC_AUTH_FAILS + 1)
        let s1 := used.setFld F.BOOT_REC_AUTH_FAILS k
        ridom (if k = 3 then alarm s1 4 else s1) 3 rDENIED []

/-- A debug access while debug is closed (Table 18.10). -/
def dbgClosed (s : State) (cmd : Nat) : State := ridom (alarm s 5) cmd rDENIED []
def dbgOpen (s : State) : Bool := s.flag F.SEC_STATUS_DEBUG_OPEN && !s.out.mgt.inReset

/-- A debug access answers with what the access answered; one through the aperture answers when it completes. -/
def dbgReply (s : State) (cmd : Nat) : State :=
  match s.reply with
  | .value v => ridom s cmd rOK (leBytes 8 v.toNat)
  | .ok => ridom s cmd rOK []
  | .accessError => ridom s cmd rACCESS []
  | _ => s

def dbgReadRow (s : State) (a : Nat) : State :=
  mgmt s fun s => if dbgOpen s then dbgReply (dbgRead { s with reply := .none } a) 4
    else if s.out.mgt.inReset then ridom s 4 rDENIED [] else dbgClosed s 4
def dbgWriteRow (s : State) (a : Nat) (v : Word) : State :=
  mgmt s fun s => if dbgOpen s then dbgReply (dbgWrite { s with reply := .none } a v) 5
    else if s.out.mgt.inReset then ridom s 5 rDENIED [] else dbgClosed s 5

end Sys2Proof.Machine
end

