-- ==== Sys2Proof/Machine/LoadCheck.lean ====
section
/-! DEFINITION. What the plan loader checks (R205 to R217, R220, R320, R343, R381, R386, R396, R488): the plan image taken
apart, the decoding of instruction words, and every check that is not a proof over an issue sequence. -/

namespace Sys2Proof.Machine

/-! ### Instruction words (R107, R108, Tables 6.1 and 7.3) -/

def sOps : List (Syl → Instr) :=
  [.sAdd, .sSub, .sAnd, .sOr, .sXor, .sShl, .sShr, .sSra, .sMin, .sMax, .sMinu, .sMaxu, .sMul, .sMulhu, .sSel, .sAddi,
   .sAndi, .sShli, .sShri, .sSrai, .sLi, .sLih16, .sLih32, .sLih48, .sCmp, .sCmpi, .sPlog, .sRdp, .sWrp, .sLd, .sSt, .sBr,
   .sBrl, .sBrr, .sBrk, .sLoop, .sHalt]
def vOps : List (Syl → Instr) :=
  [.vFop, .vFops, .vIop, .vIops, .vFaddi, .vFmuli, .vFmaxi, .vFmini, .vIaddi, .vFma, .vFmas, .vFun, .vFcmp, .vSel, .vMov,
   .vBcs, .vBci, .vCvt, .vSplit, .vLd, .vSt, .vRed, .vStat, .vSms, .vSmn, .vNorm, .vExt, .vMset, .vBoxdec, .vNms]
def aOps : List (Syl → Instr) := [.aWld, .aMm, .aSadd, .aDrain]
def mOp (op : Nat) : Option (Syl → Instr) :=
  match op with
  | 1 => some .mLd
  | 2 => some .mSt
  | 3 => some .mLds
  | 4 => some .mSts
  | 5 => some .mSopen
  | 6 => some .mSclose
  | 8 => some .mPut
  | 9 => some .mGet
  | 10 => some .mRadd
  | 11 => some .mFadd
  | 12 => some .mMsg
  | 13 => some .mFence
  | 14 => some .mClaimr
  | 16 => some .mClaim
  | 17 => some .mWait
  | 18 => some .mQsync
  | _ => none

/-- The instruction of an opcode in a slot. -/
def opInstr (slot : SlotL) (op : Nat) : Option (Syl → Instr) :=
  if op = 0 then none
  else match slot with
    | .s => sOps[op - 1]?
    | .m => mOp op
    | .a => aOps[op - 1]?
    | .v => vOps[op - 1]?

/-- A 32-bit syllable word as a command of core n. -/
def decodeSyl (slot : SlotL) (n : Fin 64) (last : Bool) (w : Nat) : Instr :=
  let y : Syl := ⟨n, last, BitVec.ofNat 4 (w / 2 ^ 22), BitVec.ofNat 22 w⟩
  match opInstr slot (w / 2 ^ 26 % 64) with
  | some f => f y
  | none => .nop y slot (BitVec.ofNat 6 (w / 2 ^ 26)) .clean

/-- A syllable word without a reserved opcode or field value (R108, R135, R178). -/
def wordLegal (slot : SlotL) (w : Nat) : Bool :=
  match sylInfo (decodeSyl slot 0 false w) with
  | some x => x.legal
  | none => false

/-! ### The image (Tables 8.1 to 8.5) -/

/-- k bytes of an image at an offset, as a number. -/
def im (b : List Byte) (o k : Nat) : Nat := leNat ((b.drop o).take k)
def imZero (b : List Byte) (o k : Nat) : Bool := im b o k == 0
def imBytes (b : List Byte) (o k : Nat) : List Byte := (b.drop o).take k

/-- A section with its place in the table. -/
structure Sect where
  no : Nat
  typ : Nat
  idx : Nat
  off : Nat
  len : Nat
  target : Nat
deriving DecidableEq, Repr

def sectAt (b : List Byte) (k : Nat) : Sect :=
  let o := 256 + 32 * k
  { no := k, typ := im b o 2, idx := im b (o + 2) 2, off := im b (o + 8) 8, len := im b (o + 16) 8, target := im b (o + 24) 8 }
def sects (b : List Byte) : List Sect := (List.range (im b 10 2)).map (sectAt b)
def ofType (b : List Byte) (t : Nat) : List Sect := (sects b).filter fun x => x.typ == t
def sectOf (b : List Byte) (t i : Nat) : Option Sect := (ofType b t).find? fun x => x.idx == i
def Sect.bytes (x : Sect) (b : List Byte) : List Byte := imBytes b x.off x.len

def tPROGRAM : Nat := 1
def tREGS : Nat := 2
def tCOREMEM : Nat := 3
def tWINDOWS : Nat := 4
def tBUFFERS : Nat := 5
def tDATA : Nat := 6
def tBOUNDS : Nat := 7
def tROUTES : Nat := 8
def tPORTSCHED : Nat := 9
def tUPDATE : Nat := 10
def tCLAIMS : Nat := 11
def tPAIR : Nat := 12
def tCXL : Nat := 13
def tATTN : Nat := 14

/-- Index values a type admits; 1 where INDEX is 0. -/
def indexCount (t : Nat) : Nat :=
  if t ≤ 4 then 64 else if t = tPORTSCHED then 24 else if t = tUPDATE ∨ t = tATTN then 16 else 1

/-- Sections of this type may repeat (Table 8.3). -/
def mayRepeat (t : Nat) : Bool := t == tCOREMEM || t == tDATA
def hasTarget (t : Nat) : Bool := t == tPROGRAM || t == tCOREMEM || t == tDATA

/-- A rejection: code and what locates it (Tables 8.7 and 8.8). -/
structure LdErr where
  code : Nat
  sect : Nat
  core : Nat
  bundle : Nat
  detail : Nat
deriving DecidableEq, Repr

def ldErr (code : Nat) : LdErr := ⟨code, 0xFFFF, 0xFFFF, 0, 0⟩
def sectErr (code : Nat) (x : Sect) (detail : Nat) : LdErr :=
  ⟨code, x.no, if 1 ≤ x.typ ∧ x.typ ≤ 4 then x.idx else 0xFFFF, 0, detail⟩
def errIf (c : Bool) (e : LdErr) : Option LdErr := if c then some e else none
def firstOf {α : Type} (l : List α) (f : α → Option LdErr) : Option LdErr := l.findSome? f

/-! ### Checks of the image itself (codes 0x01 to 0x06) -/

def magicPlan : Nat := 0x314E414C50584452
/-- The ordering code and the stepping of the identity block (R1). -/
def orderText : Nat := 0x3554312D343658502D584452
def steppingText : Nat := 0x3042

def chkFormat (b : List Byte) : Option LdErr :=
  let n := im b 10 2
  let at' (bad : Bool) (o : Nat) : Option LdErr := errIf bad { ldErr 0x02 with detail := o }
  firstOf [at' (im b 8 2 != 0x0100) 8, at' (n == 0 || decide (1024 < n)) 10, at' (!(imZero b 12 4)) 12, at' (!(imZero b 30 2)) 30,
    at' (!(imZero b 50 14)) 50, at' (!(imZero b 112 144)) 112] id |>.orElse fun _ =>
  firstOf (sects b) fun x => errIf (!(imZero b (256 + 32 * x.no + 4) 4) || (decide (1 ≤ x.typ) && decide (x.typ ≤ 14) &&
    !(hasTarget x.typ) && x.target != 0)) { sectErr 0x02 x (256 + 32 * x.no) with core := 0xFFFF }

def chkTarget (s : State) (b : List Byte) : Option LdErr :=
  let at' (bad : Bool) (o : Nat) : Option LdErr := errIf bad { ldErr 0x03 with detail := o }
  firstOf [at' (im b 16 12 != orderText) 16, at' (im b 28 2 != steppingText) 28,
    at' (!(im b 48 2 == 0xFFFF || im b 48 2 == ownNode s)) 48] id

def imgLen (b : List Byte) : Nat := im b 32 8

def chkBounds (b : List Byte) : Option LdErr :=
  let tend := 256 + 32 * im b 10 2
  let len := imgLen b
  (errIf (decide (len < tend)) { ldErr 0x04 with detail := 32 }).orElse fun _ =>
  firstOf (sects b) fun x => errIf (x.off % 64 != 0 || x.len == 0 || decide (x.off < tend) || decide (len < x.off + x.len) ||
    (sects b).any fun z => z.no != x.no && decide (z.off < x.off + x.len) && decide (x.off < z.off + z.len)) { sectErr 0x04 x x.off with core := 0xFFFF }

def digestOk (b : List Byte) : Bool := sha384 (imBytes b 256 (imgLen b - 256)) == im b 64 48

def chkSection (b : List Byte) : Option LdErr :=
  firstOf (sects b) fun x => errIf
    (x.typ == 0 || decide (14 < x.typ) || decide (indexCount x.typ ≤ x.idx) ||
      (!(mayRepeat x.typ) && (sects b).any fun z => decide (z.no < x.no) && z.typ == x.typ && z.idx == x.idx) ||
      (x.typ == tPROGRAM && (sectOf b tREGS x.idx).isNone) || (x.typ == tREGS && x.len != 1600)) { sectErr 0x06 x x.off with core := 0xFFFF }

/-! ### Programs (codes 0x10 and 0x11) -/

/-- START, GO, SEED_VALID of a REGS record (Table 8.4). -/
def regsStart (r : List Byte) : Nat := im r 1556 2 % 16384
def regsGo (r : List Byte) : Bool := (im r 1556 2).testBit 15

def chkSize (b : List Byte) : Option LdErr :=
  firstOf (ofType b tPROGRAM) fun x =>
    let t := x.target % 16384
    let st := match sectOf b tREGS x.idx with
      | some r => regsStart (r.bytes b)
      | none => 0
    errIf (x.len % 16 != 0 || decide (16384 < t + x.len / 16) || decide (st < t) || decide (t + x.len / 16 ≤ st)) { sectErr 0x10 x 0 with bundle := st }

/-- The word of a slot in a bundle (Table 5.2). -/
def slotWord (p : List Byte) (k : Nat) : Nat := im p (4 * k) 4

def bundleLegal (p : List Byte) : Bool :=
  wordLegal .s (slotWord p 0) && wordLegal .m (slotWord p 1) && wordLegal .a (slotWord p 2) && wordLegal .v (slotWord p 3)

def chkEncoding (b : List Byte) : Option LdErr :=
  firstOf (ofType b tPROGRAM) fun x => firstOf (List.range (x.len / 16)) fun k =>
    if bundleLegal (imBytes b (x.off + 16 * k) 16) then none
    else some { sectErr 0x11 x (x.off + 16 * k) with bundle := x.target % 16384 + k }

/-! ### Memory, descriptors, windows (codes 0x20 to 0x32) -/

def chkCoreMem (b : List Byte) : Option LdErr :=
  firstOf (ofType b tCOREMEM) fun x => errIf (decide (coreMemSize < x.target + x.len)) (sectErr 0x20 x x.target)

def bufAt (p : List Byte) (k : Nat) : Buf := ⟨im p (32 * k) 8, im p (32 * k + 8) 8, (im p (32 * k + 16) 2).testBit 0⟩
/-- The declared buffers (Table 8.5). -/
def buffers (b : List Byte) : List Buf :=
  match sectOf b tBUFFERS 0 with
  | some x => (List.range (x.len / 32)).map (bufAt (x.bytes b))
  | none => []
def Buf.holds (u : Buf) (a len : Nat) : Bool := decide (u.base ≤ a) && decide (a + len ≤ u.base + u.size)
def Buf.meets (u : Buf) (a len : Nat) : Bool := decide (u.base < a + len) && decide (a < u.base + u.size)
def inBuffer (b : List Byte) (a len : Nat) : Bool := (buffers b).any fun u => u.holds a len
def inExcl (b : List Byte) (a len : Nat) : Bool := (buffers b).any fun u => u.excl && u.holds a len

def chkBuffers (s : State) (b : List Byte) : Option LdErr :=
  match sectOf b tBUFFERS 0 with
  | none => none
  | some x => firstOf (buffers b).zipIdx fun u =>
    let v := u.1
    errIf (v.base % 64 != 0 || v.size % 64 != 0 || v.size == 0 || !(memOk s v.base v.size) || inMailbox v.base v.size ||
      (buffers b).zipIdx.any fun w => w.2 != u.2 && (v.excl || w.1.excl) && w.1.meets v.base v.size) (sectErr 0x21 x u.2)

def chkData (s : State) (b : List Byte) : Option LdErr :=
  firstOf (ofType b tDATA) fun x =>
    errIf (!(lpddrOk s x.target x.len || stackOk x.target x.len) || !(inBuffer b x.target x.len)) (sectErr 0x22 x x.target)

/-- Descriptor d of a REGS record. -/
def regsDesc (r : List Byte) (d : Nat) : BitVec 256 := BitVec.ofNat 256 (im r (520 + 32 * d) 32)

/-- A descriptor that REGS holds: its own checks, and on this device its whole extent in one declared buffer. -/
def descOk (s : State) (b : List Byte) (d : BitVec 256) : Bool :=
  d == 0#256 || (descForm s d &&
    (!(s.nodeLocal (dNode d)) || inBuffer b (dLow d).toNat (dHigh d + 1 - dLow d).toNat))

def chkDesc (s : State) (b : List Byte) : Option LdErr :=
  firstOf (ofType b tREGS) fun x => firstOf (List.range 32) fun d => errIf (!(descOk s b (regsDesc (x.bytes b) d))) (sectErr 0x23 x d)

def chkBoundDecl (b : List Byte) : Option LdErr :=
  match sectOf b tBOUNDS 0 with
  | none => none
  | some x => firstOf (List.range (x.len / 16)) fun k =>
    errIf (sectOf b tPROGRAM (im b (x.off + 16 * k) 2)).isNone { sectErr 0x25 x k with core := im b (x.off + 16 * k) 2 }

def winLoHi (p : List Byte) (k : Nat) : Word × Word := (BitVec.ofNat 64 (im p (16 * k) 8), BitVec.ofNat 64 (im p (16 * k + 8) 8))

/-- R220. -/
def winValid (lo hi : Word) : Bool :=
  getBits lo 31 27 == 0 && getBits lo 63 37 == 0 && getBits hi 31 27 == 0 &&
    decide (getBits lo 26 0 + getBits hi 26 0 ≤ 2 ^ 27) && (getBits hi 63 48 != 0xFFFF || getBits hi 47 32 == 0xFFFF)

/-- An entry whose granules meet a local range. -/
def winMeets (lo hi : Word) (a len : Nat) : Bool :=
  let g0 := getBits lo 26 0
  decide (g0 * 0x200000 < a + len) && decide (a < (g0 + getBits hi 26 0) * 0x200000)

def winControlBad (lo hi : Word) : Bool :=
  (getBits lo 34 32 != 0 && winMeets lo hi ctlBase (ctlEnd - ctlBase)) || (getBits lo 36 32 != 0 && winMeets lo hi stackBase 0x10000)

def chkWinFormat (b : List Byte) : Option LdErr :=
  firstOf (ofType b tWINDOWS) fun x => (errIf (x.len % 16 != 0 || decide (4096 < x.len)) (sectErr 0x30 x (x.len / 16))).orElse fun _ =>
    firstOf (List.range (x.len / 16)) fun k => let w := winLoHi (x.bytes b) k
      errIf (!(winValid w.1 w.2)) (sectErr 0x30 x k)
def chkWinControl (b : List Byte) : Option LdErr :=
  firstOf (ofType b tWINDOWS) fun x => firstOf (List.range (x.len / 16)) fun k => let w := winLoHi (x.bytes b) k
    errIf (winControlBad w.1 w.2) (sectErr 0x32 x k)

/-! ### Routes and schedules (codes 0x40 and 0x41) -/

def routeBad (e : Nat) : Bool :=
  let pri := bitsOf e 4 0
  let alt := bitsOf e 9 5
  bitsOf e 13 10 != 0 || decide (23 < pri) || decide (23 < alt) || (bitOf e 14 && !(bitOf e 15)) || (bitOf e 14 && alt == pri)

/-- R396. e lists the 64 bytes of an entry. -/
def redEntryBad (e : List Byte) : Bool :=
  let cnt := im e 2 1
  let port (j : Nat) : Nat := im e (6 + 4 * j) 1
  cnt != 0 && (decide (63 < im e 0 1) || decide (15 < im e 1 1) || decide (15 < cnt) ||
    (List.range cnt).any fun j => decide (24 < port j) || im e (7 + 4 * j) 1 != 0 ||
      (List.range j).any fun k => port k == port j) ||
    !(imZero e (4 + 4 * cnt) (60 - 4 * cnt))

def chkRoutes (b : List Byte) : Option LdErr :=
  match sectOf b tROUTES 0 with
  | none => none
  | some x =>
    let p := x.bytes b
    let ent (i : Nat) : List Byte := imBytes p (131072 + 64 * i) 64
    (errIf (x.len != 135168) (sectErr 0x40 x x.len)).orElse fun _ =>
    (firstOf (List.range 65536) fun e => errIf (routeBad (im p (2 * e) 2)) (sectErr 0x40 x e)).orElse fun _ =>
    firstOf (List.range 64) fun i => errIf (redEntryBad (ent i) ||
      (im (ent i) 2 1 != 0 && (List.range i).any fun k => im (ent k) 2 1 != 0 && im (ent k) 0 2 == im (ent i) 0 2))
      (sectErr 0x40 x (65536 + i))

/-- Code of slot k of a PORTSCHED section (R381). -/
def schedCode (p : List Byte) (k : Nat) : Nat := bitsOf (im p (16 + k / 4) 1) (2 * (k % 4) + 1) (2 * (k % 4))

def chkSched (b : List Byte) : Option LdErr :=
  firstOf (ofType b tPORTSCHED) fun x =>
    let p := x.bytes b
    let fl := im p 0 2
    let cs := (List.range fl).map (schedCode p)
    errIf (fl % 64 != 0 || x.len != 16 + fl / 4 || !(imZero p 2 14) || decide (fl < 64) || decide (4096 < fl) || cs.contains 3 ||
      !(cs.contains 1) || !(cs.contains 2)) (sectErr 0x41 x fl)

/-! ### Update units (code 0x50, R320) -/

def groupAt (p : List Byte) (k : Nat) : Group :=
  let o := 64 + 128 * k
  { gid := im p o 1, rule := im p (o + 1) 1, mfmt := im p (o + 2) 1, count := im p (o + 8) 8, rows := im p (o + 16) 4,
    cols := im p (o + 20) 4, grad := im p (o + 24) 8, gaccum := im p (o + 32) 8, master := im p (o + 40) 8,
    resid := im p (o + 48) 8, mom1 := im p (o + 56) 8, mom2 := im p (o + 64) 8, work := im p (o + 72) 8, hdr := im p (o + 80) 8,
    part := im p (o + 88) 8 }
def groupCount (p : List Byte) : Nat := im p 9 1
def groupsOf (p : List Byte) : List Group := (List.range (groupCount p)).map (groupAt p)

/-- The arrays of a group: base and bytes. -/
def Group.arrays (g : Group) : List (Nat × Nat) :=
  let fac := 4 * (g.rows + g.cols)
  ([(g.grad, 2 * g.count), (g.gaccum, 12 * g.count), (g.master, 4 * g.count), (g.resid, 2 * g.count), (g.mom1, g.ms * g.count),
    (g.mom2, if g.rule = 4 then factorBank g 1 + fac - g.mom2 else g.ms * g.count), (g.work, 2 * g.count),
    (g.part, 16 * 12 * (g.rows + g.cols))]).filter fun a => a.1 != 0

def Group.fieldsOk (g : Group) : Bool :=
  decide (g.gid < 64) && decide (1 ≤ g.rule) && decide (g.rule ≤ 4) && decide (g.mfmt ≤ 1) && decide (1 ≤ g.count) &&
    (if g.rule = 4 then g.count == g.rows * g.cols else g.rows == 0 && g.cols == 0) &&
    g.grad != 0 && g.master != 0 && g.resid != 0 && g.work != 0 && (g.rule == 4 || g.mom1 != 0) &&
    (if g.rule = 1 ∨ g.rule = 4 then g.mom2 != 0 else g.mom2 == 0) && (if g.rule = 4 then g.part != 0 else g.part == 0)

def rangesMeet (x y : Nat × Nat) : Bool := decide (x.1 < y.1 + y.2) && decide (y.1 < x.1 + x.2)

def chkUpdate (b : List Byte) : Option LdErr :=
  match ofType b tUPDATE with
  | [] => none
  | x0 :: xs =>
    let all := x0 :: xs
    let g0 := groupsOf (x0.bytes b)
    let hdrs := all.flatMap fun x => (groupsOf (x.bytes b)).map fun g => (g.hdr, 64)
    (errIf (all.length != 16) (sectErr 0x50 x0 all.length)).orElse fun _ =>
    (firstOf all fun x =>
      let p := x.bytes b
      let gs := groupsOf p
      errIf (im p 0 8 % 64 != 0 || decide (im p 8 1 < 4) || decide (12 < im p 8 1) || gs.isEmpty || decide (64 < gs.length) ||
        !(imZero p 10 54) || x.len != 64 + 128 * gs.length || !(stackOk (im p 0 8) (64 * 2 ^ im p 8 1)) ||
        !(inBuffer b (im p 0 8) (64 * 2 ^ im p 8 1)) ||
        (List.range gs.length).any (fun k => !(imZero p (64 + 128 * k + 3) 5) || !(imZero p (64 + 128 * k + 96) 32)) ||
        gs.any (fun g => !g.fieldsOk) || !((gs.map (·.gid)).Nodup) ||
        gs.any (fun g => !(g0.any fun h => { h with hdr := g.hdr } == g)) || gs.length != g0.length ||
        gs.any (fun g => g.arrays.any fun a => a.1 % 256 != 0 || !(inBuffer b a.1 a.2))) (sectErr 0x50 x 0)).orElse fun _ =>
    errIf ((g0.zipIdx.any fun g => g0.zipIdx.any fun h => decide (h.2 < g.2) && g.1.arrays.any fun a => h.1.arrays.any (rangesMeet a)) ||
      hdrs.zipIdx.any fun h => hdrs.zipIdx.any fun k => decide (k.2 < h.2) && rangesMeet h.1 k.1) (sectErr 0x50 x0 0)

/-! ### Claims, pair, CXL, attention (codes 0x60 to 0x63) -/

def chkClaims (b : List Byte) : Option LdErr :=
  match sectOf b tCLAIMS 0 with
  | none => none
  | some x => (errIf (x.len != 512) (sectErr 0x60 x x.len)).orElse fun _ =>
    firstOf (List.range 64) fun i => errIf (decide (im b (x.off + 8 * i + 4) 4 < im b (x.off + 8 * i) 4)) (sectErr 0x60 x i)

/-- The route entry of a node as the plan leaves it. -/
def planRoute (s : State) (b : List Byte) (node : Nat) : Nat :=
  match sectOf b tROUTES 0 with
  | some x => im b (x.off + 2 * node) 2
  | none => routeEntry s node

def pairRegion (p : List Byte) (k : Nat) : Nat × Nat × Nat := (im p (128 + 32 * k) 8, im p (136 + 32 * k) 8, im p (144 + 32 * k) 8)
def pairRegions (p : List Byte) : List (Nat × Nat × Nat) := (List.range (im p 36 2)).map (pairRegion p)
/-- Bytes of one journal copy (R479). -/
def jrnCopyLen (p : List Byte) : Nat := im p 3 1 * (64 + (im p 24 4 + 511) / 512 * 64) + 1088

def pairBad (s : State) (b p : List Byte) (len : Nat) : Bool :=
  let nreg := im p 36 2
  let role := im p 2 1
  let jl := jrnCopyLen p
  let rs := pairRegions p
  let partner := im p 0 2
  let e := planRoute s b partner
  let ports := im p 4 4
  let peer := im p 64 8
  let recv := im p 48 8
  len != 128 + 32 * nreg || !(imZero p 38 2) || !(imZero p 72 56) ||
    (List.range nreg).any (fun k => !(imZero p (152 + 32 * k) 8)) ||
    decide (im p 3 1 < 2) || decide (16 < im p 3 1) || decide (2 ^ 20 < im p 24 4) || decide (3 < role) || decide (256 < nreg) ||
    decide (im p 28 4 < 10) || decide (1000000 < im p 28 4) || decide (im p 32 4 < 4 * im p 28 4) ||
    !(inExcl b (im p 8 8) jl) || !(stackOk (im p 8 8) jl) || !(inExcl b (im p 16 8) jl) || !(lpddrOk s (im p 16 8) jl) ||
    rangesMeet (im p 8 8, jl) (im p 16 8, jl) ||
    ((role == 1 || role == 3) && (rs.any (fun r => r.1 % 64 != 0 || r.2.2 % 64 != 0 || r.2.1 == 0 || r.2.1 % 16384 != 0 ||
        !(inBuffer b r.1 r.2.1) || decide (peer < r.2.2 + r.2.1)) ||
      rs.zipIdx.any fun r => rs.zipIdx.any fun q => decide (q.2 < r.2) && rangesMeet (r.1.2.2, r.1.2.1) (q.1.2.2, q.1.2.1))) ||
    ((role == 2 || role == 3) && (recv % 16384 != 0 || !(inExcl b (im p 40 8) (2 * recv)) || !(lpddrOk s (im p 40 8) (2 * recv)))) ||
    (role != 0 && (partner == 0xFFFF || partner == ownNode s || !(bitOf e 15) || !(bitOf ports (bitsOf e 4 0)) ||
      (bitOf e 14 && !(bitOf ports (bitsOf e 9 5)))))

def chkPair (s : State) (b : List Byte) : Option LdErr :=
  match sectOf b tPAIR 0 with
  | none => none
  | some x => errIf (pairBad s b (x.bytes b) x.len) (sectErr 0x61 x 0)

def chkCxl (b : List Byte) : Option LdErr :=
  match sectOf b tCXL 0 with
  | none => none
  | some x =>
    let base := im b x.off 8
    let size := im b (x.off + 8) 8
    errIf (size == 0 || decide (2 ^ 40 < size) || size % 0x200000 != 0 || base % 0x200000 != 0 ||
      (buffers b).any fun u => u.meets base size) (sectErr 0x62 x base)

def attnBad (b p : List Byte) : Bool :=
  let h := im p 27 1
  let hkv := im p 28 1
  let fs := im p 8 8
  let ring (a len : Nat) : Bool := stackOk a len && inBuffer b a len
  im p 0 8 % 32768 != 0 || fs % 4096 != 0 || decide (fs < 32768) || decide (0x4000000 < fs) ||
    im p 16 8 % 64 != 0 || im p 32 8 % 64 != 0 || im p 40 8 % 64 != 0 ||
    decide (im p 24 1 < 2) || decide (10 < im p 24 1) || decide (im p 25 1 < 4) || decide (12 < im p 25 1) ||
    decide (im p 26 1 < 13) || decide (16 < im p 26 1) ||
    h == 0 || decide (64 < h) || hkv == 0 || decide (16 < hkv) || decide (2 < im p 29 1) || decide (1 < im p 30 1) ||
    !(imZero p 31 1) || !(imZero p 48 16) || h % hkv != 0 ||
    !(stackOk (im p 0 8) fs) || !(inExcl b (im p 0 8) fs) || !(ring (im p 16 8) (128 * 2 ^ im p 24 1)) ||
    !(ring (im p 32 8) (32 * 2 ^ im p 25 1)) || !(ring (im p 40 8) (8 * 2 ^ im p 26 1))

def chkAttn (b : List Byte) : Option LdErr :=
  let fern (x : Sect) : Nat × Nat := (im b x.off 8, im b (x.off + 8) 8)
  firstOf (ofType b tATTN) fun x => errIf (x.len != 64 || attnBad b (x.bytes b) ||
    (ofType b tATTN).any fun z => decide (z.no < x.no) && rangesMeet (fern z) (fern x)) (sectErr 0x63 x x.idx)

/-! ### The checks in ascending order of code (R214) -/

/-- The failure of lowest code; of two with one code the earlier in the list. -/
def lowestErr (l : List LdErr) : Option LdErr :=
  l.foldl (fun a e => match a with
    | some x => if e.code < x.code then some e else some x
    | none => some e) none

def chkEarly (s : State) (b : List Byte) : Option LdErr :=
  (errIf (im b 0 8 != magicPlan) (ldErr 0x01)).orElse fun _ => (chkFormat b).orElse fun _ => (chkTarget s b).orElse fun _ =>
  (chkBounds b).orElse fun _ => (errIf (!(digestOk b)) { ldErr 0x05 with detail := 64 }).orElse fun _ => (chkSection b).orElse fun _ =>
  (chkSize b).orElse fun _ => chkEncoding b

/-- The remaining checks, with what is found in the programs. -/
def chkLate (s : State) (b : List Byte) (found : List LdErr) : Option LdErr :=
  lowestErr ([chkCoreMem b, chkBuffers s b, chkData s b, chkDesc s b, chkBoundDecl b, chkWinFormat b, chkWinControl b, chkRoutes b,
    chkSched b, chkUpdate b, chkClaims b, chkPair s b, chkCxl b, chkAttn b].filterMap id ++ found)

end Sys2Proof.Machine
end

