-- ==== Sys2Proof/Machine/Walk.lean ====
section
/-! DEFINITION. What the plan loader proves about a core's stall-free issue sequence (R112, R118 to R122, R215, R216, R226):
the registers a syllable uses, the walk over the bundles with the values that are known, and the checks of a quartet's
broadcasts after M.QSYNC. -/

namespace Sys2Proof.Machine

/-! ### The registers a syllable uses (R112, R175) -/

/-- Registers by number: s0 to s63, predicates p from 64, tile registers v from 80, masks m from 88. p0 and m0 are
constants. -/
def useP (k : Nat) : List Nat := if k = 0 then [] else [64 + k]
def useM (k : Nat) : List Nat := if k = 0 then [] else [88 + k]

/-- Registers read; registers written, each with its latency; whether what is written is known when all that is read is
(R215: not from a load, V.EXT or M.CLAIM). -/
structure SylUse where
  reads : List Nat := []
  writes : List (Nat × Nat) := []
  known : Bool := true
deriving DecidableEq, Repr

/-- The register form of the S slot and its immediate form. -/
def useSr (y : Syl) (l : Nat) : SylUse := { reads := [fb y 11 6, fb y 5 0], writes := [(fb y 17 12, l)] }
def useSi (y : Syl) : SylUse := { reads := [fb y 15 10], writes := [(fb y 21 16, 1)] }
/-- A tile operation into VD: tile registers and scalar registers read beside the mask. -/
def useV (y : Syl) (l : Nat) (vs ss : List Nat) : SylUse :=
  { reads := vs.map (80 + ·) ++ ss ++ useM (vMK y), writes := [(80 + vVD y, l)] }
/-- The register group of V.LD and V.ST. -/
def vmGroup (y : Syl) : List Nat := [vB y, vB y + 1] ++ (if vmFMT y = 10 then [vB y + 2] else [])
/-- The index register of slot code 2 (R81). -/
def idxReg (code r : Nat) : List Nat := if code = 2 then [r] else []

def useOf (i : Instr) : SylUse :=
  match i with
  | .sAdd y => useSr y 1
  | .sSub y => useSr y 1
  | .sAnd y => useSr y 1
  | .sOr y => useSr y 1
  | .sXor y => useSr y 1
  | .sShl y => useSr y 1
  | .sShr y => useSr y 1
  | .sSra y => useSr y 1
  | .sMin y => useSr y 1
  | .sMax y => useSr y 1
  | .sMinu y => useSr y 1
  | .sMaxu y => useSr y 1
  | .sMul y => useSr y 3
  | .sMulhu y => useSr y 3
  | .sSel y => { useSr y 1 with reads := [fb y 11 6, fb y 5 0] ++ useP (fb y 21 18) }
  | .sAddi y => useSi y
  | .sAndi y => useSi y
  | .sShli y => useSi y
  | .sShri y => useSi y
  | .sSrai y => useSi y
  | .sLi y => { writes := [(fb y 21 16, 1)] }
  | .sLih16 y => { reads := [fb y 21 16], writes := [(fb y 21 16, 1)] }
  | .sLih32 y => { reads := [fb y 21 16], writes := [(fb y 21 16, 1)] }
  | .sLih48 y => { reads := [fb y 21 16], writes := [(fb y 21 16, 1)] }
  | .sCmp y => { reads := [fb y 11 6, fb y 5 0], writes := (useP (fb y 17 14)).map (·, 1) }
  | .sCmpi y => { reads := [fb y 13 8], writes := (useP (fb y 17 14)).map (·, 1) }
  | .sPlog y => { reads := useP (fb y 11 8) ++ useP (fb y 7 4), writes := (useP (fb y 15 12)).map (·, 1) }
  | .sRdp y => { reads := (List.range 15).map (65 + ·), writes := [(fb y 21 16, 1)] }
  | .sWrp y => { reads := [fb y 5 0], writes := (List.range 15).map fun k => (65 + k, 1) }
  | .sLd y => { reads := [fb y 15 10], writes := [(fb y 21 16, 4)], known := false }
  | .sSt y => { reads := [fb y 21 16, fb y 15 10] }
  | .sBrl y => { writes := [(fb y 19 14, 1)] }
  | .sBrr y => { reads := [fb y 5 0] }
  | .sLoop y => { reads := if fb y 21 21 = 1 then [] else [fb y 19 14] }
  | .mLd y => { reads := [fb y 11 6, fb y 17 12] }
  | .mSt y => { reads := [fb y 11 6, fb y 17 12] }
  | .mLds y => { reads := [fb y 17 12] }
  | .mSts y => { reads := [fb y 17 12] }
  | .mSopen y => { reads := [fb y 16 11] }
  | .mPut y => { reads := [fb y 11 6, fb y 17 12] }
  | .mGet y => { reads := [fb y 11 6, fb y 17 12] }
  | .mRadd y => { reads := [fb y 11 6, fb y 17 12] }
  | .mFadd y => { reads := [fb y 11 6, fb y 11 6 + 1, fb y 17 12] }
  | .mMsg y => { reads := [fb y 11 6, fb y 17 12] }
  | .mClaimr y => { reads := [fb y 11 6, fb y 11 6 + 1] }
  | .mClaim y => { writes := [(fb y 17 12, 20)], known := false }
  | .mWait y => { reads := if fb y 21 21 = 1 then [] else [fb y 5 0] }
  | .aWld y => { reads := [fb y 11 6, fb y 5 0] }
  | .aMm y => { reads := fb y 11 6 :: (if mmBc y = 2 then [] else [fb y 5 0]) ++ idxReg (mmCode y) (fb y 11 6 + 1) }
  | .aSadd y => { reads := [fb y 11 6, fb y 5 0] ++ idxReg (fb y 17 13) (fb y 11 6 + 1) }
  | .aDrain y => { reads := [drB y, drB y + 1] ++ (if drOn y then [drB y + 2] else []) ++ idxReg (drCode y) (drB y + 3) }
  | .vFop y => useV y 12 [vVA y, vVB y] []
  | .vFops y => useV y 12 [vVA y] [vB y]
  | .vIop y => useV y 12 [vVA y, vVB y] []
  | .vIops y => useV y 12 [vVA y] [vB y]
  | .vFaddi y => { reads := [80 + vVA y], writes := [(80 + vVD y, 12)] }
  | .vFmuli y => { reads := [80 + vVA y], writes := [(80 + vVD y, 12)] }
  | .vFmaxi y => { reads := [80 + vVA y], writes := [(80 + vVD y, 12)] }
  | .vFmini y => { reads := [80 + vVA y], writes := [(80 + vVD y, 12)] }
  | .vIaddi y => { reads := [80 + vVA y], writes := [(80 + vVD y, 12)] }
  | .vFma y => useV y 12 [vVA y, vVB y, vVD y] []
  | .vFmas y => useV y 12 [vVA y, vVD y] [vB y]
  | .vFun y => useV y 12 [vVA y] []
  | .vFcmp y => useV y 12 [vVA y, vVB y] []
  | .vSel y => useV y 12 [vVA y, vVB y, vVD y] []
  | .vMov y => useV y 12 [vVA y] []
  | .vBcs y => useV y 12 [] [vB y]
  | .vBci y => { writes := [(80 + vVD y, 12)] }
  | .vCvt y => useV y 12 [vVA y] []
  | .vSplit y => useV y 12 [vVA y] []
  | .vLd y => useV y 12 [] (vmGroup y)
  | .vSt y => { useV y 12 [vVD y] (vmGroup y) with writes := [] }
  | .vRed y => useV y 24 [vVA y] []
  | .vStat y => { useV y 24 [vVA y] [vB y] with writes := [] }
  | .vSms y => { useV y 24 [vVA y] [vB y] with writes := [] }
  | .vSmn y => useV y 16 [vVA y] [vB y]
  | .vNorm y => useV y 16 [vVA y] [vB y, vB y + 1]
  | .vExt y => { reads := [80 + vVB y, vB y], writes := [(fb y 21 16, 12)], known := false }
  | .vMset y =>
    { reads := if vkOp y = 0 then [vkA y, vkB y] else if vkOp y ≤ 3 then useM (vkA y) ++ useM (vkB y)
        else if vkOp y = 4 then useM (vkA y) else [vkA y],
      writes := (useM (vVD y)).map (·, 2), known := vkOp y != 5 }
  | .vBoxdec y => useV y 24 [vVA y] [vB y]
  | .vNms y => useV y (nmsLat y) [vVA y] [vB y]
  | _ => {}

/-! ### Checks on fields alone (codes 0x17 and 0x18 for every bundle) -/

/-- The slot code of an A syllable names no slot (R81). -/
def slotFieldBad (i : Instr) : Bool :=
  let bad (c : Nat) : Bool := decide (2 < c) && decide (c < 16)
  match i with
  | .aMm y => bad (mmCode y)
  | .aSadd y => bad (fb y 17 13)
  | .aDrain y => bad (drCode y)
  | _ => false

/-- ARRAY_FORMAT or VEC_FORMAT whatever the registers hold (R91, R97, R162, R187, R339). -/
def formatFieldBad (i : Instr) : Bool :=
  match i with
  | .aWld y =>
    let tr := fb y 13 13 == 1
    let dg := fb y 12 12 == 1
    let cls := fmtClass (wldFmt y)
    (tr && cls == 3) || (dg && (tr || cls != 0))
  | .aDrain y => decide (10 ≤ drFmt y) || drRm y == 3 || (drFmt y == 7 && drRm y == 2) || (drOn y && drFmt y == 7) ||
      (!(drOn y) && (drAcc y || drFin y))
  | .vLd y => !(vmPermitted true y)
  | .vSt y => !(vmPermitted false y)
  | .vBoxdec y => fb y 8 6 != 0
  | _ => false

/-- The four syllables of a bundle of an image. -/
def imageSyls (n : Fin 64) (p : List Byte) : List Instr :=
  [decodeSyl .s n false (slotWord p 0), decodeSyl .m n false (slotWord p 1), decodeSyl .a n false (slotWord p 2),
   decodeSyl .v n true (slotWord p 3)]

def chkFields (b : List Byte) (code : Nat) (bad : Instr → Bool) : Option LdErr :=
  firstOf (ofType b tPROGRAM) fun x => firstOf (List.range (x.len / 16)) fun k =>
    errIf ((imageSyls (Fin.ofNat 64 x.idx) (imBytes b (x.off + 16 * k) 16)).any bad)
      { sectErr code x (x.off + 16 * k) with bundle := x.target % 16384 + k }

/-! ### The walk (R215, R216) -/

/-- An A.MM that uses the quartet stream: its core, M.QSYNCs passed, cycles since the last, SEND or RECV, V, its bundle. -/
structure CastEv where
  core : Nat
  seg : Nat
  rel : Nat
  send : Bool
  v : Nat
  pc : Nat
deriving DecidableEq, Repr

/-- A walk: a machine that only this core's registers and occupancies matter in; its cycle; registers unknown, writes
outstanding (register, cycle of completion, whether known then), slots with a live tile (R226); M.QSYNCs passed and the cycle
of the last; whether the skew since then is unknown, and from which M.QSYNC on nothing more is known of the broadcasts;
breaches so far; whether it stopped early. -/
structure Walk where
  st : State
  u : Nat
  unk : List Nat
  out : List (Nat × Nat × Bool)
  live : List Nat
  seg : Nat
  q0 : Nat
  blur : Bool
  vague : Option Nat
  ev : List CastEv
  err : Option LdErr
  stop : Bool

/-- What a walk needs of the plan: the image, the core, its PROGRAM section, SEED_VALID, the registers it declares with
their MAX. -/
structure WalkCtx where
  b : List Byte
  n : Fin 64
  x : Sect
  seed : Bool
  decl : List (Nat × Nat)

def WalkCtx.at' (c : WalkCtx) (pc code : Nat) : LdErr :=
  { sectErr code c.x (c.x.off + 16 * (pc - c.x.target % 16384)) with bundle := pc }

def Walk.breach (w : Walk) (c : WalkCtx) (bad : Bool) (code : Nat) : Walk :=
  if bad then { w with err := lowestErr (w.err.toList ++ [c.at' (pcOf w.st c.n) code]) } else w

/-- A value of this register is unknown; the contents of tile registers decide nothing here. -/
def Walk.hidden (w : Walk) (c : WalkCtx) (r : Nat) : Bool :=
  (decide (r < 80) || decide (88 ≤ r)) && (w.unk.contains r || (c.decl.any fun d => d.1 == r))

/-- The rejection code of a fault condition on the sequence (Table 8.8). -/
def provenCode (f : Nat) : Option Nat :=
  if f = cILLEGAL ∨ f = cLOOP_NEST then some 0x13
  else if f = cARRAY_OCCUPIED ∨ f = cMOVE_OCCUPIED ∨ f = cDRAIN_BUSY ∨ f = cVEC_OCCUPIED then some 0x14
  else if f = cACC_CAPACITY then some 0x17
  else if f = cARRAY_FORMAT ∨ f = cVEC_FORMAT then some 0x18
  else if f = cDRAIN_ADDR ∨ f = cVEC_ADDR ∨ f = cSMEM_ADDR then some 0x20
  else if f = cWINDOW_DENIED then some 0x31
  else none

/-- The fault conditions of a syllable that do not rest on memory contents or on unknown registers. -/
def provenFaults (w : Walk) (i : Instr) (x : SylInfo) (hid : Bool) : List Nat :=
  let occ := [cARRAY_OCCUPIED, cMOVE_OCCUPIED, cVEC_OCCUPIED]
  let fs := (x.check w.u x.y w.st).map (·.1)
  let keep : List Nat := match i with
    | .vBoxdec y => if hid || (parBad y w.st).isEmpty then [cVEC_OCCUPIED] else [cVEC_OCCUPIED, cVEC_ADDR]
    | .vNms y => if hid || (parBad y w.st).isEmpty then [cVEC_OCCUPIED] else [cVEC_OCCUPIED, cVEC_ADDR]
    | .aMm _ => if hid then [] else fs
    | .aSadd _ => if hid then [] else fs
    | .aDrain _ => if hid then [] else fs
    | _ => if hid then occ else fs
  fs.filter fun f => keep.contains f

/-- Stochastic rounding of a drain, a conversion or a store (R78, R185). -/
def stochastic (i : Instr) : Bool :=
  match i with
  | .aDrain y => drRm y == 2
  | .vCvt y => fb y 5 4 == 2
  | .vSt y => vmRM y == 2
  | _ => false

/-- M.SOPEN with a known staging base: the descriptor (0x23), the staging area in one declared buffer (0x24), the windows
of extent and staging (0x31). -/
def walkOpen (c : WalkCtx) (w : Walk) (y : Syl) : Walk :=
  let de := w.st.descr c.n (fb y 4 0)
  let a := getBits (srF y w.st 16 11) 47 0
  let local' := w.st.nodeLocal (dNode de)
  let w1 := w.breach c (!(descForm w.st de) || !(descValid w.st c.n de a) ||
    (local' && !(inBuffer c.b (dLow de).toNat (dHigh de + 1 - dLow de).toNat))) 0x23
  let w2 := w1.breach c (dTier de != 0 && !(stackOk a (stagingBytes de) && inBuffer c.b a (stagingBytes de))) 0x24
  w2.breach c (!(stagingBaseOk w.st c.n (srF y w.st 16 11) de) ||
    !((List.range (dTiles de)).all fun t => tileGranted w.st c.n de t (if fb y 21 21 = 1 then permWR else permRD))) 0x31

/-- Slot overrun of R226, and the live slots after a syllable. -/
def walkLive (c : WalkCtx) (w : Walk) (i : Instr) (hid : Bool) : Walk :=
  match i with
  | .aMm y => if hid then { w with live := [] } else match mmSlot y w.st with
    | some k => if fb y 18 18 = 0 then { w.breach c (w.live.contains k) 0x17 with live := k :: w.live.erase k } else w
    | none => w
  | .aDrain y => if hid then { w with live := [] } else match drSlot y w.st with
    | some k => { w with live := w.live.erase k }
    | none => w
  | _ => w

/-- A slot index register declared with a maximum of 16 or more (R216). -/
def declaredIdx (c : WalkCtx) (i : Instr) : Bool :=
  let big (rs : List Nat) : Bool := rs.any fun r => c.decl.any fun d => d.1 == r && decide (16 ≤ d.2)
  match i with
  | .aMm y => big (idxReg (mmCode y) (fb y 11 6 + 1))
  | .aSadd y => big (idxReg (fb y 17 13) (fb y 11 6 + 1))
  | .aDrain y => big (idxReg (drCode y) (drB y + 3))
  | _ => false

/-- Broadcasts of the quartet, and what makes the skew since the last M.QSYNC unknown (R215). -/
def walkCast (w : Walk) (n : Nat) (i : Instr) (hid : Bool) : Walk :=
  match i with
  | .mWait _ => { w with blur := true }
  | .mLd _ => { w with blur := true }
  | .mLds _ => { w with blur := true }
  | .mQsync _ => { w with seg := w.seg + 1, q0 := w.u, blur := false }
  | .aMm y =>
    if mmBc y = 0 ∨ w.seg = 0 then w
    else if hid ∨ w.blur then { w with vague := w.vague.orElse fun _ => some w.seg }
    else { w with ev := w.ev ++ [⟨n, w.seg, w.u - w.q0, mmBc y == 1, mmV (mmCw y w.st), pcOf w.st n⟩] }
  | _ => w

/-- Register results stay in flight; everything else an operation does later is left out. -/
def keepRegs (s : State) (n : Nat) : State :=
  let c := s.core n
  ({ s with late := s.late.filter fun l => match l.op with
      | .sreg _ _ => true
      | .pred _ _ => true
      | .preds _ => true
      | .mregs _ _ => true
      | _ => false } : State).setCore n { c with fq := [], placed := [] }

/-- The effect of a syllable on registers and occupancies. -/
def walkApply (w : Walk) (n : Nat) (i : Instr) (x : SylInfo) (hid : Bool) : State :=
  let full := keepRegs (x.apply w.u x.y w.st) n
  let c := w.st.core n
  match i with
  | .sLd _ => w.st
  | .vExt _ => w.st
  | .mClaim _ => w.st
  | .vMset _ => if hid || vkOp x.y == 5 then w.st else full
  | .mSopen _ => if hid then w.st else full
  | .aSadd _ => if hid then w.st else full
  | .aDrain y => if hid then w.st else match drSlot y w.st with
    | some k => drainOccupy w.st n k w.u (drV y w.st)
    | none => w.st
  | .vNms y => (vecIssue y w.u 0 w.st).setCore n { (vecIssue y w.u 0 w.st).core n with nmsDone := w.u + nmsLat y }
  | .aMm y => if !hid then full else if fb y 19 19 = 1 then w.st.setCore n c.swap else w.st
  | .aWld y => full.setCore n (((full.core n).setShadowTile { WTile.reset with fmt := wldFmt y }).setShadowValid true)
  | .nop .. => w.st
  | _ => if x.slot == .v then vecIssue x.y w.u 0 w.st else if hid && x.slot == .s then w.st else full

/-- One syllable: the registers of R112, its fault conditions, its effect. -/
def walkSyl (c : WalkCtx) (w : Walk) (i : Instr) : Walk :=
  match sylInfo i with
  | none => w
  | some x =>
    let use := useOf i
    let pr := useP x.y.pred.toNat
    let stale (r : Nat) : Bool := w.out.any fun o => o.1 == r && decide (w.u < o.2.1)
    if pr.any fun r => w.hidden c r then
      -- whether it executes is not known: what it writes becomes unknown, and a branch, loop or halt ends the walk
      let w1 := w.breach c (pr.any stale) 0x12
      let ends := x.slot == .s && decide (0x20 ≤ x.op)
      let w2 := walkCast { w1 with out := w1.out ++ use.writes.map (fun o => (o.1, w.u + o.2, false)), stop := w1.stop || ends } c.n i true
      match i with
      | .aMm _ => { walkLive c w2 i true with blur := true }
      | .aDrain _ => walkLive c w2 i true
      | _ => if x.slot == .m then { w2 with blur := true } else w2
    else if w.st.pr x.y.n x.y.pred.toNat = false then w.breach c (pr.any stale) 0x12
    else
      let hid := use.reads.any fun r => w.hidden c r
      let w1 := w.breach c ((pr ++ use.reads).any stale ||
        use.writes.any fun o => w.out.any fun q => q.1 == o.1 && decide (w.u < q.2.1) && decide (w.u + o.2 ≤ q.2.1)) 0x12
      let w2 := (provenFaults w1 i x hid).foldl (fun v f => match provenCode f with
        | some k => v.breach c true k
        | none => v) w1
      let w3 := w2.breach c (!hid && x.hold w.u x.y w.st) 0x16
      let w4 := (w3.breach c (declaredIdx c i) 0x17).breach c (stochastic i && !c.seed) 0x19
      let w5 := match i with
        | .mSopen y => if hid then w4 else walkOpen c w4 y
        | _ => w4
      let w6 := walkCast (walkLive c w5 i hid) c.n i hid
      let nest := (provenFaults w1 i x hid).any fun f => f == cLOOP_NEST || f == cILLEGAL
      let lost := hid && x.slot == .s && decide (0x20 ≤ x.op)
      { w6 with st := walkApply w6 c.n i x hid, stop := w6.stop || lost || nest,
                out := w6.out ++ use.writes.map (fun o => (o.1, w.u + o.2, use.known && !hid)) }

/-- The results that complete by cycle u make their registers known or unknown, in the order of their completion. -/
def settleOut (w : Walk) : Walk :=
  let done := w.out.filter fun o => decide (o.2.1 ≤ w.u)
  let unk := done.foldl (fun k o => if o.2.2 then k.filter (· != o.1) else if k.contains o.1 then k else o.1 :: k) w.unk
  { w with unk := unk, out := w.out.filter fun o => decide (w.u < o.2.1) }

/-- One bundle in its cycle; the walk ends with S.HALT, where it leaves the program, and where it stops early. -/
def walkBundle (c : WalkCtx) (w0 : Walk) : Walk × Bool :=
  let w1 := settleOut { w0 with st := tickTo w0.st w0.u }
  let pc := pcOf w1.st c.n
  let base := c.x.target % 16384
  if (w1.st.core c.n).pastEnd then ({ w1 with err := lowestErr (w1.err.toList ++ [c.at' 16384 0x13]) }, false)
  else if pc < base ∨ base + c.x.len / 16 ≤ pc then ({ w1 with stop := true }, false)
  else
    let is := imageSyls c.n (imBytes c.b (c.x.off + 16 * (pc - base)) 16)
    let ready := setCtl w1.st c.n fun _ => ⟨none, none, false⟩
    -- the writes of one bundle are no outstanding writes to its own syllables
    let r := is.foldl (fun (a : Walk × List (Nat × Nat × Bool)) i =>
      let v := walkSyl c { a.1 with out := w1.out } i
      (v, a.2 ++ v.out.drop w1.out.length)) ({ w1 with st := ready }, [])
    let w2 : Walk := { r.1 with out := w1.out ++ r.2 }
    if w2.stop then (w2, false)
    else if (w2.st.core c.n).ctl.halt then (w2, false)
    else
      let nx := nextBundle w2.st c.n pc
      ({ w2 with st := setPc nx.2 c.n nx.1, u := w2.u + 1 }, true)

/-- At most k bundles are followed. -/
def walkRun (c : WalkCtx) : Nat → Walk → Walk
  | 0, w => { w with stop := true }
  | k + 1, w => match walkBundle c w with
    | (w1, true) => walkRun c k w1
    | (w1, false) => w1

/-- The registers that BOUNDS entries declare for a core, with MAX (R216). -/
def declared (b : List Byte) (n : Nat) : List (Nat × Nat) :=
  match sectOf b tBOUNDS 0 with
  | none => []
  | some x => (List.range (x.len / 16)).filterMap fun k =>
    if im b (x.off + 16 * k) 2 = n then some (im b (x.off + 16 * k + 2) 1, im b (x.off + 16 * k + 8) 8) else none

/-- The masks other than m0 hold what they held. -/
def unknownMasks : List Nat := (List.range 7).map (89 + ·)

/-- The walk over the sequence of a core whose PROGRAM section is x, from its start address. start sets the machine up with
the plan's windows, registers and program. -/
def walkCore (b : List Byte) (start : Nat → State) (x : Sect) : Walk :=
  let r := match sectOf b tREGS x.idx with
    | some r => r.bytes b
    | none => []
  let c : WalkCtx := { b := b, n := Fin.ofNat 64 x.idx, x := x, seed := (im r 1558 1).testBit 0, decl := declared b x.idx }
  let st := setPc (start x.idx) x.idx (regsStart r)
  walkRun c (2 ^ 24) { st := st, u := 0, unk := unknownMasks, out := [], live := [], seg := 0, q0 := 0, blur := false, vague := none,
                       ev := [], err := none, stop := false }

/-! ### The broadcasts of a quartet (code 0x15, R37) -/

/-- What a walk knows of its core's broadcasts between M.QSYNC k and the next. -/
def Walk.casts (w : Walk) (k : Nat) : List CastEv := w.ev.filter fun e => e.seg == k
def Walk.sure (w : Walk) (k : Nat) : Bool :=
  (match w.vague with
    | some j => decide (k < j)
    | none => true) && (!w.stop || decide (k < w.seg))

/-- A SEND while the stream is open, a RECV outside the window of every SEND, or one of too many vectors; streams that a
SEND before the M.QSYNC opened are left out of account by waiting until they must have closed. -/
def castBad (ws : List Walk) (k : Nat) (e : CastEv) : Bool :=
  let sends := ws.flatMap fun w => (w.casts k).filter fun o => o.send
  let before := ws.any fun w => (w.casts (k - 1)).any fun o => o.send
  let sure := ws.all fun w => w.sure k && w.sure (k - 1)
  if e.send then sends.any fun o => (decide (o.rel < e.rel) || (o.rel == e.rel && decide (o.core < e.core))) && decide (e.rel < o.rel + o.v)
  else sure && (!before || decide (16 ≤ e.rel)) &&
    !(sends.any fun o => decide (o.rel ≤ e.rel) && decide (e.rel ≤ o.rel + 15) && decide (e.rel < o.rel + o.v) && decide (e.v ≤ o.v))

/-- The failures proven over the sequences of a plan, and whether any sequence was stopped early. -/
def walkPlan (b : List Byte) (start : Nat → State) : List LdErr × Bool :=
  let xs := ofType b tPROGRAM
  let ws := xs.map fun x => (x, walkCore b start x)
  let casts := ws.flatMap fun w =>
    let q := (ws.filter fun v => v.1.idx / 4 == w.1.idx / 4).map (·.2)
    let whole := q.length == 4
    (w.2.ev.filter fun e => (e.send || whole) && castBad q e.seg e).map fun e =>
      ({ sectErr 0x15 w.1 (w.1.off + 16 * (e.pc - w.1.target % 16384)) with bundle := e.pc } : LdErr)
  ((ws.filterMap fun w => w.2.err) ++ casts, ws.any fun w => w.2.stop)

end Sys2Proof.Machine
end

