-- ==== Sys2Proof/Machine/Loader.lean ====
section
/-! DEFINITION. The plan loader (R205 to R218): taking a load request, and writing a verified plan into the device. -/

namespace Sys2Proof.Machine

/-! ### The request record and the load report (R209 to R212) -/

def reqAddr : Nat := stackBase
def reportAddr : Nat := stackBase + 0x40

/-- The request record of the mailbox (Table 8.6). -/
def readRequest (s : State) : LoadReq :=
  let f (o k : Nat) : Nat := s.readLE (.flat (reqAddr + o)) k
  { seq := f 0 4, flags := f 4 4, image := f 8 8, limit := f 16 8, notify := f 24 8, nval := f 32 4 }

def rpVERIFYING : Nat := 1
def rpLOADING : Nat := 2
def rpLOADED : Nat := 3
def rpSTARTED : Nat := 4
def rpREJECTED : Nat := 5
def rpFAILED : Nat := 6

/-- The 64 bytes of a load report (Table 8.7). -/
def reportBytes (seq st flags plan : Nat) (e : LdErr) : List Byte :=
  leBytes 4 seq ++ leBytes 1 st ++ leBytes 1 e.code ++ leBytes 2 flags ++ leBytes 2 e.sect ++ leBytes 2 e.core ++
    leBytes 2 e.bundle ++ leBytes 2 0 ++ leBytes 8 e.detail ++ leBytes 8 plan ++ leBytes 32 0

/-- The load report becomes st; on the states of R211 the requester is notified. -/
def loadReport (s : State) (r : LoadReq) (st : Nat) (e : LdErr) : State :=
  let s1 := unitWrite s reportAddr (reportBytes r.seq st (b2n s.ldr.part) s.ldr.plan e)
  if st ≤ rpLOADING then s1 else notify s1 r.notify r.nval

/-- The request ends. A trigger latched meanwhile stays where the record holds another SEQ (R212). -/
def endLoad (s : State) (r : LoadReq) : State :=
  { s with ldr := { s.ldr with seq := r.seq, req := none, loading := false,
                               latched := s.ldr.latched && (readRequest s).seq != r.seq } }

def rejectLoad (s : State) (r : LoadReq) (e : LdErr) : State := endLoad (loadReport s r rpREJECTED e) r

/-- A core is CLOSING or its program runs (R212). -/
def loadBusy (s : State) : Bool :=
  (List.range 64).any fun n => coreState s n == 2 || coreRun s n == runRUNNING || coreRun s n == runSTALLED

/-- The bytes of the image that the loader may read; none after an uncorrectable read. -/
def readImage (s : State) (r : LoadReq) : Option (List Byte) × State :=
  let h := memRead s r.image (min 256 r.limit)
  if h.1 ≠ csOK then (none, h.2.2)
  else
    let d := memRead h.2.2 r.image (min (imgLen h.2.1) r.limit)
    if d.1 ≠ csOK then (none, d.2.2) else (some (if imgLen h.2.1 < 256 then h.2.1 else d.2.1), d.2.2)

/-- LOAD_REQUEST (R210 to R214): the record is read, and the request rejected or passed to loading. -/
def loadRequest (s0 : State) : State :=
  if s0.ldr.latched = false ∨ s0.ldr.req.isSome = true then s0
  else
    let s : State := { s0 with ldr := { s0.ldr with latched := false, part := false } }
    let r := readRequest s
    if r.seq = 0 then s
    else if loadBusy s then rejectLoad s r (ldErr 0x70)
    else if r.image % 64 ≠ 0 ∨ memOk s r.image r.limit = false then rejectLoad s r { ldErr 0x04 with detail := r.image }
    else
      let m := readImage s r
      match m.1 with
      | none => rejectLoad m.2 r (ldErr 0x05)
      | some b =>
        match lowestErr ((errIf (decide (r.limit < imgLen b)) { ldErr 0x04 with detail := 32 }).toList ++ (chkEarly s b).toList) with
        | some e => rejectLoad m.2 r e
        | none => loadReport { m.2 with ldr := { m.2.ldr with req := some r } } r rpVERIFYING { ldErr 0 with core := 0xFFFF }

/-! ### Writing the plan (R218) -/

/-- Cores, update units and attention engines that a plan sets up. -/
def planCores (b : List Byte) : List Nat := (List.range 64).filter fun n => (sectOf b tPROGRAM n).isSome
def planUpds (b : List Byte) : List Nat := (List.range 16).filter fun c => (sectOf b tUPDATE c).isSome
def planAtts (b : List Byte) : List Nat := (List.range 16).filter fun q => (sectOf b tATTN q).isSome

/-- An engine that is to be written is closed, as far as nothing in flight holds it. -/
def closeCore (s : State) (n : Nat) : State :=
  let s1 := coreDisable s n
  coreCloseDone (match (s1.late.filter fun l => l.n == n).getLast? with
    | some l => tickTo s1 l.due
    | none => s1) n
def closeUpd (s : State) (c : Nat) : State := updCloseDone (updDisable s c) c
def closeAtt (s : State) (q : Nat) : State := attCloseDone (attDisable s q) q

def closeEngines (s : State) (b : List Byte) : State :=
  (planAtts b).foldl closeAtt ((planUpds b).foldl closeUpd ((planCores b).foldl closeCore s))

def enginesOff (s : State) (b : List Byte) : Bool :=
  (planCores b).all (fun n => coreState s n == 0) && (planUpds b).all (fun c => updState s c == 0) &&
    (planAtts b).all fun q => attState s q == 0

/-- The window table of a core. -/
def loadWindows (s : State) (b : List Byte) (n : Nat) : State :=
  let p := match sectOf b tWINDOWS n with
    | some x => x.bytes b
    | none => []
  if (sectOf b tPROGRAM n).isNone ∧ (sectOf b tWINDOWS n).isNone then s
  else (List.range 256).foldl (fun st i =>
    let w := winLoHi p i
    windowWrite (windowWrite st n (Fin.ofNat 256 i) false .w64 w.1) n (Fin.ofNat 256 i) true .w64 w.2) s

def loadProgram (s : State) (b : List Byte) (n : Nat) : State :=
  match sectOf b tPROGRAM n with
  | none => s
  | some x =>
    s.setCore n ((List.range (x.len / 16)).foldl (fun c k => c.putBundle (x.target % 16384 + k)
      (BitVec.ofNat 64 (im b (x.off + 16 * k) 8)) (BitVec.ofNat 64 (im b (x.off + 16 * k + 8) 8))) (s.core n))

def loadRegs (s : State) (b : List Byte) (n : Nat) : State :=
  match sectOf b tREGS n with
  | none => s
  | some x =>
    let w (o k : Nat) : Word := BitVec.ofNat 64 (im b (x.off + o) k)
    let s1 := (List.range 64).foldl (fun st i => st.setSr n i (w (8 * i) 8)) s
    let s2 := s1.setReg (R.PRED n) (w 512 8 &&& 0xFFFE#64 ||| 1#64)
    let s3 := (List.range 32).foldl (fun st d => (List.range 4).foldl (fun st k => st.setReg (R.DREG n d k) (w (520 + 32 * d + 8 * k) 8)) st) s2
    (s3.setReg (R.SR_STATE n) (w 1544 8)).setFld (F.WAIT_LIMIT_LIMIT n) (im b (x.off + 1552) 4)

def loadCoreMem (s : State) (b : List Byte) (n : Nat) : State :=
  ((ofType b tCOREMEM).filter fun x => x.idx == n).foldl (fun st x => st.writeBytes (.core n x.target) (x.bytes b)) s

/-- Step 2 of R218 for one core. -/
def loadCore (b : List Byte) (s : State) (n : Nat) : State :=
  loadCoreMem (loadRegs (loadProgram (loadWindows s b n) b n) b n) b n

/-- Step 3 of R218 for one core. -/
def clearCore (s : State) (n : Nat) : State :=
  let s1 := s.setFld (F.FAULT_REC_VALID n) 0
  let s2 := (List.range 16).foldl (fun st c => st.setReg (R.COMP n c) 0#64) s1
  accRemoteWrite s2 n .w64 0#64

def loadRoutes (s : State) (b : List Byte) : State :=
  match sectOf b tROUTES 0 with
  | none => s
  | some x =>
    let s1 := (List.range 16384).foldl (fun st i => st.setReg (R.ROUTE i) (BitVec.ofNat 64 (im b (x.off + 8 * i) 8))) s
    (List.range 512).foldl (fun st i =>
      st.setReg (R.REDUCE (i / 8) (i % 8)) (BitVec.ofNat 64 (im b (x.off + 131072 + 8 * i) 8))) s1

def loadSched (b : List Byte) (s : State) (p : Nat) : State :=
  match sectOf b tPORTSCHED p with
  | none => s
  | some x =>
    let fl := im b x.off 2
    let s1 := (List.range ((fl + 31) / 32)).foldl (fun st i =>
      st.setReg (R.SCHED p i) (BitVec.ofNat 64 (leNat ((imBytes b (x.off + 16 + 8 * i) (min 8 ((fl - 32 * i) / 4))) ++
        leBytes 8 0xAAAAAAAAAAAAAAAA |>.take 8)))) s
    (s1.setFld (F.SCHED_CTRL_FLEN p) fl).setFld (F.SCHED_CTRL_SWAP p) 1

def loadUpdate (b : List Byte) (s : State) (c : Nat) : State :=
  match sectOf b tUPDATE c with
  | none => s
  | some x =>
    let p := x.bytes b
    let s1 := updRingWrite s c .w64 (BitVec.ofNat 64 (im p 0 8 + im p 8 1 % 16 * 2 ^ 48))
    setUpd s1 c { updOf s1 c with groups := groupsOf p }

def loadClaims (s : State) (b : List Byte) : State :=
  match sectOf b tCLAIMS 0 with
  | none => s
  | some x => (List.range 64).foldl (fun st i => claimSetWrite st i .w64 (BitVec.ofNat 64 (im b (x.off + 8 * i) 8))) s

/-- The PAIR section (R487). -/
def loadPair (s : State) (b : List Byte) : State :=
  match sectOf b tPAIR 0 with
  | none => s
  | some x =>
    let p := x.bytes b
    let s1 := ((s.setFld F.PAIR_CTRL_PARTNER (im p 0 2)).setFld F.PAIR_CTRL_ROLE (im p 2 1)).setFld F.PAIR_CTRL_PORTS (im p 4 4 % 2 ^ 24)
    let s2 := (s1.setFld F.JRN_CFG_JN (im p 3 1 - 1)).setFld F.JRN_CFG_NTILES (im p 24 4)
    let s3 := (s2.setReg R.JRN_BASE (BitVec.ofNat 64 (im p 8 8))).setReg R.JRN_LBASE (BitVec.ofNat 64 (im p 16 8))
    { s3 with jrn := { s3.jrn with regions := pairRegions p, recvBase := im p 40 8, recvSize := im p 48 8, peerBase := im p 56 8,
                                   peerSize := im p 64 8, hbUs := im p 28 4, hbTimeout := im p 32 4, hbNext := s.now, hbSeen := s.now } }

def loadCxl (s : State) (b : List Byte) : State :=
  match sectOf b tCXL 0 with
  | none => s
  | some x => cxlWinWrite (cxlWinWrite s false .w64 (BitVec.ofNat 64 (im b x.off 8))) true .w64 (BitVec.ofNat 64 (im b (x.off + 8) 8))

/-- Zero bytes in a range of memory. -/
def zeroRange (s : State) (a len : Nat) : State :=
  ({ s with mem := s.mem.filter fun c => decide (c.1 < a) || decide (a + len ≤ c.1) } : State).wholeUnits a len

/-- The ATTN section of an engine (R342). -/
def loadAttn (b : List Byte) (s : State) (q : Nat) : State :=
  match sectOf b tATTN q with
  | none => s
  | some x =>
    let p := x.bytes b
    let ring (a l : Nat) : Word := BitVec.ofNat 64 (a % 2 ^ 48 + l % 16 * 2 ^ 48)
    let conf := im p 8 8 / 4096 + im p 27 1 * 2 ^ 15 + im p 28 1 * 2 ^ 22 + im p 29 1 * 2 ^ 31 + im p 30 1 * 2 ^ 33
    let s1 := (s.setReg (R.ATT_CONF q) (BitVec.ofNat 64 conf)).setReg (R.ATT_FERN q) (BitVec.ofNat 64 (im p 0 8))
    let s2 := ((s1.setReg (R.ATT_SRING q) (ring (im p 16 8) (im p 24 1))).setReg (R.ATT_CRING q)
      (ring (im p 32 8) (im p 25 1))).setReg (R.ATT_RRING q) (ring (im p 40 8) (im p 26 1))
    let s3 := zeroRange s2 (im p 0 8) (im p 8 8)
    let s4 := (List.range 64).foldl (fun st i => (st.setFld (F.SEQ_STATE_LEN q i) 0).setFld (F.SEQ_STATE_GEN q i) 0) s3
    attEnable (((s4.setReg (R.ATT_SPTR q) 0#64).setReg (R.ATT_CPTR q) 0#64).setReg (R.ATT_RPTR q) 0#64) q

/-- Steps 2 to 5 of R218. -/
def writePlan (s : State) (b : List Byte) : State :=
  let s2 := (List.range 64).foldl (loadCore b) s
  let s3 := (List.range 64).foldl clearCore s2
  let s4 := (List.range 16).foldl (loadUpdate b) ((List.range 24).foldl (loadSched b) (loadRoutes s3 b))
  let s5 := (List.range 16).foldl (loadAttn b) (loadCxl (loadPair (loadClaims s4 b) b) b)
  let s6 := { s5 with jrn := { s5.jrn with opened := false } }.setFld F.PAIR_STATUS_PEER_LOST 0
  (ofType b tDATA).foldl (fun st x => unitWrite st x.target (x.bytes b)) s6

/-- Step 6. -/
def enablePlan (s : State) (b : List Byte) : State := (planUpds b).foldl updEnable ((planCores b).foldl coreOnTest s)

/-- Step 7: GO is written in ascending core number. -/
def startPlan (s : State) (b : List Byte) : State :=
  (planCores b).foldl (fun st n => match sectOf b tREGS n with
    | some x => if regsGo (x.bytes b) then seqStartWrite st n .w64 (BitVec.ofNat 64 (regsStart (x.bytes b) * 2 ^ 16 + 1)) else st
    | none => st) (tickTo s (s.now + 1))

/-- A load that fails while it copies (R213). -/
def failLoad (s : State) (r : LoadReq) : State :=
  let s1 := (List.range 64).foldl closeCore s
  endLoad (loadReport { s1 with ldr := { s1.ldr with plan := 0 } } r rpFAILED (ldErr 0x05)) r

/-- The engines are closed and the plan is written; where an engine is not OFF the load waits. -/
def loadPlan (s0 : State) (r : LoadReq) (b : List Byte) : State :=
  let s := closeEngines s0 b
  if !(enginesOff s b) then s
  else if !(digestOk b) then failLoad s r
  else
    let s1 := enablePlan (writePlan s b) b
    let s2 := loadReport { s1 with ldr := { s1.ldr with plan := im b 40 8 } } r rpLOADED (ldErr 0)
    endLoad (if r.flags.testBit 0 then loadReport (startPlan s2 b) r rpSTARTED (ldErr 0) else s2) r

/-- The machine in which the walk over a core's sequence begins: the core with the plan's windows and registers, nothing in
flight (R215). -/
def walkStart (s : State) (b : List Byte) (n : Nat) : State :=
  let s0 : State := { s with late := [], cores := [], bcast := [], now := 0 }
  loadRegs (loadWindows ((s0.setReg (R.SEQ_CTRL n) 0#64).setReg (R.SEQ_STATUS n) 0#64) b n) b n

/-- What is found in the programs of an image: fields that no register can make right, and breaches proven (R215). -/
def chkPrograms (s : State) (b : List Byte) : List LdErr × Bool :=
  let w := walkPlan b (walkStart s b)
  ((chkFields b 0x17 slotFieldBad).toList ++ (chkFields b 0x18 formatFieldBad).toList ++ w.1, w.2)

/-- PLAN_LOAD (R213 to R218). -/
def planLoad (s : State) : State :=
  match s.ldr.req with
  | none => s
  | some r =>
    let m := readImage s r
    match m.1 with
    | none => if s.ldr.loading then failLoad m.2 r else rejectLoad m.2 r { ldErr 0x05 with detail := 64 }
    | some b =>
      if s.ldr.loading then loadPlan m.2 r b
      else
        let w := chkPrograms m.2 b
        let s1 : State := { m.2 with ldr := { m.2.ldr with part := w.2 } }
        match chkLate s1 b w.1 with
        | some e => rejectLoad s1 r e
        | none => loadPlan (loadReport { s1 with ldr := { s1.ldr with loading := true } } r rpLOADING (ldErr 0)) r b

end Sys2Proof.Machine
end

