-- ==== Sys2Proof/Machine/Rows.lean ====
section
/-! DEFINITION. Shared operations of the command meanings: the package in reset, events that come due in a cycle of
their own, the CONTROL flits of a link as commands, engines by name. -/

namespace Sys2Proof.Machine

/-- What acts in reset as well: power, the module's inputs, the management endpoint. No command changes the queue. -/
def always (f : State → State) (s : State) : Host.Outcome State Fault Refusal := .next { f s with pending := s.pending }

/-- While the package is in reset or unpowered, nothing in it acts (R445). -/
def ifUp (f : State → State) (s : State) : Host.Outcome State Fault Refusal :=
  always (fun s => if s.out.mgt.inReset then s else f s) s

/-- The clock moves on to the cycle in which an event is due, if it is still ahead. -/
def tickDue (s : State) (t : Nat) : State := if s.now < t then tickTo s t else s

/-- A register write that a row of its own performs: it is answered as done unless its rule answers otherwise. -/
def okReply (s : State) : State := { s with reply := .ok }

/-- Who writes a pair register: a fabric request of a node, or the supervisor. -/
def pairWriter : Option (BitVec 16) → Writer
  | none => .sup
  | some x => .fab x.toNat

/-! ### Links -/

/-- ACK_TIMEOUT_REPLAY: 1 µs of ACLK after the ACK last advanced (R371). -/
def ackTimeout (s0 : State) (p : Nat) : State :=
  if lstate s0 p ≠ 4 ∨ (s0.port p).retry = [] then s0
  else
    let s := tickDue s0 ((s0.port p).ackAt + 700)
    match (s.port p).retry with
    | [] => s
    | f :: _ => replayFrom s p f.1

/-- NEGOTIATE_RESEND, until the partner's NEGOTIATE and NEG_ACK are in (R374). -/
def negotiateResend (s : State) (p : Nat) : State :=
  let x := s.port p
  if lstate s p ≠ 3 ∨ (x.rxNeg.isSome ∧ x.rxNegAck.isSome) then s else s.setPort p { x with ctl := x.ctl ++ [.negotiate] }

/-- LINK_IDLE_TIMEOUT: 2 µs of ACLK after the last good flit (R373). -/
def linkIdle (s0 : State) (p : Nat) : State :=
  if lstate s0 p < 2 then s0 else portDown (tickDue s0 ((s0.port p).lastGood + 1400)) p

/-- TRAIN_BACKOFF_EXPIRY: 10 ms of ACLK after the return to DOWN (R373). -/
def trainBackoff (s0 : State) (p : Nat) : State :=
  match (s0.port p).downAt with
  | none => s0
  | some d => if portState s0 p = 1 ∧ lstate s0 p = 0 then portTrain (tickDue s0 (d + 7000000)) p else s0

/-- CLOSE_WAIT_EXPIRY (R402). -/
def closeWaitRow (s0 : State) (p : Nat) : State :=
  match (s0.port p).closeAt with
  | none => s0
  | some t => if portState s0 p = 2 then closeWaitExpiry (tickDue s0 t) p else s0

/-- TRK_TIMEOUT at the deadline of a transaction (R387). -/
def trkTimeoutRow (s0 : State) (id : Nat) : State :=
  match (s0.tx id).map (fun t : TxReq => t.st) with
  | some (TxState.sent _ _ dl _) => if dl = 0 then s0 else trkTimeout (tickDue s0 dl) id
  | _ => s0

/-- A CONTROL flit that a port takes in one of the link states. -/
def linkCtl (s : State) (p : Nat) (from3 : Bool) (f : State → State) : State :=
  if lstate s p = 4 ∨ (from3 = true ∧ lstate s p = 3) then f (goodFlit s p) else s

/-- MARKER: an alignment marker counts as a flit received (R365, R373). -/
def markerRow (s : State) (p : Nat) : State := if lstate s p < 2 then s else goodFlit s p

/-! ### Pair, ingest, attention, guard, self-test, boot -/

def heartbeatSendRow (s : State) : State :=
  if pairRole s = 0 ∨ safeActive s = true ∨ s.jrn.hbUs = 0 then s else heartbeatSend (tickDue s s.jrn.hbNext)

def heartbeatTimeoutRow (s : State) : State :=
  if pairRole s = 0 ∨ s.jrn.hbTimeout = 0 ∨ s.flag F.PAIR_STATUS_PEER_LOST = true then s
  else heartbeatTimeout (tickDue s (s.jrn.hbSeen + usCycles s.jrn.hbTimeout))

def ingestAckRow (s : State) (t : Nat) : State :=
  match (ingOf s t).timer with
  | none => s
  | some d => ingestAckTimer (tickDue s d) t

/-- ATT_PAGE_ARRIVE, after the pinning (R360). -/
def attPageRow (s : State) (q : Nat) (uncorr : Bool) : State :=
  match (attOf s q).cur with
  | none => s
  | some st => attPageArrive (tickDue s st.pinEnd) q uncorr

/-- ATT_STEP_COMPLETE, when the work on the pages has ended and no page is left. -/
def attCompleteRow (s : State) (q : Nat) : State :=
  match (attOf s q).cur with
  | none => s
  | some st => if (attNext s q st).1 = none then attStepComplete (tickDue s (max st.pinEnd st.busyEnd)) q else s

/-- GUARD_REFETCH, 64 cycles after the refetch began (R248). -/
def guardRow (s : State) (n : Nat) : State :=
  match (s.core n).held with
  | none => s
  | some h => match h.awaited with
    | none => s
    | some a => match ((s.core n).stream a.1).bind fun t => (t.slots.getD a.2 StgSlot.reset).guardAt with
      | none => s
      | some g0 => guardRefetch (tickDue s (g0 + 64)) n

def selfTestDoneRow (s : State) (fail : Option (Nat × Nat)) : State :=
  match s.st.run with
  | none => s
  | some r => selfTestDone (tickDue s (r.2 + stCycles r.1)) fail

def bootAttemptRow (s : State) (readable : Bool) : State :=
  if s.dike.rom = false ∨ s.dike.romStarted = false then s
  else match s.dike.waitEnd with
    | none => s
    | some t => bootAttempt (tickDue s t) readable

/-! ### Engines by name (R442, R443) -/

def engineOnRow (s : State) (e : Engine) : State :=
  match e with
  | .core n => coreOnTest s n
  | .mc c => mcEnable s c
  | .upd c => updEnable s c
  | .flash => flashEnable s
  | .att q => attEnable s q
  | .port p => portEnable s p
  | .eth k => ethEnable s k
  | .cxl => cxlEnable s

def engineCloseRow (s : State) (e : Engine) : State :=
  match e with
  | .core n => coreCloseDone s n
  | .mc c => mcCloseDone s c
  | .upd c => updCloseDone s c
  | .flash => flashCloseDone s
  | .att q => attCloseDone s q
  | .port p => closeCheck s p
  | .eth k => ethCloseDone s k
  | .cxl => cxlCloseDone s

end Sys2Proof.Machine
end

