-- ==== Sys2Proof/Machine/CmdArray.lean ====
section
/-! DEFINITION. Meanings of the A-slot syllables (chapters 2 and 4). -/

namespace Sys2Proof.Machine

/-- A_WLD (R31). -/
def execAWld (y : Syl) (s : State) : Host.Outcome State Fault Refusal := ifUp (addSyl (.aWld y)) s

/-- A_MM (R34). -/
def execAMm (y : Syl) (s : State) : Host.Outcome State Fault Refusal := ifUp (addSyl (.aMm y)) s

/-- A_SADD (R89). -/
def execASadd (y : Syl) (s : State) : Host.Outcome State Fault Refusal := ifUp (addSyl (.aSadd y)) s

/-- A_DRAIN (R90). -/
def execADrain (y : Syl) (s : State) : Host.Outcome State Fault Refusal := ifUp (addSyl (.aDrain y)) s

end Sys2Proof.Machine
end

