-- ==== Sys2Proof/Machine/CmdCore.lean ====
section
/-! DEFINITION. Meanings of register accesses, of the events of a core and of its control, and of the plan loader (chapters 2 to 8). -/

namespace Sys2Proof.Machine

/-- REGISTER_WRITE (R5). -/
def execRegisterWrite (addr : Nat) (size : Nat) (v : Word) (s : State) : Host.Outcome State Fault Refusal :=
  ifUp (fun s => ctlWrite s .sup addr size v) s

/-- RC_READ (R6). -/
def execRcRead (addr : Nat) (size : Nat) (s : State) : Host.Outcome State Fault Refusal :=
  ifUp (fun s => ctlRead s addr size) s

/-- DELAYED_RESULT_WRITE (R111). -/
def execDelayedResultWrite (n : Fin 64) (s : State) : Host.Outcome State Fault Refusal := ifUp (fun s => delayedResult s n) s

/-- STALL_END (R116). -/
def execStallEnd (n : Fin 64) (s : State) : Host.Outcome State Fault Refusal := ifUp (fun s => stallEnd s n) s

/-- WAIT_TIMEOUT (R117). -/
def execWaitTimeout (n : Fin 64) (s : State) : Host.Outcome State Fault Refusal := ifUp (fun s => waitTimeout s n) s

/-- TIER_BOUND_EXPIRY (R245). -/
def execTierBoundExpiry (n : Fin 64) (s : State) : Host.Outcome State Fault Refusal := ifUp (fun s => tierBoundExpiry s n) s

/-- DEFERRED_FAULT_DUE (R125). -/
def execDeferredFaultDue (n : Fin 64) (s : State) : Host.Outcome State Fault Refusal :=
  ifUp (fun s => deferredFaultDue s n) s

/-- CFS_COMPARE (R129). -/
def execCfsCompare (n : Fin 64) (upset : BitVec 32) (s : State) : Host.Outcome State Fault Refusal :=
  ifUp (fun s => cfsCompareRow s n upset.toNat) s

/-- CLAIM_ARRIVAL (R224). -/
def execClaimArrival (w : Option (Fin 64 × AccSz × Word)) (fs : List Arr) (s : State) : Host.Outcome State Fault Refusal :=
  ifUp (fun s => claimArrival s w fs) s

/-- FABRIC_OP_COMPLETE (R152). -/
def execFabricOpComplete (n : Fin 64) (id : Nat) (s : State) : Host.Outcome State Fault Refusal :=
  ifUp (fun s => fabricOpComplete s n id) s

/-- COMP_WRITE (R155). -/
def execCompWrite (n : Fin 64) (c : Fin 16) (v : BitVec 32) (s : State) : Host.Outcome State Fault Refusal :=
  ifUp (fun s => compWrite (okReply s) n c s.now .lo (v.setWidth 64)) s

/-- WEIGHT_LOAD_COMPLETE (R29). -/
def execWeightLoadComplete (n : Fin 64) (s : State) : Host.Outcome State Fault Refusal :=
  ifUp (fun s => weightLoadDone s n) s

/-- MM_ROW_WRITE (R34). -/
def execMmRowWrite (n : Fin 64) (upset : ArrayUpset) (s : State) : Host.Outcome State Fault Refusal :=
  ifUp (fun s => mmRowWrite s n upset) s

/-- BCAST_STREAM_CLOSE (R37). -/
def execBcastStreamClose (q : Fin 16) (s : State) : Host.Outcome State Fault Refusal := ifUp (fun s => bcastClose s q) s

/-- DRAIN_CHECK_VERDICT (R49). -/
def execDrainCheckVerdict (n : Fin 64) (s : State) : Host.Outcome State Fault Refusal := ifUp (fun s => drainVerdict s n) s

/-- LICHEN_WRITE (R51). -/
def execLichenWrite (n : Fin 64) (col : Bool) (i : Fin 2) (sz : AccSz) (v : Word)
    (s : State) : Host.Outcome State Fault Refusal :=
  ifUp (fun s => lichenWrite (okReply s) n col i sz v) s

/-- SR_STATE_WRITE (R78). -/
def execSrStateWrite (n : Fin 64) (sz : AccSz) (v : Word) (s : State) : Host.Outcome State Fault Refusal :=
  ifUp (fun s => srStateWrite (okReply s) n sz v) s

/-- ACC_WINDOW_READ (R83). -/
def execAccWindowRead (n : Fin 64) (off : Nat) (size : Nat) (s : State) : Host.Outcome State Fault Refusal :=
  ifUp (fun s => accWindowRead s n off size) s

/-- ACC_WINDOW_WRITE (R83). -/
def execAccWindowWrite (n : Fin 64) (off : Nat) (size : Nat) (v : Word) (s : State) : Host.Outcome State Fault Refusal :=
  ifUp (fun s => accWindowWrite s n off size v) s

/-- ACC_REMOTE_WRITE (R86). -/
def execAccRemoteWrite (n : Fin 64) (sz : AccSz) (v : Word) (s : State) : Host.Outcome State Fault Refusal :=
  ifUp (fun s => accRemoteWrite (okReply s) n sz v) s

/-- RADD_ADD_COMPLETE (R87). -/
def execRaddAddComplete (n : Fin 64) (s : State) : Host.Outcome State Fault Refusal := ifUp (fun s => raddAddDone s n) s

/-- SEQ_START_GO (R128). -/
def execSeqStartGo (n : Fin 64) (sz : AccSz) (v : Word) (s : State) : Host.Outcome State Fault Refusal :=
  ifUp (fun s => seqStartWrite (okReply s) n sz v) s

/-- CORE_ENABLE (R130). -/
def execCoreEnable (n : Fin 64) (s : State) : Host.Outcome State Fault Refusal := ifUp (fun s => coreOnTest s n) s

/-- CORE_DISABLE (R130). -/
def execCoreDisable (n : Fin 64) (s : State) : Host.Outcome State Fault Refusal := ifUp (fun s => coreDisable s n) s

/-- CORE_CLOSE_DONE (R130). -/
def execCoreCloseDone (n : Fin 64) (s : State) : Host.Outcome State Fault Refusal := ifUp (fun s => coreCloseDone s n) s

/-- SEQ_REG_WRITE (R133). -/
def execSeqRegWrite (n : Fin 64) (r : SeqReg) (sz : AccSz) (v : Word) (s : State) : Host.Outcome State Fault Refusal :=
  ifUp (fun s => seqRegWrite (okReply s) n r sz v) s

/-- IMEM_PTR_WRITE (R133). -/
def execImemPtrWrite (n : Fin 64) (sz : AccSz) (v : Word) (s : State) : Host.Outcome State Fault Refusal :=
  ifUp (fun s => imemPtrWrite (okReply s) n sz v) s

/-- IMEM_DATA_WRITE (R133). -/
def execImemDataWrite (n : Fin 64) (sz : AccSz) (v : Word) (s : State) : Host.Outcome State Fault Refusal :=
  ifUp (fun s => imemDataWrite (okReply s) n sz v) s

/-- IMEM_DATA_READ (R133). -/
def execImemDataRead (n : Fin 64) (sz : AccSz) (s : State) : Host.Outcome State Fault Refusal :=
  ifUp (fun s => regRead s (R.IMEM_DATA n) sz) s

/-- NMS_COMPLETE (R340). -/
def execNmsComplete (n : Fin 64) (s : State) : Host.Outcome State Fault Refusal := ifUp (fun s => nmsComplete s n) s

/-- MREG_WRITE (R203). -/
def execMregWrite (n : Fin 64) (i : Fin 8) (w : Fin 4) (sz : AccSz) (v : Word)
    (s : State) : Host.Outcome State Fault Refusal :=
  ifUp (fun s => mregWrite (okReply s) n i w sz v) s

/-- VREG_DATA_ACCESS (R203). -/
def execVregDataAccess (n : Fin 64) (sz : AccSz) (v : Option Word) (s : State) : Host.Outcome State Fault Refusal :=
  ifUp (fun s => match v with
      | none => regRead s (R.VREG_DATA n) sz
      | some x => vregDataWrite (okReply s) n sz x) s

/-- LOAD_REQUEST (R212). -/
def execLoadRequest (s : State) : Host.Outcome State Fault Refusal := ifUp (fun s => loadRequest s) s

/-- PLAN_LOAD (R218). -/
def execPlanLoad (s : State) : Host.Outcome State Fault Refusal := ifUp (fun s => planLoad s) s

/-- WINDOW_WRITE (R222). -/
def execWindowWrite (n : Fin 64) (i : Fin 256) (hi : Bool) (sz : AccSz) (v : Word)
    (s : State) : Host.Outcome State Fault Refusal :=
  ifUp (fun s => windowWrite (okReply s) n i hi sz v) s

/-- CLAIM_SET_WRITE (R223). -/
def execClaimSetWrite (i : Fin 64) (sz : AccSz) (v : Word) (s : State) : Host.Outcome State Fault Refusal :=
  ifUp (fun s => claimSetWrite (okReply s) i sz v) s

end Sys2Proof.Machine
end

