-- ==== Sys2Proof/Machine/CmdDike.lean ====
section
/-! DEFINITION. Meanings of the commands of the boot ROM and the dike (chapter 18). -/

namespace Sys2Proof.Machine

/-- ROM_START (R456). -/
def execRomStart (s : State) : Host.Outcome State Fault Refusal := ifUp (fun s => romStart s) s

/-- BOOT_ATTEMPT (R452). -/
def execBootAttempt (readable : Bool) (s : State) : Host.Outcome State Fault Refusal :=
  ifUp (fun s => bootAttemptRow s readable) s

/-- CONFIRM_BOOT (R456). -/
def execConfirmBoot (s : State) : Host.Outcome State Fault Refusal := ifUp (fun s => secRow s 1 0) s

/-- ENROLL_OWNER (R461). -/
def execEnrollOwner (arg : BitVec 32) (s : State) : Host.Outcome State Fault Refusal :=
  ifUp (fun s => secRow s 2 arg.toNat) s

/-- SET_OWNER_ONLY (R461). -/
def execSetOwnerOnly (s : State) : Host.Outcome State Fault Refusal := ifUp (fun s => secRow s 3 0) s

/-- REVOKE_VENDOR (R461). -/
def execRevokeVendor (arg : BitVec 32) (s : State) : Host.Outcome State Fault Refusal :=
  ifUp (fun s => secRow s 4 arg.toNat) s

/-- ADVANCE_SVN (R461). -/
def execAdvanceSvn (arg : BitVec 32) (s : State) : Host.Outcome State Fault Refusal := ifUp (fun s => secRow s 5 arg.toNat) s

/-- SET_FLASH_WIN (R449). -/
def execSetFlashWin (arg : BitVec 32) (s : State) : Host.Outcome State Fault Refusal :=
  ifUp (fun s => secRow s 6 arg.toNat) s

/-- SET_PLAN_MEAS (R462). -/
def execSetPlanMeas (s : State) : Host.Outcome State Fault Refusal := ifUp (fun s => secRow s 7 0) s

/-- FUSE_LOCK (R461). -/
def execFuseLock (s : State) : Host.Outcome State Fault Refusal := ifUp (fun s => regWrite s .sup R.SEC_LOCK .w64 1#64) s

/-- ACTION_LOCK (R470). -/
def execActionLock (s : State) : Host.Outcome State Fault Refusal := ifUp (fun s => regWrite s .sup R.SEC_LOCK .w64 2#64) s

/-- ERASE_COMPLETE (R459). -/
def execEraseComplete (s : State) : Host.Outcome State Fault Refusal := ifUp (fun s => eraseComplete s) s

/-- VOLT (R470). -/
def execVolt (s : State) : Host.Outcome State Fault Refusal := ifUp (fun s => alarm s 0) s

/-- CLK (R470). -/
def execClk (s : State) : Host.Outcome State Fault Refusal := ifUp (fun s => alarm s 1) s

/-- TEMP (R470). -/
def execTemp (s : State) : Host.Outcome State Fault Refusal := ifUp (fun s => alarm s 2) s

/-- MESH (R470). -/
def execMesh (s : State) : Host.Outcome State Fault Refusal := ifUp (fun s => alarm s 3) s

/-- SEC_CMD_END (R472). -/
def execSecCmdEnd (took : Bool) (s : State) : Host.Outcome State Fault Refusal := ifUp (fun s => secCmdEnd s took) s

end Sys2Proof.Machine
end

