-- ==== Sys2Proof/Machine/CmdFabric.lean ====
section
/-! DEFINITION. Meanings of the commands of the fabric (chapter 15). -/

namespace Sys2Proof.Machine

/-- FLIT_RECEIVE (R368). -/
def execFlitReceive (p : Fin 24) (raw : List Byte) (s : State) : Host.Outcome State Fault Refusal :=
  ifUp (fun s => flitReceive s p raw) s

/-- FLIT_SLOT (R380). -/
def execFlitSlot (p : Fin 24) (s : State) : Host.Outcome State Fault Refusal := ifUp (fun s => flitSlot s p) s

/-- MARKER (R365). -/
def execMarker (p : Fin 24) (s : State) : Host.Outcome State Fault Refusal := ifUp (fun s => markerRow s p) s

/-- NAK (R371). -/
def execNak (p : Fin 24) (sq : BitVec 10) (s : State) : Host.Outcome State Fault Refusal :=
  ifUp (fun s => linkCtl s p false fun s => replayFrom s p sq.toNat) s

/-- CREDIT (R372). -/
def execCredit (p : Fin 24) (a b m : BitVec 16) (s : State) : Host.Outcome State Fault Refusal :=
  ifUp (fun s => linkCtl s p false fun s => creditRx s p a.toNat b.toNat m.toNat) s

/-- NEGOTIATE (R374). -/
def execNegotiate (p : Fin 24) (vers feat : BitVec 32) (node a b m : BitVec 16)
    (s : State) : Host.Outcome State Fault Refusal :=
  ifUp (fun s => linkCtl s p true fun s =>
      negotiateRx s p ⟨vers.toNat, feat.toNat, node.toNat, a.toNat, b.toNat, m.toNat⟩) s

/-- NEG_ACK (R375). -/
def execNegAck (p : Fin 24) (chosen : BitVec 16) (s : State) : Host.Outcome State Fault Refusal :=
  ifUp (fun s => linkCtl s p true fun s => negAckRx s p chosen.toNat) s

/-- LANE_SWAP (R379). -/
def execLaneSwap (p : Fin 24) (idx : BitVec 1) (lane : BitVec 5) (apply : Bool)
    (s : State) : Host.Outcome State Fault Refusal :=
  ifUp (fun s => linkCtl s p false fun s => laneSwapRx s p idx.toNat lane.toNat apply) s

/-- ACK_TIMEOUT_REPLAY (R371). -/
def execAckTimeoutReplay (p : Fin 24) (s : State) : Host.Outcome State Fault Refusal := ifUp (fun s => ackTimeout s p) s

/-- NEGOTIATE_RESEND (R374). -/
def execNegotiateResend (p : Fin 24) (s : State) : Host.Outcome State Fault Refusal := ifUp (fun s => negotiateResend s p) s

/-- TRAIN_DONE (R373). -/
def execTrainDone (p : Fin 24) (s : State) : Host.Outcome State Fault Refusal := ifUp (fun s => trainDone s p) s

/-- ALIGN_LOCK (R373). -/
def execAlignLock (p : Fin 24) (s : State) : Host.Outcome State Fault Refusal := ifUp (fun s => alignLock s p) s

/-- LANE_LOCK_LOSS (R373). -/
def execLaneLockLoss (p : Fin 24) (s : State) : Host.Outcome State Fault Refusal := ifUp (fun s => laneLockLoss s p) s

/-- LINK_IDLE_TIMEOUT (R373). -/
def execLinkIdleTimeout (p : Fin 24) (s : State) : Host.Outcome State Fault Refusal := ifUp (fun s => linkIdle s p) s

/-- TRAIN_BACKOFF_EXPIRY (R373). -/
def execTrainBackoffExpiry (p : Fin 24) (s : State) : Host.Outcome State Fault Refusal := ifUp (fun s => trainBackoff s p) s

/-- PORT_ENABLE (R373). -/
def execPortEnable (p : Fin 24) (s : State) : Host.Outcome State Fault Refusal := ifUp (fun s => portEnable s p) s

/-- PORT_DISABLE (R402). -/
def execPortDisable (p : Fin 24) (s : State) : Host.Outcome State Fault Refusal := ifUp (fun s => portDisable s p) s

/-- CLOSE_WAIT_EXPIRY (R402). -/
def execCloseWaitExpiry (p : Fin 24) (s : State) : Host.Outcome State Fault Refusal := ifUp (fun s => closeWaitRow s p) s

/-- LANE_SPARE_WRITE (R378). -/
def execLaneSpareWrite (p : Fin 24) (sz : AccSz) (v : Word) (s : State) : Host.Outcome State Fault Refusal :=
  ifUp (fun s => laneSpareRow (okReply s) p sz v) s

/-- FAB_NODE_WRITE (R404). -/
def execFabNodeWrite (sz : AccSz) (v : Word) (s : State) : Host.Outcome State Fault Refusal :=
  ifUp (fun s => fabNodeWrite (okReply s) sz v) s

/-- SCHED_SWAP (R381). -/
def execSchedSwap (p : Fin 24) (sz : AccSz) (v : Word) (s : State) : Host.Outcome State Fault Refusal :=
  ifUp (fun s => (okReply s).writeByType (R.SCHED_CTRL p) sz v) s

/-- SCHED_INSTALL (R381). -/
def execSchedInstall (p : Fin 24) (s : State) : Host.Outcome State Fault Refusal := ifUp (fun s => schedInstall s p) s

/-- FABRIC_TRACKER_GRANT (R387). -/
def execFabricTrackerGrant (id : Nat) (s : State) : Host.Outcome State Fault Refusal :=
  ifUp (fun s => fabTrackerGrant s id) s

/-- TRK_TIMEOUT (R387). -/
def execTrkTimeout (id : Nat) (s : State) : Host.Outcome State Fault Refusal := ifUp (fun s => trkTimeoutRow s id) s

/-- READ (R389). -/
def execRead (t : Arr) (s : State) : Host.Outcome State Fault Refusal := ifUp (fun s => txnRow opREAD t s) s

/-- WRITE (R389). -/
def execWrite (t : Arr) (s : State) : Host.Outcome State Fault Refusal := ifUp (fun s => txnRow opWRITE t s) s

/-- GET (R389). -/
def execGet (t : Arr) (s : State) : Host.Outcome State Fault Refusal := ifUp (fun s => txnRow opGET t s) s

/-- PUT (R389). -/
def execPut (t : Arr) (s : State) : Host.Outcome State Fault Refusal := ifUp (fun s => txnRow opPUT t s) s

/-- FADD (R390). -/
def execFadd (t : Arr) (s : State) : Host.Outcome State Fault Refusal := ifUp (fun s => txnRow opFADD t s) s

/-- MSG (R392). -/
def execMsg (t : Arr) (s : State) : Host.Outcome State Fault Refusal := ifUp (fun s => txnRow opMSG t s) s

/-- FENCE (R395). -/
def execFence (t : Arr) (s : State) : Host.Outcome State Fault Refusal := ifUp (fun s => txnRow opFENCE t s) s

/-- CLAIM (R389). -/
def execFabClaim (t : Arr) (s : State) : Host.Outcome State Fault Refusal := ifUp (fun s => txnRow opCLAIM t s) s

/-- RADD (R397). -/
def execRadd (t : RaddArr) (s : State) : Host.Outcome State Fault Refusal := ifUp (fun s => raddRow t s) s

/-- RADD_HELD_RELEASE (R397). -/
def execRaddHeldRelease (p : Fin 25) (cls : Fin 3) (s : State) : Host.Outcome State Fault Refusal :=
  ifUp (fun s => raddHeldRelease s p cls) s

/-- COMPLETION_RECEIVE (R391). -/
def execCompletionReceive (tag : BitVec 16) (status : BitVec 8) (v : Word) (data : List Byte)
    (s : State) : Host.Outcome State Fault Refusal :=
  ifUp (fun s => completionReceive s tag.toNat status.toNat v.toNat data) s

end Sys2Proof.Machine
end

