-- ==== Sys2Proof/Machine/CmdMem.lean ====
section
/-! DEFINITION. Meanings of the commands of tiers, memory controllers and flash (chapters 9 to 11). -/

namespace Sys2Proof.Machine

/-- MIRROR_HOLD_RELEASE (R24). -/
def execMirrorHoldRelease (c : Fin 16) (s : State) : Host.Outcome State Fault Refusal :=
  ifUp (fun s => mirrorHoldRelease s c) s

/-- PREFETCH_ISSUE (R235). -/
def execPrefetchIssue (n : Fin 64) (d : Fin 32) (s : State) : Host.Outcome State Fault Refusal :=
  ifUp (fun s => prefetchIssue s n d) s

/-- TRACKER_GRANT (R243). -/
def execTrackerGrant (c : Fin 16) (s : State) : Host.Outcome State Fault Refusal := ifUp (fun s => trackerGrantMc s c) s

/-- TILE_ARRIVE (R235). -/
def execTileArrive (n : Fin 64) (d : Fin 32) (i : Fin 64) (s : State) : Host.Outcome State Fault Refusal :=
  ifUp (fun s => tileArrive s n d i) s

/-- TIER_TILE_FAIL (R245). -/
def execTierTileFail (n : Fin 64) (d : Fin 32) (i : Fin 64) (s : State) : Host.Outcome State Fault Refusal :=
  ifUp (fun s => tierTileFail s n d i) s

/-- OUTPUT_TILE_WRITE (R241). -/
def execOutputTileWrite (n : Fin 64) (d : Fin 32) (s : State) : Host.Outcome State Fault Refusal :=
  ifUp (fun s => outputTileWrite s n d) s

/-- OUTPUT_TILE_COMPLETE (R241). -/
def execOutputTileComplete (n : Fin 64) (d : Fin 32) (s : State) : Host.Outcome State Fault Refusal :=
  ifUp (fun s => outputTileComplete s n d) s

/-- GUARD_REFETCH (R248). -/
def execGuardRefetch (n : Fin 64) (s : State) : Host.Outcome State Fault Refusal := ifUp (fun s => guardRow s n) s

/-- MC_REQUEST_SERVICE (R260). -/
def execMcRequestService (id : Nat) (s : State) : Host.Outcome State Fault Refusal := ifUp (fun s => mcService s id) s

/-- MC_READ_COMPLETE (R258). -/
def execMcReadComplete (id : Nat) (o : EccOut) (s : State) : Host.Outcome State Fault Refusal :=
  ifUp (fun s => mcComplete s id o) s

/-- CHECKBIT_FILL (R261). -/
def execCheckbitFill (c : Fin 16) (line : Nat) (s : State) : Host.Outcome State Fault Refusal :=
  ifUp (fun s => checkbitFill s c line) s

/-- BANK_REFRESH (R254). -/
def execBankRefresh (c : Fin 16) (s : State) : Host.Outcome State Fault Refusal := ifUp (fun s => bankRefresh s c) s

/-- MC_TRAINING (R254). -/
def execMcTraining (c : Fin 16) (good : BitVec 16) (s : State) : Host.Outcome State Fault Refusal :=
  ifUp (fun s => mcTraining s c good) s

/-- SCRUB_READ (R262). -/
def execScrubRead (c : Fin 16) (o : EccOut) (s : State) : Host.Outcome State Fault Refusal :=
  ifUp (fun s => scrubRead s c o) s

/-- SPARE_CMD_GO (R264). -/
def execSpareCmdGo (c : Fin 16) (sz : AccSz) (v : Word) (s : State) : Host.Outcome State Fault Refusal :=
  ifUp (fun s => spareCmdWrite (okReply s) c sz v) s

/-- SPARE_COPY_DONE (R264). -/
def execSpareCopyDone (c : Fin 16) (bad : List Nat) (s : State) : Host.Outcome State Fault Refusal :=
  ifUp (fun s => spareCopyDone s c bad) s

/-- RETIRE_CMD_GO (R267). -/
def execRetireCmdGo (c : Fin 16) (sz : AccSz) (v : Word) (s : State) : Host.Outcome State Fault Refusal :=
  ifUp (fun s => retireCmdWrite (okReply s) c sz v) s

/-- RETIRE_COPY_DONE (R267). -/
def execRetireCopyDone (c : Fin 16) (bad : List Nat) (s : State) : Host.Outcome State Fault Refusal :=
  ifUp (fun s => retireCopyDone s c bad) s

/-- MC_DISABLE (R442). -/
def execMcDisable (c : Fin 16) (s : State) : Host.Outcome State Fault Refusal := ifUp (fun s => mcDisable s c) s

/-- ENGINE_ENABLE (R442). -/
def execEngineEnable (e : Engine) (s : State) : Host.Outcome State Fault Refusal := ifUp (fun s => engineOnRow s e) s

/-- ENGINE_CLOSE_DONE (R442). -/
def execEngineCloseDone (e : Engine) (s : State) : Host.Outcome State Fault Refusal := ifUp (fun s => engineCloseRow s e) s

/-- FLASH_ENABLE (R270). -/
def execFlashEnable (s : State) : Host.Outcome State Fault Refusal := ifUp (fun s => flashEnable s) s

/-- FLASH_MAP_LOAD_DONE (R270). -/
def execFlashMapLoadDone (geom : Word) (dies : List Word) (s : State) : Host.Outcome State Fault Refusal :=
  ifUp (fun s => flashMapLoadDone s geom dies) s

/-- FLASH_DISABLE (R442). -/
def execFlashDisable (s : State) : Host.Outcome State Fault Refusal := ifUp (fun s => flashDisable s) s

/-- FLASH_REQUEST (R276). -/
def execFlashRequest (id : Nat) (s : State) : Host.Outcome State Fault Refusal := ifUp (fun s => flashRequest s id) s

/-- FLASH_READ_COMPLETE (R271). -/
def execFlashReadComplete (id : Nat) (retries : Nat) (uncorr : Bool) (s : State) : Host.Outcome State Fault Refusal :=
  ifUp (fun s => flashReadComplete s id retries uncorr) s

/-- FLASH_WRITE_COMPLETE (R270). -/
def execFlashWriteComplete (id : Nat) (s : State) : Host.Outcome State Fault Refusal :=
  ifUp (fun s => flashWriteComplete s id) s

/-- GROWN_BAD_BLOCK (R274). -/
def execGrownBadBlock (die : Fin 128) (bulk : Bool) (units : Nat) (s : State) : Host.Outcome State Fault Refusal :=
  ifUp (fun s => grownBadBlock s die bulk units) s

/-- READ_DISTURB_RELOCATE (R273). -/
def execReadDisturbRelocate (die : Fin 128) (bulk : Bool) (units : Nat) (pe : BitVec 32)
    (s : State) : Host.Outcome State Fault Refusal :=
  ifUp (fun s => dieMaint s 4 die true bulk units pe) s

/-- WEAR_LEVEL_RELOCATE (R272). -/
def execWearLevelRelocate (die : Fin 128) (bulk : Bool) (units : Nat) (pe : BitVec 32)
    (s : State) : Host.Outcome State Fault Refusal :=
  ifUp (fun s => dieMaint s 5 die false bulk units pe) s

/-- GARBAGE_COLLECT (R499). -/
def execGarbageCollect (die : Fin 128) (bulk : Bool) (units : Nat) (pe : BitVec 32)
    (s : State) : Host.Outcome State Fault Refusal :=
  ifUp (fun s => dieMaint s 3 die false bulk units pe) s

/-- SPILL_CREDIT (R275). -/
def execSpillCredit (s : State) : Host.Outcome State Fault Refusal := ifUp (fun s => spillCredit s) s

/-- SPILL_BURST_WRITE (R275). -/
def execSpillBurstWrite (sz : AccSz) (v : Word) (s : State) : Host.Outcome State Fault Refusal :=
  ifUp (fun s => spillBurstWrite (okReply s) sz v) s

/-- SPILL_RATE_WRITE (R277). -/
def execSpillRateWrite (sz : AccSz) (v : Word) (s : State) : Host.Outcome State Fault Refusal :=
  ifUp (fun s => spillRateWrite (okReply s) sz v) s

/-- MOSS_HEADER_ARRIVE (R290). -/
def execMossHeaderArrive (n : Fin 64) (d : Fin 32) (i : Fin 64) (s : State) : Host.Outcome State Fault Refusal :=
  ifUp (fun s => mossHeaderArrive s n d i) s

/-- MOSS_CONFIRM_ARRIVE (R290). -/
def execMossConfirmArrive (c : Fin 16) (n : Fin 64) (d : Fin 32) (i : Fin 64)
    (s : State) : Host.Outcome State Fault Refusal :=
  ifUp (fun s => confirmArrive s c n d i) s

/-- ZQ_CALIBRATION (R254). -/
def execZqCalibration (c : Fin 16) (s : State) : Host.Outcome State Fault Refusal := ifUp (fun s => zqCalibration s c) s

end Sys2Proof.Machine
end

