-- ==== Sys2Proof/Machine/CmdMgmt.lean ====
section
/-! DEFINITION. Meanings of the commands of the management endpoint (chapters 16 and 18). -/

namespace Sys2Proof.Machine

/-- I3C_ADDRESS_ASSIGN (R418). -/
def execI3cAddressAssign (addr : BitVec 7) (s : State) : Host.Outcome State Fault Refusal :=
  always (fun s => i3cAddressAssign s addr.toNat) s

/-- SET_ENDPOINT_ID (R418). -/
def execSetEndpointId (eid : BitVec 8) (s : State) : Host.Outcome State Fault Refusal :=
  always (fun s => setEndpointId s eid.toNat) s

/-- GETTID (R419). -/
def execGettid (s : State) : Host.Outcome State Fault Refusal := always (fun s => mgmtAnswer s) s

/-- GETPLDMVERSION (R419). -/
def execGetpldmversion (s : State) : Host.Outcome State Fault Refusal := always (fun s => mgmtAnswer s) s

/-- GETPLDMTYPES (R419). -/
def execGetpldmtypes (s : State) : Host.Outcome State Fault Refusal := always (fun s => mgmtAnswer s) s

/-- GETPLDMCOMMANDS (R419). -/
def execGetpldmcommands (s : State) : Host.Outcome State Fault Refusal := always (fun s => mgmtAnswer s) s

/-- GETPDRREPOSITORYINFO (R419). -/
def execGetpdrrepositoryinfo (s : State) : Host.Outcome State Fault Refusal := always (fun s => mgmtAnswer s) s

/-- GETPDR (R419). -/
def execGetpdr (_handle : BitVec 32) (s : State) : Host.Outcome State Fault Refusal := always (fun s => mgmtAnswer s) s

/-- GETNUMERICSENSORREADING (R420). -/
def execGetnumericsensorreading (k : Fin 22) (s : State) : Host.Outcome State Fault Refusal :=
  always (fun s => numericSensor s k) s

/-- GETSTATESENSORREADINGS (R420). -/
def execGetstatesensorreadings (s : State) : Host.Outcome State Fault Refusal := always (fun s => stateSensors s) s

/-- REQUESTUPDATE (R457). -/
def execRequestupdate (s : State) : Host.Outcome State Fault Refusal := always (fun s => requestUpdate s) s

/-- ACTIVATEFIRMWARE (R457). -/
def execActivatefirmware (s : State) : Host.Outcome State Fault Refusal := always (fun s => activateFirmware s) s

/-- PLDM_UNSUPPORTED (R419). -/
def execPldmUnsupported (_typ : BitVec 6) (_cmd : BitVec 8) (s : State) : Host.Outcome State Fault Refusal :=
  always (fun s => pldmUnsupported s) s

/-- SENSOR_LIMIT_CROSS (R420). -/
def execSensorLimitCross (k : Fin 22) (s : State) : Host.Outcome State Fault Refusal :=
  always (fun s => sensorLimitCross s k) s

/-- GET_VERSION (R419). -/
def execGetVersion (s : State) : Host.Outcome State Fault Refusal := always (fun s => mgmtAnswer s) s

/-- GET_CAPABILITIES (R419). -/
def execGetCapabilities (s : State) : Host.Outcome State Fault Refusal := always (fun s => mgmtAnswer s) s

/-- NEGOTIATE_ALGORITHMS (R419). -/
def execNegotiateAlgorithms (s : State) : Host.Outcome State Fault Refusal := always (fun s => mgmtAnswer s) s

/-- GET_DIGESTS (R419). -/
def execGetDigests (s : State) : Host.Outcome State Fault Refusal := always (fun s => mgmtAnswer s) s

/-- GET_CERTIFICATE (R462). -/
def execGetCertificate (off len : BitVec 16) (s : State) : Host.Outcome State Fault Refusal :=
  always (fun s => getCertificate s off.toNat len.toNat) s

/-- CHALLENGE (R462). -/
def execChallenge (m : List Byte) (s : State) : Host.Outcome State Fault Refusal := always (fun s => signedResponse s m) s

/-- GET_MEASUREMENTS (R462). -/
def execGetMeasurements (m : List Byte) (s : State) : Host.Outcome State Fault Refusal :=
  always (fun s => signedResponse s m) s

/-- SPDM_UNSUPPORTED (R419). -/
def execSpdmUnsupported (_code : BitVec 8) (s : State) : Host.Outcome State Fault Refusal :=
  always (fun s => spdmUnsupported s) s

/-- GET_COSIG (R466). -/
def execGetCosig (s : State) : Host.Outcome State Fault Refusal := always (fun s => getCosig s) s

/-- GET_NONCE (R467). -/
def execGetNonce (s : State) : Host.Outcome State Fault Refusal := always (fun s => getNonce s) s

/-- UNLOCK (R469). -/
def execUnlock (token : List Byte) (s : State) : Host.Outcome State Fault Refusal := always (fun s => unlock s token) s

/-- DBG_READ (R467). -/
def execDbgRead (addr : Word) (s : State) : Host.Outcome State Fault Refusal := always (fun s => dbgReadRow s addr.toNat) s

/-- DBG_WRITE (R467). -/
def execDbgWrite (addr : Word) (v : Word) (s : State) : Host.Outcome State Fault Refusal :=
  always (fun s => dbgWriteRow s addr.toNat v) s

/-- UPDATE_DATA_RELAY (R457). -/
def execUpdateDataRelay (off : BitVec 25) (data : List Byte) (s : State) : Host.Outcome State Fault Refusal :=
  always (fun s => updateDataRelay s off.toNat data) s

end Sys2Proof.Machine
end

