-- ==== Sys2Proof/Machine/CmdMove.lean ====
section
/-! DEFINITION. Meanings of the M-slot syllables (chapter 6). -/

namespace Sys2Proof.Machine

/-- M_LD (R147). -/
def execMLd (y : Syl) (s : State) : Host.Outcome State Fault Refusal := ifUp (addSyl (.mLd y)) s

/-- M_ST (R147). -/
def execMSt (y : Syl) (s : State) : Host.Outcome State Fault Refusal := ifUp (addSyl (.mSt y)) s

/-- M_SOPEN (R148). -/
def execMSopen (y : Syl) (s : State) : Host.Outcome State Fault Refusal := ifUp (addSyl (.mSopen y)) s

/-- M_SCLOSE (R150). -/
def execMSclose (y : Syl) (s : State) : Host.Outcome State Fault Refusal := ifUp (addSyl (.mSclose y)) s

/-- M_LDS (R149). -/
def execMLds (y : Syl) (s : State) : Host.Outcome State Fault Refusal := ifUp (addSyl (.mLds y)) s

/-- M_STS (R150). -/
def execMSts (y : Syl) (s : State) : Host.Outcome State Fault Refusal := ifUp (addSyl (.mSts y)) s

/-- M_PUT (R153). -/
def execMPut (y : Syl) (s : State) : Host.Outcome State Fault Refusal := ifUp (addSyl (.mPut y)) s

/-- M_GET (R153). -/
def execMGet (y : Syl) (s : State) : Host.Outcome State Fault Refusal := ifUp (addSyl (.mGet y)) s

/-- M_RADD (R153). -/
def execMRadd (y : Syl) (s : State) : Host.Outcome State Fault Refusal := ifUp (addSyl (.mRadd y)) s

/-- M_FADD (R153). -/
def execMFadd (y : Syl) (s : State) : Host.Outcome State Fault Refusal := ifUp (addSyl (.mFadd y)) s

/-- M_MSG (R154). -/
def execMMsg (y : Syl) (s : State) : Host.Outcome State Fault Refusal := ifUp (addSyl (.mMsg y)) s

/-- M_FENCE (R153). -/
def execMFence (y : Syl) (s : State) : Host.Outcome State Fault Refusal := ifUp (addSyl (.mFence y)) s

/-- M_CLAIMR (R158). -/
def execMClaimr (y : Syl) (s : State) : Host.Outcome State Fault Refusal := ifUp (addSyl (.mClaimr y)) s

/-- M_CLAIM (R158). -/
def execMClaim (y : Syl) (s : State) : Host.Outcome State Fault Refusal := ifUp (addSyl (.mClaim y)) s

/-- M_WAIT (R156). -/
def execMWait (y : Syl) (s : State) : Host.Outcome State Fault Refusal := ifUp (addSyl (.mWait y)) s

/-- M_QSYNC (R157). -/
def execMQsync (y : Syl) (s : State) : Host.Outcome State Fault Refusal := ifUp (addSyl (.mQsync y)) s

end Sys2Proof.Machine
end

