-- ==== Sys2Proof/Machine/CmdOutside.lean ====
section
/-! DEFINITION. Meanings of the commands of Ethernet, ingest and CXL (chapter 16). -/

namespace Sys2Proof.Machine

/-- ETH_FRAME_RECEIVE (R406). -/
def execEthFrameReceive (e : Fin 2) (f : EthFrame) (s : State) : Host.Outcome State Fault Refusal :=
  ifUp (fun s => ethFrame s e f) s

/-- ETH_LINK_CHANGE (R405). -/
def execEthLinkChange (e : Fin 2) (link fec an : Bool) (corr bad : Nat) (s : State) : Host.Outcome State Fault Refusal :=
  ifUp (fun s => ethLinkChange s e link fec an corr bad) s

/-- ETH_DISABLE (R442). -/
def execEthDisable (e : Fin 2) (s : State) : Host.Outcome State Fault Refusal := ifUp (fun s => ethDisable s e) s

/-- INGEST_DATA (R408). -/
def execIngestData (e : Fin 2) (src sport : Nat) (bs : List Byte) (s : State) : Host.Outcome State Fault Refusal :=
  ifUp (fun s => ingestArrive s e src sport bs) s

/-- INGEST_WRITE_COMPLETE (R409). -/
def execIngestWriteComplete (t : Fin 64) (s : State) : Host.Outcome State Fault Refusal :=
  ifUp (fun s => ingestWriteComplete s t) s

/-- INGEST_ACK_TIMER (R411). -/
def execIngestAckTimer (t : Fin 64) (s : State) : Host.Outcome State Fault Refusal := ifUp (fun s => ingestAckRow s t) s

/-- ING_ENABLE (R412). -/
def execIngEnable (t : Fin 64) (sz : AccSz) (v : Word) (s : State) : Host.Outcome State Fault Refusal :=
  ifUp (fun s => ingCtrlWrite (okReply s) t sz v) s

/-- ING_CONFIG_WRITE (R427). -/
def execIngConfigWrite (t : Fin 64) (off : Nat) (sz : AccSz) (v : Word) (s : State) : Host.Outcome State Fault Refusal :=
  ifUp (fun s => if [0x08, 0x10, 0x18, 0x20].contains off then ingConfigWrite (okReply s) t off sz v else accErrReply s) s

/-- CXL_HOST_READ (R414). -/
def execCxlHostRead (a : Nat) (o : EccOut) (s : State) : Host.Outcome State Fault Refusal :=
  ifUp (fun s => cxlHostRead s a o) s

/-- CXL_HOST_WRITE (R414). -/
def execCxlHostWrite (a : Nat) (v : BitVec 512) (be : BitVec 64) (poison : Bool)
    (s : State) : Host.Outcome State Fault Refusal :=
  ifUp (fun s => cxlHostWrite s a v be poison) s

/-- IDENTIFY_MEMORY_DEVICE (R413). -/
def execIdentifyMemoryDevice (s : State) : Host.Outcome State Fault Refusal := ifUp (fun s => identifyMemoryDevice s) s

/-- GET_HEALTH_INFO (R413). -/
def execGetHealthInfo (s : State) : Host.Outcome State Fault Refusal := ifUp (fun s => getHealthInfo s) s

/-- GET_EVENT_RECORDS (R413). -/
def execGetEventRecords (s : State) : Host.Outcome State Fault Refusal := ifUp (fun s => getEventRecords s) s

/-- CLEAR_EVENT_RECORDS (R413). -/
def execClearEventRecords (s : State) : Host.Outcome State Fault Refusal := ifUp (fun s => clearEventRecords s) s

/-- GET_POISON_LIST (R414). -/
def execGetPoisonList (s : State) : Host.Outcome State Fault Refusal := ifUp (fun s => getPoisonList s) s

/-- CLEAR_POISON (R415). -/
def execClearPoison (a : Nat) (v : BitVec 512) (s : State) : Host.Outcome State Fault Refusal :=
  ifUp (fun s => clearPoison s a v) s

/-- GET_TIMESTAMP (R413). -/
def execGetTimestamp (s : State) : Host.Outcome State Fault Refusal := ifUp (fun s => getTimestamp s) s

/-- SET_TIMESTAMP (R413). -/
def execSetTimestamp (v : Nat) (s : State) : Host.Outcome State Fault Refusal := ifUp (fun s => setTimestamp s v) s

/-- CXL_MAILBOX_UNSUPPORTED (R413). -/
def execCxlMailboxUnsupported (_op : BitVec 16) (s : State) : Host.Outcome State Fault Refusal :=
  ifUp (fun s => mailboxUnsupported s) s

/-- CXL_WIN_WRITE (R416). -/
def execCxlWinWrite (size : Bool) (sz : AccSz) (v : Word) (s : State) : Host.Outcome State Fault Refusal :=
  ifUp (fun s => cxlWinWrite (okReply s) size sz v) s

/-- HDM_DECODER_COMMIT (R416). -/
def execHdmDecoderCommit (commit : Bool) (s : State) : Host.Outcome State Fault Refusal :=
  ifUp (fun s => hdmCommit s commit) s

/-- PERST_N (R417). -/
def execPerstN (low : Bool) (s : State) : Host.Outcome State Fault Refusal := always (fun s => perstN s low) s

/-- CXL_DISABLE (R417). -/
def execCxlDisable (s : State) : Host.Outcome State Fault Refusal := ifUp (fun s => cxlDisable s) s

/-- CXL_LINK_CHANGE (R417). -/
def execCxlLinkChange (up : Bool) (width : BitVec 5) (rate : BitVec 3) (s : State) : Host.Outcome State Fault Refusal :=
  ifUp (fun s => cxlLinkChange s up width.toNat rate.toNat) s

/-- DOE_DISCOVERY (R413). -/
def execDoeDiscovery (_index : BitVec 8) (s : State) : Host.Outcome State Fault Refusal := ifUp (fun s => doeDiscovery s) s

/-- CDAT (R413). -/
def execCdat (_handle : BitVec 16) (s : State) : Host.Outcome State Fault Refusal := ifUp (fun s => cdatRead s) s

end Sys2Proof.Machine
end

