-- ==== Sys2Proof/Machine/CmdSafe.lean ====
section
/-! DEFINITION. Meanings of the commands of safe state, journal, pair and service (chapter 19). -/

namespace Sys2Proof.Machine

/-- SAFE_ENTER (R476). -/
def execSafeEnter (sz : AccSz) (v : Word) (s : State) : Host.Outcome State Fault Refusal :=
  ifUp (fun s => safeCtrlWrite (okReply s) sz v) s

/-- OPEN (R481). -/
def execOpenStep (step : BitVec 55) (s : State) : Host.Outcome State Fault Refusal := ifUp (fun s => jrnRow s 1 step.toNat) s

/-- JOURNAL_UPDATE (R481). -/
def execJournalUpdate (s : State) : Host.Outcome State Fault Refusal := ifUp (fun s => jrnRow s 2 0) s

/-- COMMIT (R481). -/
def execCommitStep (s : State) : Host.Outcome State Fault Refusal := ifUp (fun s => jrnRow s 3 0) s

/-- ABORT (R481). -/
def execAbortStep (s : State) : Host.Outcome State Fault Refusal := ifUp (fun s => jrnRow s 4 0) s

/-- JRN_MARK (R482). -/
def execJrnMark (n : Fin 64) (pc : BitVec 14) (v : Word) (s : State) : Host.Outcome State Fault Refusal :=
  ifUp (fun s => jrnMark s n pc.toNat (s.core n).cur v) s

/-- MARK_APPLY (R482). -/
def execMarkApply (n : Fin 64) (s : State) : Host.Outcome State Fault Refusal := ifUp (fun s => markApply s n) s

/-- JOURNAL_DURABLE (R479). -/
def execJournalDurable (ok : Bool) (s : State) : Host.Outcome State Fault Refusal := ifUp (fun s => journalDurable s ok) s

/-- MIRROR_START (R489). -/
def execMirrorStart (s : State) : Host.Outcome State Fault Refusal := ifUp (fun s => mirrorStep s) s

/-- PAIR_RECV (R491). -/
def execPairRecv (src : Option (BitVec 16)) (v : Word) (s : State) : Host.Outcome State Fault Refusal :=
  ifUp (fun s => pairWrite (okReply s) (pairWriter src) 0x120 .w64 v) s

/-- PAIR_ACK (R490). -/
def execPairAck (src : Option (BitVec 16)) (v : Word) (s : State) : Host.Outcome State Fault Refusal :=
  ifUp (fun s => pairWrite (okReply s) (pairWriter src) 0x128 .w64 v) s

/-- PAIR_HB (R492). -/
def execPairHb (src : Option (BitVec 16)) (v : Word) (s : State) : Host.Outcome State Fault Refusal :=
  ifUp (fun s => pairWrite (okReply s) (pairWriter src) 0x130 .w64 v) s

/-- PAIR_PEER (R492). -/
def execPairPeer (src : Option (BitVec 16)) (v : Word) (s : State) : Host.Outcome State Fault Refusal :=
  ifUp (fun s => pairWrite (okReply s) (pairWriter src) 0x138 .w64 v) s

/-- HEARTBEAT_SEND (R492). -/
def execHeartbeatSend (s : State) : Host.Outcome State Fault Refusal := ifUp (fun s => heartbeatSendRow s) s

/-- HEARTBEAT_TIMEOUT (R492). -/
def execHeartbeatTimeout (s : State) : Host.Outcome State Fault Refusal := ifUp (fun s => heartbeatTimeoutRow s) s

/-- CORE_SPARE (R496). -/
def execCoreSpare (d : Fin 8) (sz : AccSz) (v : Word) (s : State) : Host.Outcome State Fault Refusal :=
  ifUp (fun s => coreSpareWrite (okReply s) d sz v) s

/-- SUP_SPARE (R497). -/
def execSupSpare (sz : AccSz) (v : Word) (s : State) : Host.Outcome State Fault Refusal :=
  ifUp (fun s => supSpareWrite (okReply s) sz v) s

/-- ARB_REQUEST (R500). -/
def execArbRequest (code scope : Nat) (done : Bool) (s : State) : Host.Outcome State Fault Refusal :=
  ifUp (fun s => arbRequestRow s code scope done) s

/-- ARB_START (R500). -/
def execArbStart (code scope : Nat) (s : State) : Host.Outcome State Fault Refusal :=
  ifUp (fun s => arbStartRow s ⟨code, scope⟩) s

/-- ARB_CKPT_WRITE (R499). -/
def execArbCkptWrite (sz : AccSz) (v : Word) (s : State) : Host.Outcome State Fault Refusal :=
  ifUp (fun s => arbCkptWrite (okReply s) sz v) s

/-- SELF_TEST_TURN (R501). -/
def execSelfTestTurn (s : State) : Host.Outcome State Fault Refusal := ifUp (fun s => selfTestTurn s) s

/-- SELF_TEST_DONE (R501). -/
def execSelfTestDone (fail : Option (Nat × Nat)) (s : State) : Host.Outcome State Fault Refusal :=
  ifUp (fun s => selfTestDoneRow s fail) s

/-- SELF_TEST_OVERDUE (R502). -/
def execSelfTestOverdue (u : Fin 96) (s : State) : Host.Outcome State Fault Refusal := ifUp (fun s => selfTestOverdue s u) s

end Sys2Proof.Machine
end

