-- ==== Sys2Proof/Machine/CmdScalar.lean ====
section
/-! DEFINITION. Meanings of the S-slot syllables (chapter 6) and of NOP. -/

namespace Sys2Proof.Machine

/-- NOP (R135). -/
def execNop (y : Syl) (slot : SlotL) (op : BitVec 6) (ecc : Ecc) (s : State) : Host.Outcome State Fault Refusal :=
  ifUp (addSyl (.nop y slot op ecc)) s

/-- S_ADD (R139). -/
def execSAdd (y : Syl) (s : State) : Host.Outcome State Fault Refusal := ifUp (addSyl (.sAdd y)) s

/-- S_SUB (R139). -/
def execSSub (y : Syl) (s : State) : Host.Outcome State Fault Refusal := ifUp (addSyl (.sSub y)) s

/-- S_AND (R139). -/
def execSAnd (y : Syl) (s : State) : Host.Outcome State Fault Refusal := ifUp (addSyl (.sAnd y)) s

/-- S_OR (R139). -/
def execSOr (y : Syl) (s : State) : Host.Outcome State Fault Refusal := ifUp (addSyl (.sOr y)) s

/-- S_XOR (R139). -/
def execSXor (y : Syl) (s : State) : Host.Outcome State Fault Refusal := ifUp (addSyl (.sXor y)) s

/-- S_SHL (R139). -/
def execSShl (y : Syl) (s : State) : Host.Outcome State Fault Refusal := ifUp (addSyl (.sShl y)) s

/-- S_SHR (R139). -/
def execSShr (y : Syl) (s : State) : Host.Outcome State Fault Refusal := ifUp (addSyl (.sShr y)) s

/-- S_SRA (R139). -/
def execSSra (y : Syl) (s : State) : Host.Outcome State Fault Refusal := ifUp (addSyl (.sSra y)) s

/-- S_MIN (R139). -/
def execSMin (y : Syl) (s : State) : Host.Outcome State Fault Refusal := ifUp (addSyl (.sMin y)) s

/-- S_MAX (R139). -/
def execSMax (y : Syl) (s : State) : Host.Outcome State Fault Refusal := ifUp (addSyl (.sMax y)) s

/-- S_MINU (R139). -/
def execSMinu (y : Syl) (s : State) : Host.Outcome State Fault Refusal := ifUp (addSyl (.sMinu y)) s

/-- S_MAXU (R139). -/
def execSMaxu (y : Syl) (s : State) : Host.Outcome State Fault Refusal := ifUp (addSyl (.sMaxu y)) s

/-- S_MUL (R139). -/
def execSMul (y : Syl) (s : State) : Host.Outcome State Fault Refusal := ifUp (addSyl (.sMul y)) s

/-- S_MULHU (R139). -/
def execSMulhu (y : Syl) (s : State) : Host.Outcome State Fault Refusal := ifUp (addSyl (.sMulhu y)) s

/-- S_SEL (R139). -/
def execSSel (y : Syl) (s : State) : Host.Outcome State Fault Refusal := ifUp (addSyl (.sSel y)) s

/-- S_ADDI (R140). -/
def execSAddi (y : Syl) (s : State) : Host.Outcome State Fault Refusal := ifUp (addSyl (.sAddi y)) s

/-- S_ANDI (R140). -/
def execSAndi (y : Syl) (s : State) : Host.Outcome State Fault Refusal := ifUp (addSyl (.sAndi y)) s

/-- S_SHLI (R140). -/
def execSShli (y : Syl) (s : State) : Host.Outcome State Fault Refusal := ifUp (addSyl (.sShli y)) s

/-- S_SHRI (R140). -/
def execSShri (y : Syl) (s : State) : Host.Outcome State Fault Refusal := ifUp (addSyl (.sShri y)) s

/-- S_SRAI (R140). -/
def execSSrai (y : Syl) (s : State) : Host.Outcome State Fault Refusal := ifUp (addSyl (.sSrai y)) s

/-- S_LI (R140). -/
def execSLi (y : Syl) (s : State) : Host.Outcome State Fault Refusal := ifUp (addSyl (.sLi y)) s

/-- S_LIH16 (R140). -/
def execSLih16 (y : Syl) (s : State) : Host.Outcome State Fault Refusal := ifUp (addSyl (.sLih16 y)) s

/-- S_LIH32 (R140). -/
def execSLih32 (y : Syl) (s : State) : Host.Outcome State Fault Refusal := ifUp (addSyl (.sLih32 y)) s

/-- S_LIH48 (R140). -/
def execSLih48 (y : Syl) (s : State) : Host.Outcome State Fault Refusal := ifUp (addSyl (.sLih48 y)) s

/-- S_CMP (R141). -/
def execSCmp (y : Syl) (s : State) : Host.Outcome State Fault Refusal := ifUp (addSyl (.sCmp y)) s

/-- S_CMPI (R141). -/
def execSCmpi (y : Syl) (s : State) : Host.Outcome State Fault Refusal := ifUp (addSyl (.sCmpi y)) s

/-- S_PLOG (R142). -/
def execSPlog (y : Syl) (s : State) : Host.Outcome State Fault Refusal := ifUp (addSyl (.sPlog y)) s

/-- S_RDP (R142). -/
def execSRdp (y : Syl) (s : State) : Host.Outcome State Fault Refusal := ifUp (addSyl (.sRdp y)) s

/-- S_WRP (R142). -/
def execSWrp (y : Syl) (s : State) : Host.Outcome State Fault Refusal := ifUp (addSyl (.sWrp y)) s

/-- S_LD (R143). -/
def execSLd (y : Syl) (s : State) : Host.Outcome State Fault Refusal := ifUp (addSyl (.sLd y)) s

/-- S_ST (R143). -/
def execSSt (y : Syl) (s : State) : Host.Outcome State Fault Refusal := ifUp (addSyl (.sSt y)) s

/-- S_BR (R144). -/
def execSBr (y : Syl) (s : State) : Host.Outcome State Fault Refusal := ifUp (addSyl (.sBr y)) s

/-- S_BRL (R144). -/
def execSBrl (y : Syl) (s : State) : Host.Outcome State Fault Refusal := ifUp (addSyl (.sBrl y)) s

/-- S_BRR (R144). -/
def execSBrr (y : Syl) (s : State) : Host.Outcome State Fault Refusal := ifUp (addSyl (.sBrr y)) s

/-- S_BRK (R144). -/
def execSBrk (y : Syl) (s : State) : Host.Outcome State Fault Refusal := ifUp (addSyl (.sBrk y)) s

/-- S_LOOP (R145). -/
def execSLoop (y : Syl) (s : State) : Host.Outcome State Fault Refusal := ifUp (addSyl (.sLoop y)) s

/-- S_HALT (R121). -/
def execSHalt (y : Syl) (s : State) : Host.Outcome State Fault Refusal := ifUp (addSyl (.sHalt y)) s

end Sys2Proof.Machine
end

