-- ==== Sys2Proof/Machine/CmdSup.lean ====
section
/-! DEFINITION. Meanings of power, reset, supervisor and event controller commands (chapters 16 and 17). -/

namespace Sys2Proof.Machine

/-- STANDBY_POWER_ON (R455). -/
def execStandbyPowerOn (s : State) : Host.Outcome State Fault Refusal := always (fun s => standbyPowerOn s) s

/-- MAIN_POWER_ON (R425). -/
def execMainPowerOn (s : State) : Host.Outcome State Fault Refusal := always (fun s => mainPowerOn s) s

/-- MOD_RESET_ASSERT (R423). -/
def execModResetAssert (s : State) : Host.Outcome State Fault Refusal := always (fun s => modResetAssert s) s

/-- MOD_RESET_RELEASE (R425). -/
def execModResetRelease (s : State) : Host.Outcome State Fault Refusal := always (fun s => modResetRelease s) s

/-- SUPPLY_FAIL (R425). -/
def execSupplyFail (standby : Bool) (s : State) : Host.Outcome State Fault Refusal :=
  always (fun s => supplyFail s standby) s

/-- REFCLK_LOSS (R445). -/
def execRefclkLoss (s : State) : Host.Outcome State Fault Refusal := always (fun s => refclkLoss s) s

/-- JUNCTION_WARNING (R425). -/
def execJunctionWarning (hot : Bool) (s : State) : Host.Outcome State Fault Refusal :=
  always (fun s => junctionWarning s hot) s

/-- OVER_TEMPERATURE (R474). -/
def execOverTemperature (s : State) : Host.Outcome State Fault Refusal := ifUp (fun s => overTemperature s) s

/-- INLET_HOT (R425). -/
def execInletHot (hot : Bool) (s : State) : Host.Outcome State Fault Refusal := always (fun s => inletHot s hot) s

/-- LOCKSTEP_MISMATCH (R429). -/
def execLockstepMismatch (k : Fin 4) (s : State) : Host.Outcome State Fault Refusal := ifUp (fun s => lockstepMismatch s k) s

/-- SRAM_ACCESS (R431). -/
def execSramAccess (k : Fin 4) (off : BitVec 23) (size : Nat) (v : Option Word) (o : Ecc)
    (s : State) : Host.Outcome State Fault Refusal :=
  ifUp (fun s => sramAccess s k off.toNat size v o) s

/-- APERTURE_ACCESS (R432). -/
def execApertureAccess (k : Fin 4) (a : BitVec 48) (v : Option Word) (s : State) : Host.Outcome State Fault Refusal :=
  ifUp (fun s => apertureAccess s k a.toNat v) s

/-- SUP_FENCE (R432). -/
def execSupFence (k : Fin 4) (v : Word) (s : State) : Host.Outcome State Fault Refusal := ifUp (fun s => supFence s k v) s

/-- MTIMER_EXPIRE (R433). -/
def execMtimerExpire (k : Fin 4) (s : State) : Host.Outcome State Fault Refusal := ifUp (fun s => mtimerExpire s k) s

/-- EVENT_PULSE (R436). -/
def execEventPulse (i : Fin 512) (s : State) : Host.Outcome State Fault Refusal := ifUp (fun s => eventPulse s i) s

/-- EVC_SWSET (R435). -/
def execEvcSwset (sz : AccSz) (v : Word) (s : State) : Host.Outcome State Fault Refusal :=
  ifUp (fun s => swsetWrite (okReply s) sz v) s

/-- EVENT_ASSIGN (R438). -/
def execEventAssign (i : Fin 512) (s : State) : Host.Outcome State Fault Refusal := ifUp (fun s => eventAssign s i) s

/-- TGT_CLAIM (R439). -/
def execTgtClaim (t : Fin 4) (sz : AccSz) (s : State) : Host.Outcome State Fault Refusal :=
  ifUp (fun s => tgtClaimRead s t sz) s

/-- TGT_COMPLETE (R440). -/
def execTgtComplete (t : Fin 4) (sz : AccSz) (v : Word) (s : State) : Host.Outcome State Fault Refusal :=
  ifUp (fun s => tgtCompleteWrite (okReply s) t sz v) s

/-- PKG_RST (R445). -/
def execPkgRst (sz : AccSz) (v : Word) (s : State) : Host.Outcome State Fault Refusal :=
  ifUp (fun s => rstCtrlWrite (okReply s) sz v) s

/-- REFCLK_RETURN (R445). -/
def execRefclkReturn (s : State) : Host.Outcome State Fault Refusal := always (fun s => refclkReturn s) s

/-- SUP_MSIP (R453). -/
def execSupMsip (k : Fin 4) (v : Word) (s : State) : Host.Outcome State Fault Refusal := ifUp (fun s => msipWrite s k v) s

end Sys2Proof.Machine
end

