-- ==== Sys2Proof/Machine/CmdUnit.lean ====
section
/-! DEFINITION. Meanings of the commands of update units and attention engines (chapters 12 and 14). -/

namespace Sys2Proof.Machine

/-- UPD_DOOR (R313). -/
def execUpdDoor (c : Fin 16) (k : BitVec 32) (s : State) : Host.Outcome State Fault Refusal :=
  ifUp (fun s => (updDoor (okReply s) c k.toNat).2) s

/-- UPDATE (R309). -/
def execUpdate (c : Fin 16) (bad : List Nat) (s : State) : Host.Outcome State Fault Refusal :=
  ifUp (fun s => updUpdate s c bad) s

/-- FSTAT (R311). -/
def execFstat (c : Fin 16) (bad : List Nat) (s : State) : Host.Outcome State Fault Refusal :=
  ifUp (fun s => updFstat s c bad) s

/-- GACC (R312). -/
def execGacc (c : Fin 16) (bad : List Nat) (s : State) : Host.Outcome State Fault Refusal :=
  ifUp (fun s => updGacc s c bad) s

/-- UPD_COMMAND_COMPLETE (R316). -/
def execUpdCommandComplete (c : Fin 16) (s : State) : Host.Outcome State Fault Refusal := ifUp (fun s => updComplete s c) s

/-- UPD_RING_WRITE (R321). -/
def execUpdRingWrite (c : Fin 16) (sz : AccSz) (v : Word) (s : State) : Host.Outcome State Fault Refusal :=
  ifUp (fun s => updRingWrite (okReply s) c sz v) s

/-- UPD_DISABLE (R319). -/
def execUpdDisable (c : Fin 16) (s : State) : Host.Outcome State Fault Refusal := ifUp (fun s => updDisable s c) s

/-- ATT_SDOOR (R347). -/
def execAttSdoor (q : Fin 16) (k : BitVec 32) (s : State) : Host.Outcome State Fault Refusal :=
  ifUp (fun s => (attDoor (okReply s) q k.toNat false).2) s

/-- ATT_CDOOR (R347). -/
def execAttCdoor (q : Fin 16) (k : BitVec 32) (s : State) : Host.Outcome State Fault Refusal :=
  ifUp (fun s => (attDoor (okReply s) q k.toNat true).2) s

/-- SET_LEAF (R348). -/
def execSetLeaf (q : Fin 16) (s : State) : Host.Outcome State Fault Refusal := ifUp (fun s => commitRun s q 1) s

/-- SET_PAGE (R348). -/
def execSetPage (q : Fin 16) (s : State) : Host.Outcome State Fault Refusal := ifUp (fun s => commitRun s q 2) s

/-- FREE_PAGE (R348). -/
def execFreePage (q : Fin 16) (s : State) : Host.Outcome State Fault Refusal := ifUp (fun s => commitRun s q 3) s

/-- FREE_LEAF (R348). -/
def execFreeLeaf (q : Fin 16) (s : State) : Host.Outcome State Fault Refusal := ifUp (fun s => commitRun s q 4) s

/-- SET_LEN (R348). -/
def execSetLen (q : Fin 16) (s : State) : Host.Outcome State Fault Refusal := ifUp (fun s => commitRun s q 5) s

/-- RESET_SEQ (R348). -/
def execResetSeq (q : Fin 16) (s : State) : Host.Outcome State Fault Refusal := ifUp (fun s => commitRun s q 6) s

/-- STEP (R353). -/
def execAttStep (q : Fin 16) (s : State) : Host.Outcome State Fault Refusal := ifUp (fun s => attStep s q) s

/-- ATT_PAGE_ARRIVE (R356). -/
def execAttPageArrive (q : Fin 16) (uncorr : Bool) (s : State) : Host.Outcome State Fault Refusal :=
  ifUp (fun s => attPageRow s q uncorr) s

/-- ATT_STEP_COMPLETE (R357). -/
def execAttStepComplete (q : Fin 16) (s : State) : Host.Outcome State Fault Refusal := ifUp (fun s => attCompleteRow s q) s

/-- ATT_CONFIG_WRITE (R362). -/
def execAttConfigWrite (q : Fin 16) (off : Nat) (sz : AccSz) (v : Word) (s : State) : Host.Outcome State Fault Refusal :=
  ifUp (fun s => if attConfigOff off then attConfigWrite (okReply s) q off sz v else accErrReply s) s

/-- ATT_DISABLE (R361). -/
def execAttDisable (q : Fin 16) (s : State) : Host.Outcome State Fault Refusal := ifUp (fun s => attDisable s q) s

end Sys2Proof.Machine
end

