-- ==== Sys2Proof/Machine/CmdVector.lean ====
section
/-! DEFINITION. Meanings of the V-slot syllables (chapter 7). -/

namespace Sys2Proof.Machine

/-- V_FOP (R179). -/
def execVFop (y : Syl) (s : State) : Host.Outcome State Fault Refusal := ifUp (addSyl (.vFop y)) s

/-- V_FOPS (R179). -/
def execVFops (y : Syl) (s : State) : Host.Outcome State Fault Refusal := ifUp (addSyl (.vFops y)) s

/-- V_IOP (R179). -/
def execVIop (y : Syl) (s : State) : Host.Outcome State Fault Refusal := ifUp (addSyl (.vIop y)) s

/-- V_IOPS (R179). -/
def execVIops (y : Syl) (s : State) : Host.Outcome State Fault Refusal := ifUp (addSyl (.vIops y)) s

/-- V_FADDI (R179). -/
def execVFaddi (y : Syl) (s : State) : Host.Outcome State Fault Refusal := ifUp (addSyl (.vFaddi y)) s

/-- V_FMULI (R179). -/
def execVFmuli (y : Syl) (s : State) : Host.Outcome State Fault Refusal := ifUp (addSyl (.vFmuli y)) s

/-- V_FMAXI (R179). -/
def execVFmaxi (y : Syl) (s : State) : Host.Outcome State Fault Refusal := ifUp (addSyl (.vFmaxi y)) s

/-- V_FMINI (R179). -/
def execVFmini (y : Syl) (s : State) : Host.Outcome State Fault Refusal := ifUp (addSyl (.vFmini y)) s

/-- V_IADDI (R179). -/
def execVIaddi (y : Syl) (s : State) : Host.Outcome State Fault Refusal := ifUp (addSyl (.vIaddi y)) s

/-- V_FMA (R180). -/
def execVFma (y : Syl) (s : State) : Host.Outcome State Fault Refusal := ifUp (addSyl (.vFma y)) s

/-- V_FMAS (R180). -/
def execVFmas (y : Syl) (s : State) : Host.Outcome State Fault Refusal := ifUp (addSyl (.vFmas y)) s

/-- V_FUN (R181). -/
def execVFun (y : Syl) (s : State) : Host.Outcome State Fault Refusal := ifUp (addSyl (.vFun y)) s

/-- V_FCMP (R182). -/
def execVFcmp (y : Syl) (s : State) : Host.Outcome State Fault Refusal := ifUp (addSyl (.vFcmp y)) s

/-- V_SEL (R183). -/
def execVSel (y : Syl) (s : State) : Host.Outcome State Fault Refusal := ifUp (addSyl (.vSel y)) s

/-- V_MOV (R183). -/
def execVMov (y : Syl) (s : State) : Host.Outcome State Fault Refusal := ifUp (addSyl (.vMov y)) s

/-- V_BCS (R183). -/
def execVBcs (y : Syl) (s : State) : Host.Outcome State Fault Refusal := ifUp (addSyl (.vBcs y)) s

/-- V_BCI (R183). -/
def execVBci (y : Syl) (s : State) : Host.Outcome State Fault Refusal := ifUp (addSyl (.vBci y)) s

/-- V_CVT (R184). -/
def execVCvt (y : Syl) (s : State) : Host.Outcome State Fault Refusal := ifUp (addSyl (.vCvt y)) s

/-- V_SPLIT (R186). -/
def execVSplit (y : Syl) (s : State) : Host.Outcome State Fault Refusal := ifUp (addSyl (.vSplit y)) s

/-- V_LD (R187). -/
def execVLd (y : Syl) (s : State) : Host.Outcome State Fault Refusal := ifUp (addSyl (.vLd y)) s

/-- V_ST (R187). -/
def execVSt (y : Syl) (s : State) : Host.Outcome State Fault Refusal := ifUp (addSyl (.vSt y)) s

/-- V_RED (R191). -/
def execVRed (y : Syl) (s : State) : Host.Outcome State Fault Refusal := ifUp (addSyl (.vRed y)) s

/-- V_STAT (R193). -/
def execVStat (y : Syl) (s : State) : Host.Outcome State Fault Refusal := ifUp (addSyl (.vStat y)) s

/-- V_SMS (R194). -/
def execVSms (y : Syl) (s : State) : Host.Outcome State Fault Refusal := ifUp (addSyl (.vSms y)) s

/-- V_SMN (R195). -/
def execVSmn (y : Syl) (s : State) : Host.Outcome State Fault Refusal := ifUp (addSyl (.vSmn y)) s

/-- V_NORM (R196). -/
def execVNorm (y : Syl) (s : State) : Host.Outcome State Fault Refusal := ifUp (addSyl (.vNorm y)) s

/-- V_EXT (R198). -/
def execVExt (y : Syl) (s : State) : Host.Outcome State Fault Refusal := ifUp (addSyl (.vExt y)) s

/-- V_MSET (R190). -/
def execVMset (y : Syl) (s : State) : Host.Outcome State Fault Refusal := ifUp (addSyl (.vMset y)) s

/-- V_BOXDEC (R333). -/
def execVBoxdec (y : Syl) (s : State) : Host.Outcome State Fault Refusal := ifUp (addSyl (.vBoxdec y)) s

/-- V_NMS (R337). -/
def execVNms (y : Syl) (s : State) : Host.Outcome State Fault Refusal := ifUp (addSyl (.vNms y)) s

end Sys2Proof.Machine
end

