-- ==== Sys2Proof/Machine/Dispatch.lean ====
section
/-! DEFINITION. One arm for every command: the direct call of its meaning. -/

namespace Sys2Proof.Machine

/-- The effect of a command on everything but the queue. -/
def exec (i : Instr) (s : State) : Host.Outcome State Fault Refusal :=
  match i with
  | .registerWrite addr size v => Sys2Proof.Machine.execRegisterWrite addr size v s
  | .rcRead addr size => Sys2Proof.Machine.execRcRead addr size s
  | .mirrorHoldRelease c => Sys2Proof.Machine.execMirrorHoldRelease c s
  | .nop y slot op ecc => Sys2Proof.Machine.execNop y slot op ecc s
  | .delayedResultWrite n => Sys2Proof.Machine.execDelayedResultWrite n s
  | .stallEnd n => Sys2Proof.Machine.execStallEnd n s
  | .waitTimeout n => Sys2Proof.Machine.execWaitTimeout n s
  | .tierBoundExpiry n => Sys2Proof.Machine.execTierBoundExpiry n s
  | .deferredFaultDue n => Sys2Proof.Machine.execDeferredFaultDue n s
  | .cfsCompare n upset => Sys2Proof.Machine.execCfsCompare n upset s
  | .sAdd y => Sys2Proof.Machine.execSAdd y s
  | .sSub y => Sys2Proof.Machine.execSSub y s
  | .sAnd y => Sys2Proof.Machine.execSAnd y s
  | .sOr y => Sys2Proof.Machine.execSOr y s
  | .sXor y => Sys2Proof.Machine.execSXor y s
  | .sShl y => Sys2Proof.Machine.execSShl y s
  | .sShr y => Sys2Proof.Machine.execSShr y s
  | .sSra y => Sys2Proof.Machine.execSSra y s
  | .sMin y => Sys2Proof.Machine.execSMin y s
  | .sMax y => Sys2Proof.Machine.execSMax y s
  | .sMinu y => Sys2Proof.Machine.execSMinu y s
  | .sMaxu y => Sys2Proof.Machine.execSMaxu y s
  | .sMul y => Sys2Proof.Machine.execSMul y s
  | .sMulhu y => Sys2Proof.Machine.execSMulhu y s
  | .sSel y => Sys2Proof.Machine.execSSel y s
  | .sAddi y => Sys2Proof.Machine.execSAddi y s
  | .sAndi y => Sys2Proof.Machine.execSAndi y s
  | .sShli y => Sys2Proof.Machine.execSShli y s
  | .sShri y => Sys2Proof.Machine.execSShri y s
  | .sSrai y => Sys2Proof.Machine.execSSrai y s
  | .sLi y => Sys2Proof.Machine.execSLi y s
  | .sLih16 y => Sys2Proof.Machine.execSLih16 y s
  | .sLih32 y => Sys2Proof.Machine.execSLih32 y s
  | .sLih48 y => Sys2Proof.Machine.execSLih48 y s
  | .sCmp y => Sys2Proof.Machine.execSCmp y s
  | .sCmpi y => Sys2Proof.Machine.execSCmpi y s
  | .sPlog y => Sys2Proof.Machine.execSPlog y s
  | .sRdp y => Sys2Proof.Machine.execSRdp y s
  | .sWrp y => Sys2Proof.Machine.execSWrp y s
  | .sLd y => Sys2Proof.Machine.execSLd y s
  | .sSt y => Sys2Proof.Machine.execSSt y s
  | .sBr y => Sys2Proof.Machine.execSBr y s
  | .sBrl y => Sys2Proof.Machine.execSBrl y s
  | .sBrr y => Sys2Proof.Machine.execSBrr y s
  | .sBrk y => Sys2Proof.Machine.execSBrk y s
  | .sLoop y => Sys2Proof.Machine.execSLoop y s
  | .sHalt y => Sys2Proof.Machine.execSHalt y s
  | .mLd y => Sys2Proof.Machine.execMLd y s
  | .mSt y => Sys2Proof.Machine.execMSt y s
  | .mSopen y => Sys2Proof.Machine.execMSopen y s
  | .mSclose y => Sys2Proof.Machine.execMSclose y s
  | .mLds y => Sys2Proof.Machine.execMLds y s
  | .mSts y => Sys2Proof.Machine.execMSts y s
  | .mPut y => Sys2Proof.Machine.execMPut y s
  | .mGet y => Sys2Proof.Machine.execMGet y s
  | .mRadd y => Sys2Proof.Machine.execMRadd y s
  | .mFadd y => Sys2Proof.Machine.execMFadd y s
  | .mMsg y => Sys2Proof.Machine.execMMsg y s
  | .mFence y => Sys2Proof.Machine.execMFence y s
  | .mClaimr y => Sys2Proof.Machine.execMClaimr y s
  | .mClaim y => Sys2Proof.Machine.execMClaim y s
  | .claimArrival w fs => Sys2Proof.Machine.execClaimArrival w fs s
  | .mWait y => Sys2Proof.Machine.execMWait y s
  | .mQsync y => Sys2Proof.Machine.execMQsync y s
  | .fabricOpComplete n id => Sys2Proof.Machine.execFabricOpComplete n id s
  | .compWrite n c v => Sys2Proof.Machine.execCompWrite n c v s
  | .aWld y => Sys2Proof.Machine.execAWld y s
  | .weightLoadComplete n => Sys2Proof.Machine.execWeightLoadComplete n s
  | .aMm y => Sys2Proof.Machine.execAMm y s
  | .mmRowWrite n upset => Sys2Proof.Machine.execMmRowWrite n upset s
  | .bcastStreamClose q => Sys2Proof.Machine.execBcastStreamClose q s
  | .aSadd y => Sys2Proof.Machine.execASadd y s
  | .aDrain y => Sys2Proof.Machine.execADrain y s
  | .drainCheckVerdict n => Sys2Proof.Machine.execDrainCheckVerdict n s
  | .lichenWrite n col k sz v => Sys2Proof.Machine.execLichenWrite n col k sz v s
  | .srStateWrite n sz v => Sys2Proof.Machine.execSrStateWrite n sz v s
  | .accWindowRead n off size => Sys2Proof.Machine.execAccWindowRead n off size s
  | .accWindowWrite n off size v => Sys2Proof.Machine.execAccWindowWrite n off size v s
  | .accRemoteWrite n sz v => Sys2Proof.Machine.execAccRemoteWrite n sz v s
  | .raddAddComplete n => Sys2Proof.Machine.execRaddAddComplete n s
  | .seqStartGo n sz v => Sys2Proof.Machine.execSeqStartGo n sz v s
  | .coreEnable n => Sys2Proof.Machine.execCoreEnable n s
  | .coreDisable n => Sys2Proof.Machine.execCoreDisable n s
  | .coreCloseDone n => Sys2Proof.Machine.execCoreCloseDone n s
  | .seqRegWrite n r sz v => Sys2Proof.Machine.execSeqRegWrite n r sz v s
  | .imemPtrWrite n sz v => Sys2Proof.Machine.execImemPtrWrite n sz v s
  | .imemDataWrite n sz v => Sys2Proof.Machine.execImemDataWrite n sz v s
  | .imemDataRead n sz => Sys2Proof.Machine.execImemDataRead n sz s
  | .vFop y => Sys2Proof.Machine.execVFop y s
  | .vFops y => Sys2Proof.Machine.execVFops y s
  | .vIop y => Sys2Proof.Machine.execVIop y s
  | .vIops y => Sys2Proof.Machine.execVIops y s
  | .vFaddi y => Sys2Proof.Machine.execVFaddi y s
  | .vFmuli y => Sys2Proof.Machine.execVFmuli y s
  | .vFmaxi y => Sys2Proof.Machine.execVFmaxi y s
  | .vFmini y => Sys2Proof.Machine.execVFmini y s
  | .vIaddi y => Sys2Proof.Machine.execVIaddi y s
  | .vFma y => Sys2Proof.Machine.execVFma y s
  | .vFmas y => Sys2Proof.Machine.execVFmas y s
  | .vFun y => Sys2Proof.Machine.execVFun y s
  | .vFcmp y => Sys2Proof.Machine.execVFcmp y s
  | .vSel y => Sys2Proof.Machine.execVSel y s
  | .vMov y => Sys2Proof.Machine.execVMov y s
  | .vBcs y => Sys2Proof.Machine.execVBcs y s
  | .vBci y => Sys2Proof.Machine.execVBci y s
  | .vCvt y => Sys2Proof.Machine.execVCvt y s
  | .vSplit y => Sys2Proof.Machine.execVSplit y s
  | .vLd y => Sys2Proof.Machine.execVLd y s
  | .vSt y => Sys2Proof.Machine.execVSt y s
  | .vRed y => Sys2Proof.Machine.execVRed y s
  | .vStat y => Sys2Proof.Machine.execVStat y s
  | .vSms y => Sys2Proof.Machine.execVSms y s
  | .vSmn y => Sys2Proof.Machine.execVSmn y s
  | .vNorm y => Sys2Proof.Machine.execVNorm y s
  | .vExt y => Sys2Proof.Machine.execVExt y s
  | .vMset y => Sys2Proof.Machine.execVMset y s
  | .vBoxdec y => Sys2Proof.Machine.execVBoxdec y s
  | .vNms y => Sys2Proof.Machine.execVNms y s
  | .nmsComplete n => Sys2Proof.Machine.execNmsComplete n s
  | .mregWrite n k w sz v => Sys2Proof.Machine.execMregWrite n k w sz v s
  | .vregDataAccess n sz v => Sys2Proof.Machine.execVregDataAccess n sz v s
  | .loadRequest => Sys2Proof.Machine.execLoadRequest s
  | .planLoad => Sys2Proof.Machine.execPlanLoad s
  | .windowWrite n k hi sz v => Sys2Proof.Machine.execWindowWrite n k hi sz v s
  | .claimSetWrite k sz v => Sys2Proof.Machine.execClaimSetWrite k sz v s
  | .prefetchIssue n d => Sys2Proof.Machine.execPrefetchIssue n d s
  | .trackerGrant c => Sys2Proof.Machine.execTrackerGrant c s
  | .tileArrive n d k => Sys2Proof.Machine.execTileArrive n d k s
  | .tierTileFail n d k => Sys2Proof.Machine.execTierTileFail n d k s
  | .outputTileWrite n d => Sys2Proof.Machine.execOutputTileWrite n d s
  | .outputTileComplete n d => Sys2Proof.Machine.execOutputTileComplete n d s
  | .guardRefetch n => Sys2Proof.Machine.execGuardRefetch n s
  | .mcRequestService id => Sys2Proof.Machine.execMcRequestService id s
  | .mcReadComplete id o => Sys2Proof.Machine.execMcReadComplete id o s
  | .checkbitFill c line => Sys2Proof.Machine.execCheckbitFill c line s
  | .bankRefresh c => Sys2Proof.Machine.execBankRefresh c s
  | .mcTraining c good => Sys2Proof.Machine.execMcTraining c good s
  | .scrubRead c o => Sys2Proof.Machine.execScrubRead c o s
  | .spareCmdGo c sz v => Sys2Proof.Machine.execSpareCmdGo c sz v s
  | .spareCopyDone c bad => Sys2Proof.Machine.execSpareCopyDone c bad s
  | .retireCmdGo c sz v => Sys2Proof.Machine.execRetireCmdGo c sz v s
  | .retireCopyDone c bad => Sys2Proof.Machine.execRetireCopyDone c bad s
  | .mcDisable c => Sys2Proof.Machine.execMcDisable c s
  | .engineEnable e => Sys2Proof.Machine.execEngineEnable e s
  | .engineCloseDone e => Sys2Proof.Machine.execEngineCloseDone e s
  | .flashEnable => Sys2Proof.Machine.execFlashEnable s
  | .flashMapLoadDone geom dies => Sys2Proof.Machine.execFlashMapLoadDone geom dies s
  | .flashDisable => Sys2Proof.Machine.execFlashDisable s
  | .flashRequest id => Sys2Proof.Machine.execFlashRequest id s
  | .flashReadComplete id retries uncorr => Sys2Proof.Machine.execFlashReadComplete id retries uncorr s
  | .flashWriteComplete id => Sys2Proof.Machine.execFlashWriteComplete id s
  | .grownBadBlock die bulk units => Sys2Proof.Machine.execGrownBadBlock die bulk units s
  | .readDisturbRelocate die bulk units pe => Sys2Proof.Machine.execReadDisturbRelocate die bulk units pe s
  | .wearLevelRelocate die bulk units pe => Sys2Proof.Machine.execWearLevelRelocate die bulk units pe s
  | .garbageCollect die bulk units pe => Sys2Proof.Machine.execGarbageCollect die bulk units pe s
  | .spillCredit => Sys2Proof.Machine.execSpillCredit s
  | .spillBurstWrite sz v => Sys2Proof.Machine.execSpillBurstWrite sz v s
  | .spillRateWrite sz v => Sys2Proof.Machine.execSpillRateWrite sz v s
  | .mossHeaderArrive n d k => Sys2Proof.Machine.execMossHeaderArrive n d k s
  | .mossConfirmArrive c n d k => Sys2Proof.Machine.execMossConfirmArrive c n d k s
  | .updDoor c k => Sys2Proof.Machine.execUpdDoor c k s
  | .update c bad => Sys2Proof.Machine.execUpdate c bad s
  | .fstat c bad => Sys2Proof.Machine.execFstat c bad s
  | .gacc c bad => Sys2Proof.Machine.execGacc c bad s
  | .updCommandComplete c => Sys2Proof.Machine.execUpdCommandComplete c s
  | .updRingWrite c sz v => Sys2Proof.Machine.execUpdRingWrite c sz v s
  | .updDisable c => Sys2Proof.Machine.execUpdDisable c s
  | .attSdoor q k => Sys2Proof.Machine.execAttSdoor q k s
  | .attCdoor q k => Sys2Proof.Machine.execAttCdoor q k s
  | .setLeaf q => Sys2Proof.Machine.execSetLeaf q s
  | .setPage q => Sys2Proof.Machine.execSetPage q s
  | .freePage q => Sys2Proof.Machine.execFreePage q s
  | .freeLeaf q => Sys2Proof.Machine.execFreeLeaf q s
  | .setLen q => Sys2Proof.Machine.execSetLen q s
  | .resetSeq q => Sys2Proof.Machine.execResetSeq q s
  | .attStep q => Sys2Proof.Machine.execAttStep q s
  | .attPageArrive q uncorr => Sys2Proof.Machine.execAttPageArrive q uncorr s
  | .attStepComplete q => Sys2Proof.Machine.execAttStepComplete q s
  | .attConfigWrite q off sz v => Sys2Proof.Machine.execAttConfigWrite q off sz v s
  | .attDisable q => Sys2Proof.Machine.execAttDisable q s
  | .flitReceive p raw => Sys2Proof.Machine.execFlitReceive p raw s
  | .flitSlot p => Sys2Proof.Machine.execFlitSlot p s
  | .marker p => Sys2Proof.Machine.execMarker p s
  | .nak p sq => Sys2Proof.Machine.execNak p sq s
  | .credit p a b m => Sys2Proof.Machine.execCredit p a b m s
  | .negotiate p vers feat node a b m => Sys2Proof.Machine.execNegotiate p vers feat node a b m s
  | .negAck p chosen => Sys2Proof.Machine.execNegAck p chosen s
  | .laneSwap p idx lane apply => Sys2Proof.Machine.execLaneSwap p idx lane apply s
  | .ackTimeoutReplay p => Sys2Proof.Machine.execAckTimeoutReplay p s
  | .negotiateResend p => Sys2Proof.Machine.execNegotiateResend p s
  | .trainDone p => Sys2Proof.Machine.execTrainDone p s
  | .alignLock p => Sys2Proof.Machine.execAlignLock p s
  | .laneLockLoss p => Sys2Proof.Machine.execLaneLockLoss p s
  | .linkIdleTimeout p => Sys2Proof.Machine.execLinkIdleTimeout p s
  | .trainBackoffExpiry p => Sys2Proof.Machine.execTrainBackoffExpiry p s
  | .portEnable p => Sys2Proof.Machine.execPortEnable p s
  | .portDisable p => Sys2Proof.Machine.execPortDisable p s
  | .closeWaitExpiry p => Sys2Proof.Machine.execCloseWaitExpiry p s
  | .laneSpareWrite p sz v => Sys2Proof.Machine.execLaneSpareWrite p sz v s
  | .fabNodeWrite sz v => Sys2Proof.Machine.execFabNodeWrite sz v s
  | .schedSwap p sz v => Sys2Proof.Machine.execSchedSwap p sz v s
  | .schedInstall p => Sys2Proof.Machine.execSchedInstall p s
  | .fabricTrackerGrant id => Sys2Proof.Machine.execFabricTrackerGrant id s
  | .trkTimeout id => Sys2Proof.Machine.execTrkTimeout id s
  | .read t => Sys2Proof.Machine.execRead t s
  | .write t => Sys2Proof.Machine.execWrite t s
  | .get t => Sys2Proof.Machine.execGet t s
  | .put t => Sys2Proof.Machine.execPut t s
  | .fadd t => Sys2Proof.Machine.execFadd t s
  | .msg t => Sys2Proof.Machine.execMsg t s
  | .fence t => Sys2Proof.Machine.execFence t s
  | .fabClaim t => Sys2Proof.Machine.execFabClaim t s
  | .radd t => Sys2Proof.Machine.execRadd t s
  | .raddHeldRelease p cls => Sys2Proof.Machine.execRaddHeldRelease p cls s
  | .completionReceive tag status v data => Sys2Proof.Machine.execCompletionReceive tag status v data s
  | .ethFrameReceive e f => Sys2Proof.Machine.execEthFrameReceive e f s
  | .ethLinkChange e link fec an corr bad => Sys2Proof.Machine.execEthLinkChange e link fec an corr bad s
  | .ethDisable e => Sys2Proof.Machine.execEthDisable e s
  | .ingestData e src sport bs => Sys2Proof.Machine.execIngestData e src sport bs s
  | .ingestWriteComplete t => Sys2Proof.Machine.execIngestWriteComplete t s
  | .ingestAckTimer t => Sys2Proof.Machine.execIngestAckTimer t s
  | .ingEnable t sz v => Sys2Proof.Machine.execIngEnable t sz v s
  | .ingConfigWrite t off sz v => Sys2Proof.Machine.execIngConfigWrite t off sz v s
  | .cxlHostRead a o => Sys2Proof.Machine.execCxlHostRead a o s
  | .cxlHostWrite a v be poison => Sys2Proof.Machine.execCxlHostWrite a v be poison s
  | .identifyMemoryDevice => Sys2Proof.Machine.execIdentifyMemoryDevice s
  | .getHealthInfo => Sys2Proof.Machine.execGetHealthInfo s
  | .getEventRecords => Sys2Proof.Machine.execGetEventRecords s
  | .clearEventRecords => Sys2Proof.Machine.execClearEventRecords s
  | .getPoisonList => Sys2Proof.Machine.execGetPoisonList s
  | .clearPoison a v => Sys2Proof.Machine.execClearPoison a v s
  | .getTimestamp => Sys2Proof.Machine.execGetTimestamp s
  | .setTimestamp v => Sys2Proof.Machine.execSetTimestamp v s
  | .cxlMailboxUnsupported op => Sys2Proof.Machine.execCxlMailboxUnsupported op s
  | .cxlWinWrite size sz v => Sys2Proof.Machine.execCxlWinWrite size sz v s
  | .hdmDecoderCommit commit => Sys2Proof.Machine.execHdmDecoderCommit commit s
  | .perstN low => Sys2Proof.Machine.execPerstN low s
  | .cxlDisable => Sys2Proof.Machine.execCxlDisable s
  | .i3cAddressAssign addr => Sys2Proof.Machine.execI3cAddressAssign addr s
  | .setEndpointId eid => Sys2Proof.Machine.execSetEndpointId eid s
  | .gettid => Sys2Proof.Machine.execGettid s
  | .getpldmversion => Sys2Proof.Machine.execGetpldmversion s
  | .getpldmtypes => Sys2Proof.Machine.execGetpldmtypes s
  | .getpldmcommands => Sys2Proof.Machine.execGetpldmcommands s
  | .getpdrrepositoryinfo => Sys2Proof.Machine.execGetpdrrepositoryinfo s
  | .getpdr handle => Sys2Proof.Machine.execGetpdr handle s
  | .getnumericsensorreading k => Sys2Proof.Machine.execGetnumericsensorreading k s
  | .getstatesensorreadings => Sys2Proof.Machine.execGetstatesensorreadings s
  | .requestupdate => Sys2Proof.Machine.execRequestupdate s
  | .activatefirmware => Sys2Proof.Machine.execActivatefirmware s
  | .pldmUnsupported typ cmd => Sys2Proof.Machine.execPldmUnsupported typ cmd s
  | .sensorLimitCross k => Sys2Proof.Machine.execSensorLimitCross k s
  | .getVersion => Sys2Proof.Machine.execGetVersion s
  | .getCapabilities => Sys2Proof.Machine.execGetCapabilities s
  | .negotiateAlgorithms => Sys2Proof.Machine.execNegotiateAlgorithms s
  | .getDigests => Sys2Proof.Machine.execGetDigests s
  | .getCertificate off len => Sys2Proof.Machine.execGetCertificate off len s
  | .challenge m => Sys2Proof.Machine.execChallenge m s
  | .getMeasurements m => Sys2Proof.Machine.execGetMeasurements m s
  | .spdmUnsupported code => Sys2Proof.Machine.execSpdmUnsupported code s
  | .getCosig => Sys2Proof.Machine.execGetCosig s
  | .getNonce => Sys2Proof.Machine.execGetNonce s
  | .unlock token => Sys2Proof.Machine.execUnlock token s
  | .dbgRead addr => Sys2Proof.Machine.execDbgRead addr s
  | .dbgWrite addr v => Sys2Proof.Machine.execDbgWrite addr v s
  | .standbyPowerOn => Sys2Proof.Machine.execStandbyPowerOn s
  | .mainPowerOn => Sys2Proof.Machine.execMainPowerOn s
  | .modResetAssert => Sys2Proof.Machine.execModResetAssert s
  | .modResetRelease => Sys2Proof.Machine.execModResetRelease s
  | .supplyFail standby => Sys2Proof.Machine.execSupplyFail standby s
  | .refclkLoss => Sys2Proof.Machine.execRefclkLoss s
  | .junctionWarning hot => Sys2Proof.Machine.execJunctionWarning hot s
  | .overTemperature => Sys2Proof.Machine.execOverTemperature s
  | .inletHot hot => Sys2Proof.Machine.execInletHot hot s
  | .lockstepMismatch k => Sys2Proof.Machine.execLockstepMismatch k s
  | .sramAccess k off size v o => Sys2Proof.Machine.execSramAccess k off size v o s
  | .apertureAccess k a v => Sys2Proof.Machine.execApertureAccess k a v s
  | .supFence k v => Sys2Proof.Machine.execSupFence k v s
  | .mtimerExpire k => Sys2Proof.Machine.execMtimerExpire k s
  | .eventPulse k => Sys2Proof.Machine.execEventPulse k s
  | .evcSwset sz v => Sys2Proof.Machine.execEvcSwset sz v s
  | .eventAssign k => Sys2Proof.Machine.execEventAssign k s
  | .tgtClaim t sz => Sys2Proof.Machine.execTgtClaim t sz s
  | .tgtComplete t sz v => Sys2Proof.Machine.execTgtComplete t sz v s
  | .pkgRst sz v => Sys2Proof.Machine.execPkgRst sz v s
  | .romStart => Sys2Proof.Machine.execRomStart s
  | .bootAttempt readable => Sys2Proof.Machine.execBootAttempt readable s
  | .confirmBoot => Sys2Proof.Machine.execConfirmBoot s
  | .enrollOwner arg => Sys2Proof.Machine.execEnrollOwner arg s
  | .setOwnerOnly => Sys2Proof.Machine.execSetOwnerOnly s
  | .revokeVendor arg => Sys2Proof.Machine.execRevokeVendor arg s
  | .advanceSvn arg => Sys2Proof.Machine.execAdvanceSvn arg s
  | .setFlashWin arg => Sys2Proof.Machine.execSetFlashWin arg s
  | .setPlanMeas => Sys2Proof.Machine.execSetPlanMeas s
  | .fuseLock => Sys2Proof.Machine.execFuseLock s
  | .actionLock => Sys2Proof.Machine.execActionLock s
  | .eraseComplete => Sys2Proof.Machine.execEraseComplete s
  | .volt => Sys2Proof.Machine.execVolt s
  | .clk => Sys2Proof.Machine.execClk s
  | .temp => Sys2Proof.Machine.execTemp s
  | .mesh => Sys2Proof.Machine.execMesh s
  | .safeEnter sz v => Sys2Proof.Machine.execSafeEnter sz v s
  | .openStep step => Sys2Proof.Machine.execOpenStep step s
  | .journalUpdate => Sys2Proof.Machine.execJournalUpdate s
  | .commitStep => Sys2Proof.Machine.execCommitStep s
  | .abortStep => Sys2Proof.Machine.execAbortStep s
  | .jrnMark n pc v => Sys2Proof.Machine.execJrnMark n pc v s
  | .markApply n => Sys2Proof.Machine.execMarkApply n s
  | .journalDurable ok => Sys2Proof.Machine.execJournalDurable ok s
  | .mirrorStart => Sys2Proof.Machine.execMirrorStart s
  | .pairRecv src v => Sys2Proof.Machine.execPairRecv src v s
  | .pairAck src v => Sys2Proof.Machine.execPairAck src v s
  | .pairHb src v => Sys2Proof.Machine.execPairHb src v s
  | .pairPeer src v => Sys2Proof.Machine.execPairPeer src v s
  | .heartbeatSend => Sys2Proof.Machine.execHeartbeatSend s
  | .heartbeatTimeout => Sys2Proof.Machine.execHeartbeatTimeout s
  | .coreSpare d sz v => Sys2Proof.Machine.execCoreSpare d sz v s
  | .supSpare sz v => Sys2Proof.Machine.execSupSpare sz v s
  | .arbRequest code scope done => Sys2Proof.Machine.execArbRequest code scope done s
  | .arbStart code scope => Sys2Proof.Machine.execArbStart code scope s
  | .arbCkptWrite sz v => Sys2Proof.Machine.execArbCkptWrite sz v s
  | .selfTestTurn => Sys2Proof.Machine.execSelfTestTurn s
  | .selfTestDone fail => Sys2Proof.Machine.execSelfTestDone fail s
  | .selfTestOverdue u => Sys2Proof.Machine.execSelfTestOverdue u s
  | .secCmdEnd took => Sys2Proof.Machine.execSecCmdEnd took s
  | .cxlLinkChange up width rate => Sys2Proof.Machine.execCxlLinkChange up width rate s
  | .refclkReturn => Sys2Proof.Machine.execRefclkReturn s
  | .supMsip k v => Sys2Proof.Machine.execSupMsip k v s
  | .doeDiscovery index => Sys2Proof.Machine.execDoeDiscovery index s
  | .cdat handle => Sys2Proof.Machine.execCdat handle s
  | .zqCalibration c => Sys2Proof.Machine.execZqCalibration c s
  | .updateDataRelay off data => Sys2Proof.Machine.execUpdateDataRelay off data s

end Sys2Proof.Machine
end

