-- ==== Sys2Proof/Safety.lean ====
section
/-! DEFINITION. The terms in which claims are stated: the canonical forms of the state's sparse maps, what completes, what stays
unchanged, and a core that stands before its next bundle with nothing that stops it. -/

namespace Sys2Proof.Machine

/-- Memory, the control registers and the cores are in canonical form. -/
def State.wf (s : State) : Bool := Memory.wf s.mem && wfMap regReset s.csr && wfMap (fun _ => Core.reset) s.cores

/-- The package answers commands: power and reset allow it. -/
def State.up (s : State) : Bool := !s.out.mgt.inReset

/-- A step that stops the run: none does, for every rule of the spec gives an effect. -/
def stops (o : Host.Outcome State Fault Refusal) : Bool :=
  match o with
  | .next _ => false
  | .fault _ => true
  | .refused _ => true

/-- Command c completes in state s, in a next state of which P holds. -/
def Runs (c : Instr) (s : State) (P : State → Prop) : Prop := ∃ t, exec c s = .next t ∧ P t

/-- The state t with the queue of s: a command changes everything but the queue. -/
def State.after (s t : State) : State := { t with pending := s.pending }

/-! ### What stays unchanged -/

/-- Every control register but those named holds what it held. -/
def RegsExcept (as : List Nat) (s t : State) : Prop := ∀ a, a ∉ as → t.reg a = s.reg a
/-- Every byte of memory reads as before. -/
def MemSame (s t : State) : Prop := ∀ a, t.byte a = s.byte a
/-- Every core but those named is as before. -/
def CoresExcept (ns : List Nat) (s t : State) : Prop := ∀ n, n ∉ ns → t.core n = s.core n

/-- The commands that act while the package is in reset as well: power, the module's inputs, the management endpoint. -/
def actsInReset (c : Instr) : Bool :=
  match c with
  | .perstN _ => true
  | .i3cAddressAssign _ => true
  | .setEndpointId _ => true
  | .gettid => true
  | .getpldmversion => true
  | .getpldmtypes => true
  | .getpldmcommands => true
  | .getpdrrepositoryinfo => true
  | .getpdr _ => true
  | .getnumericsensorreading _ => true
  | .getstatesensorreadings => true
  | .requestupdate => true
  | .activatefirmware => true
  | .pldmUnsupported _ _ => true
  | .sensorLimitCross _ => true
  | .getVersion => true
  | .getCapabilities => true
  | .negotiateAlgorithms => true
  | .getDigests => true
  | .getCertificate _ _ => true
  | .challenge _ => true
  | .getMeasurements _ => true
  | .spdmUnsupported _ => true
  | .getCosig => true
  | .getNonce => true
  | .unlock _ => true
  | .dbgRead _ => true
  | .dbgWrite _ _ => true
  | .updateDataRelay _ _ => true
  | .standbyPowerOn => true
  | .mainPowerOn => true
  | .modResetAssert => true
  | .modResetRelease => true
  | .supplyFail _ => true
  | .refclkLoss => true
  | .junctionWarning _ => true
  | .inletHot _ => true
  | .refclkReturn => true
  | _ => false

/-- A counter of cycles of a fabric port (Table 15.19): it moves with the clock. -/
def clockCounter (a : Nat) : Prop := ∃ p, a = R.RADD_HOLD p ∨ a = R.TRK_FULL p

/-- The one operation of core n that is due: l stands first in flight, not in the past, and every other is due later. -/
structure DueNext (s : State) (n : Nat) (l : Late) (rest : List Late) : Prop where
  up : s.up = true
  head : s.late = l :: rest
  own : l.n = n
  ahead : s.now ≤ l.due
  later : ∀ l' ∈ rest, l.due < l'.due

/-- The clock stands at the cycle of l, l is no longer in flight, registers but those named (and the cycle counters of ports) and
every core but n are as before. -/
structure Landed (as : List Nat) (s t : State) (n : Nat) (l : Late) (rest : List Late) : Prop where
  now : t.now = l.due
  late : t.late = rest
  regs : ∀ a, a ∉ as → ¬ clockCounter a → t.reg a = s.reg a
  cores : CoresExcept [n] s t

/-- Only these fields of the control registers named may have changed, and memory and cores are as before. -/
def OnlyRegs (as : List Nat) (s t : State) : Prop := RegsExcept as s t ∧ MemSame s t ∧ CoresExcept [] s t

/-- The control register of an engine (R442). -/
def engineCtl (e : Engine) : Nat :=
  match e with
  | .core n => R.SEQ_CTRL n
  | .mc c => R.MC_CTRL c
  | .upd c => R.UPD_CTRL c
  | .flash => R.FL_CTRL
  | .att q => R.ATT_CTRL q
  | .port p => R.PORT_CTRL p
  | .eth k => R.ETH_CTRL k
  | .cxl => R.CXL_CTRL

/-- ENABLE of an engine. -/
def State.enabled (s : State) (ctl : Nat) : Bool := getBits (s.reg ctl) 0 0 == 1

/-! ### A core before its next bundle -/

/-- The bundle being gathered at core n is taken for issue. -/
def State.gathered (s : State) (n : Nat) : State := s.setCore n { s.core n with latch := [] }

/-- Core n can issue in the present cycle: it is ON and RUNNING, gathers no bundle and holds none, no deferred fault is due,
its program counter names a bundle without error, and everything due by now has had its effect. -/
structure Ready (s : State) (n : Nat) : Prop where
  up : s.up = true
  issues : coreIssues s n = true
  latch : (s.core n).latch = []
  held : (s.core n).held = none
  due : (s.core n).dueFaults = []
  inside : (s.core n).pastEnd = false
  ecc : look (fun _ => 0) (s.core n).imemErr (pcOf s n) = 0
  cycle : (s.core n).nextIssue ≤ s.now
  late : ∀ l ∈ s.late, s.now < l.due

/-- Nothing holds or faults a legal syllable in the present cycle, and its predicate is 1. -/
structure Clear (s : State) (x : SylInfo) : Prop where
  legal : x.legal = true
  pred : s.pr x.y.n x.y.pred.toNat = true
  faults : x.check s.now x.y s = []
  hold : x.hold s.now x.y s = false
  tier : x.tier s.now x.y s = none
  wait : x.wait x.y s = false
  alone : x.qsync = false

/-- A lone syllable that is the last of its bundle reaches issue at its core, and nothing holds or faults it. -/
structure Issues (i : Instr) (x : SylInfo) (s : State) : Prop where
  syl : sylInfo i = some x
  last : x.y.last = true
  ready : Ready s x.y.n
  clear : Clear (s.gathered x.y.n) x
  clean : ∀ y sl op e, i = .nop y sl op e → e = .clean

/-- The sequencer goes straight on at core n: no loop is open, no delay slot is due, the signature window does not fill, and
the next bundle exists. -/
structure Straight (s : State) (n : Nat) : Prop where
  loops : kdepth s n = 0
  branch : (s.core n).branch = none
  window : s.fld (F.CFS_FETCH_WCOUNT n) < 4095
  next : pcOf s n + 1 < 16384

/-- The registers that every issue of core n moves on: status, bundle count and the two control-flow signatures. -/
def issueRegs (n : Nat) : List Nat := [R.SEQ_STATUS n, R.BUNDLE_COUNT n, R.CFS_FETCH n, R.CFS_CHECK n]

/-- The issue order that core n gives the syllables of its next bundle. -/
def nextOrd (s : State) (n : Nat) (slot : SlotL) : Nat := (s.core n).issued * 4 + slotNo slot

/-- What the register and immediate forms of the S slot give (Tables 6.2 to 6.4): latency, destination, value. -/
def scalarResult (i : Instr) (s : State) : Option (Nat × Nat × Word) :=
  match i with
  | .sAdd y => some (1, fb y 17 12, srF y s 11 6 + srF y s 5 0)
  | .sSub y => some (1, fb y 17 12, srF y s 11 6 - srF y s 5 0)
  | .sAnd y => some (1, fb y 17 12, srF y s 11 6 &&& srF y s 5 0)
  | .sOr y => some (1, fb y 17 12, srF y s 11 6 ||| srF y s 5 0)
  | .sXor y => some (1, fb y 17 12, srF y s 11 6 ^^^ srF y s 5 0)
  | .sShl y => some (1, fb y 17 12, srF y s 11 6 <<< (getBits (srF y s 5 0) 5 0))
  | .sShr y => some (1, fb y 17 12, srF y s 11 6 >>> (getBits (srF y s 5 0) 5 0))
  | .sSra y => some (1, fb y 17 12, (srF y s 11 6).sshiftRight (getBits (srF y s 5 0) 5 0))
  | .sMin y => some (1, fb y 17 12, if (srF y s 11 6).toInt ≤ (srF y s 5 0).toInt then srF y s 11 6 else srF y s 5 0)
  | .sMax y => some (1, fb y 17 12, if (srF y s 11 6).toInt ≤ (srF y s 5 0).toInt then srF y s 5 0 else srF y s 11 6)
  | .sMinu y => some (1, fb y 17 12, if (srF y s 11 6).toNat ≤ (srF y s 5 0).toNat then srF y s 11 6 else srF y s 5 0)
  | .sMaxu y => some (1, fb y 17 12, if (srF y s 11 6).toNat ≤ (srF y s 5 0).toNat then srF y s 5 0 else srF y s 11 6)
  | .sMul y => some (3, fb y 17 12, BitVec.ofNat 64 ((srF y s 11 6).toNat * (srF y s 5 0).toNat))
  | .sMulhu y => some (3, fb y 17 12, BitVec.ofNat 64 ((srF y s 11 6).toNat * (srF y s 5 0).toNat / 2 ^ 64))
  | .sSel y => some (1, fb y 17 12, if s.pr y.n (fb y 21 18) = true then srF y s 11 6 else srF y s 5 0)
  | .sAddi y => some (1, fb y 21 16, srF y s 15 10 + BitVec.ofInt 64 (sextInt 10 (fb y 9 0)))
  | .sAndi y => some (1, fb y 21 16, srF y s 15 10 &&& BitVec.ofInt 64 (sextInt 10 (fb y 9 0)))
  | .sShli y => some (1, fb y 21 16, srF y s 15 10 <<< fb y 5 0)
  | .sShri y => some (1, fb y 21 16, srF y s 15 10 >>> fb y 5 0)
  | .sSrai y => some (1, fb y 21 16, (srF y s 15 10).sshiftRight (fb y 5 0))
  | .sLi y => some (1, fb y 21 16, BitVec.ofInt 64 (sextInt 16 (fb y 15 0)))
  | .sLih16 y => some (1, fb y 21 16, setBits (srF y s 21 16) 31 16 (fb y 15 0))
  | .sLih32 y => some (1, fb y 21 16, setBits (srF y s 21 16) 47 32 (fb y 15 0))
  | .sLih48 y => some (1, fb y 21 16, setBits (srF y s 21 16) 63 48 (fb y 15 0))
  | .sRdp y => some (1, fb y 21 16, BitVec.ofNat 64 (foldBits 16 fun k => s.pr y.n k))
  | _ => none

/-- What the compares and predicate instructions of the S slot give (Tables 6.5 and 6.6, R142): the operation due one cycle
after issue. -/
def predicateResult (i : Instr) (s : State) : Option LateOp :=
  match i with
  | .sCmp y => some (.pred (fb y 17 14) (condHolds (fb y 21 18) (srF y s 11 6) (srF y s 5 0)))
  | .sCmpi y => some (.pred (fb y 17 14) (condHolds (fb y 21 18) (srF y s 13 8) (BitVec.ofInt 64 (sextInt 8 (fb y 7 0)))))
  | .sPlog y => some (.pred (fb y 15 12)
      ((fb y 3 0).testBit (2 * (if s.pr y.n (fb y 11 8) = true then 1 else 0) + (if s.pr y.n (fb y 7 4) = true then 1 else 0))))
  | .sWrp y => some (.preds (getBits (srF y s 5 0) 15 0))
  | _ => none

/-! ### The other slots -/

/-- The state that syllable i leaves, alone in its bundle, at its issue at core n: before what is due in the same cycle. -/
def State.atIssue (s : State) (i : Instr) (n : Nat) : State := applyBundle (s.gathered n) n s.now [i]

/-- Syllable i issues alone at core n and the sequencer goes straight on; at issue memory and the other cores are as before, and
the state it leaves there has P. What is due in the same cycle then has its effect. -/
structure IssuesWith (i : Instr) (n : Fin 64) (s : State) (P : State → Prop) : Prop where
  runs : exec i s = .next (s.after (tickTo (s.atIssue i n) s.now))
  pc : pcOf (s.atIssue i n) n = pcOf s n + 1
  now : (s.atIssue i n).now = s.now
  cores : CoresExcept [n.val] s (s.atIssue i n)
  mem : MemSame s (s.atIssue i n)
  effect : P (s.atIssue i n)

/-- Core m is held at the barrier: its held bundle is a lone M.QSYNC y that executes, and nothing else is asked of its
sequencer. -/
structure AtBarrier (s : State) (m : Nat) (h : Held) (y : Syl) : Prop where
  held : (s.core m).held = some h
  bundle : h.bundle = [.mQsync y]
  own : y.n.val = m
  legal : mQsyncLegal y = true
  pred : s.pr m y.pred.toNat = true
  state : coreState s m = 1
  upto : h.upto = s.now
  due : (s.core m).dueFaults = []
  inside : (s.core m).pastEnd = false
  ecc : look (fun _ => 0) (s.core m).imemErr (pcOf s m) ≠ 2
  straight : Straight s m

/-- The element-wise operations of the V slot (Tables 7.4 to 7.7): the mask, and the result of each element. -/
def elementResult (i : Instr) (s : State) : Option (BitVec 256 × (Nat → ElemRes)) :=
  match i with
  | .vFop y => some (vMask y s, fun k => fopE (vFN y) (vecA y s k) (vecB y s k))
  | .vFops y => some (vMask y s, fun k => fopE (vFN y) (vecA y s k) (vecS y s))
  | .vIop y => some (vMask y s, fun k => iopN (vFN y) (vecA y s k) (vecB y s k))
  | .vIops y => some (vMask y s, fun k => iopN (vFN y) (vecA y s k) (vecS y s))
  | .vFaddi y => some (BitVec.allOnes 256, fun k => fopE 0 (vecA y s k) (immF y))
  | .vFmuli y => some (BitVec.allOnes 256, fun k => fopE 2 (vecA y s k) (immF y))
  | .vFmaxi y => some (BitVec.allOnes 256, fun k => fopE 5 (vecA y s k) (immF y))
  | .vFmini y => some (BitVec.allOnes 256, fun k => fopE 4 (vecA y s k) (immF y))
  | .vIaddi y => some (BitVec.allOnes 256, fun k => iopN 0 (vecA y s k) (immI y))
  | .vFma y => some (vMask y s, fun k => fmaE (vecA y s k) (vecB y s k) (vecD y s k))
  | .vFmas y => some (vMask y s, fun k => fmaE (vecA y s k) (vecS y s) (vecD y s k))
  | .vFun y => some (vMask y s, fun k => funE (vFN y) (vecA y s k))
  | .vFcmp y => some (vMask y s, fun k => fcmpE (vFN y) (vecA y s k) (vecB y s k))
  | .vSel y => some (vMask y s, fun k => (if vecD y s k % 2 ^ 31 ≠ 0 then vecA y s k else vecB y s k, 0))
  | .vMov y => some (vMask y s, fun k => (vecA y s k, 0))
  | .vBcs y => some (vMask y s, fun _ => (vecS y s, 0))
  | .vBci y => some (BitVec.allOnes 256, fun _ => (if vVA y = 0 then immF y else immI y, 0))
  | .vSplit y => some (vMask y s, fun k => splitE (vFN y) (vecA y s k))
  | .vCvt y => some (vMask y s, fun k => cvtE (vFN y) (vMode (fb y 5 4) (srState s y.n) k) (vecA y s k))
  | _ => none

/-- The elements that an element-wise operation writes, and its status. -/
def elementTile (r : BitVec 256 × (Nat → ElemRes)) : Tile := (activeKeys r.1).map fun k => (k, BitVec.ofNat 32 (r.2 k).1)
def elementStat (r : BitVec 256 × (Nat → ElemRes)) : Nat := orStat ((activeKeys r.1).map r.2)

/-- A syllable of the V slot puts exactly one operation in flight, due in cycle due, and occupies the unit until free; nothing
but its core's sequencer and its occupancy changes at issue. -/
structure VecRuns (y : Syl) (s : State) (free done due phase : Nat) (op : LateOp) (as : List Nat) (t : State) : Prop where
  late : t.late = insertLate ⟨y.n, nextOrd s y.n .v, due, phase, op⟩ s.late
  free : (t.core y.n).vecFree = free
  done : (t.core y.n).vecDone = max (s.core y.n).vecDone done
  tiles : (t.core y.n).vregs = (s.core y.n).vregs
  pc : pcOf t y.n = pcOf s y.n + 1
  regs : RegsExcept (as ++ issueRegs y.n) s t
  cores : CoresExcept [y.n.val] s t
  mem : MemSame s t

/-! ### Streams and requests -/

/-- Stream d of core n is open with state t, and its slot i exists. -/
def openSlotOf (s : State) (n d i : Nat) (t : Stream) : Prop := (s.core n).stream d = some t ∧ i < t.slots.length

/-- The slot i of stream d of core n, for an open stream. -/
def slotAt (s : State) (n d i : Nat) : Option StgSlot := ((s.core n).stream d).map fun t => t.slots.getD i StgSlot.reset

/-- No transaction of this device has ended without having been taken up. -/
def noneEnded (s : State) : Prop := ∀ q ∈ s.fab.txs, ∀ a b c, q.st ≠ .done a b c

/-- Field f after k more events: it saturates (R10). -/
def State.sat (s : State) (f : Fld) (k : Nat) : Nat := min (s.fld f + k) (2 ^ (f.hi + 1 - f.lo) - 1)

/-- The maintenance arbiter has nothing running and nothing waiting. -/
def arbIdle (s : State) : Prop := s.arb.run = [] ∧ s.arb.wait = []

/-! ### Bytes in memory -/

/-- The bytes from address a on are those of bs. -/
def Bytes (t : State) (a : Nat) (bs : List Byte) : Prop := ∀ k, k < bs.length → t.byte (a + k) = bs.getD k 0
/-- Every byte outside these ranges (address, length) reads as before. -/
def MemExcept (ws : List (Nat × Nat)) (s t : State) : Prop := ∀ a, (∀ w ∈ ws, a < w.1 ∨ w.1 + w.2 ≤ a) → t.byte a = s.byte a
/-- No two of these ranges share a byte. -/
def Apart (ws : List (Nat × Nat)) : Prop := ws.Pairwise fun x y => x.1 + x.2 ≤ y.1 ∨ y.1 + y.2 ≤ x.1
/-- The ranges that a list of writes touches. -/
def spans (w : List (Nat × List Byte)) : List (Nat × Nat) := w.map fun x => (x.1, x.2.length)

/-- A message of val to addr is in line in t after those of s; none for address 0. -/
def Notified (addr val : Nat) (s t : State) : Prop :=
  t.fab.txs.map (fun x => (x.owner, x.op, x.node, x.addr, x.data)) =
    s.fab.txs.map (fun x => (x.owner, x.op, x.node, x.addr, x.data)) ++
      (if addr = 0 then [] else [(.unit, opMSG, addr / 2 ^ 48, addr % 2 ^ 48, leBytes 8 val)])

/-! ### Update units and attention engines -/

/-- The command at the head of the ring of unit c is due: the unit is ON and free, and HEAD is not TAIL. -/
def updDue (s : State) (c : Nat) : Prop := updState s c = 1 ∧ updHead s c ≠ updTail s c ∧ (updOf s c).cur = none

/-- What UPDATE leaves when unit c owns the one parameter i of the group: its writes and the group's step in memory, its counts,
and its status, noted as the command r's. -/
structure ParamUpdated (c : Nat) (g : Group) (r : UpdRec) (i : Nat) (s t : State) : Prop where
  writes : ∀ x ∈ (updParam s g r r.coef ⟨[], [], XVal.one⟩ i).1, Bytes t x.1 x.2
  step : Bytes t g.hdr (leBytes 8 r.step)
  others : MemExcept (spans (updParam s g r r.coef ⟨[], [], XVal.one⟩ i).1 ++ [(g.hdr, 8)]) s t
  params : t.fld (F.UPD_PARAMS_COUNT c) = s.sat (F.UPD_PARAMS_COUNT c) 1
  finite : t.fld (F.UPD_NONFINITE_COUNT c) =
    s.sat (F.UPD_NONFINITE_COUNT c) (if (updParam s g r r.coef ⟨[], [], XVal.one⟩ i).2 = true then 0 else 1)
  status : (updOf t c).cur = some ⟨r, none, if (updParam s g r r.coef ⟨[], [], XVal.one⟩ i).2 = true then 1 else 129⟩

/-- The commit at the head of the ring of engine q is due: the engine is ON, HEAD is not TAIL, no step is in progress. -/
def commitDue (s : State) (q : Nat) : Prop :=
  attState s q = 1 ∧ s.fld (F.ATT_CPTR_HEAD q) ≠ s.fld (F.ATT_CPTR_TAIL q) ∧ attOf s q = Att.reset

/-- A commit r of engine q completed with a status: its STATUS byte, its NOTIFY, HEAD, and the sequence's GEN for DONE. -/
structure CommitEnds (q : Nat) (r : CommitRec) (s t : State) : Prop where
  status : t.byte (r.addr + 28) = if commitOk s q r = true then 1 else 2
  head : t.fld (F.ATT_CPTR_HEAD q) = (s.fld (F.ATT_CPTR_HEAD q) + 1) % 2 ^ 32
  gen : commitOk s q r = true → t.fld (F.SEQ_STATE_GEN q r.sid) = (s.fld (F.SEQ_STATE_GEN q r.sid) + 1) % 2 ^ 32
  notified : Notified r.notify r.nval s t
  regs : RegsExcept [R.ATT_CPTR q, R.ATT_RPTR q, R.SEQ_STATE q r.sid] s t

/-! ### The fabric -/

/-- Port p of t is that of s changed by f, every other port is as before, and so is memory and every core. -/
structure PortStep (p : Nat) (f : Port → Port) (as : List Nat) (s t : State) : Prop where
  port : t.port p = f (s.port p)
  ports : ∀ k, k ≠ p → t.port k = s.port k
  txs : t.fab.txs = s.fab.txs
  regs : RegsExcept as s t
  mem : MemSame s t
  cores : CoresExcept [] s t

/-- The transaction that arrives: the next one of a class on the loopback path, or the packet that came in on an ACTIVE port. -/
def arrival (s : State) (op : Nat) (a : Arr) : Option TxnIn :=
  match a with
  | .loop cls => (loopHead s cls.val).bind fun t => if t.op = op then some (t.arrives (ownNode s)) else none
  | .link p cls src tag sz len addr data => if lstate s p.val = 4 then
      some { port := p.val, cls := cls.val, src := src.toNat, tag := tag.toNat, op := op, sz := sz.toNat, len := len.toNat,
             addr := addr.toNat, data := data }
    else none

/-- The arriving transaction is applied now: nothing of its class is held at its port, and it is not one
of the supervisor's own on the loopback path (those are answered to the supervisor). -/
structure Arrives (s : State) (op : Nat) (a : Arr) (t : TxnIn) : Prop where
  arrival : arrival s op a = some t
  free : classStopped s t.port t.cls = false
  plain : t.port = loopPort → ∀ x, s.tx t.tag = some x → ∀ k, x.owner ≠ .aperture k ∧ x.owner ≠ .fence k

/-- The safe state takes the transaction (R477). -/
def safeTakes (s : State) (t : TxnIn) : Prop := safeActive s = false ∨ t.cls = 2

/-- The completion of an arrived transaction is sent in u: queued at the egress of the route to its source, or, for the loopback
path, noted in the core's, tier engine's or mirror's transaction. -/
def Answered (s u : State) (t : TxnIn) (status value : Nat) (data : List Byte) : Prop :=
  (t.port ≠ loopPort → ∀ e, routePort s t.src = some e → (u.port e).q = (s.port e).q ++ [⟨t.src, t.cls,
    cutFlits t.src t.cls (pieces 240 (complRecord (ownNode s) t.op status t.tag value ++ data)), false, none, none⟩]) ∧
  (t.port = loopPort → ∀ x n id, s.tx t.tag = some x → x.owner = .core n id →
    u.tx t.tag = some { x with st := .done status value data })

/-- Memory of a range is reachable and sound: inside stack memory or usable LPDDR 6, its controllers not closing, no unit
poisoned. -/
structure MemGood (s : State) (a len : Nat) : Prop where
  inside : lpddrOk s a len = true ∨ stackOk a len = true
  opened : closingUnits s a len = []
  sound : poisonUnits s a len = []

/-! ### Reset, power, security -/

/-- The package has been released from reset with these causes: everything at its reset value but what R445 keeps. -/
structure ReleasedFromReset (causes : Nat) (s t : State) : Prop where
  now : t.now = 0
  running : t.out.mgt.inReset = false
  cause : t.reg R.RST_CAUSE = BitVec.ofNat 64 (causes + 8 * (if safeActive s = true then 1 else 0))
  cores : ∀ n, t.core n = Core.reset
  safe : t.reg R.SAFE_STATUS = 0#64
  record : t.reg R.BOOT_REC = s.reg R.BOOT_REC ∧ t.reg R.LMS_NEXT = s.reg R.LMS_NEXT ∧ t.reg R.SVN_MIN = s.reg R.SVN_MIN
  fuses : dikeGen t = dikeGen s ∧ policyOf t = policyOf s ∧ t.fld F.SEC_STATUS_VREVOKE = s.fld F.SEC_STATUS_VREVOKE
  mem : ∀ a, t.byte a = if keptAddr a = true then s.byte a else memDefault a
  idle : t.late = [] ∧ t.fab = Fab.reset ∧ t.arb = Arb.reset ∧ t.jrn = Jrn.reset
  queue : t.pending = s.pending

/-- A cause of the module alarm has risen. -/
structure CauseRose (f : Fld) (s t : State) : Prop where
  flag : t.fld f = 1
  event : s.fld f = 0 → t.fld (rawFld 133) = 1
  mem : MemSame s t
  cores : CoresExcept [] s t

/-- The safe state has been entered for a cause in a unit (R476, R477): the record, its event, PWR_STATUS.SAFE and every engine
that was ON and enabled is CLOSING: cores, update units, attention engines, Ethernet ports, CXL. -/
structure SafeEntered (cause unit : Nat) (s t : State) : Prop where
  status : t.reg R.SAFE_STATUS = BitVec.ofNat 64 (2 ^ 63 + 2 ^ 8 * unit + cause)
  event : t.fld (rawFld 162) = 1
  power : t.fld F.PWR_STATUS_SAFE = 1
  coresOff : ∀ n : Fin 64, coreState s n = 1 → s.fld (F.SEQ_CTRL_ENABLE n) = 1 → coreState t n = 2
  unitsOff : ∀ c : Fin 16, updState s c = 1 → s.fld (F.UPD_CTRL_ENABLE c) = 1 → updState t c = 2
  attOff : ∀ q : Fin 16, attState s q = 1 → s.fld (F.ATT_CTRL_ENABLE q) = 1 → attState t q = 2
  ethOff : ∀ e : Fin 2, ethState s e = 1 → s.fld (F.ETH_CTRL_ENABLE e) = 1 → ethState t e = 2
  cxlOff : cxlState s = 1 → s.fld F.CXL_CTRL_ENABLE = 1 → cxlState t = 2
  faulted : jrnOpen s = true → (t.fld F.JRN_STATUS_FLAGS).testBit 0 = true
  mem : MemSame s t

/-- An alarm i of the dike is recorded, in its register, in the boot record and at its source (R470). -/
structure AlarmLogged (i : Nat) (s t : State) : Prop where
  bit : (t.fld F.DIKE_ALARM_ALARM).testBit i = true
  others : ∀ k, k ≠ i → (t.fld F.DIKE_ALARM_ALARM).testBit k = (s.fld F.DIKE_ALARM_ALARM).testBit k
  last : s.dike.alarmAt ≠ some s.now → t.fld F.BOOT_REC_LAST_ALARM = i + 1
  event : t.fld (rawFld (144 + i)) = 1
  mem : MemSame s t

end Sys2Proof.Machine
end

