-- ==== Sys2Proof/WellFormed.lean ====
section
/-! DEFINITION. Which commands are well formed: what the types of the operands do not already hold. The meanings are total
and do not ask for it. -/

namespace Sys2Proof

/-- A local address has 48 bits (R3). -/
def physical (a : Nat) : Bool := decide (a < 2 ^ 48)
def ipv6 (a : Nat) : Bool := decide (a < 2 ^ 128)
def udpPort (a : Nat) : Bool := decide (a < 2 ^ 16)
/-- Unit numbers in rising order, none twice. -/
def rising : List Nat → Bool
  | [] => true
  | [_] => true
  | a :: b :: l => decide (a < b) && rising (b :: l)

/-- Words reported are at least one. -/
def EccOut.wf : EccOut → Bool
  | .clean => true
  | .corrected k => decide (1 ≤ k)
  | .uncorr k => decide (1 ≤ k)
  | .checkBurst => true

/-- A packet holds at most one tile of 16,384 bytes of data (Table 15.9). -/
def Arr.wf : Arr → Bool
  | .loop _ => true
  | .link _ _ _ _ _ _ _ data => decide (data.length ≤ 16384)

/-- A flit holds at most 20 entries, and a reduce-add packet 32 rows of 256 (R388, Table 15.9). -/
def RaddArr.wf : RaddArr → Bool
  | .loop _ => true
  | .link _ _ _ _ _ _ pos es _ => decide (es.length ≤ 20) && decide (pos + es.length ≤ 8192)

def EthFrame.wf : EthFrame → Bool
  | .badFcs => true
  | .solicit t s => ipv6 t && ipv6 s
  | .echo d s _ => ipv6 d && ipv6 s
  | .udp d s dp sp _ p => ipv6 d && ipv6 s && udpPort dp && udpPort sp && decide (p.length ≤ 65527)
  | .other => true

/-- The checks of each command. -/
def Instr.wf (i : Instr) : Bool :=
  match i with
  | .registerWrite a size _ => physical a && decide (1 ≤ size)
  | .rcRead a size => physical a && decide (1 ≤ size)
  | .mirrorHoldRelease .. => true
  | .nop _ slot op _ => !(Machine.definedOp slot op.toNat)
  | .delayedResultWrite .. => true
  | .stallEnd .. => true
  | .waitTimeout .. => true
  | .tierBoundExpiry .. => true
  | .deferredFaultDue .. => true
  | .cfsCompare .. => true
  | .sAdd .. => true
  | .sSub .. => true
  | .sAnd .. => true
  | .sOr .. => true
  | .sXor .. => true
  | .sShl .. => true
  | .sShr .. => true
  | .sSra .. => true
  | .sMin .. => true
  | .sMax .. => true
  | .sMinu .. => true
  | .sMaxu .. => true
  | .sMul .. => true
  | .sMulhu .. => true
  | .sSel .. => true
  | .sAddi .. => true
  | .sAndi .. => true
  | .sShli .. => true
  | .sShri .. => true
  | .sSrai .. => true
  | .sLi .. => true
  | .sLih16 .. => true
  | .sLih32 .. => true
  | .sLih48 .. => true
  | .sCmp .. => true
  | .sCmpi .. => true
  | .sPlog .. => true
  | .sRdp .. => true
  | .sWrp .. => true
  | .sLd .. => true
  | .sSt .. => true
  | .sBr .. => true
  | .sBrl .. => true
  | .sBrr .. => true
  | .sBrk .. => true
  | .sLoop .. => true
  | .sHalt .. => true
  | .mLd .. => true
  | .mSt .. => true
  | .mSopen .. => true
  | .mSclose .. => true
  | .mLds .. => true
  | .mSts .. => true
  | .mPut .. => true
  | .mGet .. => true
  | .mRadd .. => true
  | .mFadd .. => true
  | .mMsg .. => true
  | .mFence .. => true
  | .mClaimr .. => true
  | .mClaim .. => true
  | .claimArrival _ fs => fs.all Arr.wf
  | .mWait .. => true
  | .mQsync .. => true
  | .fabricOpComplete .. => true
  | .compWrite .. => true
  | .aWld .. => true
  | .weightLoadComplete .. => true
  | .aMm .. => true
  | .mmRowWrite .. => true
  | .bcastStreamClose .. => true
  | .aSadd .. => true
  | .aDrain .. => true
  | .drainCheckVerdict .. => true
  | .lichenWrite .. => true
  | .srStateWrite .. => true
  | .accWindowRead _ off size => decide (off + size ≤ 0xC00000)
  | .accWindowWrite _ off size _ => decide (off + size ≤ 0xC00000)
  | .accRemoteWrite .. => true
  | .raddAddComplete .. => true
  | .seqStartGo .. => true
  | .coreEnable .. => true
  | .coreDisable .. => true
  | .coreCloseDone .. => true
  | .seqRegWrite .. => true
  | .imemPtrWrite .. => true
  | .imemDataWrite .. => true
  | .imemDataRead .. => true
  | .vFop .. => true
  | .vFops .. => true
  | .vIop .. => true
  | .vIops .. => true
  | .vFaddi .. => true
  | .vFmuli .. => true
  | .vFmaxi .. => true
  | .vFmini .. => true
  | .vIaddi .. => true
  | .vFma .. => true
  | .vFmas .. => true
  | .vFun .. => true
  | .vFcmp .. => true
  | .vSel .. => true
  | .vMov .. => true
  | .vBcs .. => true
  | .vBci .. => true
  | .vCvt .. => true
  | .vSplit .. => true
  | .vLd .. => true
  | .vSt .. => true
  | .vRed .. => true
  | .vStat .. => true
  | .vSms .. => true
  | .vSmn .. => true
  | .vNorm .. => true
  | .vExt .. => true
  | .vMset .. => true
  | .vBoxdec .. => true
  | .vNms .. => true
  | .nmsComplete .. => true
  | .mregWrite .. => true
  | .vregDataAccess .. => true
  | .loadRequest => true
  | .planLoad => true
  | .windowWrite .. => true
  | .claimSetWrite .. => true
  | .prefetchIssue .. => true
  | .trackerGrant .. => true
  | .tileArrive .. => true
  | .tierTileFail .. => true
  | .outputTileWrite .. => true
  | .outputTileComplete .. => true
  | .guardRefetch .. => true
  | .mcRequestService .. => true
  | .mcReadComplete _ o => o.wf
  | .checkbitFill .. => true
  | .bankRefresh .. => true
  | .mcTraining .. => true
  | .scrubRead _ o => o.wf
  | .spareCmdGo .. => true
  | .spareCopyDone _ bad => rising bad
  | .retireCmdGo .. => true
  | .retireCopyDone _ bad => rising bad
  | .mcDisable .. => true
  | .engineEnable .. => true
  | .engineCloseDone .. => true
  | .flashEnable => true
  | .flashMapLoadDone _ dies => decide (dies.length ≤ 128)
  | .flashDisable => true
  | .flashRequest .. => true
  | .flashReadComplete .. => true
  | .flashWriteComplete .. => true
  | .grownBadBlock .. => true
  | .readDisturbRelocate .. => true
  | .wearLevelRelocate .. => true
  | .garbageCollect .. => true
  | .spillCredit => true
  | .spillBurstWrite .. => true
  | .spillRateWrite .. => true
  | .mossHeaderArrive .. => true
  | .mossConfirmArrive .. => true
  | .updDoor .. => true
  | .update _ bad => rising bad
  | .fstat _ bad => rising bad
  | .gacc _ bad => rising bad
  | .updCommandComplete .. => true
  | .updRingWrite .. => true
  | .updDisable .. => true
  | .attSdoor .. => true
  | .attCdoor .. => true
  | .setLeaf .. => true
  | .setPage .. => true
  | .freePage .. => true
  | .freeLeaf .. => true
  | .setLen .. => true
  | .resetSeq .. => true
  | .attStep .. => true
  | .attPageArrive .. => true
  | .attStepComplete .. => true
  | .attConfigWrite _ off _ _ => Machine.attConfigOff off
  | .attDisable .. => true
  | .flitReceive _ raw => decide (raw.length = 256)
  | .flitSlot .. => true
  | .marker .. => true
  | .nak .. => true
  | .credit .. => true
  | .negotiate .. => true
  | .negAck .. => true
  | .laneSwap .. => true
  | .ackTimeoutReplay .. => true
  | .negotiateResend .. => true
  | .trainDone .. => true
  | .alignLock .. => true
  | .laneLockLoss .. => true
  | .linkIdleTimeout .. => true
  | .trainBackoffExpiry .. => true
  | .portEnable .. => true
  | .portDisable .. => true
  | .closeWaitExpiry .. => true
  | .laneSpareWrite .. => true
  | .fabNodeWrite .. => true
  | .schedSwap .. => true
  | .schedInstall .. => true
  | .fabricTrackerGrant .. => true
  | .trkTimeout .. => true
  | .read t => t.wf
  | .write t => t.wf
  | .get t => t.wf
  | .put t => t.wf
  | .fadd t => t.wf
  | .msg t => t.wf
  | .fence t => t.wf
  | .fabClaim t => t.wf
  | .radd t => t.wf
  | .raddHeldRelease .. => true
  | .completionReceive _ _ _ d => decide (d.length ≤ 16384)
  | .ethFrameReceive _ f => f.wf
  | .ethLinkChange .. => true
  | .ethDisable .. => true
  | .ingestData _ src sport bs => ipv6 src && udpPort sport && decide (bs.length ≤ 65535)
  | .ingestWriteComplete .. => true
  | .ingestAckTimer .. => true
  | .ingEnable .. => true
  | .ingConfigWrite _ off _ _ => [0x08, 0x10, 0x18, 0x20].contains off
  | .cxlHostRead a o => a % 64 == 0 && o.wf
  | .cxlHostWrite a _ _ _ => a % 64 == 0
  | .identifyMemoryDevice => true
  | .getHealthInfo => true
  | .getEventRecords => true
  | .clearEventRecords => true
  | .getPoisonList => true
  | .clearPoison a _ => a % 64 == 0
  | .getTimestamp => true
  | .setTimestamp v => decide (v < 2 ^ 64)
  | .cxlMailboxUnsupported .. => true
  | .cxlWinWrite .. => true
  | .hdmDecoderCommit .. => true
  | .perstN .. => true
  | .cxlDisable => true
  | .i3cAddressAssign .. => true
  | .setEndpointId .. => true
  | .gettid => true
  | .getpldmversion => true
  | .getpldmtypes => true
  | .getpldmcommands => true
  | .getpdrrepositoryinfo => true
  | .getpdr .. => true
  | .getnumericsensorreading .. => true
  | .getstatesensorreadings => true
  | .requestupdate => true
  | .activatefirmware => true
  | .pldmUnsupported .. => true
  | .sensorLimitCross .. => true
  | .getVersion => true
  | .getCapabilities => true
  | .negotiateAlgorithms => true
  | .getDigests => true
  | .getCertificate .. => true
  | .challenge m => decide (m.length ≤ 4096)
  | .getMeasurements m => decide (m.length ≤ 4096)
  | .spdmUnsupported .. => true
  | .getCosig => true
  | .getNonce => true
  | .unlock t => decide (t.length ≤ 4096)
  | .dbgRead .. => true
  | .dbgWrite .. => true
  | .standbyPowerOn => true
  | .mainPowerOn => true
  | .modResetAssert => true
  | .modResetRelease => true
  | .supplyFail .. => true
  | .refclkLoss => true
  | .junctionWarning .. => true
  | .overTemperature => true
  | .inletHot .. => true
  | .lockstepMismatch .. => true
  | .sramAccess _ off size _ _ => [1, 2, 4, 8].contains size && decide (off.toNat % size = 0)
  | .apertureAccess .. => true
  | .supFence .. => true
  | .mtimerExpire .. => true
  | .eventPulse .. => true
  | .evcSwset .. => true
  | .eventAssign .. => true
  | .tgtClaim .. => true
  | .tgtComplete .. => true
  | .pkgRst .. => true
  | .romStart => true
  | .bootAttempt .. => true
  | .confirmBoot => true
  | .enrollOwner .. => true
  | .setOwnerOnly => true
  | .revokeVendor .. => true
  | .advanceSvn .. => true
  | .setFlashWin .. => true
  | .setPlanMeas => true
  | .fuseLock => true
  | .actionLock => true
  | .eraseComplete => true
  | .volt => true
  | .clk => true
  | .temp => true
  | .mesh => true
  | .safeEnter .. => true
  | .openStep .. => true
  | .journalUpdate => true
  | .commitStep => true
  | .abortStep => true
  | .jrnMark .. => true
  | .markApply .. => true
  | .journalDurable .. => true
  | .mirrorStart => true
  | .pairRecv .. => true
  | .pairAck .. => true
  | .pairHb .. => true
  | .pairPeer .. => true
  | .heartbeatSend => true
  | .heartbeatTimeout => true
  | .coreSpare .. => true
  | .supSpare .. => true
  | .arbRequest code _ _ => decide (1 ≤ code) && decide (code ≤ 10)
  | .arbStart code _ => decide (1 ≤ code) && decide (code ≤ 10)
  | .arbCkptWrite .. => true
  | .selfTestTurn => true
  | .selfTestDone fail => match fail with
    | none => true
    | some (k, d) => decide (k < 16) && decide (d < 2 ^ 32)
  | .selfTestOverdue .. => true
  | .secCmdEnd .. => true
  | .cxlLinkChange .. => true
  | .refclkReturn => true
  | .supMsip .. => true
  | .doeDiscovery .. => true
  | .cdat .. => true
  | .zqCalibration .. => true
  | .updateDataRelay .. => true

end Sys2Proof
end

