-- ==== Sys2Proof/Certificates/Slice0/Obligations.lean ====
section
/-! DEFINITION. The statements. Each docstring names the rules of the spec that it formalises, or says that it rests on the
model's own choices. -/

open Sys2Proof Sys2Proof.Machine

/-! ### The block and its queue -/

/-- The command at the front of the queue runs on the state with the rest of the queue (the model's own form of a step; log
entry 9). -/
def Obligations.StepRunsTheFrontCommand : Prop :=
  ∀ (c : Instr) (rest : List Instr) (s : State), step { s with pending := c :: rest } = exec c { s with pending := rest }

/-- Commands leave the queue first in, first out: a step takes the front one and puts none in (log entry 9). On an empty queue one
cycle passes: the queue stays empty and the clock moves on by at least one cycle (log entry 7). -/
def Obligations.QueueAndClock : Prop :=
  (∀ s t : State, step s = .next t → t.pending = s.pending.tail) ∧
  (∀ s : State, s.pending = [] → ∃ t, step s = .next t ∧ t.pending = [] ∧ s.now < t.now)

/-- No command ends the run, in any state: every one is answered with a next state, and none touches the queue.

While the package is in reset or unpowered, a command leaves it as it is, unless it is one of power, of the module's
inputs or of the management endpoint (log entry on commands in reset). -/
def Obligations.EveryCommandIsAnswered : Prop :=
  (∀ (c : Instr) (s : State), Runs c s fun t => t.pending = s.pending) ∧
  (∀ (c : Instr) (s : State), s.up = false → actsInReset c = false → exec c s = .next s)

/-- Memory, control registers and cores keep their canonical form in every step. -/
def Obligations.StepKeepsCanonicalForm : Prop :=
  ∀ s t : State, s.wf = true → step s = .next t → t.wf = true

/-- The canonical form holds after reset. -/
def Obligations.ResetIsCanonical : Prop := State.reset.wf = true

/-- What the register tables give after module reset (R9): every core, engine and port OFF, every sequencer IDLE with the
fault record clear, the limits, bounds, signatures and masks at their reset values, no source pending, the queue empty. -/
def Obligations.ResetLeaves : Prop :=
  (∀ n : Fin 64, coreState State.reset n = 0 ∧ coreRun State.reset n = runIDLE ∧
    State.reset.reg (R.FAULT_REC n) = 0#64 ∧ State.reset.fld (F.WAIT_LIMIT_LIMIT n) = 0x01000000 ∧
    State.reset.fld (F.CFS_FETCH_SIG n) = 0xFFFFFFFF ∧ State.reset.fld (F.CFS_CHECK_SIG n) = 0xFFFFFFFF ∧
    State.reset.fld (F.ARRAY_CONF_CHK_TOL n) = 0b10100 ∧ State.reset.reg (R.PRED n) = 1#64 ∧
    State.reset.fld (F.TIER_BOUND_BOUND n 0) = 0x00010000 ∧ State.reset.fld (F.TIER_BOUND_BOUND n 1) = 0x01000000 ∧
    State.reset.fld (F.TIER_BOUND_BOUND n 2) = 0x00100000 ∧ State.reset.fld (F.TIER_BOUND_BOUND n 3) = 0x00001000) ∧
  (∀ p : Fin 24, portState State.reset p = 0 ∧ lstate State.reset p = 0 ∧
    State.reset.fld (F.PORT_CONF_TRK_TIMEOUT p) = 0x00080000) ∧
  (∀ c : Fin 16, mcState State.reset c = 0 ∧ updState State.reset c = 0 ∧ attState State.reset c = 0) ∧
  (∀ k : Fin 8, State.reset.reg (R.PEND k) = 0#64 ∧ State.reset.reg (R.INSERV k) = 0#64) ∧
  State.reset.pending = [] ∧ State.reset.late = []

/-! ### Control registers -/

/-- R4: an access of a control register that is neither an aligned 32-bit nor an aligned 64-bit access is not performed, and the
requester receives an access error; nothing else changes.

R5: REGISTER_WRITE of an RW register (ARRAY_CONF, whole and its low half), of a W1C register (DRAIN_STATUS), of a W1S
register (SEC_LOCK) and of an RC counter (BUNDLE_COUNT), and what it leaves alone.

R5, R6, R10: RC_READ answers with the old value and clears an RC counter (BUNDLE_COUNT, STALL_TOTAL, ARB_OVERRIDE); a read of
an RO register (FAULT_REC) answers and clears nothing. Nothing else changes. A counter that an event raises saturates at all
ones. -/
def Obligations.RegisterAccess : Prop :=
  (∀ (s : State) (addr size : Nat) (v : Word), s.up = true →
     ¬ (size = 8 ∧ addr % 8 = 0) → ¬ (size = 4 ∧ addr % 4 = 0) →
     exec (.registerWrite addr size v) s = .next { s with reply := .accessError } ∧
     exec (.rcRead addr size) s = .next { s with reply := .accessError }) ∧
  (∀ (n : Fin 64) (v : Word) (s : State), s.up = true →
     exec (.registerWrite (R.ARRAY_CONF n) 8 v) s =
       .next { s.setReg (R.ARRAY_CONF n) ((s.reg (R.ARRAY_CONF n) &&& ~~~0x11F#64) ||| (v &&& 0x11F#64)) with reply := .ok } ∧
     exec (.registerWrite (R.ARRAY_CONF n) 4 v) s =
       .next { s.setReg (R.ARRAY_CONF n) ((s.reg (R.ARRAY_CONF n) &&& ~~~0x11F#64) ||| (v &&& 0x11F#64)) with reply := .ok } ∧
     exec (.registerWrite (R.DRAIN_STATUS n) 8 v) s =
       .next { s.setReg (R.DRAIN_STATUS n) (s.reg (R.DRAIN_STATUS n) &&& ~~~(v &&& 0xFF#64)) with reply := .ok } ∧
     exec (.registerWrite R.SEC_LOCK 8 v) s =
       .next { s.setReg R.SEC_LOCK (s.reg R.SEC_LOCK ||| (v &&& 3#64)) with reply := .ok } ∧
     Runs (.registerWrite (R.BUNDLE_COUNT n) 8 v) s (fun t => RegsExcept [] s t ∧ MemSame s t ∧ CoresExcept [] s t)) ∧
  ((∀ (n : Fin 64) (s : State), s.up = true →
     (∀ a ∈ [R.BUNDLE_COUNT n, R.STALL_TOTAL n], exec (.rcRead a 8) s =
       .next { s.setReg a 0#64 with reply := .value (s.reg a) }) ∧
     Runs (.rcRead R.ARB_OVERRIDE 8) s (fun t => t.reply = .value (s.reg R.ARB_OVERRIDE) ∧ t.fld F.ARB_OVERRIDE_COUNT = 0 ∧
       RegsExcept [R.ARB_OVERRIDE] s t ∧ MemSame s t ∧ CoresExcept [] s t) ∧
     Runs (.rcRead (R.FAULT_REC n) 8) s (fun t => t.reply = .value (s.reg (R.FAULT_REC n)) ∧ RegsExcept [] s t ∧
       MemSame s t ∧ CoresExcept [] s t)) ∧
   (∀ (s : State) (f : Fld) (k : Nat), f.hi < 64 → f.lo ≤ f.hi →
     (s.incFld f k).fld f = min (s.fld f + k) (2 ^ (f.hi + 1 - f.lo) - 1) ∧ RegsExcept [f.addr] s (s.incFld f k)))

/-- R5, Table 0.2, the effect of a software write on one bit of a register whose fields do not overlap: a bit of an RW field
takes the written bit, a one clears a W1C bit and sets a W1S bit, RO and RC bits and bits outside every field or outside the
accessed half keep their value. -/
def Obligations.WriteOfEachAccessType : Prop :=
  ∀ (d : RegDesc) (sz : AccSz) (old v : Word),
    (∀ f ∈ d.fields, f.lo ≤ f.hi ∧ f.hi < 64) →
    d.fields.Pairwise (fun f g => f.hi < g.lo ∨ g.hi < f.lo) →
    (∀ f ∈ d.fields, ∀ i, f.lo ≤ i → i ≤ f.hi → sz.mask.getLsbD i = true →
      (d.write sz old v).getLsbD i =
        (match f.acc with
         | .rw => (sz.place v).getLsbD i
         | .w1c => old.getLsbD i && !(sz.place v).getLsbD i
         | .w1s => old.getLsbD i || (sz.place v).getLsbD i
         | .ro => old.getLsbD i
         | .rc => old.getLsbD i)) ∧
    (∀ i, (sz.mask.getLsbD i = false ∨ ∀ f ∈ d.fields, ¬ (f.lo ≤ i ∧ i ≤ f.hi)) →
      (d.write sz old v).getLsbD i = old.getLsbD i)

/-- R133: the register windows of a core (scalar, predicate, loop and descriptor registers) accept a write only while its RUN is
IDLE, DONE or FAULT; otherwise the writer receives an access error and nothing changes.

R133, R105: instruction memory through its window. IMEM_PTR sets HALF and drops a held half. A 64-bit write of IMEM_DATA at an
even half is held; at the odd half of the same bundle both halves are written, with new check bits; HALF advances by one,
modulo 2^15. A read returns the half and advances too. While RUN is RUNNING or STALLED a write is an access error. -/
def Obligations.RegisterAndInstructionWindows : Prop :=
  (∀ (n : Fin 64) (v : Word) (s : State), s.up = true →
     (coreIdle s n = true →
       (∀ i : Fin 64, exec (.seqRegWrite n (.sreg i) .w64 v) s = .next { s.setReg (R.SREG n i) v with reply := .ok }) ∧
       exec (.seqRegWrite n .pred .w64 v) s =
         .next { s.setReg (R.PRED n) ((s.reg (R.PRED n) &&& ~~~0xFFFE#64) ||| (v &&& 0xFFFE#64)) with reply := .ok } ∧
       (∀ (d : Fin 32) (w : Fin 4), exec (.seqRegWrite n (.dreg d w) .w64 v) s =
         .next { s.setReg (R.DREG n d w) v with reply := .ok }) ∧
       (∀ i : Fin 4, exec (.seqRegWrite n (.kreg i) .w64 v) s =
         .next { s.setReg (R.KREG n i) ((s.reg (R.KREG n i) &&& ~~~0x3FFF3FFFFFFFFFFF#64) ||| (v &&& 0x3FFF3FFFFFFFFFFF#64))
           with reply := .ok })) ∧
     (coreIdle s n = false → ∀ (r : SeqReg) (sz : AccSz),
       exec (.seqRegWrite n r sz v) s = .next { s with reply := .accessError })) ∧
  (∀ (n : Fin 64) (v : Word) (s : State), s.up = true →
     Runs (.imemPtrWrite n .w64 v) s (fun t => t.fld (F.IMEM_PTR_HALF n) = getBits v 14 0 ∧ (t.core n).imemHeld = none ∧
       RegsExcept [R.IMEM_PTR n] s t ∧ CoresExcept [n] s t ∧ MemSame s t) ∧
     (coreIdle s n = false → exec (.imemDataWrite n .w64 v) s = .next { s with reply := .accessError }) ∧
     (coreIdle s n = true → s.fld (F.IMEM_PTR_HALF n) % 2 = 0 →
       Runs (.imemDataWrite n .w64 v) s (fun t => (t.core n).imemHeld = some (s.fld (F.IMEM_PTR_HALF n) / 2, v) ∧
         (t.core n).imem = (s.core n).imem ∧ t.fld (F.IMEM_PTR_HALF n) = s.fld (F.IMEM_PTR_HALF n) + 1 ∧
         RegsExcept [R.IMEM_PTR n] s t ∧ CoresExcept [n] s t ∧ MemSame s t)) ∧
     (∀ lo, coreIdle s n = true → s.fld (F.IMEM_PTR_HALF n) % 2 = 1 →
       (s.core n).imemHeld = some (s.fld (F.IMEM_PTR_HALF n) / 2, lo) →
       Runs (.imemDataWrite n .w64 v) s (fun t =>
         (∀ b, look (fun _ => 0#128) (t.core n).imem b =
           if b = s.fld (F.IMEM_PTR_HALF n) / 2 then v ++ lo else look (fun _ => 0#128) (s.core n).imem b) ∧
         look (fun _ => 0) (t.core n).imemErr (s.fld (F.IMEM_PTR_HALF n) / 2) = 0 ∧ (t.core n).imemHeld = none ∧
         t.fld (F.IMEM_PTR_HALF n) = (s.fld (F.IMEM_PTR_HALF n) + 1) % 2 ^ 15 ∧
         RegsExcept [R.IMEM_PTR n] s t ∧ CoresExcept [n] s t ∧ MemSame s t)) ∧
     Runs (.imemDataRead n .w64) s (fun t => t.reply = .value ((s.core n).imemHalf (s.fld (F.IMEM_PTR_HALF n))) ∧
       t.fld (F.IMEM_PTR_HALF n) = (s.fld (F.IMEM_PTR_HALF n) + 1) % 2 ^ 15 ∧ RegsExcept [R.IMEM_PTR n] s t ∧
       CoresExcept [] s t ∧ MemSame s t))

/-- R203: the mask and tile windows accept a write only while RUN is IDLE, DONE or FAULT and no V-slot operation is in flight;
m0 stays all ones; VREG_DATA at WORD writes two neighbouring elements and advances WORD by one. -/
def Obligations.VectorWindows : Prop :=
  ∀ (n : Fin 64) (v : Word) (s : State), s.up = true →
    (vecIdle s n = false → (∀ (i : Fin 8) (w : Fin 4), exec (.mregWrite n i w .w64 v) s = .next { s with reply := .accessError }) ∧
      exec (.vregDataAccess n .w64 (some v)) s = .next { s with reply := .accessError }) ∧
    (vecIdle s n = true →
      (∀ (i : Fin 8) (w : Fin 4), exec (.mregWrite n i w .w64 v) s =
        .next (if i.val = 0 then { s with reply := .ok } else { s.setReg (R.MREG n i w) v with reply := .ok })) ∧
      Runs (.vregDataAccess n .w64 (some v)) s (fun t =>
        (t.core n).vregWord (s.fld (F.VREG_PTR_WORD n)) = v ∧
        t.fld (F.VREG_PTR_WORD n) = (s.fld (F.VREG_PTR_WORD n) + 1) % 2 ^ 15 ∧
        RegsExcept [R.VREG_PTR n] s t ∧ CoresExcept [n] s t ∧ MemSame s t)) ∧
    Runs (.vregDataAccess n .w64 none) s (fun t => t.reply = .value ((s.core n).vregWord (s.fld (F.VREG_PTR_WORD n))) ∧
      t.fld (F.VREG_PTR_WORD n) = (s.fld (F.VREG_PTR_WORD n) + 1) % 2 ^ 15 ∧ RegsExcept [R.VREG_PTR n] s t ∧
      CoresExcept [] s t ∧ MemSame s t)

/-- R222, R223, and of R78, R51, R155: a window table entry is written, whole or by halves, only while its core is OFF, else the
write is ignored and LOCK_ERR set; SR_STATE takes the written value; a lichen register takes VALID and LOGICAL while the core is
OFF, LOGICAL is at most 256 and the other register of its kind does not name the same line, else the write is ignored and MAP_ERR
set; a write of CLAIM_SET sets NEXT and LIMIT, its low half NEXT only, its high half LIMIT only, and each raises EPOCH by one; a
write of a COMP counter adds the increments of its cycle. -/
def Obligations.CoreConfigurationRegisters : Prop :=
  ∀ (n : Fin 64) (v : Word) (s : State), s.up = true →
    (∀ (i : Fin 256) (hi : Bool) (sz : AccSz),
      let a := if hi then R.WINDOW_HI n i else R.WINDOW_LO n i
      exec (.windowWrite n i hi sz v) s = .next
        (if coreState s n = 0 then { s.setReg a (sz.merge (s.reg a) v) with reply := .ok }
         else { s.setFld (F.WIN_STATUS_LOCK_ERR n) 1 with reply := .ok })) ∧
    exec (.srStateWrite n .w64 v) s = .next { s.setReg (R.SR_STATE n) v with reply := .ok } ∧
    (∀ (col : Bool) (i : Fin 2),
      let a := if col then R.LICHEN_COL n i else R.LICHEN_ROW n i
      let other := s.reg (if col then R.LICHEN_COL n (1 - i.val) else R.LICHEN_ROW n (1 - i.val))
      let clash := getBits v 15 15 = 1 ∧ getBits other 15 15 = 1 ∧ getBits other 8 0 = getBits v 8 0
      (coreState s n = 0 → getBits v 8 0 ≤ 256 → ¬ clash → exec (.lichenWrite n col i .w64 v) s =
        .next { s.setReg a ((s.reg a &&& ~~~0x81FF#64) ||| (v &&& 0x81FF#64)) with reply := .ok }) ∧
      (coreState s n ≠ 0 ∨ 256 < getBits v 8 0 ∨ clash → exec (.lichenWrite n col i .w64 v) s =
        .next { s.setFld (F.ARRAY_STATE_MAP_ERR n) 1 with reply := .ok })) ∧
    (∀ (i : Fin 64) (sz : AccSz), Runs (.claimSetWrite i sz v) s (fun t =>
      t.fld (F.CLAIM_SET_LIMIT i) = (match sz with
        | .w64 => getBits v 63 32
        | .lo => s.fld (F.CLAIM_SET_LIMIT i)
        | .hi => getBits v 31 0) ∧
      t.fld (F.CLAIM_STATE_NEXT i) = (match sz with
        | .w64 => getBits v 31 0
        | .lo => getBits v 31 0
        | .hi => s.fld (F.CLAIM_STATE_NEXT i)) ∧
      t.fld (F.CLAIM_STATE_EPOCH i) = (s.fld (F.CLAIM_STATE_EPOCH i) + 1) % 2 ^ 32 ∧
      RegsExcept [R.CLAIM_SET i, R.CLAIM_STATE i] s t ∧ MemSame s t ∧ CoresExcept [] s t)) ∧
    (∀ (c : Fin 16) (w : BitVec 32), exec (.compWrite n c w) s = .next { s.setFld (F.COMP_COUNT n c)
      ((w.toNat + (let r := look (fun _ => (0, 0)) (s.core n).compCyc c; if r.1 = s.now then r.2 else 0)) % 2 ^ 32) with
      reply := .ok })

/-! ### Engines and sequencers -/

/-- R442: setting ENABLE of an OFF engine sets ENABLE and makes its STATE ON in the next cycle; an engine that is not OFF, or is
enabled already, is left as it is. (Ports train as well: see the statements on links. A self-test under way is a premise.)

R442, R270: CORE_ENABLE and FLASH_ENABLE are the same command for their engine; one cycle later STATE is ON. -/
def Obligations.EnginesTurnOn : Prop :=
  (∀ (e : Engine) (s : State), s.up = true → s.st.run = none → (∀ p, e ≠ .port p) →
     (s.engState (engineCtl e) = 0 → s.enabled (engineCtl e) = false →
       Runs (.engineEnable e) s (fun t => t.enabled (engineCtl e) = true ∧ t.engState (engineCtl e) = 0 ∧
         (∃ l ∈ t.late, l.due = s.now + 1 ∧ l.op = .engineOn (engineCtl e)) ∧ RegsExcept [engineCtl e] s t ∧ MemSame s t ∧
         t.now = s.now)) ∧
     (s.engState (engineCtl e) ≠ 0 ∨ s.enabled (engineCtl e) = true → exec (.engineEnable e) s = .next s)) ∧
  ((∀ (n : Fin 64) (s : State), exec (.coreEnable n) s = exec (.engineEnable (.core n)) s) ∧
   (∀ s : State, exec .flashEnable s = exec (.engineEnable .flash) s) ∧
   (∀ (e : Engine) (y : Nat) (s : State), s.pending = [] → s.engState (engineCtl e) = 0 → s.enabled (engineCtl e) = true →
     s.late = [⟨64, y, s.now + 1, 0, .engineOn (engineCtl e)⟩] →
     ∃ t, step s = .next t ∧ t.engState (engineCtl e) = 1 ∧ t.now = s.now + 1 ∧ MemSame s t))

/-- R442: clearing ENABLE of an ON memory controller, flash controller, update unit, Ethernet port or CXL port makes its STATE
CLOSING, restarts its closing counts, and lists what is under way; an engine that is not both ON and enabled is left as it is.

R442, R361: clearing ENABLE of an ON attention engine makes it CLOSING and counts as abandoned the steps and commits that
wait in its rings.

R130, R443: clearing ENABLE of an ON core makes it CLOSING: STALL clears, the held bundle and the bundle being gathered are
dropped, input streams are dropped and output streams kept, and the syllables in flight are noted; a core that is not both ON
and enabled is left as it is. -/
def Obligations.EnginesClose : Prop :=
  (∀ s : State, s.up = true →
     (∀ c : Fin 16, exec (.mcDisable c) s = .next (if mcState s c = 1 ∧ s.fld (F.MC_CTRL_ENABLE c) = 1 then
       { (((s.setFld (F.MC_CTRL_ENABLE c) 0).setFld (F.MC_CTRL_STATE c) 2).setReg (R.MC_CLOSE c) 0#64) with
         mc := { s.mc with closing := s.mc.closing ++ ((s.mc.reqs.filter fun q => q.c == c.val).map fun q => q.id) } } else s)) ∧
     exec .flashDisable s = .next (if flState s = 1 ∧ s.fld F.FL_CTRL_ENABLE = 1 then
       { (((s.setFld F.FL_CTRL_ENABLE 0).setFld F.FL_CTRL_STATE 2).setReg R.FL_CLOSE 0#64) with
         fl := { s.fl with closing := (s.fl.reqs.filter fun q => q.arrived).map fun q => q.id } } else s) ∧
     (∀ c : Fin 16, exec (.updDisable c) s = .next (if updState s c = 1 ∧ s.fld (F.UPD_CTRL_ENABLE c) = 1 then
       ((s.setFld (F.UPD_CTRL_ENABLE c) 0).setFld (F.UPD_CTRL_STATE c) 2).setReg (R.UPD_CLOSE c)
         (BitVec.ofNat 64 (ringUsed (updHead s c) (updTail s c) - (if (updOf s c).cur.isSome then 1 else 0))) else s)) ∧
     (∀ e : Fin 2, exec (.ethDisable e) s = .next (if ethState s e = 1 ∧ s.fld (F.ETH_CTRL_ENABLE e) = 1 then
       ((s.setFld (F.ETH_CTRL_ENABLE e) 0).setFld (F.ETH_CTRL_STATE e) 2).setReg (R.ETH_CLOSE e) 0#64 else s)) ∧
     exec .cxlDisable s = .next (if cxlState s = 1 ∧ s.fld F.CXL_CTRL_ENABLE = 1 then
       ((s.setFld F.CXL_CTRL_ENABLE 0).setFld F.CXL_CTRL_STATE 2).setReg R.CXL_CLOSE 0#64 else s)) ∧
  (∀ (q : Fin 16) (s : State), s.up = true → attState s q = 1 → s.fld (F.ATT_CTRL_ENABLE q) = 1 →
     Runs (.attDisable q) s (fun t => attState t q = 2 ∧ t.fld (F.ATT_CTRL_ENABLE q) = 0 ∧
       t.reg (R.ATT_CLOSE q) = BitVec.ofNat 64
         (ringUsed (s.fld (F.ATT_SPTR_HEAD q)) (s.fld (F.ATT_SPTR_TAIL q)) - (if (attOf s q).cur.isSome then 1 else 0) +
           ringUsed (s.fld (F.ATT_CPTR_HEAD q)) (s.fld (F.ATT_CPTR_TAIL q))) ∧ MemSame s t ∧ CoresExcept [] s t)) ∧
  (∀ (n : Fin 64) (s : State), s.up = true →
     (coreState s n = 1 → s.fld (F.SEQ_CTRL_ENABLE n) = 1 →
       Runs (.coreDisable n) s (fun t => coreState t n = 2 ∧ t.fld (F.SEQ_CTRL_ENABLE n) = 0 ∧
         t.fld (F.SEQ_STATUS_STALL n) = 0 ∧ (t.core n).held = none ∧ (t.core n).latch = [] ∧
         (t.core n).streams = (s.core n).streams.filter (fun p => p.2.out) ∧
         (t.core n).slots = (s.core n).slots ∧ (t.core n).vregs = (s.core n).vregs ∧ (t.core n).imem = (s.core n).imem ∧
         RegsExcept [R.SEQ_CTRL n, R.SEQ_STATUS n, R.CORE_CLOSE n] s t ∧ CoresExcept [n.val] s t ∧ MemSame s t)) ∧
     (¬ (coreState s n = 1 ∧ s.fld (F.SEQ_CTRL_ENABLE n) = 1) → exec (.coreDisable n) s = .next s))

/-- R442, R443: a closing engine with nothing left in flight becomes OFF and raises its event (cores n, controllers and update
units 88 + c, attention engines 104 + q, flash 120, Ethernet 128 + e); with work left it stays as it is. -/
def Obligations.CloseDoneTurnsAnEngineOff : Prop :=
  ∀ s : State, s.up = true →
    (∀ c : Fin 16, exec (.engineCloseDone (.mc c)) s = .next (if mcState s c = 2 ∧ mcUse s c = 0 then
      (s.setFld (F.MC_CTRL_STATE c) 0).raise (88 + c) else s)) ∧
    (∀ c : Fin 16, exec (.engineCloseDone (.upd c)) s = .next (if updState s c = 2 ∧ (updOf s c).cur = none then
      (s.setFld (F.UPD_CTRL_STATE c) 0).raise (88 + c) else s)) ∧
    (∀ q : Fin 16, exec (.engineCloseDone (.att q)) s = .next (if attState s q = 2 ∧ (attOf s q).cur = none then
      (s.setFld (F.ATT_CTRL_STATE q) 0).raise (104 + q) else s)) ∧
    exec (.engineCloseDone .flash) s = .next (if flState s = 2 ∧ s.fl.reqs.any (fun q => q.arrived) = false then
      ((s.setFld F.FL_CTRL_STATE 0).setFld F.FL_STATUS_MAP_READY 0).raise 120 else s) ∧
    (∀ e : Fin 2, exec (.engineCloseDone (.eth e)) s = .next (if ethState s e = 2 ∧ ethBusy s e = false then
      ((s.setFld (F.ETH_CTRL_STATE e) 0).setReg (R.ETH_STATUS e) 0#64).raise (128 + e) else s)) ∧
    (∀ p : Fin 24, exec (.engineCloseDone (.port p)) s = .next (if portState s p = 2 ∧ (s.port p).trk = [] then portOff s p
      else s)) ∧
    (∀ n : Fin 64, exec (.engineCloseDone (.core n)) s = exec (.coreCloseDone n) s) ∧
    (∀ n : Fin 64, coreState s n = 2 → (∀ l ∈ s.late, l.n ≠ n.val) → (s.core n).fq = [] → (s.core n).placed = [] →
      Runs (.coreCloseDone n) s (fun t => coreState t n = 0 ∧ coreRun t n = runIDLE ∧
        t.fld (F.CORE_CLOSE_DONE n) = min (s.fld (F.CORE_CLOSE_DONE n) + (s.core n).closing.length) (2 ^ 32 - 1) ∧
        t.fld (rawFld n) = 1 ∧ (t.core n).streams = [] ∧ CoresExcept [n.val] s t ∧ MemSame s t))

/-- R128: GO, written to a core that is ON with RUN IDLE, DONE or FAULT and no valid fault record, starts the sequencer at ADDR:
RUN is RUNNING, the loop stack empty, no stall, no delay slot due, both control-flow signatures at their initial value and their
window counts 0, CLAIM_CUR invalid, and GO reads 0; every other register, SR_STATE among them, and the slots and tiles stay.
Otherwise GO is ignored, START_IGN is set and RUN stays. -/
def Obligations.SequencerStart : Prop :=
  ∀ (n : Fin 64) (v : Word) (s : State), s.up = true → getBits v 0 0 = 1 →
    (coreState s n = 1 → coreIdle s n = true → s.fld (F.FAULT_REC_VALID n) = 0 →
      Runs (.seqStartGo n .w64 v) s (fun t => coreRun t n = runRUNNING ∧ t.fld (F.SEQ_STATUS_PC n) = getBits v 29 16 ∧
        t.fld (F.SEQ_STATUS_KDEPTH n) = 0 ∧ t.fld (F.SEQ_STATUS_STALL n) = 0 ∧ t.fld (F.SEQ_START_GO n) = 0 ∧
        t.reg (R.CFS_FETCH n) = 0xFFFFFFFF#64 ∧ t.reg (R.CFS_CHECK n) = 0xFFFFFFFF#64 ∧ t.fld (F.CLAIM_CUR_VALID n) = 0 ∧
        (t.core n).latch = [] ∧ (t.core n).held = none ∧ (t.core n).branch = none ∧
        (t.core n).slots = (s.core n).slots ∧ (t.core n).vregs = (s.core n).vregs ∧ (t.core n).imem = (s.core n).imem ∧
        RegsExcept [R.SEQ_START n, R.SEQ_STATUS n, R.CFS_FETCH n, R.CFS_CHECK n, R.CLAIM_CUR n] s t ∧
        CoresExcept [n.val] s t ∧ MemSame s t)) ∧
    (coreState s n ≠ 1 ∨ coreIdle s n = false ∨ s.fld (F.FAULT_REC_VALID n) = 1 →
      Runs (.seqStartGo n .w64 v) s (fun t => t.fld (F.SEQ_STATUS_START_IGN n) = 1 ∧ coreRun t n = coreRun s n ∧
        t.fld (F.SEQ_STATUS_PC n) = s.fld (F.SEQ_STATUS_PC n) ∧ RegsExcept [R.SEQ_START n, R.SEQ_STATUS n] s t ∧
        CoresExcept [] s t ∧ MemSame s t))

/-! ### Bundles at issue -/

/-- R107, R108 (log entry 12): a syllable that is not the last of its bundle joins the bundle its core gathers, in place of one
of the same slot; a core that is not ON and RUNNING takes none. -/
def Obligations.SyllableJoinsItsBundle : Prop :=
  ∀ (i : Instr) (x : SylInfo) (s : State), s.up = true → sylInfo i = some x → x.y.last = false →
    (coreIssues s x.y.n = true → exec i s = .next (s.setCore x.y.n { s.core x.y.n with
      latch := (s.core x.y.n).latch.filter (fun j => slotOfSyl j != some x.slot) ++ [i] })) ∧
    (coreIssues s x.y.n = false → exec i s = .next s)

/-- R107, R110: every syllable of the four slots, alone in its bundle, legal, with predicate 1 and nothing that holds or faults
it, issues in the present cycle: its effect and the sequencer's, then what is due in that cycle. With predicate 0 (R109) its
bundle issues too. -/
def Obligations.SyllableIssues : Prop :=
  ∀ (i : Instr) (x : SylInfo) (s : State),
    (Issues i x s → exec i s =
      .next (s.after (tickTo (applyBundle (s.gathered x.y.n) x.y.n s.now [i]) s.now))) ∧
    (sylInfo i = some x → x.y.last = true → Ready s x.y.n → x.legal = true →
      s.pr x.y.n x.y.pred.toNat = false → (∀ y sl op e, i = .nop y sl op e → e = .clean) →
      exec i s = .next (s.after (tickTo (applyBundle (s.gathered x.y.n) x.y.n s.now [i]) s.now)))

/-- R139, R140, R142 (S.RDP): the register and immediate forms of the S slot put exactly their result in flight, visible after
the latency of the table; PC advances by one; no register but the sequencer's changes at issue, no memory, no other core.

R141, R142: the compares and predicate instructions put exactly their predicate result in flight, visible one cycle later. -/
def Obligations.ScalarAndPredicateResults : Prop :=
  (∀ (i : Instr) (x : SylInfo) (s : State) (lat rd : Nat) (v : Word), Issues i x s → Straight s x.y.n →
     scalarResult i s = some (lat, rd, v) →
     Runs i s (fun t => t.late = insertLate ⟨x.y.n, nextOrd s x.y.n .s, s.now + lat, 0, .sreg rd v⟩ s.late ∧
       pcOf t x.y.n = pcOf s x.y.n + 1 ∧ RegsExcept (issueRegs x.y.n) s t ∧ CoresExcept [x.y.n.val] s t ∧ MemSame s t)) ∧
  (∀ (i : Instr) (x : SylInfo) (s : State) (op : LateOp), Issues i x s → Straight s x.y.n → predicateResult i s = some op →
     Runs i s (fun t => t.late = insertLate ⟨x.y.n, nextOrd s x.y.n .s, s.now + 1, 0, op⟩ s.late ∧
       pcOf t x.y.n = pcOf s x.y.n + 1 ∧ RegsExcept (issueRegs x.y.n) s t ∧ CoresExcept [x.y.n.val] s t ∧ MemSame s t))

/-- R132, R143: S.LD and S.ST with an address in the core's own memory. The load reads the bytes in its issue cycle and extends
them; its result is visible 4 cycles later. The store puts the low bytes of the register in flight for its address; memory is as
before until they land (log entry 24). -/
def Obligations.ScalarMemory : Prop :=
  ∀ (y : Syl) (x : SylInfo) (s : State), Straight s y.n → inOwnBlock y.n (sMemAddr y s) = false →
    (Issues (.sLd y) x s → Runs (.sLd y) s (fun t =>
      t.late = insertLate ⟨y.n, nextOrd s y.n .s, s.now + 4, 0,
        .sreg (fb y 21 16) (extendLoad y (s.readLE (.flat (sMemAddr y s)) (sMemSize y)))⟩ s.late ∧
      pcOf t y.n = pcOf s y.n + 1 ∧ RegsExcept (issueRegs y.n) s t ∧ CoresExcept [y.n.val] s t ∧ MemSame s t)) ∧
    (Issues (.sSt y) x s → Runs (.sSt y) s (fun t =>
      t.late = insertLate ⟨y.n, nextOrd s y.n .s, s.now + 4, 0,
        .mem (.flat (sMemAddr y s)) (leBytes (sMemSize y) (srF y s 21 16).toNat)⟩ s.late ∧
      pcOf t y.n = pcOf s y.n + 1 ∧ RegsExcept (issueRegs y.n) s t ∧ CoresExcept [y.n.val] s t ∧ MemSame s t))

/-- R118, R144: S.BR, S.BRL and S.BRR outside loops: the target is noted with two delay slots to issue, PC goes on to the next
bundle; S.BRL also gives PC + 3 to its register after one cycle. -/
def Obligations.Branches : Prop :=
  ∀ (y : Syl) (x : SylInfo) (s : State), Straight s y.n →
    (Issues (.sBr y) x s → Runs (.sBr y) s (fun t => (t.core y.n).branch = some (2, fb y 13 0) ∧
      pcOf t y.n = pcOf s y.n + 1 ∧ t.late = s.late ∧ RegsExcept (issueRegs y.n) s t ∧ MemSame s t)) ∧
    (Issues (.sBrr y) x s → Runs (.sBrr y) s (fun t => (t.core y.n).branch = some (2, getBits (srF y s 5 0) 13 0) ∧
      pcOf t y.n = pcOf s y.n + 1 ∧ t.late = s.late ∧ RegsExcept (issueRegs y.n) s t ∧ MemSame s t)) ∧
    (Issues (.sBrl y) x s → Runs (.sBrl y) s (fun t => (t.core y.n).branch = some (2, fb y 13 0) ∧
      pcOf t y.n = pcOf s y.n + 1 ∧
      t.late = insertLate ⟨y.n, nextOrd s y.n .s, s.now + 1, 0, .sreg (fb y 19 14) (BitVec.ofNat 64 (pcOf s y.n + 3))⟩ s.late ∧
      RegsExcept (issueRegs y.n) s t ∧ MemSame s t))

/-- R118, R119, R144: the bundle in a delay slot counts one slot down, and after the last one PC is the target. At the END of the
innermost loop COUNT falls by one: while it is not 0, PC goes back to START; at 0 the loop is popped and PC goes on. S.BRK pops
the loop and branches. -/
def Obligations.DelaySlotsAndLoopEnds : Prop :=
  ∀ (y : Syl) (x : SylInfo) (s : State) (k target : Nat), Issues (.nop y .s 0#6 .clean) x s →
    s.fld (F.CFS_FETCH_WCOUNT y.n) < 4095 → pcOf s y.n + 1 < 16384 →
    (kdepth s y.n = 0 → (s.core y.n).branch = some (k, target) → target < 16384 →
      Runs (.nop y .s 0#6 .clean) s (fun t => pcOf t y.n = (if k = 1 then target else pcOf s y.n + 1) ∧
        (t.core y.n).branch = (if k = 1 then none else some (k - 1, target)) ∧ RegsExcept (issueRegs y.n) s t ∧ MemSame s t)) ∧
    ((s.core y.n).branch = none → kdepth s y.n = k + 1 → k < 4 → s.fld (F.KREG_END y.n k) = pcOf s y.n →
      2 ≤ s.fld (F.KREG_COUNT y.n k) →
      Runs (.nop y .s 0#6 .clean) s (fun t => pcOf t y.n = s.fld (F.KREG_START y.n k) ∧ kdepth t y.n = k + 1 ∧
        t.fld (F.KREG_COUNT y.n k) = s.fld (F.KREG_COUNT y.n k) - 1 ∧
        RegsExcept (R.KREG y.n k :: issueRegs y.n) s t ∧ MemSame s t)) ∧
    ((s.core y.n).branch = none → kdepth s y.n = 1 → s.fld (F.KREG_END y.n 0) = pcOf s y.n →
      s.fld (F.KREG_COUNT y.n 0) = 1 →
      Runs (.nop y .s 0#6 .clean) s (fun t => pcOf t y.n = pcOf s y.n + 1 ∧ kdepth t y.n = 0 ∧
        RegsExcept (R.KREG y.n 0 :: issueRegs y.n) s t ∧ MemSame s t))

/-- R119 to R121, R144, R145: S.LOOP with count 0 goes on after END and pushes nothing; otherwise it pushes the loop that starts
at the next bundle; S.BRK pops a loop and branches; S.HALT ends the sequence with RUN DONE, and its signatures are compared in
the next cycle. -/
def Obligations.LoopBreakHalt : Prop :=
  ∀ (y : Syl) (x : SylInfo) (s : State),
    (Issues (.sLoop y) x s → Straight s y.n → sLoopCount y s = 0 → fb y 13 0 + 1 < 16384 →
      Runs (.sLoop y) s (fun t => pcOf t y.n = fb y 13 0 + 1 ∧ kdepth t y.n = 0 ∧ RegsExcept (issueRegs y.n) s t ∧ MemSame s t)) ∧
    (Issues (.sLoop y) x s → Straight s y.n → sLoopCount y s ≠ 0 →
      Runs (.sLoop y) s (fun t => pcOf t y.n = pcOf s y.n + 1 ∧ kdepth t y.n = 1 ∧
        t.fld (F.KREG_COUNT y.n 0) = sLoopCount y s ∧ t.fld (F.KREG_START y.n 0) = pcOf s y.n + 1 ∧
        t.fld (F.KREG_END y.n 0) = fb y 13 0 ∧ RegsExcept (R.KREG y.n 0 :: issueRegs y.n) s t ∧ MemSame s t)) ∧
    (Issues (.sBrk y) x s → (s.core y.n).branch = none → kdepth s y.n = 1 →
      s.fld (F.CFS_FETCH_WCOUNT y.n) < 4095 → pcOf s y.n + 1 < 16384 →
      Runs (.sBrk y) s (fun t => kdepth t y.n = 0 ∧ (t.core y.n).branch = some (2, fb y 13 0) ∧
        pcOf t y.n = pcOf s y.n + 1 ∧ RegsExcept (issueRegs y.n) s t ∧ MemSame s t)) ∧
    (Issues (.sHalt y) x s → Straight s y.n →
      Runs (.sHalt y) s (fun t => coreRun t y.n = runDONE ∧ pcOf t y.n = pcOf s y.n + 1 ∧ t.fld (rawFld y.n) = 1 ∧
        (∃ l ∈ t.late, l.due = s.now + 1 ∧ l.op = .cfsCompare (pcOf s y.n) ((s.core y.n).issued * 4)) ∧ MemSame s t))

/-- R109, R123: an illegal syllable, whatever its predicate, is a fault at its bundle: RUN is FAULT, FAULT_REC holds ILLEGAL_OP
with the slot and the bundle's address, FAULT_INFO the syllable, the core's event is raised, and nothing of the bundle takes
effect: no scalar or mask register, no memory, nothing new in flight.

R109, R110, R129: a bundle whose only syllable has predicate 0, or is a legal NOP, changes nothing but the sequencer: PC and
the bundle count advance, both signatures take the address. -/
def Obligations.IllegalAndSuppressedSyllables : Prop :=
  (∀ (i : Instr) (x : SylInfo) (s : State), sylInfo i = some x → x.y.last = true → Ready s x.y.n → x.legal = false →
     (∀ y sl op e, i = .nop y sl op e → e = .clean) → s.fld (F.FAULT_REC_VALID x.y.n) = 0 →
     Runs i s (fun t => coreRun t x.y.n = runFAULT ∧ t.fld (F.FAULT_REC_VALID x.y.n) = 1 ∧
       t.fld (F.FAULT_REC_CODE x.y.n) = 0x01 ∧ t.fld (F.FAULT_REC_SLOT x.y.n) = slotNo x.slot ∧
       t.fld (F.FAULT_REC_ADDR x.y.n) = pcOf s x.y.n ∧ t.fld (F.FAULT_REC_MULTI x.y.n) = 0 ∧
       t.reg (R.FAULT_INFO x.y.n) = BitVec.ofNat 64 (sylWord x.op x.y) ∧ t.fld (rawFld x.y.n) = 1 ∧
       pcOf t x.y.n = pcOf s x.y.n ∧ t.late = s.late ∧ (∀ k : Fin 64, t.sr x.y.n k = s.sr x.y.n k) ∧ MemSame s t)) ∧
  (∀ (i : Instr) (x : SylInfo) (s : State), sylInfo i = some x → x.y.last = true → Ready s x.y.n → x.legal = true →
     (s.pr x.y.n x.y.pred.toNat = false ∨ ∃ y sl op, i = .nop y sl op .clean) →
     (∀ y sl op e, i = .nop y sl op e → e = .clean) → Straight s x.y.n →
     Runs i s (fun t => pcOf t x.y.n = pcOf s x.y.n + 1 ∧ coreRun t x.y.n = runRUNNING ∧
       t.fld (F.BUNDLE_COUNT_COUNT x.y.n) = min (s.fld (F.BUNDLE_COUNT_COUNT x.y.n) + 1) (2 ^ 64 - 1) ∧
       t.fld (F.CFS_FETCH_SIG x.y.n) = cfsStep (s.fld (F.CFS_FETCH_SIG x.y.n)) (pcOf s x.y.n) % 2 ^ 32 ∧
       t.fld (F.CFS_CHECK_SIG x.y.n) = cfsStep (s.fld (F.CFS_CHECK_SIG x.y.n)) (pcOf s x.y.n) % 2 ^ 32 ∧
       t.fld (F.CFS_FETCH_WCOUNT x.y.n) = s.fld (F.CFS_FETCH_WCOUNT x.y.n) + 1 ∧
       (t.core x.y.n).nextIssue = s.now + 1 ∧ t.late = s.late ∧ RegsExcept (issueRegs x.y.n) s t ∧
       CoresExcept [x.y.n.val] s t ∧ MemSame s t))

/-- R115, R116: a legal syllable that an accumulator hold or an explicit wait holds keeps its bundle at issue: RUN is STALLED,
STALL shows the classes, the bundle is kept, PC stays, and nothing takes effect.

R116, R117: STALL_END releases a held bundle in the cycle in which nothing holds it (without a barrier); WAIT_TIMEOUT ends an
explicit wait that has lasted as long as a nonzero WAIT_LIMIT: RUN is FAULT and FAULT_REC holds WAIT_TIMEOUT. Without a held
bundle, or with WAIT_LIMIT 0, nothing happens. -/
def Obligations.Stalls : Prop :=
  (∀ (i : Instr) (x : SylInfo) (s : State), sylInfo i = some x → x.y.last = true → Ready s x.y.n → x.legal = true →
     s.pr x.y.n x.y.pred.toNat = true → (∀ y sl op e, i = .nop y sl op e → e = .clean) →
     x.tier s.now x.y (s.gathered x.y.n) = none → x.qsync = false →
     (x.hold s.now x.y (s.gathered x.y.n) = true ∨ x.wait x.y (s.gathered x.y.n) = true) →
     Runs i s (fun t => coreRun t x.y.n = runSTALLED ∧
       t.fld (F.SEQ_STATUS_STALL x.y.n) = (if x.hold s.now x.y (s.gathered x.y.n) = true then 1 else 0) +
         (if x.wait x.y (s.gathered x.y.n) = true then 4 else 0) ∧
       (∃ h, (t.core x.y.n).held = some h ∧ h.bundle = [i] ∧ h.since = s.now) ∧ pcOf t x.y.n = pcOf s x.y.n ∧
       t.late = s.late ∧ RegsExcept [R.SEQ_STATUS x.y.n, R.ACC_HOLD_COUNT x.y.n] s t ∧ CoresExcept [x.y.n.val] s t ∧ MemSame s t)) ∧
  (∀ (n : Fin 64) (s : State), s.up = true →
     ((s.core n).held = none → exec (.stallEnd n) s = .next s ∧ exec (.waitTimeout n) s = .next s ∧
       exec (.tierBoundExpiry n) s = .next s) ∧
     (s.fld (F.WAIT_LIMIT_LIMIT n) = 0 → exec (.waitTimeout n) s = .next s) ∧
     (∀ h : Held, (s.core n).held = some h → h.upto = s.now → (∀ l ∈ s.late, s.now < l.due) →
       ((bundleStalls s n s.now h.bundle).any = false →
         exec (.stallEnd n) s = .next (s.after (tickTo (releaseAt s n s.now h.bundle) (releaseAt s n s.now h.bundle).now))) ∧
       ((bundleStalls s n s.now h.bundle).wait = true → s.fld (F.WAIT_LIMIT_LIMIT n) ≠ 0 →
         s.fld (F.WAIT_LIMIT_LIMIT n) ≤ h.waited → (s.core n).dueFaults = [] → s.fld (F.FAULT_REC_VALID n) = 0 →
         Runs (.waitTimeout n) s (fun t => coreRun t n = runFAULT ∧ t.fld (F.FAULT_REC_CODE n) = 0x0D ∧
           t.fld (F.FAULT_REC_VALID n) = 1 ∧ (t.core n).held = none ∧ pcOf t n = pcOf s n ∧ MemSame s t))))

/-! ### What is in flight -/

/-- R111: DELAYED_RESULT_WRITE lets the next result of the core land in its cycle: a scalar register, a predicate (p0 is
not written: R104), the predicates of S.WRP, a mask, a COMP increment (modulo 2^32). -/
def Obligations.ResultsLand : Prop :=
  ∀ (n : Fin 64) (s : State) (l : Late) (rest : List Late), DueNext s n l rest →
    (∀ r v, l.op = .sreg r v → r < 64 → Runs (.delayedResultWrite n) s (fun t => t.sr n r = v ∧
      Landed [R.SREG n r] s t n l rest ∧ MemSame s t)) ∧
    (∀ p v, l.op = .pred p v → p < 16 → Runs (.delayedResultWrite n) s (fun t => (p ≠ 0 → t.pr n p = v) ∧ t.pr n 0 = true ∧
      (∀ q, q ≠ p → t.pr n q = s.pr n q) ∧ Landed [R.PRED n] s t n l rest ∧ MemSame s t)) ∧
    (∀ v, l.op = .preds v → Runs (.delayedResultWrite n) s (fun t => (∀ q, 1 ≤ q → q < 16 → t.pr n q = v.testBit q) ∧
      Landed [R.PRED n] s t n l rest ∧ MemSame s t)) ∧
    (∀ i v, l.op = .mregs i v → i < 8 → Runs (.delayedResultWrite n) s (fun t => t.mask n i = (if i = 0 then BitVec.allOnes 256 else v) ∧
      Landed [R.MREG n i 0, R.MREG n i 1, R.MREG n i 2, R.MREG n i 3] s t n l rest ∧ MemSame s t)) ∧
    (∀ c k, l.op = .compInc c k → c < 16 → Runs (.delayedResultWrite n) s (fun t =>
      t.fld (F.COMP_COUNT n c) = (s.fld (F.COMP_COUNT n c) + k) % 2 ^ 32 ∧
      Landed [R.COMP n c] s t n l rest ∧ MemSame s t))

/-- R111, R143, R187: stored bytes land in core memory at their place, and no other byte changes; a tile result lands in its tile
register, the elements it does not name stay, and its status bits are added to VEC_STATUS.

R29: WEIGHT_LOAD_COMPLETE, 256 cycles after the load's issue: the shadow slot holds the tile and is VALID; the active slot is
as it was. -/
def Obligations.StoresTilesAndWeightsLand : Prop :=
  (∀ (n : Fin 64) (s : State) (l : Late) (rest : List Late), DueNext s n l rest →
     (∀ m off bs, l.op = .mem (.core m off) bs → bs.length ≤ coreMemSize → Runs (.delayedResultWrite n) s (fun t =>
       (∀ i, i < bs.length → t.byte ((Place.core m off).addr i) = bs.getD i 0) ∧
       (∀ a, (∀ i, i < bs.length → a ≠ (Place.core m off).addr i) → t.byte a = s.byte a) ∧ Landed [] s t n l rest)) ∧
     (∀ a bs, l.op = .mem (.flat a) bs → a + bs.length ≤ stackBase ∨ stackEnd ≤ a → Runs (.delayedResultWrite n) s (fun t =>
       (∀ i, i < bs.length → t.byte (a + i) = bs.getD i 0) ∧
       (∀ b, b < a ∨ a + bs.length ≤ b → t.byte b = s.byte b) ∧ Landed [] s t n l rest)) ∧
     (∀ vd u stat, l.op = .vwrite vd u stat → stat < 2 ^ 8 → Runs (.delayedResultWrite n) s (fun t =>
       t.core n = { (s.core n).setTile vd u with cur := l.syl } ∧
       t.reg (R.VEC_STATUS n) = s.reg (R.VEC_STATUS n) ||| BitVec.ofNat 64 stat ∧
       Landed [R.VEC_STATUS n] s t n l rest ∧ MemSame s t))) ∧
  (∀ (n : Fin 64) (s : State) (l : Late) (rest : List Late) (u fmt kt nt base : Nat) (tr diag : Bool)
     (lines exps : List (List Byte)), DueNext s n l rest → l.due = u + 256 →
     l.op = .wldLine u 256 fmt kt nt tr diag base lines exps →
     Runs (.weightLoadComplete n) s (fun t =>
       t.core n = { ((s.core n).setShadowTile (buildTile fmt kt nt tr diag lines exps)).setShadowValid true with cur := l.syl } ∧
       (t.core n).activeTile = (s.core n).activeTile ∧ Landed [] s t n l rest ∧ MemSame s t))

/-- R49, R50: DRAIN_CHECK_VERDICT adds the skipped checks; failures are counted, the first is recorded in CHK_LAST unless a record
stands, the core's event is raised, and ARRAY_CHECK becomes due as a deferred fault in the next cycle. -/
def Obligations.DrainVerdict : Prop :=
  ∀ (n : Fin 64) (s : State) (l : Late) (rest : List Late) (slot origin ord skips : Nat) (fails : List (Nat × Nat)),
    DueNext s n l rest → (∀ l' ∈ rest, l.due + 1 < l'.due) → l.op = .drainDone slot origin ord fails skips →
    Runs (.drainCheckVerdict n) s (fun t =>
      t.fld (F.CHK_SKIP_COUNT_COUNT n) = min (s.fld (F.CHK_SKIP_COUNT_COUNT n) + skips) (2 ^ 32 - 1) ∧
      (fails = [] → Landed [R.CHK_SKIP_COUNT n] s t n l rest) ∧
      (∀ f fs, fails = f :: fs →
        t.fld (F.CHK_FAIL_COUNT_COUNT n) = min (s.fld (F.CHK_FAIL_COUNT_COUNT n) + fails.length) (2 ^ 32 - 1) ∧
        (s.fld (F.CHK_LAST_VALID n) = 1 → t.reg (R.CHK_LAST n) = s.reg (R.CHK_LAST n)) ∧
        (s.fld (F.CHK_LAST_VALID n) = 0 → f.1 < 8 → f.2 < 512 → t.fld (F.CHK_LAST_VALID n) = 1 ∧ t.fld (F.CHK_LAST_KIND n) = f.1 ∧
          t.fld (F.CHK_LAST_INDEX n) = f.2 ∧ t.fld (F.CHK_LAST_BUNDLE n) = origin % 2 ^ 14) ∧
        t.fld (rawFld n) = 1 ∧ t.now = l.due ∧
        (∃ l' ∈ t.late, l'.n = n.val ∧ l'.due = l.due + 1 ∧ ∃ d, l'.op = .deferred d ∧ d.code = 0x15 ∧ d.origin = some origin)) ∧
      MemSame s t)

/-- R125: a deferred fault of an ON, RUNNING core that holds no bundle waits for its next bundle; of a core that has stopped it is
recorded at once, or only adds MULTI to a record that stands.

R129: CFS_COMPARE of a comparison that finds the signatures equal starts both again; unequal, it makes CFS_MISMATCH due at a
RUNNING core. An upset of nature in the fetch signature is an operand. -/
def Obligations.DeferredFaultsAndSignatures : Prop :=
  (∀ (n : Fin 64) (s : State) (l : Late) (rest : List Late) (d : DefFault), DueNext s n l rest → l.op = .deferred d →
     (coreIssues s n = true → (s.core n).held = none → Runs (.deferredFaultDue n) s (fun t =>
       (t.core n).dueFaults = (s.core n).dueFaults ++ [d] ∧ coreRun t n = runRUNNING ∧ Landed [] s t n l rest ∧ MemSame s t)) ∧
     (coreIssues s n = false → coreRun s n ≠ runSTALLED → s.fld (F.FAULT_REC_VALID n) = 1 →
       Runs (.deferredFaultDue n) s (fun t => t.fld (F.FAULT_REC_MULTI n) = 1 ∧ t.fld (F.FAULT_REC_CODE n) = s.fld (F.FAULT_REC_CODE n) ∧
         Landed [R.FAULT_REC n] s t n l rest ∧ MemSame s t)) ∧
     (coreState s n = 1 → coreRun s n = runDONE → s.fld (F.FAULT_REC_VALID n) = 0 → d.code < 256 →
       Runs (.deferredFaultDue n) s (fun t => t.fld (F.FAULT_REC_VALID n) = 1 ∧ t.fld (F.FAULT_REC_CODE n) = d.code ∧
         t.fld (F.FAULT_REC_KIND n) = 2 ∧ coreRun t n = runFAULT ∧ t.fld (rawFld n) = 1 ∧ t.now = l.due))) ∧
  (∀ (n : Fin 64) (upset : BitVec 32) (s : State) (l : Late) (rest : List Late) (origin ord : Nat), DueNext s n l rest →
     l.op = .cfsCompare origin ord → coreIssues s n = true → (s.core n).held = none →
     Runs (.cfsCompare n upset) s (fun t => t.reg (R.CFS_FETCH n) = 0xFFFFFFFF#64 ∧ t.reg (R.CFS_CHECK n) = 0xFFFFFFFF#64 ∧
       ((t.core n).dueFaults = (s.core n).dueFaults ++
         if s.fld (F.CFS_FETCH_SIG n) ^^^ upset.toNat = s.fld (F.CFS_CHECK_SIG n) then []
         else [⟨0x04, 0, some origin, (s.fld (F.CFS_FETCH_SIG n) ^^^ upset.toNat) * 2 ^ 32 + s.fld (F.CFS_CHECK_SIG n), ord⟩]) ∧
       Landed [R.CFS_FETCH n, R.CFS_CHECK n] s t n l rest ∧ MemSame s t))

/-- R32, R34: MM_ROW_WRITE writes the next output row of the core. In the columns of the tile each entry is the total of the
column's products, promoted after the old entry where the operation accumulates; without accumulation the columns past the tile
are zero, with it they stay. Every other row stays. (No entry of the core carries an error of nature.) -/
def Obligations.OutputRowWritten : Prop :=
  ∀ (n : Fin 64) (s : State) (l : Late) (rest : List Late) (m : MMDesc) (row col : Nat) (vecs : List (List Byte)) (flip : L96),
    DueNext s n l rest → l.op = .mmRow m row vecs col flip → m.slot < 18 → row < 256 → m.tile.nt ≤ 256 → (s.core n).accErr = [] →
    Runs (.mmRowWrite n .none) s (fun t =>
      (∀ c, c < m.tile.nt → (flip = 0#96 ∨ c ≠ col) → (t.core n).entry m.slot row c =
        promote m.ac (if m.ac then (s.core n).entry m.slot row c else 0#96) (chunksOfProducts m.g m.k (colProducts m vecs c))) ∧
      (∀ c, m.tile.nt ≤ c → c < 256 → (flip = 0#96 ∨ c ≠ col) → (t.core n).entry m.slot row c =
        if m.ac then (s.core n).entry m.slot row c else Tot.zero.enc) ∧
      (∀ slot r c, slot < 18 → r < 256 → c < 258 → ¬ (slot = m.slot ∧ r = row) →
        (t.core n).entry slot r c = (s.core n).entry slot r c) ∧
      (t.core n).vregs = (s.core n).vregs ∧ (t.core n).imem = (s.core n).imem ∧
      Landed [R.GATED_MAC_COUNT n] s t n l rest ∧ MemSame s t)

/-- R37, R87, R340: BCAST_STREAM_CLOSE closes the quartet's stream that the operation belongs to, and leaves one opened since;
RADD_ADD_COMPLETE and NMS_COMPLETE let the time pass to the end of the addition, or of the suppression. -/
def Obligations.StreamsAdditionsAndSuppressionEnd : Prop :=
  ∀ (n : Fin 64) (s : State), s.up = true →
    (∀ (q : Fin 16) (l : Late) (rest : List Late) (us : Nat), DueNext s n l rest → l.op = .bcastClose q us →
      Runs (.bcastStreamClose q) s (fun t =>
        t.bcastOf q = (if (s.bcastOf q).us = us then { s.bcastOf q with v := 0 } else s.bcastOf q) ∧
        (∀ k, k ≠ q.val → t.bcastOf k = s.bcastOf k) ∧ Landed [] s t n l rest ∧ MemSame s t)) ∧
    (∀ (l : Late) (rest : List Late) (i : Nat), DueNext s n l rest → l.op = .raddDone i →
      Runs (.raddAddComplete n) s (fun t => Landed [] s t n l rest ∧ MemSame s t)) ∧
    ((∀ l ∈ s.late, (s.core n).nmsDone < l.due) → s.now ≤ (s.core n).nmsDone →
      Runs (.nmsComplete n) s (fun t => t.now = (s.core n).nmsDone ∧ t.late = s.late ∧
        (∀ a, ¬ clockCounter a → t.reg a = s.reg a) ∧ CoresExcept [] s t ∧ MemSame s t))

/-! ### The M, A and V slots -/

/-- R146 to R150, R158: what the moves and streams of the M slot do at issue. A tile move occupies the move path for its transfer
and begins with its first row; a store whose claim is stale moves nothing and counts. M.SOPEN opens a stream and clears its
progress; M.SCLOSE ends one; M.LDS and M.STS take or place the next tile of their stream; M.CLAIM sends its claim, which the claim
unit takes 11 cycles later; M.WAIT discards the fetched slots of cache-replacing streams of its counter (R249). -/
def Obligations.MovesAndStreams : Prop :=
  ∀ (y : Syl) (x : SylInfo) (s : State), Straight s y.n →
    (Issues (.mLd y) x s → IssuesWith (.mLd y) y.n s fun b => (b.core y.n).moveFree = s.now + szCycles (fb y 21 19) ∧
      b.late = insertLate ⟨y.n, nextOrd s y.n .m, s.now, 1, .moveRows
        ((rowPlaces (.flat (getBits (mTA y s) 47 0)) (szBytes (fb y 21 19))).zip (rowPlaces (mCA y s) (szBytes (fb y 21 19))))
        (szBytes (fb y 21 19)) s.now 0⟩ s.late ∧ RegsExcept (issueRegs y.n) s b) ∧
    (Issues (.mSt y) x s → IssuesWith (.mSt y) y.n s fun b => (b.core y.n).moveFree = s.now + szCycles (fb y 21 19) ∧
      b.late = (if suppressed y s then s.late else insertLate ⟨y.n, nextOrd s y.n .m, s.now, 1, .moveRows
        ((rowPlaces (mCA y s) (szBytes (fb y 21 19))).zip (rowPlaces (.flat (getBits (mTA y s) 47 0)) (szBytes (fb y 21 19))))
        (szBytes (fb y 21 19)) s.now 0⟩ s.late) ∧
      (suppressed y s = true → b.fld (F.CLAIM_STALE_COUNT y.n) = s.sat (F.CLAIM_STALE_COUNT y.n) (1)) ∧
      RegsExcept (R.CLAIM_STALE y.n :: issueRegs y.n) s b) ∧
    (Issues (.mSopen y) x s → IssuesWith (.mSopen y) y.n s fun b =>
      (b.core y.n).stream (fb y 4 0) = some (newStream (fb y 21 21 == 1) (fb y 20 17) (s.descr y.n (fb y 4 0))
        (getBits (srF y s 16 11) 47 0) (s.core y.n).openCount) ∧ (b.core y.n).openCount = (s.core y.n).openCount + 1 ∧
      b.reg (R.STREAM_PROG y.n (fb y 4 0)) = 0#64 ∧ b.late = s.late ∧
      RegsExcept (R.STREAM_PROG y.n (fb y 4 0) :: issueRegs y.n) s b) ∧
    (Issues (.mSclose y) x s → IssuesWith (.mSclose y) y.n s fun b => (b.core y.n).stream (fb y 4 0) = none ∧
      (∀ d, d ≠ fb y 4 0 → (b.core y.n).stream d = (s.core y.n).stream d) ∧ b.late = s.late ∧
      RegsExcept (R.STREAM_PROG y.n (fb y 4 0) :: issueRegs y.n) s b) ∧
    (∀ t, (s.core y.n).stream (fb y 4 0) = some t →
      (Issues (.mLds y) x s → IssuesWith (.mLds y) y.n s fun b => (b.core y.n).moveFree = s.now + streamT t.desc ∧
        (∃ t', (b.core y.n).stream (fb y 4 0) = some t' ∧ t'.taken = t.taken + 1 ∧ t'.desc = t.desc ∧ t'.base = t.base) ∧
        (∀ d, d ≠ fb y 4 0 → (b.core y.n).stream d = (s.core y.n).stream d) ∧ RegsExcept (issueRegs y.n) s b) ∧
      (Issues (.mSts y) x s → IssuesWith (.mSts y) y.n s fun b => (b.core y.n).moveFree = s.now + streamT t.desc ∧
        (∃ t', (b.core y.n).stream (fb y 4 0) = some t' ∧ t'.taken = t.taken + 1 ∧ t'.desc = t.desc ∧ t'.base = t.base) ∧
        (dTier t.desc = 0 → (b.core y.n).placed = (s.core y.n).placed ∧
          ∃ l ∈ b.late, l.due = s.now + 23 + streamT t.desc ∧ l.op = .compInc t.ctr 1) ∧
        (dTier t.desc ≠ 0 → ∃ o, (b.core y.n).placed = (s.core y.n).placed ++ [o] ∧ o.tile = t.taken ∧ o.ctr = t.ctr ∧
          o.suppressed = suppressed y s) ∧ RegsExcept (R.CLAIM_STALE y.n :: issueRegs y.n) s b)) ∧
    (Issues (.mClaim y) x s → IssuesWith (.mClaim y) y.n s fun b =>
      b.late = insertLate ⟨y.n, nextOrd s y.n .m, s.now + 11, 0, .claimLocal (fb y 17 12) (fb y 5 0)⟩ s.late ∧
      RegsExcept (issueRegs y.n) s b) ∧
    (Issues (.mWait y) x s → IssuesWith (.mWait y) y.n s fun b => b.late = s.late ∧
      (b.core y.n).streams = (s.core y.n).streams.map (fun p =>
        if !p.2.out && dCr p.2.desc && p.2.ctr == fb y 20 17 then (p.1, (crDiscard s.now p.2).1) else p) ∧
      RegsExcept (R.CR_REFETCH y.n :: issueRegs y.n) s b)

/-- R151 to R154: a fabric operation of the M slot enters the end of its core's request queue with its address, class, counter
and operands; M.PUT and M.RADD occupy the move path for their transfer. -/
def Obligations.FabricOperationsQueue : Prop :=
  ∀ (y : Syl) (x : SylInfo) (s : State), Straight s y.n →
    let joins (k : FqKind) (b : State) (P : FqOp → Prop) : Prop := ∃ o, (b.core y.n).fq = (s.core y.n).fq ++ [o] ∧ o.kind = k ∧
      o.id = (s.core y.n).fqCount ∧ o.ctr = mCtr y ∧ o.bundle = pcOf s y.n ∧ o.sent = false ∧ P o
    (Issues (.mPut y) x s → IssuesWith (.mPut y) y.n s fun b => joins .put b (fun o => o.addr = (mTA y s).toNat ∧
      o.sz = fb y 21 19 ∧ o.cls = mCl y ∧ o.suppressed = suppressed y s) ∧
      (b.core y.n).moveFree = s.now + szCycles (fb y 21 19) ∧ RegsExcept (R.CLAIM_STALE y.n :: issueRegs y.n) s b) ∧
    (Issues (.mRadd y) x s → IssuesWith (.mRadd y) y.n s fun b => joins .radd b (fun o => o.addr = (mTA y s).toNat ∧
      o.sz = fb y 21 19 ∧ o.cls = mCl y ∧ o.suppressed = suppressed y s) ∧
      (b.core y.n).moveFree = s.now + szCycles (fb y 21 19) ∧ RegsExcept (R.CLAIM_STALE y.n :: issueRegs y.n) s b) ∧
    (Issues (.mGet y) x s → IssuesWith (.mGet y) y.n s fun b => joins .get b (fun o => o.addr = (mTA y s).toNat ∧
      o.sz = fb y 21 19 ∧ o.cls = mCl y ∧ o.dst = coreOff (srF y s 17 12)) ∧ RegsExcept (issueRegs y.n) s b) ∧
    (Issues (.mFadd y) x s → IssuesWith (.mFadd y) y.n s fun b => joins .fadd b (fun o => o.addr = (mTA y s).toNat ∧
      o.val = (srF y s 17 12).toNat ∧ o.cls = mCl y ∧ o.dst = coreOff (s.sr y.n (fb y 11 6 + 1))) ∧
      RegsExcept (issueRegs y.n) s b) ∧
    (Issues (.mMsg y) x s → IssuesWith (.mMsg y) y.n s fun b => joins .msg b (fun o => o.addr = (mTA y s).toNat ∧
      o.val = (srF y s 17 12).toNat ∧ o.cls = mCl y) ∧ RegsExcept (issueRegs y.n) s b) ∧
    (Issues (.mFence y) x s → IssuesWith (.mFence y) y.n s fun b => joins .fence b (fun o => o.cls = 0) ∧
      RegsExcept (issueRegs y.n) s b) ∧
    (Issues (.mClaimr y) x s → IssuesWith (.mClaimr y) y.n s fun b => joins .claimr b (fun o => o.addr = (mTA y s).toNat ∧
      o.cls = mCl y ∧ o.dst = coreOff (s.sr y.n (fb y 11 6 + 1))) ∧ RegsExcept (issueRegs y.n) s b)

/-- R157: a core that reaches M.QSYNC while another core of its quartet has not is held in an explicit wait; the last of the four
to reach it releases them all, and the four bundles issue in the same cycle. -/
def Obligations.QuartetBarrier : Prop :=
  ∀ (y : Syl) (s : State), Ready s y.n → y.last = true → mQsyncLegal y = true → s.pr y.n y.pred.toNat = true →
    (quartetReady (s.gathered y.n) y.n s.now = false →
      Runs (.mQsync y) s (fun t => coreRun t y.n = runSTALLED ∧ t.fld (F.SEQ_STATUS_STALL y.n) = 4 ∧
        (∃ h, (t.core y.n).held = some h ∧ h.bundle = [.mQsync y]) ∧ pcOf t y.n = pcOf s y.n ∧ t.late = s.late ∧
        RegsExcept [R.SEQ_STATUS y.n] s t ∧ CoresExcept [y.n.val] s t ∧ MemSame s t)) ∧
    (∀ (h : Nat → Held) (z : Nat → Syl), Straight s y.n →
      (∀ m, m / 4 = y.n.val / 4 → m ≠ y.n.val → AtBarrier s m (h m) (z m)) →
      Runs (.mQsync y) s (fun t => (∀ m, m / 4 = y.n.val / 4 → pcOf t m = pcOf s m + 1 ∧ coreRun t m = runRUNNING ∧
          (t.core m).held = none ∧ (t.core m).nextIssue = s.now + 1) ∧
        (∀ m, m / 4 ≠ y.n.val / 4 → t.core m = s.core m) ∧ t.late = s.late ∧ t.now = s.now ∧ MemSame s t))

/-- R29, R31, R34, R37, R88 to R90, R185: what the A slot does at issue. A.WLD occupies the load path for 256 cycles and clears
VALID of the shadow slot; A.MM occupies the array for V cycles, swaps the slots where it says so and as a sender opens the
quartet's stream; A.SADD occupies the slot port for V cycles; A.DRAIN for V + 17, advances the rounding state in stochastic mode,
and its verdict is due V + 16 cycles after issue. -/
def Obligations.ArraySyllables : Prop :=
  ∀ (y : Syl) (x : SylInfo) (s : State), Straight s y.n →
    (Issues (.aWld y) x s → IssuesWith (.aWld y) y.n s fun b => (b.core y.n).loadFree = s.now + 256 ∧
      (b.core y.n).shadowValid = false ∧ (b.core y.n).activeValid = (s.core y.n).activeValid ∧
      (b.core y.n).activeTile = (s.core y.n).activeTile ∧
      b.late = insertLate ⟨y.n, nextOrd s y.n .a, s.now, 1, .wldLine s.now 0 (wldFmt y) (wldKt y s) (wldNt y s)
        (fb y 13 13 == 1) (fb y 12 12 == 1) (coreOff (srF y s 5 0)) [] []⟩ s.late ∧ RegsExcept (issueRegs y.n) s b) ∧
    (∀ slot, mmSlot y s = some slot → Issues (.aMm y) x s → IssuesWith (.aMm y) y.n s fun b =>
      (b.core y.n).mmFree = s.now + mmV (mmCw y s) ∧
      (fb y 19 19 = 1 → (b.core y.n).activeSlot = !(s.core y.n).activeSlot ∧ (b.core y.n).shadowValid = false ∧
        (b.core y.n).activeTile = (s.core y.n).shadowTile) ∧
      (fb y 19 19 = 0 → (b.core y.n).activeSlot = (s.core y.n).activeSlot ∧ (b.core y.n).wvalid = (s.core y.n).wvalid) ∧
      (∃ l ∈ b.late, l.n = y.n.val ∧ l.due = s.now ∧ ∃ m, l.op = .mmVec m 0 [] ∧ m.slot = slot ∧ m.u = s.now ∧
        m.v = mmV (mmCw y s) ∧ m.ac = (fb y 18 18 == 1) ∧ m.origin = pcOf s y.n ∧ m.tile = (b.core y.n).activeTile) ∧
      (mmBc y = 1 → (b.bcastOf (y.n.val / 4)).sender = y.n.val ∧ (b.bcastOf (y.n.val / 4)).us = s.now ∧
        (b.bcastOf (y.n.val / 4)).v = mmV (mmCw y s)) ∧
      (mmBc y ≠ 1 → b.bcast = s.bcast) ∧ RegsExcept (issueRegs y.n) s b) ∧
    (∀ slot, saSlot y s = some slot → Issues (.aSadd y) x s → IssuesWith (.aSadd y) y.n s fun b =>
      (b.core y.n).portFree = s.now + saV y s ∧
      b.late = insertLate ⟨y.n, nextOrd s y.n .a, s.now, 1,
        .saddRow slot (pcOf s y.n) s.now (saV y s) 0 (saBase y s) (saStride y s)⟩ s.late ∧ RegsExcept (issueRegs y.n) s b) ∧
    (∀ slot, drSlot y s = some slot → Issues (.aDrain y) x s → (s.core y.n).accErr = [] → IssuesWith (.aDrain y) y.n s fun b =>
      (b.core y.n).portFree = s.now + drV y s + 17 ∧
      b.reg (R.SR_STATE y.n) = (if drRm y = 2 then BitVec.ofNat 64 ((s.reg (R.SR_STATE y.n)).toNat + drV y s * 256)
        else s.reg (R.SR_STATE y.n)) ∧
      (drZero y = false → (b.core y.n).slots = (s.core y.n).slots) ∧
      (drZero y = true → slot < 18 → ∀ r c, r < drV y s → c < 258 → (b.core y.n).entry slot r c = 0#96) ∧
      (∃ l ∈ b.late, l.due = s.now + drV y s + 16 ∧
        ∃ fails skips, l.op = .drainDone slot (pcOf s y.n) (nextOrd s y.n .a) fails skips) ∧
      RegsExcept (R.SR_STATE y.n :: issueRegs y.n) s b)

/-- R173 to R187, R190 to R200: every V syllable occupies the unit and puts its result in flight. The element-wise operations put
exactly their elements of the active lanes and their status in flight for 12 cycles later (a stochastic conversion advances
SR_STATE by 8,192); V.LD, the reductions, the record operations, V.EXT, V.MSET, V.BOXDEC and V.NMS start with their first read, or
put their result in flight. Tiles, memory and other cores are as before at issue. -/
def Obligations.VectorSyllables : Prop :=
  ∀ (x : SylInfo) (s : State),
    (∀ (i : Instr) (r : BitVec 256 × (Nat → ElemRes)), elementResult i s = some r → Issues i x s → Straight s x.y.n →
      Runs i s (fun t => VecRuns x.y s (s.now + 8) (s.now + 12) (s.now + 12) 0
          (.vwrite (vVD x.y) (elementTile r) (elementStat r)) [R.SR_STATE x.y.n] t ∧
        (i = .vCvt x.y → fb x.y 5 4 = 2 → t.reg (R.SR_STATE x.y.n) = BitVec.ofNat 64 ((s.reg (R.SR_STATE x.y.n)).toNat + 8192)) ∧
        (i ≠ .vCvt x.y ∨ fb x.y 5 4 ≠ 2 → t.reg (R.SR_STATE x.y.n) = s.reg (R.SR_STATE x.y.n)))) ∧
    (∀ y : Syl, Straight s y.n →
      (Issues (.vLd y) x s → Runs (.vLd y) s (VecRuns y s (s.now + 8) (s.now + 12) (s.now + 1) 1
        (if isMoss (vmFMT y) then .vldMoss (vVD y) (vmFMT y) (vBase y s) s.now 0 [] [] 0 0
         else .vldRows (vVD y) (vmFMT y) (vmRM y) (vmIR y) (vMask y s) (vBase y s) (vStride y s) s.now 0 [] 0) [])) ∧
      (Issues (.vSt y) x s → Runs (.vSt y) s (fun t => (t.core y.n).vecFree = s.now + 8 ∧
        (t.core y.n).vregs = (s.core y.n).vregs ∧ pcOf t y.n = pcOf s y.n + 1 ∧
        (∃ l ∈ t.late, l.due = s.now + 12 ∧ ∃ st, l.op = .vstat st) ∧ (∀ l ∈ s.late, l ∈ t.late) ∧
        RegsExcept (R.SR_STATE y.n :: issueRegs y.n) s t ∧ CoresExcept [y.n.val] s t ∧ MemSame s t)) ∧
      (Issues (.vRed y) x s → ∃ tile st, Runs (.vRed y) s (VecRuns y s (s.now + 8) (s.now + 24) (s.now + 24) 0
        (.vwrite (vVD y) tile st) [])) ∧
      (Issues (.vStat y) x s → Runs (.vStat y) s (VecRuns y s (s.now + 8) (s.now + 24) (s.now + 16) 1
        (.statRecs (vAX y) (fb y 8 8 == 1) (fb y 7 7 == 1) (vMask y s) (vBase y s) (tileOf (s.core y.n) (vVA y))) [])) ∧
      (Issues (.vSms y) x s → Runs (.vSms y) s (VecRuns y s (s.now + 8) (s.now + 24) (s.now + 16) 1
        (.smsRecs (vAX y) (vMask y s) (vBase y s) (tileOf (s.core y.n) (vVA y))) [])) ∧
      (Issues (.vSmn y) x s → Runs (.vSmn y) s (VecRuns y s (s.now + 8) (s.now + 16) (s.now + 4) 1
        (.smnRecs (vVD y) (vAX y) (vMask y s) (vBase y s) (tileOf (s.core y.n) (vVA y))) [])) ∧
      (Issues (.vNorm y) x s → Runs (.vNorm y) s (VecRuns y s (s.now + 8) (s.now + 16) (s.now + 4) 1
        (.normRecs (vVD y) (vAX y) (vMask y s) (vBase y s) (getBits (s.sr y.n (vB y + 1)) 31 0) (tileOf (s.core y.n) (vVA y)))
        [])) ∧
      (Issues (.vExt y) x s → Runs (.vExt y) s (VecRuns y s (s.core y.n).vecFree (s.now + 12) (s.now + 12) 0
        (.sreg (fb y 21 16) ((tileElem (s.core y.n) (vVB y)
          (getBits (s.sr y.n (vB y)) 4 0 * 256 + getBits (s.sr y.n (vB y)) 15 8)).setWidth 64)) [])) ∧
      (Issues (.vMset y) x s → ∃ v, Runs (.vMset y) s (VecRuns y s (s.core y.n).vecFree (s.now + 2) (s.now + 2) 0
        (.mregs (vVD y) v) []) ∧ (vkOp y = 1 → v = s.mask y.n (vkA y) &&& s.mask y.n (vkB y)) ∧
        (vkOp y = 2 → v = s.mask y.n (vkA y) ||| s.mask y.n (vkB y)) ∧
        (vkOp y = 3 → v = s.mask y.n (vkA y) &&& ~~~(s.mask y.n (vkB y))) ∧ (vkOp y = 4 → v = ~~~(s.mask y.n (vkA y)))) ∧
      (Issues (.vBoxdec y) x s → Runs (.vBoxdec y) s (VecRuns y s (s.now + 8) (s.now + 24) (s.now + 1) 1
        (.boxRead (vVD y) (vAX y) (vMask y s) ((parBytes y s).map (·.toNat)) (tileOf (s.core y.n) (vVA y)) s.now 0 [] 0) [])) ∧
      (Issues (.vNms y) x s → Runs (.vNms y) s (fun t => (t.core y.n).nmsDone = s.now + nmsLat y ∧
        VecRuns y s (s.now + 8) s.now (s.now + 1) 1 (.nmsRead (vVD y) (vAX y) (fb y 8 6) (vMask y s)
          ((parBytes y s).map (·.toNat)) (tileOf (s.core y.n) (vVA y)) s.now 0 [] []) [] t)))

/-- R83, R84, R86, R397: the accumulator window and the opening of slots. While the core is OFF a read of the window returns the
bytes of the entries; three aligned 32-bit writes write an entry, and the row's check totals are taken again; with the core not
OFF both are access errors and no entry changes. ACC_REMOTE opens the slots whose bits are newly set, and latches their reduction
entries.

R48: an entry written into PING or PONG moves the storage signature of its column by the folds of the new and the old value,
modulo 2^32; the entry reads back, its error is gone, and no other entry changes. -/
def Obligations.AccumulatorEntries : Prop :=
  (∀ (n : Fin 64) (off size : Nat) (v : Word) (s : State), s.up = true →
     (coreState s n ≠ 0 → exec (.accWindowRead n off size) s = .next { s with reply := .accessError } ∧
       Runs (.accWindowWrite n off size v) s (fun t => t.reply = .accessError ∧ (t.core n).slots = (s.core n).slots ∧
         RegsExcept [] s t ∧ CoresExcept [n.val] s t ∧ MemSame s t)) ∧
     (coreState s n = 0 → ((size = 4 ∧ off % 4 = 0) ∨ (size = 8 ∧ off % 8 = 0)) → off + size ≤ 0xC00000 →
       (s.core n).accErr = [] → s.fld (F.ACC_CE_COUNT_COUNT n) < 2 ^ 32 →
       Runs (.accWindowRead n off size) s (fun t => t.reply = .value (BitVec.ofNat 64 ((s.core n).winNat off size)) ∧
         RegsExcept [] s t ∧ CoresExcept [] s t ∧ MemSame s t)) ∧
     (coreState s n = 0 → off % 4 = 0 → off + 4 ≤ 0xC00000 →
       ((winEntry off).2.2.2 = 0 → Runs (.accWindowWrite n off 4 v) s (fun t => t.reply = .ok ∧
         t.core n = { s.core n with accHeld := some (off, [getBits v 31 0]) } ∧ RegsExcept [] s t ∧ CoresExcept [n.val] s t ∧
         MemSame s t)) ∧
       (∀ w0 w1, (winEntry off).2.2.2 = 8 → (s.core n).accHeld = some (off - 8, [w0, w1]) →
         Runs (.accWindowWrite n off 4 v) s (fun t => t.reply = .ok ∧ (t.core n).accHeld = none ∧
           (t.core n).entry (2 + (winEntry off).1) (winEntry off).2.1 (winEntry off).2.2.1 =
             BitVec.ofNat 96 (w0 + 2 ^ 32 * w1 + 2 ^ 64 * getBits v 31 0) ∧
           (∀ slot r c, slot < 18 → r < 256 → c < 258 → (slot, r) ≠ (2 + (winEntry off).1, (winEntry off).2.1) →
             (t.core n).entry slot r c = (s.core n).entry slot r c) ∧
           RegsExcept [] s t ∧ CoresExcept [n.val] s t ∧ MemSame s t))) ∧
     (s.fld (F.ACC_REMOTE_OPEN n) = 0 → Runs (.accRemoteWrite n .w64 v) s (fun t => t.reply = .ok ∧
       t.fld (F.ACC_REMOTE_OPEN n) = getBits v 15 0 ∧
       (∀ i, i < 16 → redOf t n i = if v.getLsbD i then redEntryFor s n i else redOf s n i) ∧ CoresExcept [] s t ∧ MemSame s t))) ∧
  (∀ (c : Core) (slot row col : Nat) (v : L96), slot < 18 → row < 256 → col < 258 →
     (c.setEntry slot row col v).entry slot row col = v ∧
     look (fun _ => 0) (c.setEntry slot row col v).accErr (entryKey slot row col) = 0 ∧
     (∀ s' r' c', s' < 18 → r' < 256 → c' < 258 → (s', r', c') ≠ (slot, row, col) →
       (c.setEntry slot row col v).entry s' r' c' = c.entry s' r' c') ∧
     (slot < 2 → ∀ k < 258, (look (fun _ => 0) (c.setEntry slot row col v).sigs (slot * 258 + k) : Nat) =
       if k = col then (look (fun _ => 0) c.sigs (slot * 258 + col) + foldEntry v +
         (2 ^ 32 - foldEntry (c.entry slot row col))) % 2 ^ 32
       else look (fun _ => 0) c.sigs (slot * 258 + k)))

/-- R152, R245, R224: a fabric operation whose transaction has ended leaves its core's queue and its COMP counter counts it; a
failure is recorded in MOVE_ERR, and the result of a get is written on success. A tier stall that has reached its bound ends in
TIER_FAIL. Changes of a claim counter in one cycle: the write first, then the claims. -/
def Obligations.OperationsEnd : Prop :=
  ∀ (n : Fin 64) (s : State), s.up = true →
    (∀ (id txid status value : Nat) (data : List Byte) (o : FqOp) (rest : List FqOp) (tx : TxReq),
      (s.core n).fq = o :: rest → o.id = id → (∀ q ∈ rest, q.id ≠ id ∧ q.kind ≠ .fence) → coreState s n = 1 →
      s.fab.txs.find? (fun q => q.owner == .core n id) = some tx → tx.id = txid → tx.st = .done status value data →
      Runs (.fabricOpComplete n id) s (fun t => (t.core n).fq = rest ∧
        t.fld (F.COMP_COUNT n o.ctr) = (s.fld (F.COMP_COUNT n o.ctr) + 1) % 2 ^ 32 ∧ t.tx txid = none ∧
        (status = csOK → RegsExcept [R.COMP n o.ctr] s t ∧
          (o.kind = .get → ∀ i, i < data.length → data.length ≤ coreMemSize →
            t.byte ((Place.core n o.dst).addr i) = data.getD i 0) ∧
          (o.kind = .put ∨ o.kind = .radd ∨ o.kind = .msg ∨ o.kind = .fence → MemSame s t)) ∧
        (status ≠ csOK → MemSame s t ∧ t.fld (F.MOVE_ERR_COUNT_COUNT n) = s.sat (F.MOVE_ERR_COUNT_COUNT n) 1 ∧
          RegsExcept [R.COMP n o.ctr, R.MOVE_ERR n, R.MOVE_ERR_COUNT n] s t) ∧ CoresExcept [n.val] s t)) ∧
    (∀ (h : Held) (x : TierStall) (st : Stream), (s.core n).held = some h → h.upto = s.now → (∀ l ∈ s.late, s.now < l.due) →
      (bundleStalls s n s.now h.bundle).wait = false → (bundleStalls s n s.now h.bundle).tier = some x →
      (s.core n).stream x.d = some st → s.fld (F.TIER_BOUND_BOUND n x.bound) ≠ 0 →
      s.fld (F.TIER_BOUND_BOUND n x.bound) ≤ h.tierWaited → s.fld (F.FAULT_REC_VALID n) = 0 →
      Runs (.tierBoundExpiry n) s (fun t => coreRun t n = runFAULT ∧ t.fld (F.FAULT_REC_VALID n) = 1 ∧
        t.fld (F.FAULT_REC_CODE n) = 0x0B ∧ (t.core n).held = none ∧ pcOf t n = pcOf s n ∧
        t.fld (F.TIER_FAIL_COUNT n) = s.sat (F.TIER_FAIL_COUNT n) 1 ∧ t.late = s.late ∧ MemSame s t)) ∧
    (∀ (i : Fin 64) (v : Word), exec (.claimArrival (some (i, .w64, v)) []) s = .next (claimSetWrite s i .w64 v)) ∧
    (∀ (cls : Fin 3), exec (.claimArrival none [.loop cls]) s = exec (.fabClaim (.loop cls)) s)

/-- R209 to R213, R218: LOAD_REQUEST does nothing without a latched trigger or while a load is in progress; with SEQ 0 it takes the
trigger away; a request while a program runs is rejected with a report (code 0x70) and ends. PLAN_LOAD does nothing without a
request in progress; an image that cannot be read is rejected with code 0x05. -/
def Obligations.PlanLoader : Prop :=
  ∀ s : State, s.up = true →
    (s.ldr.latched = false ∨ s.ldr.req.isSome = true → exec .loadRequest s = .next s) ∧
    (s.ldr.latched = true → s.ldr.req = none → (readRequest s).seq = 0 →
      exec .loadRequest s = .next { s with ldr := { s.ldr with latched := false, part := false } }) ∧
    (s.ldr.latched = true → s.ldr.req = none → (readRequest s).seq ≠ 0 → loadBusy s = true →
      exec .loadRequest s = .next (s.after (rejectLoad { s with ldr := { s.ldr with latched := false, part := false } } (readRequest s)
        (ldErr 0x70)))) ∧
    (∀ b, s.ldr.latched = true → s.ldr.req = none → (readRequest s).seq ≠ 0 → loadBusy s = false →
      (readRequest s).image % 64 = 0 → memOk s (readRequest s).image (readRequest s).limit = true →
      (readImage { s with ldr := { s.ldr with latched := false, part := false } } (readRequest s)).1 = some b →
      imgLen b ≤ (readRequest s).limit → chkEarly { s with ldr := { s.ldr with latched := false, part := false } } b = none →
      Runs .loadRequest s (fun t => t.ldr.req = some (readRequest s) ∧ t.ldr.latched = false ∧ t.ldr.loading = s.ldr.loading ∧
        (∀ i, i < 64 → t.byte (reportAddr + i) =
          (reportBytes (readRequest s).seq rpVERIFYING 0 s.ldr.plan { ldErr 0 with core := 0xFFFF }).getD i 0))) ∧
    (s.ldr.req = none → exec .planLoad s = .next s) ∧
    (∀ r, s.ldr.req = some r → s.ldr.loading = false → (readImage s r).1 = none →
      exec .planLoad s = .next (s.after (rejectLoad (readImage s r).2 r { ldErr 0x05 with detail := 64 }))) ∧
    (∀ r b, s.ldr.req = some r → s.ldr.loading = true → (readImage s r).1 = some b →
      exec .planLoad s = .next (s.after (loadPlan (readImage s r).2 r b)))

/-! ### Tiers and memory controllers -/

/-- R235 to R237, R241, R245, R248, R290, R297, R300: the tier engines. A prefetch takes the next slot and puts its requests in line
at the tile's tier, or finds it DENIED and stops; a tile whose bytes are all there makes its slot READY in the next cycle; one that
a tier reports undeliverable makes it FAILED; the guard's refetch issues 64 cycles after it began; a moss header sends its
confirmations; output tiles are written in order and count in COMP when every write has completed. -/
def Obligations.TierTiles : Prop :=
  ∀ (n : Fin 64) (d : Fin 32) (s : State) (t : Stream), s.up = true → (s.core n).stream d = some t →
    (∀ tile i, t.out = false → t.stopped = false → dTier t.desc ≠ 0 → coreState s n = 1 → nextPrefetch t = some (tile, i) →
      i < t.slots.length →
      (s.now < (t.slots.getD i StgSlot.reset).freeAt → exec (.prefetchIssue n d) s = .next s) ∧
      ((t.slots.getD i StgSlot.reset).freeAt ≤ s.now → tileGranted s n t.desc tile permRD = true →
        Runs (.prefetchIssue n d) s (fun u =>
          (∃ x, slotAt u n d i = some x ∧ x.st = .requested ∧ x.tile = tile ∧ x.issuedAt = s.now ∧
            x.gen = (t.slots.getD i StgSlot.reset).gen + 1) ∧
          (dTier t.desc = 1 → u.mc.wait.map (fun q => q.unit) = s.mc.wait.map (fun q => q.unit) ++ tileUnits t.desc tile) ∧
          (dTier t.desc = 2 → dMoss t.desc = false → u.fl.reqs.map (fun q => q.lunit) =
            s.fl.reqs.map (fun q => q.lunit) ++ ((tileUnits t.desc tile).map fun v => v / 64).eraseDups) ∧
          (dTier t.desc = 3 → ∃ l, u.fab.txs = s.fab.txs ++ l) ∧ RegsExcept [R.PRED_SKIP_BYTES n] s u ∧
          CoresExcept [n.val] s u ∧ MemSame s u)) ∧
      ((t.slots.getD i StgSlot.reset).freeAt ≤ s.now → tileGranted s n t.desc tile permRD = false →
        Runs (.prefetchIssue n d) s (fun u => (∃ x, slotAt u n d i = some x ∧ x.st = .denied) ∧
          (∃ t', (u.core n).stream d = some t' ∧ t'.stopped = true) ∧
          u.fld (F.PREFETCH_STOP_COUNT n) = s.sat (F.PREFETCH_STOP_COUNT n) 1 ∧
          RegsExcept [R.PREFETCH_STOP n] s u ∧ CoresExcept [n.val] s u ∧ MemSame s u))) ∧
    (∀ (i : Fin 64) (x : StgSlot), noneEnded s → i.val < t.slots.length → t.slots.getD i StgSlot.reset = x →
      (x.left = [] → (dMoss t.desc = false ∨ x.hdrIn = true) → x.fkind = 0 →
        (x.st = .requested ∨ (x.st = .stale ∧ x.refetch = true)) →
        Runs (.tileArrive n d i) s (fun u => slotAt u n d i = some
            { x with st := .ready, readyAt := s.now + 1, allData := false, refetch := false, guardAt := none } ∧ RegsExcept [] s u ∧ CoresExcept [n.val] s u ∧ MemSame s u)) ∧
      (x.left ≠ [] → exec (.tileArrive n d i) s = .next s) ∧
      (x.fkind ≠ 0 → (x.st = .requested ∨ x.st = .stale) →
        Runs (.tierTileFail n d i) s (fun u => slotAt u n d i = some { x with st := .failed } ∧
          (∀ a, (∀ c, a ≠ R.MC_CLOSE c) → u.reg a = s.reg a) ∧ CoresExcept [n.val] s u ∧ MemSame s u)) ∧
      (x.fkind = 0 → exec (.tierTileFail n d i) s = .next s) ∧
      (dMoss t.desc = true → dTier t.desc = 1 → x.left = [] → x.hdrIn = false → x.fkind = 0 → x.st = .requested →
        Runs (.mossHeaderArrive n d i) s (fun u =>
          (∃ y, slotAt u n d i = some y ∧ y.hdrIn = true ∧ y.st = .requested ∧
            y.left = (declaredAt (mossBase t.desc x.tile) (mossHeaders s (.flat (t.slotAddr i)))).filter
              (fun v => v != mossBase t.desc x.tile / 256)) ∧
          u.mc.confs.length = s.mc.confs.length + 16 ∧ RegsExcept [R.PRED_HIT n, R.PRED_MISS n] s u ∧
          CoresExcept [n.val] s u ∧ MemSame s u)) ∧
      (dMoss t.desc = false → exec (.mossHeaderArrive n d i) s = .next s)) ∧
    (∀ (h : Held) (i : Nat) (x : StgSlot) (g0 : Nat), (s.core n).held = some h → h.awaited = some (d.val, i) → i < t.slots.length →
      t.slots.getD i StgSlot.reset = x → x.guardAt = some g0 → x.st = .stale → x.refetch = false → g0 + 64 ≤ s.now →
      Runs (.guardRefetch n) s (fun u => (∃ y, slotAt u n d i = some y ∧ y.st = .stale ∧ y.refetch = true ∧ y.gen = x.gen + 1) ∧
        u.fld (F.GUARD_REFETCH_COUNT n) = s.sat (F.GUARD_REFETCH_COUNT n) 1 ∧ CoresExcept [n.val] s u ∧
        MemSame s u)) ∧
    ((s.core n).held = none → exec (.guardRefetch n) s = .next s)

/-- R241, R150, R160: the writes of the next placed output tile of a stream issue once it is visible, a suppressed one issues none;
the oldest tile whose writes have completed leaves and counts in its COMP counter, and a refusal is recorded with the core's
event. -/
def Obligations.OutputTiles : Prop :=
  ∀ (n : Fin 64) (d : Fin 32) (s : State) (o : OutTile), s.up = true →
    ((s.core n).placed.find? (fun q => q.d == d.val && !q.started) = some o →
      (s.now < o.visible → exec (.outputTileWrite n d) s = .next s) ∧
      (o.visible ≤ s.now → o.suppressed = true → Runs (.outputTileWrite n d) s (fun t => t.core n = { s.core n with
        placed := (s.core n).placed.map fun p => if p.openId == o.openId && p.tile == o.tile then { o with started := true } else p } ∧
        t.mc = s.mc ∧ t.fl = s.fl ∧ t.fab = s.fab ∧ RegsExcept [] s t ∧ CoresExcept [n.val] s t ∧ MemSame s t)) ∧
      (o.visible ≤ s.now → o.suppressed = false → dTier o.desc = 1 → Runs (.outputTileWrite n d) s (fun t =>
        t.mc.wait.map (fun q => (q.unit, q.wr)) = s.mc.wait.map (fun q => (q.unit, q.wr)) ++
          (segUnits (outSegments s o)).map (fun u => (u, unitSegs (outSegments s o) u)) ∧
        RegsExcept [] s t ∧ CoresExcept [n.val] s t ∧ MemSame s t)) ∧
      (o.visible ≤ s.now → o.suppressed = false → dTier o.desc = 2 → Runs (.outputTileWrite n d) s (fun t =>
        t.fl.reqs.map (fun q => q.wr) = s.fl.reqs.map (fun q => q.wr) ++ [outSegments s o] ∧
        RegsExcept [] s t ∧ CoresExcept [n.val] s t ∧ MemSame s t))) ∧
    ((s.core n).placed.find? (fun q => q.d == d.val) = some o → noneEnded s → coreState s n ≠ 2 →
      (o.started = false ∨ o.left ≠ [] → exec (.outputTileComplete n d) s = .next s) ∧
      (o.started = true → o.left = [] →
        Runs (.outputTileComplete n d) s (fun t =>
          (t.core n).placed = (s.core n).placed.filter (fun p => !(p.openId == o.openId && p.tile == o.tile)) ∧
          t.fld (F.COMP_COUNT n o.ctr) = (s.fld (F.COMP_COUNT n o.ctr) + 1) % 2 ^ 32 ∧
          (o.refused = none → RegsExcept [R.COMP n o.ctr] s t) ∧
          (∀ k st, o.refused = some (k, st) →
            t.fld (F.TIER_ERR_COUNT_COUNT n) = s.sat (F.TIER_ERR_COUNT_COUNT n) 1 ∧
            t.fld (F.TIER_ERR_VALID n) = 1 ∧ t.fld (rawFld n) = 1) ∧ CoresExcept [n.val] s t ∧ MemSame s t)))

/-- R243, R258 to R261, R290, R297, R443: a memory controller grants its next waiting request a tracker, serves a request (the bytes
of its unit are read, or written), fills its check-bit cache, and completes a read: the bytes are delivered to the tile's slot,
corrected words are counted, an uncorrectable unit is poisoned, recorded and reported; an uncorrectable check burst makes all 32
words uncorrectable. A closing controller refuses, and a request above the usable range is undeliverable (R265). -/
def Obligations.MemoryControllers : Prop :=
  ∀ (c : Fin 16) (s : State), s.up = true →
    (mcState s c = 0 → exec (.trackerGrant c) s = .next s) ∧
    (∀ q, mcState s c = 1 → mcNext s c = some q → exec (.trackerGrant c) s = .next { s with
      mc := { s.mc with wait := s.mc.wait.erase q, reqs := s.mc.reqs ++ [q],
                        rr := put (fun _ => 0) s.mc.rr (c * 4 + mcPrio s q) ((q.tag.n + 1) % 64) } }) ∧
    (∀ q, mcState s c = 2 → s.mc.wait.find? (fun r => r.c == c.val) = some q → Runs (.trackerGrant c) s (fun t =>
      t.mc.wait = s.mc.wait.erase q ∧ t.mc.reqs = s.mc.reqs ∧
      t.fld (F.MC_CLOSE_ABANDONED c) = s.sat (F.MC_CLOSE_ABANDONED c) 1 ∧
      RegsExcept [R.MC_CLOSE c] s t ∧ MemSame s t)) ∧
    (∀ (id : Nat) (q : McReq), s.mc.reqs.find? (fun r => r.id == id) = some q → q.c = c →
      (q.st = .queued → mcBehind s q = false → ¬ (q.skip = true ∧ q.conf = 2) →
        (usableEnd s ≤ 256 * q.unit → Runs (.mcRequestService id) s (fun t => (∀ r ∈ t.mc.reqs, r.id ≠ id) ∧
          RegsExcept [R.MC_CLOSE c] s t ∧ MemSame s t)) ∧
        (q.wr = [] → 256 * q.unit < usableEnd s → Runs (.mcRequestService id) s (fun t =>
          (∃ r ∈ t.mc.reqs, r.id = id ∧ r.st = .data (s.readBytes (.flat (256 * q.unit)) 256) (cbcHas s c (cbcLine s q.unit))) ∧
          RegsExcept [R.CBC_HIT c, R.CBC_MISS c] s t ∧ MemSame s t)) ∧
        (∀ off bs, q.wr = [(off, bs)] → off + bs.length ≤ 256 → 256 * q.unit < usableEnd s → Runs (.mcRequestService id) s (fun t =>
          (∀ i, i < bs.length → t.byte (256 * q.unit + off + i) = bs.getD i 0) ∧
          (∀ a, a < 256 * q.unit + off ∨ 256 * q.unit + off + bs.length ≤ a → t.byte a = s.byte a) ∧
          (∀ r ∈ t.mc.reqs, r.id ≠ id) ∧ (bs.length = 256 → t.poisoned q.unit = false) ∧
          RegsExcept [R.CBC_HIT c, R.CBC_MISS c, R.MC_CLOSE c] s t))) ∧
      (q.st = .queued → mcBehind s q = false → q.skip = true → q.conf = 2 → Runs (.mcRequestService id) s (fun t =>
        (∀ r ∈ t.mc.reqs, r.id ≠ id) ∧
        t.fld (F.MC_SKIP_SAVED_COUNT c) = s.sat (F.MC_SKIP_SAVED_COUNT c) 256 ∧ MemSame s t)) ∧
      (q.st = .queued → mcBehind s q = true → exec (.mcRequestService id) s = .next s) ∧
      (∀ bs (p : Stream × StgSlot), q.st = .data bs true → (q.hold = false ∨ q.conf = 1) → mcOf q.unit = c →
        tagSlot s q.tag = some p →
        (s.poisoned q.unit = false → Runs (.mcReadComplete id .clean) s (fun t => (∀ r ∈ t.mc.reqs, r.id ≠ id) ∧
          slotAt t q.tag.n q.tag.d q.tag.slot = (if q.tag.slot < p.1.slots.length then some { p.2 with left := p.2.left.erase q.unit }
            else slotAt s q.tag.n q.tag.d q.tag.slot) ∧
          RegsExcept [R.MC_CLOSE c] s t)) ∧
        (∀ k, s.poisoned q.unit = false → 0 < k → Runs (.mcReadComplete id (.corrected k)) s (fun t => (∀ r ∈ t.mc.reqs, r.id ≠ id) ∧
          t.fld (F.MC_CE_COUNT_COUNT c) = s.sat (F.MC_CE_COUNT_COUNT c) k)) ∧
        (∀ k, s.poisoned q.unit = false → 0 < k → Runs (.mcReadComplete id (.uncorr k)) s (fun t => (∀ r ∈ t.mc.reqs, r.id ≠ id) ∧
          t.fld (F.MC_UE_COUNT_COUNT c) = s.sat (F.MC_UE_COUNT_COUNT c) k ∧ t.poisoned q.unit = true ∧
          t.fld (F.MC_ERR_LAST_VALID c) = 1 ∧ t.fld (F.SPARE_STATUS_CAND c) = 1 ∧ t.fld (rawFld (88 + c)) = 1 ∧ MemSame s t)) ∧
        (s.poisoned q.unit = false → Runs (.mcReadComplete id .checkBurst) s (fun t => (∀ r ∈ t.mc.reqs, r.id ≠ id) ∧
          t.fld (F.MC_UE_COUNT_COUNT c) = s.sat (F.MC_UE_COUNT_COUNT c) 32 ∧ t.poisoned q.unit = true ∧ MemSame s t)))) ∧
    (∀ line, (∃ q ∈ s.mc.reqs, q.c = c.val ∧ cbcLine s q.unit = line ∧ ∃ b, q.st = .data b false) →
      Runs (.checkbitFill c line) s (fun t => cbcHas t c line = true ∧
        (∀ q ∈ t.mc.reqs, q.c = c.val → cbcLine s q.unit = line → ∀ b, q.st ≠ .data b false) ∧ RegsExcept [] s t ∧ MemSame s t)) ∧
    (∀ line, (∀ q ∈ s.mc.reqs, q.c = c.val → cbcLine s q.unit = line → ∀ b, q.st ≠ .data b false) →
      exec (.checkbitFill c line) s = .next s) ∧
    (∀ (n : Fin 64) (d : Fin 32) (i : Fin 64) (k : Confirm),
      s.mc.confs.find? (fun e => e.c == c.val && e.tag.n == n.val && e.tag.d == d.val && e.tag.slot == i.val) = some k →
      Runs (.mossConfirmArrive c n d i) s (fun t => t.mc.confs = s.mc.confs.erase k ∧
        (∀ q ∈ t.mc.reqs, q.c = c.val → q.tag = k.tag → q.hold = true →
          (q.conf = 1 ∧ q.unit ∈ k.units) ∨ (q.conf = 2 ∧ q.unit ∉ k.units ∧ q.skip = true ∧ q.st = .queued)) ∧
        (∀ a, (∀ j, a ≠ R.MC_CLOSE j) → t.reg a = s.reg a) ∧ CoresExcept [] s t ∧ MemSame s t))

/-- R254, R262 to R267: refreshes and ZQ calibrations change no data; training reports its result while the controller is OFF; a
scrub read advances the scrub position and repairs or poisons the unit; a spare-in takes a spare row of the bank and, done, remaps
the row; a retirement starts in reserve mode with every core OFF, and ends DONE with the controller's event. -/
def Obligations.MemoryMaintenance : Prop :=
  ∀ (c : Fin 16) (s : State), s.up = true →
    exec (.bankRefresh c) s = .next { s with mc := { s.mc with
      refreshes := put (fun _ => 0) s.mc.refreshes c (look (fun _ => 0) s.mc.refreshes c + 1) } } ∧
    exec (.zqCalibration c) s = .next { s with mc := { s.mc with zq := put (fun _ => 0) s.mc.zq c (look (fun _ => 0) s.mc.zq c + 1) } } ∧
    (∀ good, exec (.mcTraining c good) s = .next
      (if mcState s c = 0 then s.setFld (F.MC_STATUS_TRAINED c) (if good = BitVec.allOnes 16 then 1 else 0) else s)) ∧
    (∀ o, mcState s c ≠ 1 ∨ s.fld (F.SCRUB_CTRL_EN c) = 0 → exec (.scrubRead c o) s = .next s) ∧
    (mcState s c = 1 → s.fld (F.SCRUB_CTRL_EN c) = 1 → arbIdle s → s.fld (F.SCRUB_STATUS_UNIT c) + 1 < unitsPerSub →
      Runs (.scrubRead c .clean) s (fun t => t.fld (F.SCRUB_STATUS_UNIT c) = s.fld (F.SCRUB_STATUS_UNIT c) + 1 ∧ t.arb = s.arb ∧
        t.mc = s.mc ∧ RegsExcept [R.SCRUB_STATUS c] s t ∧ CoresExcept [] s t ∧ MemSame s t) ∧
      (∀ k, 0 < k → s.poisoned (unitAt c (s.fld (F.SCRUB_STATUS_SUBCH c)) (s.fld (F.SCRUB_STATUS_UNIT c))) = false →
        mcOf (unitAt c (s.fld (F.SCRUB_STATUS_SUBCH c)) (s.fld (F.SCRUB_STATUS_UNIT c))) = c →
        Runs (.scrubRead c (.uncorr k)) s (fun t =>
          t.poisoned (unitAt c (s.fld (F.SCRUB_STATUS_SUBCH c)) (s.fld (F.SCRUB_STATUS_UNIT c))) = true ∧
          t.fld (F.MC_UE_COUNT_COUNT c) = s.sat (F.MC_UE_COUNT_COUNT c) k ∧ MemSame s t))) ∧
    (∀ v : Word, s.fld (F.SPARE_CMD_GO c) = 0 → (s.writeByType (R.SPARE_CMD c) .w64 v).flag (F.SPARE_CMD_GO c) = true → arbIdle s →
      let b := bankKey c (((s.writeByType (R.SPARE_CMD c) .w64 v)).fld (F.SPARE_CMD_SUBCH c))
        (((s.writeByType (R.SPARE_CMD c) .w64 v)).fld (F.SPARE_CMD_BANK c))
      (look (fun _ => 0) s.mc.used b < 32 → Runs (.spareCmdGo c .w64 v) s (fun t => t.fld (F.SPARE_STATUS_BUSY c) = 1 ∧
        t.fld (F.SPARE_STATUS_RESULT c) = 0 ∧ t.fld (F.SPARE_CMD_GO c) = 1 ∧ t.arb.run = [spareAct t c] ∧
        RegsExcept [R.SPARE_CMD c, R.SPARE_STATUS c] s t ∧ MemSame s t)) ∧
      (32 ≤ look (fun _ => 0) s.mc.used b → Runs (.spareCmdGo c .w64 v) s (fun t => t.fld (F.SPARE_STATUS_RESULT c) = 2 ∧
        t.fld (F.SPARE_CMD_GO c) = 0 ∧ t.arb = s.arb ∧ RegsExcept [R.SPARE_CMD c, R.SPARE_STATUS c] s t ∧ MemSame s t))) ∧
    (s.fld (F.SPARE_CMD_GO c) = 0 ∨ s.fld (F.SPARE_STATUS_BUSY c) = 0 → ∀ bad, exec (.spareCopyDone c bad) s = .next s) ∧
    (s.fld (F.SPARE_CMD_GO c) = 1 → s.fld (F.SPARE_STATUS_BUSY c) = 1 →
      let b := bankKey c (s.fld (F.SPARE_CMD_SUBCH c)) (s.fld (F.SPARE_CMD_BANK c))
      let k := look (fun _ => 0) s.mc.used b + 1
      Runs (.spareCopyDone c []) s (fun t => t.fld (F.SPARE_CMD_GO c) = 0 ∧ t.fld (F.SPARE_STATUS_BUSY c) = 0 ∧
        t.fld (F.SPARE_STATUS_RESULT c) = 1 ∧ look (fun _ => 0) t.mc.used b = k ∧
        look (fun _ => 0) t.mc.remap (rowKey c (s.fld (F.SPARE_CMD_SUBCH c)) (s.fld (F.SPARE_CMD_BANK c)) (s.fld (F.SPARE_CMD_ROW c))) = k ∧
        t.arb.run = s.arb.run.erase (spareAct s c) ∧ RegsExcept [R.SPARE_CMD c, R.SPARE_STATUS c] s t ∧ MemSame s t)) ∧
    (∀ v : Word, (s.writeByType (R.RETIRE_CMD c) .w64 v).flag (F.RETIRE_CMD_GO c) = true →
      ((∃ n : Fin 64, coreState s n ≠ 0) ∨ s.fld (F.RETIRE_STATUS_STATE c) ≠ 0 ∨ cxlAbove s = true →
        Runs (.retireCmdGo c .w64 v) s (fun t => t.fld (F.RETIRE_STATUS_RET_ERR c) = 1 ∧ t.fld (F.RETIRE_CMD_GO c) = 0 ∧
          t.fld (F.RETIRE_STATUS_STATE c) = s.fld (F.RETIRE_STATUS_STATE c) ∧ RegsExcept [R.RETIRE_CMD c, R.RETIRE_STATUS c] s t ∧ MemSame s t)) ∧
      ((∀ n : Fin 64, coreState s n = 0) → s.fld (F.RETIRE_STATUS_STATE c) = 0 → cxlAbove s = false → arbIdle s →
        Runs (.retireCmdGo c .w64 v) s (fun t => t.fld (F.RETIRE_STATUS_STATE c) = 1 ∧ t.fld (F.RETIRE_STATUS_PTR c) = 0 ∧
          t.fld (F.RETIRE_CMD_GO c) = 0 ∧ (∀ k : Fin 16, t.fld (F.MC_STATUS_RESERVE k) = 1) ∧ t.arb.run = [⟨2, c⟩] ∧
          (∀ a, a < reserveEnd ∨ lpddrEnd ≤ a → t.byte a = s.byte a)))) ∧
    (s.fld (F.RETIRE_STATUS_STATE c) ≠ 1 → ∀ bad, exec (.retireCopyDone c bad) s = .next s) ∧
    (s.fld (F.RETIRE_STATUS_STATE c) = 1 → s.arb.wait.contains ⟨2, c⟩ = false →
      Runs (.retireCopyDone c []) s (fun t => t.fld (F.RETIRE_STATUS_STATE c) = 2 ∧ t.fld (F.RETIRE_STATUS_PTR c) = reserveL ∧
        t.fld (rawFld (88 + c)) = 1 ∧ t.arb.run = s.arb.run.erase ⟨2, c⟩ ∧ MemSame s t))

/-- R268, R270 to R277, R499: the flash controller. The map is ready with the geometry the packages report; a request takes a
tracker, or a write is refused by its region or its budget; a read ends delivered or, uncorrectable, is recorded and fails until
written; a write ends programmed, and a spill write is debited; credit arrives up to the ceiling; maintenance of a die runs under
the arbiter; a bad block takes a spare, and an empty pool makes its region read-only. -/
def Obligations.FlashController : Prop :=
  ∀ s : State, s.up = true →
    (∀ (geom : Word) (dies : List Word), dies.length ≤ 128 →
      (flState s = 1 → s.fld F.FL_STATUS_MAP_READY = 0 →
        Runs (.flashMapLoadDone geom dies) s (fun t => t.fld F.FL_STATUS_MAP_READY = 1 ∧ t.reg R.FL_GEOM = geom ∧
          (∀ i : Fin 128, t.reg (R.FL_DIE i) = dies.getD i.val (s.reg (R.FL_DIE i))) ∧ MemSame s t ∧ CoresExcept [] s t)) ∧
      (flState s ≠ 1 ∨ s.fld F.FL_STATUS_MAP_READY = 1 → exec (.flashMapLoadDone geom dies) s = .next s)) ∧
    (∀ (id : Nat) (q : FlReq), s.fl.reqs.find? (fun r => r.id == id && !r.arrived) = some q → flState s = 1 →
      (s.fl.reqs.filter fun r => r.arrived).length < 512 →
      let took : State := { s with fl := { s.fl with reqs := s.fl.reqs.map fun r => if r.id == id then { r with arrived := true } else r } }
      (q.wr = [] → exec (.flashRequest id) s = .next took) ∧
      (q.wr ≠ [] → flReadOnly s q.addr = false → (flashRegion q.addr ≠ some 0 ∨ 16384 ≤ spillBal s) →
        exec (.flashRequest id) s = .next took) ∧
      (q.wr ≠ [] → flReadOnly s q.addr = true → Runs (.flashRequest id) s (fun t => (∀ r ∈ t.fl.reqs, r.id ≠ id) ∧
        RegsExcept [R.FL_CLOSE] s t ∧ MemSame s t)) ∧
      (q.wr ≠ [] → flReadOnly s q.addr = false → flashRegion q.addr = some 0 → spillBal s < 16384 →
        Runs (.flashRequest id) s (fun t => (∀ r ∈ t.fl.reqs, r.id ≠ id) ∧ t.fl.refused = true ∧
          t.fld F.SPILL_REFUSED_COUNT = s.sat F.SPILL_REFUSED_COUNT 1 ∧
          (s.fl.refused = false → t.fld (rawFld 122) = 1) ∧ MemSame s t))) ∧
    (∀ (id retries : Nat) (q : FlReq) (p : Stream × StgSlot),
      s.fl.reqs.find? (fun r => r.id == id && r.arrived && r.wr.isEmpty) = some q → s.fld F.FL_STATUS_MAP_READY = 1 →
      tagSlot s q.tag = some p → q.tag.slot < p.1.slots.length → q.units ≠ [] →
      (flBad s q.lunit = false → Runs (.flashReadComplete id retries false) s (fun t => (∀ r ∈ t.fl.reqs, r.id ≠ id) ∧
        slotAt t q.tag.n q.tag.d q.tag.slot = some { p.2 with left := p.2.left.erase q.lunit } ∧
        t.fld F.FL_RETRY_COUNT = s.sat F.FL_RETRY_COUNT (min 9 retries) ∧ RegsExcept [R.FL_CLOSE, R.FL_RETRY] s t)) ∧
      Runs (.flashReadComplete id retries true) s (fun t => (∀ r ∈ t.fl.reqs, r.id ≠ id) ∧ flBad t q.lunit = true ∧
        t.fld F.FL_UE_COUNT = s.sat F.FL_UE_COUNT 1 ∧ t.fld F.FL_ERR_LAST_VALID = 1 ∧ t.fld (rawFld 120) = 1 ∧
        (p.2.fkind = 0 → slotAt t q.tag.n q.tag.d q.tag.slot = some { p.2 with fkind := 1, fstatus := 0 }) ∧ MemSame s t)) ∧
    (∀ (id a : Nat) (bs : List Byte) (q : FlReq), s.fl.reqs.find? (fun r => r.id == id && r.arrived && !r.wr.isEmpty) = some q →
      s.fld F.FL_STATUS_MAP_READY = 1 → q.wr = [(a, bs)] → flashBase ≤ a → a + bs.length ≤ flashEnd →
      Runs (.flashWriteComplete id) s (fun t => (∀ i, i < bs.length → t.byte (a + i) = bs.getD i 0) ∧
        (∀ b, b < a ∨ a + bs.length ≤ b → t.byte b = s.byte b) ∧ (∀ r ∈ t.fl.reqs, r.id ≠ id) ∧
        (flashRegion a = some 0 → t.reg R.SPILL_BALANCE = BitVec.ofInt 64 (spillBal s - (bs.length : Int))) ∧
        RegsExcept [R.SPILL_BALANCE, R.FL_CLOSE] s t)) ∧
    (flState s = 0 → exec .spillCredit s = .next s) ∧
    (flState s ≠ 0 → Runs .spillCredit s (fun t => t.fl.frac = (s.fl.frac + s.fld F.SPILL_RATE_RATE) % 1000000 ∧
      t.reg R.SPILL_BALANCE = BitVec.ofInt 64 (max (spillBal s)
        (min (spillBal s + (((s.fl.frac + s.fld F.SPILL_RATE_RATE) / 1000000 : Nat) : Int)) (s.fld F.SPILL_BURST_BURST))) ∧
      RegsExcept [R.SPILL_BALANCE] s t ∧ MemSame s t)) ∧
    (∀ v : Word, exec (.spillRateWrite .w64 v) s = .next { s.setReg R.SPILL_RATE (BitVec.ofNat 64 (min 800000000 v.toNat)) with reply := .ok }) ∧
    (∀ v : Word, Runs (.spillBurstWrite .w64 v) s (fun t => t.reg R.SPILL_BURST = BitVec.ofNat 64 (min 0x40000000000 v.toNat) ∧
      t.reg R.SPILL_BALANCE = (if ((min 0x40000000000 v.toNat : Nat) : Int) < spillBal s then BitVec.ofNat 64 (min 0x40000000000 v.toNat)
        else s.reg R.SPILL_BALANCE) ∧ RegsExcept [R.SPILL_BURST, R.SPILL_BALANCE] s t ∧ MemSame s t)) ∧
    (∀ (die : Fin 128) (units : Nat) (pe : BitVec 32), arbIdle s →
      Runs (.garbageCollect die true units pe) s (fun t => t.arb = s.arb ∧ t.fld (F.FL_DIE_PE_MAX die) = bitsOf pe.toNat 31 16 ∧
        t.fld (F.FL_DIE_PE_MIN die) = bitsOf pe.toNat 15 0 ∧ t.fld (rawFld 123) = 1 ∧ t.reg R.SPILL_BALANCE = s.reg R.SPILL_BALANCE ∧
        MemSame s t) ∧
      Runs (.wearLevelRelocate die false units pe) s (fun t => t.arb = s.arb ∧ t.fld (F.FL_DIE_PE_MAX die) = bitsOf pe.toNat 31 16 ∧
        t.reg R.SPILL_BALANCE = BitVec.ofInt 64 (spillBal s - ((16384 * units : Nat) : Int)) ∧ t.fld (rawFld 123) = 1 ∧ MemSame s t) ∧
      Runs (.readDisturbRelocate die true units pe) s (fun t => t.arb = s.arb ∧
        t.fld F.FL_RELOC_COUNT = s.sat F.FL_RELOC_COUNT 1 ∧ t.fld (rawFld 123) = 1 ∧ MemSame s t)) ∧
    (∀ (die : Fin 128) (units : Nat),
      (s.fld (F.FL_DIE_SPARE_BULK die) = 0 → Runs (.grownBadBlock die true units) s (fun t => t.fld F.FL_STATUS_BULK_RO = 1 ∧
        t.fld (rawFld 121) = 1 ∧ t.fld (rawFld 123) = 1 ∧ MemSame s t)) ∧
      (s.fld (F.FL_DIE_SPARE_BULK die) ≠ 0 → Runs (.grownBadBlock die true units) s (fun t =>
        t.fld (F.FL_DIE_SPARE_BULK die) = s.fld (F.FL_DIE_SPARE_BULK die) - 1 ∧
        t.fld F.FL_GROWN_BAD_COUNT = s.sat F.FL_GROWN_BAD_COUNT 1 ∧
        (s.fld (F.FL_DIE_SPARE_BULK die) ≤ 5 → t.fld (F.FL_DIE_STATE die) = 2) ∧ MemSame s t)))


/-! ### Update units and attention engines -/

/-- R24, R303, R309, R311 to R316, R321: the update units. A doorbell adds to TAIL or sets RING_ERR; UPD_RING is taken while OFF
only. UPDATE writes every parameter the unit owns and the group's step (shown for one owned parameter, of rules 1 to 3); an UPDATE
of the wrong step or of a mirrored step waits or fails; FSTAT forms the partial sums; GACC adds to the accumulator; a command of an
unknown group is BAD_CMD; completion writes STATUS, sends NOTIFY and moves HEAD; the release of a held command runs it. -/
def Obligations.UpdateUnits : Prop :=
  ∀ (c : Fin 16) (s : State), s.up = true →
    let r := updNext s c
    (∀ k : BitVec 32, exec (.updDoor c k) s = .next { (if 2 ^ updLog s c < ringUsed (updHead s c) (updTail s c) + k.toNat then
      s.setFld (F.UPD_STATUS_RING_ERR c) 1 else s.setFld (F.UPD_PTR_TAIL c) ((updTail s c + k.toNat) % 2 ^ 32)) with reply := .ok }) ∧
    (∀ v : Word, (updState s c ≠ 0 → exec (.updRingWrite c .w64 v) s = .next { s with reply := .ok }) ∧
      (updState s c = 0 → Runs (.updRingWrite c .w64 v) s (fun t => t.fld (F.UPD_RING_LOG2N c) = getBits v 51 48 ∧
        t.fld (F.UPD_RING_BASE c) = getBits v 47 6 * 64 ∧ t.reg (R.UPD_PTR c) = 0#64 ∧ t.reply = .ok ∧
        RegsExcept [R.UPD_RING c, R.UPD_PTR c] s t ∧ CoresExcept [] s t ∧ MemSame s t))) ∧
    (¬ updDue s c → ∀ bad, exec (.update c bad) s = .next s ∧ exec (.fstat c bad) s = .next s ∧ exec (.gacc c bad) s = .next s) ∧
    ((r.op = 2 ∨ r.op = 3) → ∀ bad, exec (.update c bad) s = .next s) ∧
    (updDue s c → updGroup s c r = none →
      let P (t : State) : Prop := (updOf t c).cur = some ⟨r, none, 3⟩ ∧ t.fld (F.UPD_STATUS_BUSY c) = 1 ∧
        RegsExcept [R.UPD_STATUS c] s t ∧ CoresExcept [] s t ∧ MemSame s t
      (r.op ≠ 2 → r.op ≠ 3 → Runs (.update c []) s P) ∧ (r.op = 2 → Runs (.fstat c []) s P) ∧ (r.op = 3 → Runs (.gacc c []) s P)) ∧
    (∀ g i, updDue s c → updGroup s c r = some g →
      (r.op = 1 → mirrorHolds s r.step = true → Runs (.update c []) s (fun t => (updOf t c).cur = some ⟨r, some s.now, 0⟩ ∧
        t.fld (F.UPD_STATUS_HOLDING c) = 1 ∧ t.fld (F.MIRROR_HOLD_HOLDS c) = s.sat (F.MIRROR_HOLD_HOLDS c) 1 ∧
        RegsExcept [R.UPD_STATUS c, R.MIRROR_HOLD c] s t ∧ CoresExcept [] s t ∧ MemSame s t)) ∧
      (r.op = 1 → mirrorHolds s r.step = false → (r.step = 0 ∨ r.step ≠ s.readLE (.flat g.hdr) 8 + 1) →
        Runs (.update c []) s (fun t => (updOf t c).cur = some ⟨r, none, 2⟩ ∧ RegsExcept [R.UPD_STATUS c] s t ∧ MemSame s t)) ∧
      (r.op = 1 → mirrorHolds s r.step = false → r.step ≠ 0 → r.step = s.readLE (.flat g.hdr) 8 + 1 → g.rule ≠ 4 →
        updOwned g c = [i] → (∀ x ∈ updReads g r i, poisonedUnits s x.1 x.2 = []) →
        Apart (spans (updParam s g r r.coef ⟨[], [], XVal.one⟩ i).1 ++ [(g.hdr, 8)]) →
        Runs (.update c []) s (fun t => ParamUpdated c g r i s t ∧
          RegsExcept [R.UPD_STATUS c, R.UPD_PARAMS c, R.UPD_NONFINITE c] s t)) ∧
      (r.op = 2 → updOwned g c = [i] → poisonedUnits s (gradRange g r i).1 (gradRange g r i).2 = [] → i < g.rows * g.cols →
        Apart [gradRange g r i, (partialAt g c 0, 12 * (g.rows + g.cols))] →
        let sum := ((L96.dec 0#96).add (Tot.ofX (lAdd (lMul (updGrad s g r i) (updGrad s g r i)) (d32 r.eps)) false)).enc.toNat
        Runs (.fstat c []) s (fun t => (updOf t c).cur = some ⟨r, none, 1⟩ ∧
          (∀ k, k < g.rows + g.cols → Bytes t (partialAt g c k)
            (if k = i / g.cols ∨ k = g.rows + i % g.cols then leBytes 12 sum else leBytes 12 0)) ∧
          MemExcept [(partialAt g c 0, 12 * (g.rows + g.cols))] s t ∧ RegsExcept [R.UPD_STATUS c, R.UPD_NONFINITE c] s t)) ∧
      (r.op = 3 → updOwned g c = [i] → poisonedUnits s (g.gaccum + 12 * i) 12 = [] → poisonedUnits s (r.src + 2 * i) 2 = [] →
        let p := (d32 r.gscale).mul (rdBF16 s (r.src + 2 * i))
        Runs (.gacc c []) s (fun t => (updOf t c).cur = some ⟨r, none, 1⟩ ∧
          Bytes t (g.gaccum + 12 * i) (leBytes 12 ((L96.dec (rdL96 s (g.gaccum + 12 * i))).add (Tot.ofX p.1 p.2)).enc.toNat) ∧
          MemExcept [(g.gaccum + 12 * i, 12)] s t ∧ t.fld (F.UPD_PARAMS_COUNT c) = s.sat (F.UPD_PARAMS_COUNT c) 1 ∧
          RegsExcept [R.UPD_STATUS c, R.UPD_PARAMS c, R.UPD_NONFINITE c] s t))) ∧
    (∀ q st, (updOf s c).cur = some ⟨q, none, st⟩ → Runs (.updCommandComplete c) s (fun t => (updOf t c).cur = none ∧
      t.byte (q.addr + 60) = BitVec.ofNat 8 st ∧ MemExcept [(q.addr + 60, 1)] s t ∧ Notified q.notify q.nval s t ∧
      t.fld (F.UPD_PTR_HEAD c) = (updHead s c + 1) % 2 ^ 32 ∧ t.fld (F.UPD_STATUS_BUSY c) = 0 ∧
      (updState s c = 2 → t.fld (F.UPD_CLOSE_DONE c) = s.sat (F.UPD_CLOSE_DONE c) 1) ∧
      ((st % 128 = 2 ∨ st % 128 = 4) → jrnOpen s = true → (t.fld F.JRN_STATUS_FLAGS).testBit 0 = true) ∧
      RegsExcept [R.UPD_PTR c, R.UPD_STATUS c, R.UPD_CLOSE c, R.JRN_STATUS] s t)) ∧
    (∀ q t0 x, (updOf s c).cur = some ⟨q, some t0, x⟩ → (mirrorHolds s q.step = true → exec (.mirrorHoldRelease c) s = .next s) ∧
      (∀ g i, mirrorHolds s q.step = false → updGroup s c q = some g → q.op = 1 → q.step ≠ 0 →
        q.step = s.readLE (.flat g.hdr) 8 + 1 → g.rule ≠ 4 → updOwned g c = [i] →
        (∀ x ∈ updReads g q i, poisonedUnits s x.1 x.2 = []) →
        Apart (spans (updParam s g q q.coef ⟨[], [], XVal.one⟩ i).1 ++ [(g.hdr, 8)]) →
        Runs (.mirrorHoldRelease c) s (fun t => ParamUpdated c g q i s t ∧ t.fld (F.UPD_STATUS_HOLDING c) = 0 ∧
          t.fld (F.MIRROR_HOLD_CYCLES c) = s.sat (F.MIRROR_HOLD_CYCLES c) ((s.now - t0) * 8 / 7)))) ∧
    ((∀ q t0 x, (updOf s c).cur ≠ some ⟨q, some t0, x⟩) → exec (.mirrorHoldRelease c) s = .next s) ∧
    ((∀ q x, (updOf s c).cur ≠ some ⟨q, none, x⟩) → exec (.updCommandComplete c) s = .next s)

/-- R347 to R350, R362: doorbells, configuration and commits of an attention engine. The commit at the head applies when its
operation is the one named, its condition holds and no step is in progress: its entry, LEN or table, GEN, the releases, STATUS,
NOTIFY and HEAD. One whose condition fails changes no table, LEN or GEN; one of a sequence that a step holds waits. -/
def Obligations.AttentionCommits : Prop :=
  ∀ (q : Fin 16) (s : State), s.up = true →
    let r := commitRecord s q
    let relAt := s.fld (F.ATT_RRING_BASE q) + 8 * (s.fld (F.ATT_RPTR_REL_TAIL q) % 2 ^ relLog s q)
    let row (op : Nat) : Instr := if op = 1 then .setLeaf q else if op = 2 then .setPage q else if op = 3 then .freePage q else
      if op = 4 then .freeLeaf q else if op = 5 then .setLen q else .resetSeq q
    (∀ k : BitVec 32, exec (.attSdoor q k) s = .next { (if 2 ^ s.fld (F.ATT_SRING_LOG2N q) <
        ringUsed (s.fld (F.ATT_SPTR_HEAD q)) (s.fld (F.ATT_SPTR_TAIL q)) + k.toNat then s.setFld (F.ATT_STATUS_S_RING_ERR q) 1
      else s.setFld (F.ATT_SPTR_TAIL q) ((s.fld (F.ATT_SPTR_TAIL q) + k.toNat) % 2 ^ 32)) with reply := .ok }) ∧
    (∀ k : BitVec 32, exec (.attCdoor q k) s = .next { (if 2 ^ s.fld (F.ATT_CRING_LOG2N q) <
        ringUsed (s.fld (F.ATT_CPTR_HEAD q)) (s.fld (F.ATT_CPTR_TAIL q)) + k.toNat then s.setFld (F.ATT_STATUS_C_RING_ERR q) 1
      else s.setFld (F.ATT_CPTR_TAIL q) ((s.fld (F.ATT_CPTR_TAIL q) + k.toNat) % 2 ^ 32)) with reply := .ok }) ∧
    (∀ v : Word, (attState s q ≠ 0 → ∀ off, attConfigOff off = true → ∀ sz,
        exec (.attConfigWrite q off sz v) s = .next { s.setFld (F.ATT_STATUS_CONF_ERR q) 1 with reply := .ok }) ∧
      (attState s q = 0 → Runs (.attConfigWrite q 0x10 .w64 v) s (fun t => t.reg (R.ATT_FERN q) =
          BitVec.ofNat 64 (getBits v 47 15 * 2 ^ 15) ∧ RegsExcept [R.ATT_FERN q] s t ∧ t.reply = .ok ∧ MemSame s t) ∧
        Runs (.attConfigWrite q 0x08 .w64 v) s (fun t => attD t q = 64 * 2 ^ getBits v 32 31 ∧ attHkv t q = getBits v 26 22 ∧
          attH t q = getBits v 21 15 ∧ t.fld (F.ATT_CONF_FERN_KIB q) = getBits v 14 0 ∧
          RegsExcept [R.ATT_CONF q] s t ∧ t.reply = .ok ∧ MemSame s t))) ∧
    (∀ op, 1 ≤ op → op ≤ 6 → (attState s q ≠ 1 ∨ s.fld (F.ATT_CPTR_HEAD q) = s.fld (F.ATT_CPTR_TAIL q) ∨
        (r.op ≠ op ∧ 1 ≤ r.op ∧ r.op ≤ 6)) → exec (row op) s = .next s) ∧
    (∀ op, 1 ≤ op → op ≤ 6 → r.op = op → attState s q = 1 → s.fld (F.ATT_CPTR_HEAD q) ≠ s.fld (F.ATT_CPTR_TAIL q) →
      attHeld s q r.sid = true → (attOf s q).waitFrom = none → Runs (row op) s (fun t => (attOf t q).waitFrom = some s.now ∧
        t.fld (F.ATT_STATUS_COMMIT_WAITING q) = 1 ∧ RegsExcept [R.ATT_STATUS q] s t ∧ MemSame s t ∧ CoresExcept [] s t)) ∧
    (commitDue s q →
      (∀ op, 1 ≤ op → op ≤ 6 → (r.op = op ∨ r.op = 0 ∨ 6 < r.op) → commitOk s q r = false → Runs (row op) s (fun t =>
        CommitEnds q r s t ∧ MemExcept [(r.addr + 28, 1)] s t ∧ RegsExcept [R.ATT_CPTR q] s t)) ∧
      (commitOk s q r = true → (commitReleases s q r).length ≤ relRoom s q →
        (r.op = 1 → Apart [(r.dst, 512), (rootAt s q r.sid r.index, 8), (r.addr + 28, 1)] → Runs (.setLeaf q) s (fun t =>
          CommitEnds q r s t ∧ Bytes t r.dst (List.replicate 512 0) ∧ fernEntry t (rootAt s q r.sid r.index) = 2 ^ 63 + r.dst ∧
          t.fld (F.SEQ_STATE_LEN q r.sid) = s.fld (F.SEQ_STATE_LEN q r.sid) ∧
          MemExcept [(r.dst, 512), (rootAt s q r.sid r.index, 8), (r.addr + 28, 1)] s t)) ∧
        (∀ a, r.op = 2 → leafEntryAt s q r.sid r.index = some a → Apart [(a, 8), (relAt, 8), (r.addr + 28, 1)] →
          Runs (.setPage q) s (fun t => CommitEnds q r s t ∧ fernEntry t a = 2 ^ 63 + r.dst ∧
            (entryValid (fernEntry s a) = true → t.readLE (.flat relAt) 8 = relEntry false r.sid (pageOf (fernEntry s a)) ∧
              t.fld (F.ATT_RPTR_REL_TAIL q) = (s.fld (F.ATT_RPTR_REL_TAIL q) + 1) % 2 ^ 32) ∧
            (entryValid (fernEntry s a) = false → t.reg (R.ATT_RPTR q) = s.reg (R.ATT_RPTR q)) ∧
            MemExcept [(a, 8), (relAt, 8), (r.addr + 28, 1)] s t)) ∧
        (∀ a, r.op = 3 → leafEntryAt s q r.sid r.index = some a → Apart [(a, 8), (relAt, 8), (r.addr + 28, 1)] →
          Runs (.freePage q) s (fun t => CommitEnds q r s t ∧ fernEntry t a = 0 ∧
            t.readLE (.flat relAt) 8 = relEntry false r.sid (pageOf (fernEntry s a)) ∧
            t.fld (F.ATT_RPTR_REL_TAIL q) = (s.fld (F.ATT_RPTR_REL_TAIL q) + 1) % 2 ^ 32 ∧
            MemExcept [(a, 8), (relAt, 8), (r.addr + 28, 1)] s t)) ∧
        (r.op = 4 → Apart [(rootAt s q r.sid r.index, 8), (relAt, 8), (r.addr + 28, 1)] → Runs (.freeLeaf q) s (fun t =>
          CommitEnds q r s t ∧ fernEntry t (rootAt s q r.sid r.index) = 0 ∧
          t.readLE (.flat relAt) 8 = relEntry true r.sid (leafOf (fernEntry s (rootAt s q r.sid r.index))) ∧
          t.fld (F.ATT_RPTR_REL_TAIL q) = (s.fld (F.ATT_RPTR_REL_TAIL q) + 1) % 2 ^ 32 ∧
          MemExcept [(rootAt s q r.sid r.index, 8), (relAt, 8), (r.addr + 28, 1)] s t)) ∧
        (r.op = 5 → Runs (.setLen q) s (fun t => CommitEnds q r s t ∧ t.fld (F.SEQ_STATE_LEN q r.sid) = r.len ∧
          t.reg (R.ATT_RPTR q) = s.reg (R.ATT_RPTR q) ∧ MemExcept [(r.addr + 28, 1)] s t)) ∧
        (r.op = 6 → Runs (.resetSeq q) s (fun t => CommitEnds q r s t ∧ t.fld (F.SEQ_STATE_LEN q r.sid) = 0 ∧
          t.fld (F.ATT_RPTR_REL_TAIL q) =
            (s.fld (F.ATT_RPTR_REL_TAIL q) + (seqPages s q r.sid).length + (seqLeaves s q r.sid).length) % 2 ^ 32))))

/-- R352 to R358: a step of an attention engine. A wrong record completes with BAD_CMD; a right one pins its sequences for 64
cycles; an arriving page adds its rows, or its batch slot goes missing; the end of the step writes the results (shown for one row),
STATUS, NOTIFY and HEAD, and lets the sequences go. -/
def Obligations.AttentionSteps : Prop :=
  ∀ (q : Fin 16) (s : State), s.up = true →
    let x := (stepRecord s q).1
    let due := attState s q = 1 ∧ s.fld (F.ATT_SPTR_HEAD q) ≠ s.fld (F.ATT_SPTR_TAIL q) ∧ (attOf s q).cur = none
    (¬ due → exec (.attStep q) s = .next s) ∧
    (due → (stepRecord s q).2 = false → Runs (.attStep q) s (fun t => t.byte (x.addr + 60) = 2 ∧
      MemExcept [(x.addr + 60, 1)] s t ∧ Notified x.notify x.nval s t ∧
      t.fld (F.ATT_SPTR_HEAD q) = (s.fld (F.ATT_SPTR_HEAD q) + 1) % 2 ^ 32 ∧ RegsExcept [R.ATT_SPTR q] s t)) ∧
    (due → (stepRecord s q).2 = true → Runs (.attStep q) s (fun t => attOf t q = { attOf s q with cur := some x } ∧
      x.pinEnd = s.now + 64 ∧ (∀ k ∈ x.sids, t.fld (F.SEQ_STATE_HELD q k) = 1) ∧ t.fld (F.ATT_STATUS_STEP_BUSY q) = 1 ∧
      RegsExcept (R.ATT_STATUS q :: x.sids.map (fun k => R.SEQ_STATE q k)) s t ∧ MemSame s t ∧ CoresExcept [] s t)) ∧
    ((attOf s q).cur = none → (∀ b, exec (.attPageArrive q b) s = .next s) ∧ exec (.attStepComplete q) s = .next s) ∧
    (∀ (st : AttStep) i p j, (attOf s q).cur = some st → st.pinEnd ≤ s.now → attNext s q st = (some (i, p, j), false) →
      let gone (b : Bool) (t : State) : Prop := (attOf t q).cur = some
          { st with missing := i :: st.missing, i := i + 1, p := 0, j := 0 } ∧
        t.fld (if b then F.ATT_STATUS_UNCORR q else F.ATT_STATUS_PAGE_MISSING q) = 1 ∧
        t.fld (F.ATT_MISS_COUNT q) = s.sat (F.ATT_MISS_COUNT q) 1 ∧ t.fld (rawFld (104 + q)) = 1 ∧ MemSame s t
      (leafEntryAt s q (st.sids.getD i 0) p = none → Runs (.attPageArrive q false) s (gone false)) ∧
      (∀ la, leafEntryAt s q (st.sids.getD i 0) p = some la →
        Runs (.attPageArrive q true) s (gone true) ∧
        (entryValid (fernEntry s la) = false → Runs (.attPageArrive q false) s (gone false)) ∧
        (entryValid (fernEntry s la) = true → s.poisonedRange (pageOf (fernEntry s la)) (pageBytes s q) = true →
          Runs (.attPageArrive q false) s (gone true)) ∧
        (entryValid (fernEntry s la) = true → s.poisonedRange (pageOf (fernEntry s la)) (pageBytes s q) = false →
          Runs (.attPageArrive q false) s (fun t => (∃ u, (attOf t q).cur = some u ∧ u.i = i ∧ u.p = p + 1 ∧
              u.rows = (attVisit s q st i p j (pageOf (fernEntry s la))).1 ∧ u.missing = st.missing ∧ u.busyEnd =
                max s.now st.busyEnd + attHkv s q * (st.q * attG s q * attD s q / 8)) ∧
            ((attVisit s q st i p j (pageOf (fernEntry s la))).2 = true → t.fld (F.ATT_STATUS_INV q) = 1) ∧
            RegsExcept [R.ATT_STATUS q, R.ATT_STALL q] s t ∧ MemSame s t ∧ CoresExcept [] s t)))) ∧
    (∀ st : AttStep, (attOf s q).cur = some st → max st.pinEnd st.busyEnd ≤ s.now → attNext s q st = (none, false) →
      (attOf s q).rel = [] → attH s q = 1 → st.nseq = 1 → st.q = 1 → st.flags = 0 → st.missing = [] →
      let out := attRowOut (look (fun _ => AttRow.init (attD s q)) st.rows 0) false
      let bs := out.vals.flatMap fun v => leBytes 2 v
      Apart [(st.obase, bs.length), (st.addr + 60, 1)] → Runs (.attStepComplete q) s (fun t => Bytes t st.obase bs ∧
        t.byte (st.addr + 60) = BitVec.ofNat 8
          (1 + (if out.bits.testBit 0 then 16 else 0) + (if out.bits.testBit 1 then 32 else 0) + (if out.bits.testBit 2 then 64 else 0)) ∧
        MemExcept [(st.obase, bs.length), (st.addr + 60, 1)] s t ∧ Notified st.notify st.nval s t ∧
        t.fld (F.ATT_SPTR_HEAD q) = (s.fld (F.ATT_SPTR_HEAD q) + 1) % 2 ^ 32 ∧ attOf t q = { attOf s q with cur := none } ∧
        (∀ k ∈ st.sids, t.fld (F.SEQ_STATE_HELD q k) = 0) ∧ t.fld (F.ATT_STATUS_STEP_BUSY q) = 0))

/-! ### The fabric -/

/-- R365, R368 to R373, R379 to R381: the traffic of a link. A good flit moves the 2 µs limit; the next flit in order goes on to
the egress of its route; an uncorrectable one is counted and answered with NAK; a stomped one is passed over. A slot sends a
marker, a CONTROL flit, a replay, a flit of the first class that is ready and has a credit, or IDLE. NAK and the ACK timeout
replay, CREDIT adds credits, and SWAP installs the shadow schedule at the frame's end. -/
def Obligations.LinkTraffic : Prop :=
  ∀ (p : Fin 24) (s : State), s.up = true →
    let x := s.port p
    let good (y : Port) : Port := { y with lastGood := s.now }
    (∀ raw : List Byte, (lstate s p < 3 ∨ raw.length ≠ 256 → exec (.flitReceive p raw) s = .next s) ∧
      (3 ≤ lstate s p → raw.length = 256 →
        (flitVerdict (x.feats.testBit 0) raw = .clean raw →
          (hdr raw 45 43 = 0 → hdr raw 22 22 = 0 → hdr raw 21 20 = 0 → Runs (.flitReceive p raw) s (PortStep p (fun y =>
            { y with lastGood := s.now, credits := (y.credits.1 + hdr raw 19 12, y.credits.2.1, y.credits.2.2) }) [] s)) ∧
          (hdr raw 22 22 = 0 → 1 ≤ hdr raw 45 43 → hdr raw 45 43 ≤ 4 → hdr raw 42 33 ≠ x.rxExp → Runs (.flitReceive p raw) s (fun t =>
            (t.port p).rxExp = x.rxExp ∧ (t.port p).rx = x.rx ∧ (t.port p).q = x.q ∧ (t.port p).lastGood = s.now ∧
            RegsExcept [] s t ∧ MemSame s t)) ∧
          (∀ e, inOrder s p raw = true → hdr raw 45 43 = 4 → classStopped s p (hdr raw 47 46) = false →
            s.nodeLocal (hdr raw 63 48) = false → routePort s (hdr raw 63 48) = some e → e ≠ p → (s.port e).running = 0x102 →
            Runs (.flitReceive p raw) s (fun t => (t.port p).rxExp = (x.rxExp + 1) % 1024 ∧ (t.port p).q = x.q ∧
              (t.port e).q = (s.port e).q ++ [⟨hdr raw 63 48, hdr raw 47 46, [⟨hdr raw 63 48, hdr raw 47 46, 4,
                (raw.drop 8).take (hdr raw 11 4 + 1)⟩], false, some p.val, none⟩] ∧ RegsExcept [] s t ∧ MemSame s t))) ∧
        (flitVerdict (x.feats.testBit 0) raw = .uncorrectable → lstate s p = 4 → inOrder s p raw = false →
          Runs (.flitReceive p raw) s (fun t =>
            PortStep p (fun y => { y with rxDrop := true, ctl := y.ctl ++ [.nak y.rxExp] }) [R.FLIT_UNCORR p] s t ∧
            t.fld (F.FLIT_UNCORR_COUNT p) = s.sat (F.FLIT_UNCORR_COUNT p) 1)) ∧
        (flitVerdict (x.feats.testBit 0) raw = .stomped → inOrder s p raw = true → s.nodeLocal (hdr raw 63 48) = true →
          Runs (.flitReceive p raw) s (PortStep p (fun y =>
            { y with rxExp := (y.rxExp + 1) % 1024, rxAny := true, rxDrop := false, owed := credAdd y.owed (hdr raw 47 46) 1 }) [] s)) ∧
        (∀ r, flitVerdict (x.feats.testBit 0) raw = .corrected r → hdr r 45 43 = 0 → hdr r 22 22 = 0 → hdr r 19 12 = 0 →
          Runs (.flitReceive p raw) s (fun t => PortStep p good [R.FLIT_CORR p] s t ∧
            t.fld (F.FLIT_CORR_COUNT p) = s.sat (F.FLIT_CORR_COUNT p) 1)))) ∧
    (lstate s p < 3 → exec (.flitSlot p) s = .next s) ∧
    (3 ≤ lstate s p → x.owed = (0, 0, 0) → x.slot + 1 < x.flen →
      let turn (y : Port) (o : TxOut) : Port := { y with sinceMark := y.sinceMark + 1, slot := y.slot + 1, tx := o }
      (16379 ≤ x.sinceMark → x.swap = none → Runs (.flitSlot p) s (PortStep p (fun y =>
        { y with sinceMark := 0, slot := y.slot + 1, tx := .marker }) [] s)) ∧
      (x.sinceMark < 16379 →
        (∀ m ms, x.ctl = m :: ms → Runs (.flitSlot p) s (PortStep p (fun y => turn { y with ctl := ms } (.ctl m)) [] s)) ∧
        (∀ f fs, x.ctl = [] → x.replay = f :: fs → Runs (.flitSlot p) s (fun t =>
          PortStep p (fun y => turn { y with replay := fs } (.replay f.1 f.2)) [R.REPLAY_COUNT p] s t ∧
          t.fld (F.REPLAY_COUNT_COUNT p) = s.sat (F.REPLAY_COUNT_COUNT p) 1)) ∧
        (x.ctl = [] → x.replay = [] → (lstate s p ≠ 4 ∨ 512 ≤ x.retry.length ∨ x.credits = (0, 0, 0) ∨ x.q = []) →
          Runs (.flitSlot p) s (PortStep p (fun y => turn y .idle) [] s)) ∧
        (∀ c k f, x.ctl = [] → x.replay = [] → lstate s p = 4 → x.retry.length < 512 → 0 < credOf x.credits c →
          (classOrder (slotCode x x.slot)).head? = some c → readyFlit x c = some (k, f) → k.ingress = none →
          Runs (.flitSlot p) s (PortStep p (fun y => turn { y with
            q := popFlit c y.q, credits := credSub y.credits c 1, retry := y.retry ++ [(y.txSeq, f)],
            txSeq := (y.txSeq + 1) % 1024, ackAt := if y.retry = [] then s.now else y.ackAt } (.flit x.txSeq f)) [] s)))) ∧
    (lstate s p < 2 → exec (.marker p) s = .next s) ∧
    (2 ≤ lstate s p → Runs (.marker p) s (PortStep p good [] s)) ∧
    (∀ (a b m : BitVec 16) (sq : BitVec 10), (lstate s p ≠ 4 → exec (.credit p a b m) s = .next s ∧ exec (.nak p sq) s = .next s) ∧
      (lstate s p = 4 → Runs (.credit p a b m) s (PortStep p (fun y =>
          { y with lastGood := s.now, credits := (y.credits.1 + a.toNat, y.credits.2.1 + b.toNat, y.credits.2.2 + m.toNat) }) [] s) ∧
        (x.retry.filter (fun f => seqLe sq.toNat f.1) ≠ [] → x.replays < 15 → Runs (.nak p sq) s (PortStep p (fun y =>
          { y with lastGood := s.now, replay := y.retry.filter (fun f => seqLe sq.toNat f.1), replays := y.replays + 1,
                   ackAt := s.now }) [] s)))) ∧
    (∀ f fs, lstate s p = 4 → x.retry = f :: fs → x.ackAt + 700 ≤ s.now → x.replays < 15 → seqLe f.1 f.1 = true →
      Runs (.ackTimeoutReplay p) s (PortStep p (fun y =>
        { y with replay := y.retry.filter (fun g => seqLe f.1 g.1), replays := y.replays + 1, ackAt := s.now }) [] s)) ∧
    (lstate s p ≠ 4 ∨ x.retry = [] → exec (.ackTimeoutReplay p) s = .next s) ∧
    (∀ v : Word, Runs (.schedSwap p .w64 v) s (fun t => t.fld (F.SCHED_CTRL_FLEN p) = getBits v 12 0 ∧
      t.fld (F.SCHED_CTRL_SWAP p) = (if getBits v 16 16 = 1 then 1 else s.fld (F.SCHED_CTRL_SWAP p)) ∧ t.reply = .ok ∧ PortStep p (fun y => y) [R.SCHED_CTRL p] s t)) ∧
    (s.fld (F.SCHED_CTRL_SWAP p) = 0 → exec (.schedInstall p) s = .next s) ∧
    (s.fld (F.SCHED_CTRL_SWAP p) = 1 → Runs (.schedInstall p) s (fun t => t.fld (F.SCHED_CTRL_SWAP p) = 0 ∧
      t.fld (F.SCHED_CTRL_FLEN_CUR p) = s.fld (F.SCHED_CTRL_FLEN p) ∧ (t.port p).flen = s.fld (F.SCHED_CTRL_FLEN p) ∧
      (t.port p).slot = 0 ∧ (∀ k, k < 4096 → slotCode (t.port p) k =
        getBits (s.reg (R.SCHED p (k / 32))) (2 * (k % 32) + 1) (2 * (k % 32))) ∧ RegsExcept [R.SCHED_CTRL p] s t ∧ MemSame s t)) ∧
    (∀ (i : BitVec 1) (l : BitVec 5) (ap : Bool), lstate s p = 4 →
      (x.feats.testBit 1 = false → Runs (.laneSwap p i l ap) s (PortStep p good [] s)) ∧
      (∀ k, x.feats.testBit 1 = true → x.swap = some (k, false) → Runs (.laneSwap p i l ap) s (PortStep p (fun y =>
        { y with lastGood := s.now, swap := some (2, true) }) [] s)) ∧
      (x.feats.testBit 1 = true → x.swap = none → Runs (.laneSwap p i l ap) s (PortStep p (fun y =>
        { y with lastGood := s.now, swap := some (2, true), ctl := y.ctl ++ [.laneSwap i.toNat l.toNat ap] }) [R.LANE_SPARE p] s)))

/-- R373 to R379, R385, R402, R404: link states. Training, alignment and negotiation lead to ACTIVE; a lost lane, 2 µs of silence
and the back-off lead down and up again; enabling trains; disabling and the closing wait end the port's transactions; a lane map is
written where it is legal; the node ID is written only while every port is OFF. -/
def Obligations.LinkStates : Prop :=
  ∀ (p : Fin 24) (s : State), s.up = true →
    let x := s.port p
    let down (t : State) : Prop := lstate t p = 0 ∧ t.fld (F.PORT_STATUS_PARTNER p) = 0xFFFF ∧ (t.port p).downAt = some s.now ∧
      (t.port p).retry = [] ∧ (t.port p).ctl = [] ∧ (t.port p).credits = (0, 0, 0) ∧
      (lstate s p = 4 → t.fld (F.LINK_DOWN_COUNT_COUNT p) = s.sat (F.LINK_DOWN_COUNT_COUNT p) 1 ∧ t.fld (rawFld (64 + p)) = 1) ∧
      (∀ k, k ≠ p.val → t.port k = s.port k) ∧ MemSame s t
    (lstate s p ≠ 1 → exec (.trainDone p) s = .next s) ∧
    (lstate s p = 1 → Runs (.trainDone p) s (fun t => lstate t p = 2 ∧
      PortStep p (fun y => { y with lastGood := s.now }) [R.PORT_STATUS p] s t)) ∧
    (lstate s p ≠ 2 → exec (.alignLock p) s = .next s) ∧
    (lstate s p = 2 → Runs (.alignLock p) s (fun t => lstate t p = 3 ∧
      PortStep p (fun y => { y with lastGood := s.now, ctl := y.ctl ++ [.negotiate] }) [R.PORT_STATUS p] s t)) ∧
    (lstate s p = 0 → exec (.laneLockLoss p) s = .next s) ∧
    (lstate s p ≠ 0 → x.q = [] → Runs (.laneLockLoss p) s down) ∧
    (lstate s p < 2 → exec (.linkIdleTimeout p) s = .next s) ∧
    (2 ≤ lstate s p → x.q = [] → x.lastGood + 1400 ≤ s.now → Runs (.linkIdleTimeout p) s down) ∧
    (x.downAt = none → exec (.trainBackoffExpiry p) s = .next s) ∧
    (∀ d, x.downAt = some d → portState s p = 1 → lstate s p = 0 → d + 7000000 ≤ s.now → Runs (.trainBackoffExpiry p) s (fun t =>
      lstate t p = 1 ∧ (t.port p).adv = s.reg (R.PORT_ADV p) ∧ (t.port p).lanes = s.reg (R.LANE_SPARE p) ∧
      (t.port p).txSeq = 0 ∧ (t.port p).rxExp = 0 ∧ (t.port p).downAt = none ∧ RegsExcept [R.PORT_STATUS p] s t ∧ MemSame s t)) ∧
    (∀ (vers feat : BitVec 32) (node a b m : BitVec 16),
      let g : Nego := ⟨vers.toNat, feat.toNat, node.toNat, a.toNat, b.toNat, m.toNat⟩
      let common := vers.toNat &&& offerVers s p
      (lstate s p < 3 ∨ 4 < lstate s p → exec (.negotiate p vers feat node a b m) s = .next s) ∧
      (lstate s p = 3 → common = 0 → Runs (.negotiate p vers feat node a b m) s (fun t => lstate t p = 3 ∧
        t.fld (F.PORT_STATUS_VER_ERR p) = 1 ∧ t.fld (F.PORT_STATUS_PARTNER p) = node.toNat ∧ t.fld (rawFld (64 + p)) = 1 ∧
        (t.port p).rxNeg = some g ∧ (t.port p).ctl = x.ctl ∧ MemSame s t)) ∧
      (lstate s p = 3 → common ≠ 0 → x.rxNegAck = none → Runs (.negotiate p vers feat node a b m) s (fun t => lstate t p = 3 ∧
        t.fld (F.PORT_STATUS_NODE_UNSET p) = (if ownNode s = 0xFFFF ∨ node.toNat = 0xFFFF then 1 else 0) ∧
        PortStep p (fun y => { y with lastGood := s.now, rxNeg := some g, ctl := y.ctl ++ [.negAck (chosenVersion common)] })
          [R.PORT_STATUS p] s t))) ∧
    (∀ (ch : BitVec 16), (lstate s p ≠ 3 → lstate s p ≠ 4 → exec (.negAck p ch) s = .next s) ∧
      (lstate s p = 3 → x.rxNeg = none → Runs (.negAck p ch) s (PortStep p (fun y =>
        { y with lastGood := s.now, rxNegAck := some ch.toNat }) [] s)) ∧
      (∀ g, lstate s p = 3 → x.rxNeg = some g → g.vers &&& offerVers s p ≠ 0 → ownNode s ≠ 0xFFFF → g.node ≠ 0xFFFF →
        let run := chosenVersion (g.vers &&& offerVers s p)
        Runs (.negAck p ch) s (fun t => lstate t p = 4 ∧ t.fld (F.PORT_STATUS_VER_MAJOR p) = run / 256 % 16 ∧
          t.fld (F.PORT_STATUS_VER_MINOR p) = run % 256 % 16 ∧ t.fld (F.PORT_STATUS_NODE_UNSET p) = 0 ∧
          PortStep p (fun y =>
            { y with rxNegAck := some ch.toNat, running := run, feats := featuresOf run (g.feat &&& offerFeat s p),
                     credits := (g.cp, g.cb, g.cm), ackAt := s.now, lastGood := s.now }) [R.PORT_STATUS p] s t))) ∧
    (lstate s p = 3 → (x.rxNeg = none ∨ x.rxNegAck = none) → Runs (.negotiateResend p) s (PortStep p (fun y =>
      { y with ctl := y.ctl ++ [.negotiate] }) [] s)) ∧
    (lstate s p ≠ 3 ∨ (x.rxNeg ≠ none ∧ x.rxNegAck ≠ none) → exec (.negotiateResend p) s = .next s) ∧
    (portState s p = 0 → s.fld (F.PORT_CTRL_ENABLE p) = 0 → s.st.run = none → x.downAt = none → Runs (.portEnable p) s (fun t =>
      t.fld (F.PORT_CTRL_ENABLE p) = 1 ∧ lstate t p = 1 ∧ (t.port p).lastGood = s.now ∧
      (∃ l ∈ t.late, l.due = s.now + 1 ∧ l.op = .engineOn (R.PORT_CTRL p)) ∧
      RegsExcept [R.PORT_CTRL p, R.PORT_STATUS p] s t ∧ MemSame s t)) ∧
    (portState s p ≠ 0 ∨ s.fld (F.PORT_CTRL_ENABLE p) = 1 → exec (.portEnable p) s = .next s) ∧
    (portState s p = 1 → s.fld (F.PORT_CTRL_ENABLE p) = 1 → x.q = [] → x.trk ≠ [] → Runs (.portDisable p) s (fun t =>
      portState t p = 2 ∧ t.fld (F.PORT_CTRL_ENABLE p) = 0 ∧ t.reg (R.PORT_CLOSE p) = 0#64 ∧
      PortStep p (fun y => { y with closeAt := some (s.now + s.fld (F.PORT_CONF_CLOSE_WAIT p)) }) [R.PORT_CTRL p, R.PORT_CLOSE p] s t)) ∧
    (portState s p = 1 → s.fld (F.PORT_CTRL_ENABLE p) = 1 → x.q = [] → x.trk = [] → Runs (.portDisable p) s (fun t =>
      portState t p = 0 ∧ lstate t p = 0 ∧ t.fld (rawFld (64 + p)) = 1 ∧ MemSame s t)) ∧
    (portState s p ≠ 1 ∨ s.fld (F.PORT_CTRL_ENABLE p) = 0 → exec (.portDisable p) s = .next s) ∧
    (∀ d k id, x.closeAt = some d → portState s p = 2 → d ≤ s.now → x.trk = [(k, id)] →
      (∀ q n i, s.tx id = some q → q.owner = .core n i → Runs (.closeWaitExpiry p) s (fun t =>
        t.tx id = some { q with st := .done csPORT_CLOSED 0 [] } ∧ portState t p = 0 ∧ lstate t p = 0 ∧ (t.port p).trk = [] ∧
        t.fld (F.PORT_CLOSE_ABANDONED p) = s.sat (F.PORT_CLOSE_ABANDONED p) 1 ∧ t.fld (rawFld (64 + p)) = 1 ∧ MemSame s t))) ∧
    (x.closeAt = none → exec (.closeWaitExpiry p) s = .next s) ∧
    (∀ v : Word, arbIdle s →
      let bad := 17 < getBits v 4 0 ∨ 17 < getBits v 12 8 ∨ (getBits v 7 7 = 1 ∧ getBits v 15 15 = 1 ∧ getBits v 4 0 = getBits v 12 8)
      (bad → Runs (.laneSpareWrite p .w64 v) s (fun t => t.fld (F.PORT_STATUS_MAP_ERR p) = 1 ∧ t.arb = s.arb ∧
        PortStep p (fun y => y) [R.PORT_STATUS p] s t)) ∧
      (¬ bad → lstate s p ≠ 4 → Runs (.laneSpareWrite p .w64 v) s (fun t => t.fld ⟨R.LANE_SPARE p, 4, 0⟩ = getBits v 4 0 ∧
        t.fld ⟨R.LANE_SPARE p, 7, 7⟩ = getBits v 7 7 ∧ t.fld ⟨R.LANE_SPARE p, 12, 8⟩ = getBits v 12 8 ∧
        t.fld ⟨R.LANE_SPARE p, 15, 15⟩ = getBits v 15 15 ∧ t.reply = .ok ∧ t.arb = s.arb ∧
        PortStep p (fun y => y) [R.LANE_SPARE p] s t))) ∧
    (∀ v : Word, ((∃ k : Fin 24, portState s k ≠ 0) →
        exec (.fabNodeWrite .w64 v) s = .next { s.setFld F.FAB_STATUS_NODE_ERR 1 with reply := .ok }) ∧
      ((∀ k : Fin 24, portState s k = 0) → Runs (.fabNodeWrite .w64 v) s (fun t => ownNode t = getBits v 15 0 ∧ t.reply = .ok ∧
        RegsExcept [R.FAB_NODE] s t ∧ MemSame s t)))

/-- R384, R387, R389 to R395, R258, R392: transactions. A waiting one takes the lowest free tracker of the port of its route; a
completion frees it; a timeout ends it, or reissues a READ or GET. An arriving READ, WRITE, GET, PUT, FADD, MSG, FENCE or CLAIM has
its effect on memory, a counter or a claim, and is answered. -/
def Obligations.FabricTransactions : Prop :=
  ∀ s : State, s.up = true →
    (∀ (id : Nat) (q : TxReq) (n i : Nat), s.tx id = some q → q.owner = .core n i → s.jrn.mir = none →
      (q.st ≠ .waiting → exec (.fabricTrackerGrant id) s = .next s) ∧
      (q.st = .waiting → routePort s q.node = none → Runs (.fabricTrackerGrant id) s (fun t =>
        t.tx id = some { q with st := .done csNO_ROUTE 0 [] } ∧ t.fab.ports = s.fab.ports ∧ RegsExcept [] s t ∧ MemSame s t)) ∧
      (∀ p k, q.st = .waiting → routePort s q.node = some p → versionHas (s.port p).running q.op = true →
        freeTracker (s.port p) = some k → s.fld (F.PORT_CONF_TRK_TIMEOUT p) ≠ 0 → Runs (.fabricTrackerGrant id) s (fun t =>
          t.tx id = some { q with st := .sent p k (s.now + s.fld (F.PORT_CONF_TRK_TIMEOUT p)) false } ∧
          (t.port p).trk = (s.port p).trk ++ [(k, id)] ∧
          (t.port p).q = (s.port p).q ++ [⟨q.node, q.cls, requestFlits q.node q.cls q.op
            (txHeader (ownNode s) q.op q.sz (k + 512 * p) q.len q.addr) q.data, false, none, some id⟩] ∧
          (∀ e, e ≠ p → t.port e = s.port e) ∧ RegsExcept [] s t ∧ MemSame s t)) ∧
      (∀ p, q.st = .waiting → routePort s q.node = some p → versionHas (s.port p).running q.op = true →
        freeTracker (s.port p) = none → exec (.fabricTrackerGrant id) s = .next s) ∧
      (∀ p k dl again, q.st = .sent p k dl again → dl ≠ 0 → dl ≤ s.now → portState s p ≠ 2 → ((q.op ≠ opREAD ∧ q.op ≠ opGET) ∨ again = true) →
        Runs (.trkTimeout id) s (fun t => t.tx id = some { q with st := .done csTIMEOUT 0 [] } ∧
          (t.port p).trk = (s.port p).trk.filter (fun e => e.1 ≠ k) ∧ RegsExcept [] s t ∧ MemSame s t)) ∧
      (∀ p k again, q.st = .sent p k 0 again → exec (.trkTimeout id) s = .next s)) ∧
    (∀ (tag : BitVec 16) (st : BitVec 8) (v : Word) (data : List Byte) (q : TxReq) (id n i : Nat),
      let p := bitsOf tag.toNat 13 9
      let k := tag.toNat % 512
      ((s.port p).trk.find? (fun t => t.1 == k) = none → exec (.completionReceive tag st v data) s = .next s) ∧
      ((s.port p).trk.find? (fun t => t.1 == k) = some (k, id) → portState s p ≠ 2 → s.tx id = some q → q.owner = .core n i →
        Runs (.completionReceive tag st v data) s (fun t => t.tx id = some { q with st := .done st.toNat v.toNat data } ∧
          (t.port p).trk = (s.port p).trk.filter (fun e => e.1 ≠ k) ∧ RegsExcept [] s t ∧ MemSame s t ∧ CoresExcept [] s t))) ∧
    (∀ (a : Arr) (q : TxnIn),
      (Arrives s opREAD a q → safeTakes s q → isCtl q = false → rwSize q = true → MemGood s q.addr q.len → Runs (.read a) s (fun t =>
        Answered s t q csOK 0 (s.readBytes (.flat q.addr) q.len) ∧ RegsExcept [] s t ∧ MemSame s t ∧ CoresExcept [] s t)) ∧
      (Arrives s opWRITE a q → safeTakes s q → isCtl q = false → q.data.length = q.len → rwSize q = true → MemGood s q.addr q.len →
        s.fernTouched q.addr q.len = false → (q.cls = 2 ∨ inMailbox q.addr q.len = false) → Runs (.write a) s (fun t =>
          Answered s t q csOK 0 [] ∧ Bytes t q.addr q.data ∧ MemExcept [(q.addr, q.len)] s t ∧ RegsExcept [] s t ∧ CoresExcept [] s t)) ∧
      (Arrives s opGET a q → safeTakes s q → q.sz < 6 → q.addr % 64 = 0 → MemGood s q.addr (tileLen q.sz) → Runs (.get a) s (fun t =>
        Answered s t q csOK 0 (s.readBytes (.flat q.addr) (tileLen q.sz)) ∧ RegsExcept [] s t ∧ MemSame s t ∧ CoresExcept [] s t)) ∧
      (Arrives s opPUT a q → safeTakes s q → q.sz < 6 → q.addr % 64 = 0 → q.data.length = tileLen q.sz → MemGood s q.addr (tileLen q.sz) →
        s.fernTouched q.addr (tileLen q.sz) = false → (q.cls = 2 ∨ inMailbox q.addr (tileLen q.sz) = false) → Runs (.put a) s (fun t =>
          Answered s t q csOK 0 [] ∧ Bytes t q.addr q.data ∧ MemExcept [(q.addr, tileLen q.sz)] s t ∧ RegsExcept [] s t ∧
          CoresExcept [] s t)) ∧
      (Arrives s opFADD a q → safeTakes s q → q.addr % 8 = 0 → MemGood s q.addr 8 → s.fernTouched q.addr 8 = false →
        (q.cls = 2 ∨ inMailbox q.addr 8 = false) → Runs (.fadd a) s (fun t =>
          Answered s t q csOK (s.readLE (.flat q.addr) 8) [] ∧
          t.readLE (.flat q.addr) 8 = (s.readLE (.flat q.addr) 8 + leNat (q.data.take 8)) % 2 ^ 64 ∧
          MemExcept [(q.addr, 8)] s t ∧ RegsExcept [] s t ∧ CoresExcept [] s t)) ∧
      (∀ (n : Fin 64) (c : Fin 16), Arrives s opMSG a q → safeTakes s q → q.addr = R.COMP n c → Runs (.msg a) s (fun t => Answered s t q csOK 0 [] ∧
        t.fld (F.COMP_COUNT n c) = (s.fld (F.COMP_COUNT n c) + leNat (q.data.take 4)) % 2 ^ 32 ∧
        RegsExcept [R.COMP n c] s t ∧ CoresExcept [n.val] s t ∧ MemSame s t)) ∧
      (Arrives s opFENCE a q → safeTakes s q → Runs (.fence a) s (fun t => Answered s t q csOK 0 [] ∧ RegsExcept [] s t ∧ MemSame s t ∧
        CoresExcept [] s t)) ∧
      (∀ i : Fin 64, Arrives s opCLAIM a q → safeTakes s q → q.addr = R.CLAIM_STATE i → Runs (.fabClaim a) s (fun t =>
        Answered s t q csOK (claimPair (claimTake s i).1) [] ∧ t.reg (R.CLAIM_STATE i) = (claimTake s i).2.reg (R.CLAIM_STATE i) ∧
        RegsExcept [R.CLAIM_STATE i] s t ∧ MemSame s t)) ∧
      (∀ op c, (op, c) ∈ [(opREAD, Instr.read a), (opWRITE, .write a), (opGET, .get a), (opPUT, .put a), (opFADD, .fadd a),
          (opMSG, .msg a), (opFENCE, .fence a), (opCLAIM, .fabClaim a)] → arrival s op a = none → exec c s = .next s) ∧
      (∀ op c, (op, c) ∈ [(opREAD, Instr.read a), (opWRITE, .write a), (opGET, .get a), (opPUT, .put a), (opFADD, .fadd a),
          (opMSG, .msg a), (opFENCE, .fence a), (opCLAIM, .fabClaim a)] → Arrives s op a q →
        safeActive s = true → q.cls ≠ 2 → Runs c s (fun t => Answered s t q csPORT_CLOSED 0 [] ∧ RegsExcept [] s t ∧ MemSame s t))) ∧
    (∀ (cls : Fin 3) (x : TxReq) (k : Nat), loopHead s cls = some x → s.tx x.id = some x → x.cls = cls.val →
      classStopped s loopPort cls = false → safeActive s = false →
      (x.op = opFENCE → x.owner = .fence k → Runs (.fence (.loop cls)) s (fun t => t.fld (F.SUP_FENCE_FENCE k) = 0 ∧
        t.tx x.id = none ∧ t.reply = .ok ∧ RegsExcept [R.SUP_FENCE k] s t ∧ MemSame s t)) ∧
      (x.op = opREAD → x.owner = .aperture k → x.len = 8 → x.addr % 8 = 0 → MemGood s x.addr 8 → Runs (.read (.loop cls)) s (fun t =>
        t.reply = .value (BitVec.ofNat 64 (s.readLE (.flat x.addr) 8)) ∧ t.tx x.id = none ∧ RegsExcept [] s t ∧ MemSame s t)))

/-- R86, R87, R393, R396 to R399: a reduce-add flit from a port at its slot. A wrong target is ADDR_ERR; a slot that is not open
refuses and counts; an open slot without a reduction entry takes its entries; one whose turn has not come is held and goes on when
its turn comes; a contributor whose turn is past is refused. -/
def Obligations.ReduceAdd : Prop :=
  ∀ (s : State) (p : Fin 24) (cls : Fin 3) (src tag : BitVec 16) (sz : BitVec 8) (base : BitVec 48) (pos : Nat)
    (es : List L96) (last : Bool), s.up = true → safeActive s = false → lstate s p = 4 → classStopped s p cls = false →
    let f : RaddFlit := ⟨cls, src.toNat, tag.toNat, sz.toNat, base.toNat, pos, es, last⟩
    let row : Instr := .radd (.link p cls src tag sz base pos es last)
    let owed (t : State) : Prop := (t.port p).owed = credAdd (s.port p).owed cls 1 ∧ MemSame s t
    (f.target = none → last = false → Runs row s (fun t => owed t ∧ RegsExcept [] s t ∧ CoresExcept [] s t ∧
      (∃ k ∈ t.fab.radd, k.isFor p cls src.toNat tag.toNat = true ∧ k.status ≠ csOK))) ∧
    (∀ n slot e, f.target = some (n, slot, e) →
      ((s.fld (F.ACC_REMOTE_OPEN n)).testBit slot = false → last = false → Runs row s (fun t => owed t ∧
        t.fld (F.ACC_REMOTE_REFUSED_COUNT n) = s.sat (F.ACC_REMOTE_REFUSED_COUNT n) 1 ∧ CoresExcept [] s t ∧
        RegsExcept [R.ACC_REMOTE_REFUSED n] s t)) ∧
      ((s.fld (F.ACC_REMOTE_OPEN n)).testBit slot = true → redOf s n slot = none → es = [] → last = false → Runs row s (fun t =>
        owed t ∧ (∃ l ∈ t.late, l.n = n ∧ l.op = .raddDone slot ∧ s.now < l.due ∧ l.due ≤ s.now + 24) ∧
        t.fresh = s.fresh + 1 ∧ CoresExcept [n] s t ∧ RegsExcept [] s t)) ∧
      (∀ x, (s.fld (F.ACC_REMOTE_OPEN n)).testBit slot = true → redOf s n slot = none → es = [x] → last = false →
        (s.core n).accErr = [] → Runs row s (fun t => owed t ∧ CoresExcept [n] s t ∧ RegsExcept [] s t ∧
          (t.core n).entry (2 + slot) (e / 256) (e % 256) = L96.add ((s.core n).entry (2 + slot) (e / 256) (e % 256)) x)) ∧
      (∀ r x, (s.fld (F.ACC_REMOTE_OPEN n)).testBit slot = true → redOf s n slot = some r → es = [x] → last = false →
        (s.core n).accErr = [] → r.contributor src.toNat p = some (s.fld (F.RED_STATE_TURN r.idx)) → e + 1 ≤ r.rows * 256 →
        s.fld (F.RED_STATE_COUNT_RX r.idx) + 1 < r.rows * 256 → r.rows ≤ 256 → Runs row s (fun t => owed t ∧
          t.fld (F.RED_STATE_COUNT_RX r.idx) = s.fld (F.RED_STATE_COUNT_RX r.idx) + 1 ∧ RegsExcept [R.RED_STATE r.idx] s t ∧
          (t.core n).entry (2 + slot) (e / 256) (e % 256) = L96.add ((s.core n).entry (2 + slot) (e / 256) (e % 256)) x)) ∧
      (∀ r j, (s.fld (F.ACC_REMOTE_OPEN n)).testBit slot = true → redOf s n slot = some r → r.contributor src.toNat p = some j →
        (s.fld (F.RED_STATE_TURN r.idx) < j → Runs row s (PortStep p (fun y => { y with held := y.held ++ [.radd f] }) [] s)) ∧
        (j < s.fld (F.RED_STATE_TURN r.idx) → last = false → Runs row s (fun t => owed t ∧ CoresExcept [] s t ∧
          t.fld (F.ACC_REMOTE_REFUSED_COUNT n) = s.sat (F.ACC_REMOTE_REFUSED_COUNT n) 1)))) ∧
    (∀ k : Fin 25, (∀ w ∈ (s.port k).held, w.cls ≠ cls) → Runs (.raddHeldRelease k cls) s (fun t =>
      (∀ e, t.port e = s.port e) ∧ t.fab.txs = s.fab.txs ∧ RegsExcept [] s t ∧ CoresExcept [] s t ∧ MemSame s t)) ∧
    (∀ (c2 : Fin 3) (g : RaddFlit) n slot e, (s.port p).held = [.radd g] → g.cls = c2.val → g.target = some (n, slot, e) → g.last = false →
      (s.fld (F.ACC_REMOTE_OPEN n)).testBit slot = false → Runs (.raddHeldRelease ⟨p, by omega⟩ c2) s (fun t =>
        (t.port p).held = [] ∧ t.fld (F.ACC_REMOTE_REFUSED_COUNT n) = s.sat (F.ACC_REMOTE_REFUSED_COUNT n) 1 ∧
        (t.port p).owed = credAdd (s.port p).owed c2 1 ∧ MemSame s t)) ∧
    (∀ (c2 : Fin 3) (g : RaddFlit) n slot e, (s.port p).held = [.radd g] → g.cls = c2.val → g.target = some (n, slot, e) →
      g.last = false → g.entries = [] → (s.fld (F.ACC_REMOTE_OPEN n)).testBit slot = true → redOf s n slot = none →
      Runs (.raddHeldRelease ⟨p, by omega⟩ c2) s (fun t => (t.port p).held = [] ∧
        (∃ l ∈ t.late, l.n = n ∧ l.op = .raddDone slot ∧ s.now < l.due ∧ l.due ≤ s.now + 24) ∧
        (t.port p).owed = credAdd (s.port p).owed c2 1 ∧ MemSame s t)) ∧
    (∀ r : Fin 3, loopHead s r = none → exec (.radd (.loop r)) s = .next s) ∧
    (∀ (r : Fin 3) (x : TxReq) n i, loopHead s r = some x → s.tx x.id = some x → x.op = opRADD → x.owner = .core n i → x.sz ≠ 5 →
      classStopped s loopPort r = false → s.fab.radd = [] → Runs (.radd (.loop r)) s (fun t =>
        t.tx x.id = some { x with st := .done csADDR_ERR 0 [] } ∧ t.fab.radd = [] ∧ RegsExcept [] s t ∧ CoresExcept [] s t ∧
        MemSame s t))

/-! ### Outside interfaces -/

/-- R405 to R412, R427, R442: Ethernet ports and tile ingest. A frame is counted and, by its kind, dropped, answered, or taken as an
ingest datagram; a datagram is dropped under exactly one count, is a duplicate that is acknowledged at once, or is accepted; a
datagram whose writes complete stands in memory, moves ACKED on and sends the MARK's message; the timer sends the ACK; enabling a
stream empties it; a configuration write of an enabled stream is refused. -/
def Obligations.EthernetAndIngest : Prop :=
  ∀ s : State, s.up = true →
    (∀ (e : Fin 2) (f : EthFrame), (ethState s e = 0 ∨ s.fld (F.ETH_STATUS_LINK e) = 0 → exec (.ethFrameReceive e f) s = .next s) ∧
      (ethState s e ≠ 0 → s.fld (F.ETH_STATUS_LINK e) = 1 →
        (f = .badFcs → Runs (.ethFrameReceive e f) s (fun t => t.fld (F.RX_FRAMES_COUNT e) = s.sat (F.RX_FRAMES_COUNT e) 1 ∧
          t.fld (F.RX_FCS_ERR_COUNT e) = s.sat (F.RX_FCS_ERR_COUNT e) 1 ∧ t.out = s.out ∧
          OnlyRegs [R.RX_FRAMES e, R.RX_FCS_ERR e] s t)) ∧
        (f = .other → Runs (.ethFrameReceive e f) s (fun t => t.fld (F.RX_FRAMES_COUNT e) = s.sat (F.RX_FRAMES_COUNT e) 1 ∧
          t.fld (F.RX_OTHER_COUNT e) = s.sat (F.RX_OTHER_COUNT e) 1 ∧ t.out = s.out ∧
          OnlyRegs [R.RX_FRAMES e, R.RX_OTHER e] s t)) ∧
        (∀ src, f = .solicit (ethIp s e) src → Runs (.ethFrameReceive e f) s (fun t => t.out.eth = .advert e src ∧
          t.fld (F.RX_FRAMES_COUNT e) = s.sat (F.RX_FRAMES_COUNT e) 1 ∧ OnlyRegs [R.RX_FRAMES e] s t)) ∧
        (∀ src data, f = .echo (ethIp s e) src data → Runs (.ethFrameReceive e f) s (fun t => t.out.eth = .echo e src data ∧
          t.fld (F.RX_FRAMES_COUNT e) = s.sat (F.RX_FRAMES_COUNT e) 1 ∧ OnlyRegs [R.RX_FRAMES e] s t)) ∧
        (∀ src sport data, f = .udp (ethIp s e) src (s.fld (F.ETH_UDP_PORT e)) sport true data →
          exec (.ethFrameReceive e f) s = exec (.ingestData e src sport data) (s.incFld (F.RX_FRAMES_COUNT e) 1)))) ∧
    (∀ (e : Fin 2) (link fec an : Bool) (corr bad : Nat),
      (ethState s e = 0 → exec (.ethLinkChange e link fec an corr bad) s = .next s) ∧
      (ethState s e ≠ 0 → Runs (.ethLinkChange e link fec an corr bad) s (fun t =>
        t.fld (F.ETH_STATUS_LINK e) = (if link then 1 else 0) ∧ t.fld (F.ETH_STATUS_FEC_LOCK e) = (if fec then 1 else 0) ∧
        t.fld (F.ETH_STATUS_AN_DONE e) = (if an = true ∧ s.fld (F.ETH_CTRL_MEDIA e) = 1 then 1 else 0) ∧
        t.fld (F.FEC_CORR_COUNT e) = s.sat (F.FEC_CORR_COUNT e) corr ∧ t.fld (F.FEC_UNCORR_COUNT e) = s.sat (F.FEC_UNCORR_COUNT e) bad ∧
        (t.reg (R.ETH_STATUS e) ≠ s.reg (R.ETH_STATUS e) → t.fld (rawFld (128 + e)) = 1) ∧ MemSame s t ∧ CoresExcept [] s t))) ∧
    (∀ (e : Fin 2) (src sport : Nat) (bs : List Byte),
      ((ethState s e = 0 ∨ s.fld (F.ETH_STATUS_LINK e) = 0) → exec (.ingestData e src sport bs) s = .next s) ∧
      (ethState s e = 2 → s.fld (F.ETH_STATUS_LINK e) = 1 → Runs (.ingestData e src sport bs) s (fun t => t.out = s.out ∧
        t.fld (F.ETH_CLOSE_ABANDONED e) = s.sat (F.ETH_CLOSE_ABANDONED e) 1 ∧ OnlyRegs [R.ETH_CLOSE e] s t)) ∧
      (ethState s e = 1 → s.fld (F.ETH_STATUS_LINK e) = 1 → ingHeader bs = none → Runs (.ingestData e src sport bs) s (fun t => t.fld (F.ING_FORMAT_COUNT e) = s.sat (F.ING_FORMAT_COUNT e) 1 ∧
        t.out = s.out ∧ OnlyRegs [R.ING_FORMAT e] s t)) ∧
      (∀ k len sq mark off, ethState s e = 1 → s.fld (F.ETH_STATUS_LINK e) = 1 → ingHeader bs = some (k, len, sq, mark, off) →
        let a := s.fld (F.ING_BASE_BASE k) + off
        let admitted := s.fld (F.ING_CTRL_ENABLE k) = 1 ∧ (s.fld (F.ING_CTRL_PORTS k)).testBit e = true ∧ ingPrefixOk s k src = true
        let inside := off + len ≤ s.fld (F.ING_SIZE_SIZE k) ∧ ingRange s a len = true
        let seen := sq ≤ ingAcked s k ∨ ((ingOf s k).got.any fun d => d.seq == sq) = true
        let new : Ing := { ingOf s k with got := (ingOf s k).got ++ [⟨sq, mark, e, a, bs.drop 32, false⟩], src := (src, sport, e), since := (ingOf s k).since + 1, timer := some (s.now + 14000) }
        (¬ admitted → Runs (.ingestData e src sport bs) s (fun t => t.fld (F.ING_FILTER_COUNT e) = s.sat (F.ING_FILTER_COUNT e) 1 ∧
          t.out = s.out ∧ OnlyRegs [R.ING_FILTER e] s t)) ∧
        (admitted → ¬ inside → Runs (.ingestData e src sport bs) s (fun t => t.fld (F.ING_BOUNDS_COUNT e) = s.sat (F.ING_BOUNDS_COUNT e) 1 ∧
          t.out = s.out ∧ OnlyRegs [R.ING_BOUNDS e] s t)) ∧
        (admitted → inside → ingAcked s k + 256 < sq → Runs (.ingestData e src sport bs) s (fun t =>
          t.fld (F.ING_WINDOW_COUNT e) = s.sat (F.ING_WINDOW_COUNT e) 1 ∧ t.out = s.out ∧ OnlyRegs [R.ING_WINDOW e] s t)) ∧
        (admitted → inside → sq ≤ ingAcked s k + 256 → seen → Runs (.ingestData e src sport bs) s (fun t =>
          t.fld (F.ING_DUP_COUNT e) = s.sat (F.ING_DUP_COUNT e) 1 ∧
          t.out.eth = .ack (ingOf s k).src.2.2 (ingOf s k).src.1 (ingOf s k).src.2.1 k (ingAcked s k) (ackBits s k) ∧
          (ingOf t k).got = (ingOf s k).got ∧ (ingOf t k).timer = none ∧ OnlyRegs [R.ING_DUP e] s t)) ∧
        (admitted → inside → sq ≤ ingAcked s k + 256 → ¬ seen → mark = false → (ingOf s k).since < 15 →
          Runs (.ingestData e src sport bs) s (fun t => ingOf t k = new ∧ t.out.eth = s.out.eth ∧
            t.fld (F.ING_STATE_ACKED k) = ingAcked s k ∧ OnlyRegs [R.ING_STATE k] s t)) ∧
        (admitted → inside → sq ≤ ingAcked s k + 256 → ¬ seen → (mark = true ∨ 15 ≤ (ingOf s k).since) →
          Runs (.ingestData e src sport bs) s (fun t => (ingOf t k).got = new.got ∧ (ingOf t k).since = 0 ∧ (ingOf t k).timer = none ∧
            t.out.eth = .ack e src sport k (ingAcked s k) (ackBits t k) ∧ OnlyRegs [R.ING_STATE k] s t)))) ∧
    (∀ k : Fin 64,
      (((ingOf s k).got.find? fun d => !d.written) = none → exec (.ingestWriteComplete k) s = .next s) ∧
      (∀ d, (ingOf s k).got = [d] → d.written = false → d.seq = ingAcked s k + 1 → ingAcked s k + 1 < 2 ^ 32 → ethState s d.port ≠ 2 →
        Runs (.ingestWriteComplete k) s (fun t => Bytes t d.addr d.data ∧ MemExcept [(d.addr, d.data.length)] s t ∧
          ingAcked t k = ingAcked s k + 1 ∧ (ingOf t k).got = [] ∧ t.fld (F.ING_STATE_HELD k) = 0 ∧
          Notified (if d.mark then s.fld (F.ING_NOTIFY_ADDR k) else 0) (s.fld (F.ING_NVAL_VALUE k)) s t ∧
          RegsExcept [R.ING_STATE k] s t)) ∧
      ((ingOf s k).timer = none → exec (.ingestAckTimer k) s = .next s) ∧
      (∀ d, (ingOf s k).timer = some d → d ≤ s.now → Runs (.ingestAckTimer k) s (fun t =>
        t.out.eth = .ack (ingOf s k).src.2.2 (ingOf s k).src.1 (ingOf s k).src.2.1 k (ingAcked s k) (ackBits s k) ∧
        (ingOf t k).timer = none ∧ (ingOf t k).since = 0 ∧ (ingOf t k).got = (ingOf s k).got ∧ OnlyRegs [] s t)) ∧
      (∀ v : Word,
        (s.fld (F.ING_CTRL_ENABLE k) = 0 → getBits v 0 0 = 1 → Runs (.ingEnable k .w64 v) s (fun t => t.fld (F.ING_CTRL_ENABLE k) = 1 ∧
          t.fld (F.ING_CTRL_PORTS k) = getBits v 2 1 ∧ t.fld (F.ING_CTRL_PREFIX k) = getBits v 15 8 ∧ t.reg (R.ING_STATE k) = 0#64 ∧
          (∀ d ∈ (ingOf t k).got, d.written = false ∧ d.seq = 0) ∧ t.reply = .ok ∧ OnlyRegs [R.ING_CTRL k, R.ING_STATE k] s t)) ∧
        (getBits v 0 0 = 0 → Runs (.ingEnable k .w64 v) s (fun t => t.fld (F.ING_CTRL_ENABLE k) = 0 ∧ t.out = s.out ∧ t.reply = .ok ∧
          OnlyRegs [R.ING_CTRL k] s t)) ∧
        (s.fld (F.ING_CTRL_ENABLE k) = 1 → ∀ off, off ∈ [0x08, 0x10, 0x18, 0x20] → ∀ sz, exec (.ingConfigWrite k off sz v) s =
          .next { s.setFld (F.ING_CTRL_CFG_ERR k) 1 with reply := .ok }) ∧
        (s.fld (F.ING_CTRL_ENABLE k) = 0 →
          Runs (.ingConfigWrite k 0x08 .w64 v) s (fun t => t.fld (F.ING_BASE_BASE k) = getBits v 47 6 * 64 ∧ t.reply = .ok ∧
            OnlyRegs [R.ING_BASE k] s t) ∧
          Runs (.ingConfigWrite k 0x10 .w64 v) s (fun t => t.fld (F.ING_SIZE_SIZE k) = getBits v 39 6 * 64 ∧ t.reply = .ok ∧
            OnlyRegs [R.ING_SIZE k] s t) ∧
          Runs (.ingConfigWrite k 0x18 .w64 v) s (fun t => t.reg (R.ING_SRC k 0) = v ∧ t.reply = .ok ∧ OnlyRegs [R.ING_SRC k 0] s t) ∧
          Runs (.ingConfigWrite k 0x20 .w64 v) s (fun t => t.reg (R.ING_SRC k 1) = v ∧ t.reply = .ok ∧ OnlyRegs [R.ING_SRC k 1] s t))))

/-- R413 to R417: the CXL port. Without a link nothing is served, a closing port refuses; an access outside the committed decoder
is an unsupported request; reads and writes act on LPDDR 6, a bad read is answered with poison and listed; mailbox commands ring
source 131 and answer; the window is written while uncommitted and held otherwise; PERST# and the link change the link's state.
The contents that the CXL standard defines are free values (model's choice: see the assumption log). -/
def Obligations.CxlPort : Prop :=
  ∀ s : State, s.up = true →
    let on := s.fld F.CXL_STATUS_LINK = 1 ∧ cxlState s = 1
    let mailbox (c : Instr) (P : State → Prop) : Prop := (on → Runs c s (fun t => t.fld (rawFld 131) = 1 ∧ P t)) ∧
      (s.fld F.CXL_STATUS_LINK = 0 ∨ cxlState s = 0 → exec c s = .next s) ∧
      (s.fld F.CXL_STATUS_LINK = 1 → cxlState s = 2 → Runs c s (fun t => t.reply = .msg .unsupportedRequest ∧
        t.fld F.CXL_CLOSE_ABANDONED = s.sat F.CXL_CLOSE_ABANDONED 1 ∧ OnlyRegs [R.CXL_CLOSE] s t))
    (∀ (a : Nat) (o : EccOut) (v : BitVec 512) (be : BitVec 64) (po : Bool),
      (s.fld F.CXL_STATUS_LINK = 0 → exec (.cxlHostRead a o) s = .next s ∧ exec (.cxlHostWrite a v be po) s = .next s) ∧
      (s.fld F.CXL_STATUS_LINK = 1 → cxlState s = 2 → exec (.cxlHostRead a o) s = .next
          { s.incFld F.CXL_CLOSE_ABANDONED 1 with reply := .msg .unsupportedRequest }) ∧
      (on → cxlAddr s a = none → exec (.cxlHostRead a o) s = .next { s with reply := .msg .unsupportedRequest } ∧
        exec (.cxlHostWrite a v be po) s = .next { s with reply := .msg .unsupportedRequest } ∧
        exec (.clearPoison a v) s = .next { s.raise 131 with reply := .msg .unsupportedRequest }) ∧
      (∀ l, on → cxlAddr s a = some l →
        (s.poisoned (l / 256) = false → exec (.cxlHostRead a .clean) s = .next { s with reply := .msg (.data (s.readBytes (.flat l) 64)) }) ∧
        (s.poisoned (l / 256) = true → Runs (.cxlHostRead a .clean) s (fun t => t.reply = .msg (.poison (s.readBytes (.flat l) 64)) ∧
          l / 256 ∈ t.out.cxl.listed ∧ t.out.cxl.events = s.out.cxl.events ++ [l / 256] ∧
          t.fld (F.MC_UE_COUNT_COUNT (mcOf (l / 256))) = s.sat (F.MC_UE_COUNT_COUNT (mcOf (l / 256))) 32 ∧ MemSame s t)) ∧
        (∀ k, 0 < k → s.poisoned (l / 256) = false → Runs (.cxlHostRead a (.uncorr k)) s (fun t =>
          t.reply = .msg (.poison (s.readBytes (.flat l) 64)) ∧ l / 256 ∈ t.out.cxl.listed ∧ t.poisoned (l / 256) = true ∧ MemSame s t)) ∧
        Runs (.cxlHostWrite a v be po) s (fun t => t.reply = .ok ∧
          Bytes t l ((List.range 64).map fun i => if be.getLsbD i then v.extractLsb' (8 * i) 8 else s.byte (l + i)) ∧
          MemExcept [(l, 64)] s t ∧ t.poisoned (l / 256) = (po || s.poisoned (l / 256)) ∧ RegsExcept [] s t) ∧
        (l % 64 = 0 → Runs (.clearPoison a v) s (fun t => t.fld (rawFld 131) = 1 ∧ t.reply = .ok ∧ Bytes t l ((List.range 64).map fun i => v.extractLsb' (8 * i) 8) ∧
          MemExcept [(l / 256 * 256, 256)] s t ∧ t.poisoned (l / 256) = false ∧
          t.out.cxl.listed = s.out.cxl.listed.filter (fun x => x ≠ l / 256)))) ∧
      (s.fld F.CXL_STATUS_LINK = 0 ∨ cxlState s = 0 → exec (.clearPoison a v) s = .next s)) ∧
    mailbox .identifyMemoryDevice (fun t => t.reply = .msg (.list [cxlSize s]) ∧ MemSame s t) ∧
    mailbox .getHealthInfo (fun t => t.reply = .msg (.content (Config.freeNat s.fresh)) ∧ t.fresh = s.fresh + 1 ∧ MemSame s t) ∧
    mailbox .getEventRecords (fun t => t.reply = .msg (.list s.out.cxl.events) ∧ t.out = s.out ∧ MemSame s t) ∧
    mailbox .clearEventRecords (fun t => t.reply = .ok ∧ t.out.cxl = { s.out.cxl with events := [] } ∧ MemSame s t) ∧
    mailbox .getPoisonList (fun t => t.reply = .msg (.list s.out.cxl.listed) ∧ t.out = s.out ∧ MemSame s t) ∧
    (∀ x t0, s.out.cxl.clock = some (x, t0) →
      mailbox .getTimestamp (fun t => t.reply = .msg (.list [x + (s.now - t0) * 10 / 7]) ∧ MemSame s t)) ∧
    (∀ x, mailbox (.setTimestamp x) (fun t => t.reply = .ok ∧ t.out.cxl = { s.out.cxl with clock := some (x, s.now) } ∧ MemSame s t)) ∧
    (∀ op, mailbox (.cxlMailboxUnsupported op) (fun t => t.reply = .msg .mailboxUnsupported ∧ MemSame s t)) ∧
    (on → (∀ i, exec (.doeDiscovery i) s = .next { s with reply := .msg (.content (Config.freeNat s.fresh)), fresh := s.fresh + 1 }) ∧
      (∀ h, exec (.cdat h) s = .next { s with reply := .msg (.content (Config.freeNat s.fresh)), fresh := s.fresh + 1 })) ∧
    (∀ v : Word,
      (s.fld F.CXL_STATUS_COMMITTED = 0 → s.out.cxl.held = none →
        Runs (.cxlWinWrite false .w64 v) s (fun t => t.fld F.CXL_WIN_BASE_BASE = getBits v 47 21 * 2 ^ 21 ∧ t.out = s.out ∧
          OnlyRegs [R.CXL_WIN_BASE] s t) ∧
        Runs (.cxlWinWrite true .w64 v) s (fun t => t.fld F.CXL_WIN_SIZE_SIZE = getBits v 40 21 * 2 ^ 21 ∧ t.out = s.out ∧
          OnlyRegs [R.CXL_WIN_SIZE] s t)) ∧
      (s.fld F.CXL_STATUS_COMMITTED = 1 → ∀ b, Runs (.cxlWinWrite b .w64 v) s (fun t => t.fld F.CXL_STATUS_WIN_PENDING = 1 ∧
        (∃ h, t.out.cxl.held = some h ∧ ((if b then h.2 else h.1).map fun w => getBits w 40 21) = some (getBits v 40 21)) ∧
        OnlyRegs [R.CXL_STATUS] s t))) ∧
    (on → Runs (.hdmDecoderCommit true) s (fun t => t.fld F.CXL_STATUS_COMMITTED = 1 ∧ t.out = s.out ∧ OnlyRegs [R.CXL_STATUS] s t)) ∧
    (∀ b z, on → s.out.cxl.held = some (some b, some z) → Runs (.hdmDecoderCommit false) s (fun t =>
      t.fld F.CXL_STATUS_COMMITTED = 0 ∧ t.reg R.CXL_WIN_BASE = b ∧ t.reg R.CXL_WIN_SIZE = z ∧ t.fld F.CXL_STATUS_WIN_PENDING = 0 ∧
      t.out.cxl.held = none ∧ OnlyRegs [R.CXL_STATUS, R.CXL_WIN_BASE, R.CXL_WIN_SIZE] s t)) ∧
    Runs (.perstN true) s (fun t => t.fld F.CXL_STATUS_LINK = 0 ∧ t.fld F.CXL_STATUS_COMMITTED = 0 ∧ t.fld F.CXL_STATUS_WIDTH = 0 ∧
      t.fld F.CXL_STATUS_RATE = 0 ∧ t.out.mgt.perst = true ∧ t.out.cxl.held = none ∧
      (s.fld F.CXL_STATUS_LINK = 1 → t.fld (rawFld 130) = 1) ∧ MemSame s t) ∧
    exec (.perstN false) s = .next { s with out := { s.out with mgt := { s.out.mgt with perst := false } } } ∧
    (∀ (w : BitVec 5) (r : BitVec 3), (cxlState s = 0 ∨ s.out.mgt.perst = true → exec (.cxlLinkChange true w r) s = .next s) ∧
      (cxlState s ≠ 0 → s.out.mgt.perst = false → Runs (.cxlLinkChange true w r) s (fun t => t.fld F.CXL_STATUS_LINK = 1 ∧
        t.fld F.CXL_STATUS_WIDTH = w.toNat ∧ t.fld F.CXL_STATUS_RATE = r.toNat ∧ t.fld (rawFld 130) = 1 ∧ MemSame s t)) ∧
      (s.fld F.CXL_STATUS_LINK = 0 → exec (.cxlLinkChange false w r) s = .next s) ∧
      (s.fld F.CXL_STATUS_LINK = 1 → Runs (.cxlLinkChange false w r) s (fun t => t.fld F.CXL_STATUS_LINK = 0 ∧
        t.fld F.CXL_STATUS_WIDTH = 0 ∧ t.fld F.CXL_STATUS_RATE = 0 ∧ t.fld (rawFld 130) = 1 ∧ MemSame s t)))

/-! ### Management, power, supervisor, events, security -/

/-- R418 to R420, R457, R462 to R469: the management endpoint. It answers while standby power is present, in reset as well. Contents
that PLDM and SPDM define are free values (model's choice: see the assumption log); an update is relayed into the slot that does not
run; a signed response uses the next leaf; a nonce is fresh; an UNLOCK token of the wrong length or a wrong token is answered and
the nonce used up; the debug channel reads and writes where debug is open and raises an alarm where it is closed. -/
def Obligations.ManagementEndpoint : Prop :=
  ∀ s : State,
    let free : List Instr := [.gettid, .getpldmversion, .getpldmtypes, .getpldmcommands, .getpdrrepositoryinfo, .getVersion,
      .getCapabilities, .negotiateAlgorithms, .getDigests]
    let said (c : Instr) (m : Msg) : Prop := exec c s = .next { s with reply := .msg m }
    (s.out.mgt.standby = false → (∀ c ∈ free, exec c s = .next s) ∧ exec .requestupdate s = .next s ∧ exec .getNonce s = .next s ∧
      (∀ tk, exec (.unlock tk) s = .next s) ∧ (∀ m, exec (.challenge m) s = .next s)) ∧
    (s.out.mgt.standby = true →
      (∀ a, exec (.i3cAddressAssign a) s = .next
        { s with out := { s.out with mgt := { s.out.mgt with addr := some a.toNat } }, reply := .ok }) ∧
      (∀ e, exec (.setEndpointId e) s = .next
        { s with out := { s.out with mgt := { s.out.mgt with eid := some e.toNat } }, reply := .ok }) ∧
      (∀ c ∈ free, exec c s = .next { s with reply := .msg (.content (Config.freeNat s.fresh)), fresh := s.fresh + 1 }) ∧
      (∀ h, exec (.getpdr h) s = .next { s with reply := .msg (.content (Config.freeNat s.fresh)), fresh := s.fresh + 1 }) ∧
      (∀ k : Fin 22,
        (k.val = 21 → said (.getnumericsensorreading k) (.list [s.fld F.BOOT_REC_ATTEMPTS])) ∧
        (7 ≤ k.val → k.val ≤ 20 → s.out.mgt.inReset = true → said (.getnumericsensorreading k) .unavailable ∧
          exec (.sensorLimitCross k) s = .next s) ∧
        (k.val < 7 ∨ (k.val ≤ 20 ∧ s.out.mgt.inReset = false) → exec (.getnumericsensorreading k) s = .next
            { s with reply := .msg (.content (Config.freeNat s.fresh)), fresh := s.fresh + 1 }) ∧
        (k.val < 7 ∨ k.val = 21 ∨ s.out.mgt.inReset = false → said (.sensorLimitCross k) (.event k))) ∧
      said .getstatesensorreadings (.list [s.fld F.BOOT_REC_STATE, s.fld F.BOOT_REC_CAUSE, s.fld F.PWR_STATUS_SAFE,
        s.fld F.PWR_STATUS_REFCLK_LOSS, s.fld F.PWR_STATUS_INLET_HOT, s.fld F.PWR_STATUS_JUNCTION_HOT, s.fld F.PWR_STATUS_SUPPLY]) ∧
      (∀ ty cm, said (.pldmUnsupported ty cm) .unsupportedPldmCmd) ∧ (∀ c, said (.spdmUnsupported c) .spdmUnsupportedRequest) ∧
      (∀ off len, said (.getCertificate off len) (.data (s.readBytes (.flat (bootFlashBase + 0x3C00000 + off.toNat)) len.toNat))) ∧
      Runs .requestupdate s (fun t => t.out.mgt.update = some (updateSlot s) ∧ t.reply = .ok ∧
        (s.out.mgt.inReset = false → t.fld (rawFld 132) = 1) ∧ MemSame s t) ∧
      (s.out.mgt.update = none → (∀ off data, exec (.updateDataRelay off data) s = .next s)) ∧
      (∀ slot (off : BitVec 25) (data : List Byte), s.out.mgt.update = some slot →
        (s.out.mgt.inReset = false → s.dike.win = 1 → s.dike.winSlot = slot → off.toNat + data.length ≤ slotSize slot →
          Runs (.updateDataRelay off data) s (fun t => Bytes t (bootFlashBase + slotBase slot + off.toNat) data ∧
            MemExcept [(bootFlashBase + slotBase slot + off.toNat, data.length)] s t ∧ t.reply = .ok ∧ t.fld (rawFld 132) = 1)) ∧
        Runs .activatefirmware s (fun t => t.fld F.BOOT_REC_PREF = slot % 4 ∧ t.out.mgt.update = none ∧ t.reply = .ok ∧
          OnlyRegs [R.BOOT_REC] s t)) ∧
      (∀ m, (spdmBusy s = true → said (.challenge m) .spdmBusy ∧ said (.getMeasurements m) .spdmBusy) ∧
        (spdmBusy s = false → s.fld F.LMS_NEXT_LEAF < 2 ^ 25 → ∀ c ∈ [Instr.challenge m, .getMeasurements m], Runs c s (fun t =>
          t.fld F.LMS_NEXT_LEAF = s.fld F.LMS_NEXT_LEAF + 1 ∧
          t.dike.signed = some (some (s.fld F.LMS_NEXT_LEAF, Config.hssSign (dikeGen s) (s.fld F.LMS_NEXT_LEAF) m)) ∧
          (∃ bs, t.reply = .msg (.signed (dikeGen s) m bs (some (s.fld F.LMS_NEXT_LEAF)))) ∧
          (s.fld F.LMS_NEXT_LEAF = 2 ^ 25 - 1 → t.fld (rawFld 152) = 1) ∧ MemSame s t)) ∧
        (spdmBusy s = false → 2 ^ 25 ≤ s.fld F.LMS_NEXT_LEAF → Runs (.challenge m) s (fun t => t.dike.signed = some none ∧
          OnlyRegs [] s t))) ∧
      (s.dike.signed = none → exec .getCosig s = .next (ridom s 1 rNONE [])) ∧
      (s.dike.signed = some none → exec .getCosig s = .next (ridom s 1 rEXHAUSTED [])) ∧
      (∀ n b, s.dike.signed = some (some (n, b)) → exec .getCosig s = .next (ridom s 1 rOK (leBytes 4 n ++ b))) ∧
      (s.out.mgt.inReset = true → exec .getNonce s = .next (ridom s 2 rBUSY [])) ∧
      (s.out.mgt.inReset = false → Runs .getNonce s (fun t => t.dike.nonce = some (leBytes 32 (Config.freeNat s.fresh)) ∧
        t.fresh = s.fresh + 1 ∧ t.reply = (ridom s 2 rOK (leBytes 32 (Config.freeNat s.fresh))).reply ∧ OnlyRegs [] s t)) ∧
      (∀ tk : List Byte, s.out.mgt.inReset = false → s.fld F.SEC_STATUS_ERASING = 0 →
        (tk.length ≠ 4096 → Runs (.unlock tk) s (fun t => t.dike.nonce = none ∧ t.reply = (ridom s 3 rFORMAT []).reply ∧ OnlyRegs [] s t)) ∧
        (tk.length = 4096 → tokenValid s tk = true → Runs (.unlock tk) s (fun t => t.dike.nonce = none ∧ t.dike.unlocking = true ∧
          t.fld F.SEC_STATUS_ERASING = 1 ∧ t.reply = .none ∧ OnlyRegs [R.SEC_STATUS] s t)) ∧
        (tk.length = 4096 → tokenValid s tk = false → s.fld F.BOOT_REC_AUTH_FAILS ≠ 2 → Runs (.unlock tk) s (fun t =>
          t.dike.nonce = none ∧ t.fld F.BOOT_REC_AUTH_FAILS = min 7 (s.fld F.BOOT_REC_AUTH_FAILS + 1) ∧
          t.reply = (ridom s 3 rDENIED []).reply ∧ OnlyRegs [R.BOOT_REC] s t))) ∧
      (∀ (a : Word) (v : Word),
        (s.out.mgt.inReset = true → exec (.dbgRead a) s = .next (ridom s 4 rDENIED []) ∧ exec (.dbgWrite a v) s = .next (ridom s 5 rDENIED [])) ∧
        (s.out.mgt.inReset = false → s.fld F.SEC_STATUS_DEBUG_OPEN = 0 → getBits (s.reg R.DIKE_ACTION) 11 10 = 0 →
          Runs (.dbgRead a) s (fun t => AlarmLogged 5 s t ∧ t.reply = (ridom s 4 rDENIED []).reply) ∧
          Runs (.dbgWrite a v) s (fun t => AlarmLogged 5 s t ∧ t.reply = (ridom s 5 rDENIED []).reply)) ∧
        (s.out.mgt.inReset = false → s.fld F.SEC_STATUS_DEBUG_OPEN = 1 → a.toNat % 8 = 0 → inRange a.toNat 8 sramBase (sramBase + sramSize) = true →
          exec (.dbgRead a) s = .next (ridom s 4 rOK (leBytes 8 (s.readLE (.flat a.toNat) 8))) ∧
          Runs (.dbgWrite a v) s (fun t => Bytes t a.toNat (leBytes 8 v.toNat) ∧ MemExcept [(a.toNat, 8)] s t ∧
            t.reply = (ridom s 5 rOK []).reply ∧ RegsExcept [] s t))))

/-- R422 to R426, R445, R455, R474: power and reset. Power inputs, the reference and the reset pin set PWR_STATUS and CLK_STATUS and
the causes of the alarm; the release from reset leaves everything at its reset value but what R445 keeps; a supply failure, the loss
of the reference and an over-temperature enter the safe state of a package that is not in reset. -/
def Obligations.PowerAndReset : Prop :=
  ∀ s : State,
    let m := s.out.mgt
    (m.standby = true → exec .standbyPowerOn s = .next s) ∧
    (m.standby = false → Runs .standbyPowerOn s (fun t => t.reg R.BOOT_REC = 0x200#64 ∧
      (m.main = true → t.fld F.PWR_STATUS_PWR_GOOD = 1 ∧ t.fld F.PWR_STATUS_SUPPLY = 0) ∧
      (m.main = false → t.reg R.PWR_STATUS = s.reg R.PWR_STATUS) ∧
      t.out.mgt = { m with standby := true, addr := none, eid := none, update := none } ∧ OnlyRegs [R.BOOT_REC, R.PWR_STATUS] s t)) ∧
    Runs .mainPowerOn s (fun t => (m.standby = true → t.fld F.PWR_STATUS_PWR_GOOD = 1 ∧ t.fld F.PWR_STATUS_SUPPLY = 0) ∧
      (m.standby = false → t.reg R.PWR_STATUS = s.reg R.PWR_STATUS) ∧ RegsExcept [R.PWR_STATUS] s t ∧ CoresExcept [] s t ∧
      (m.main = true → t.out = s.out ∧ MemSame s t) ∧
      (m.main = false → t.out.mgt = { m with main := true, applied := true, inReset := true } ∧
        (∀ a, t.byte a = if lpddrEnd ≤ a ∧ keptAddr a = true then s.byte a else memDefault a))) ∧
    exec .modResetAssert s = .next { s with out := { s.out with mgt := { m with resetN := false, inReset := true } } } ∧
    (m.inReset = true → m.refclk = true → m.main = true → m.standby = true → Runs .modResetRelease s (fun t =>
      ReleasedFromReset (if m.applied then 1 else 2) s t ∧ t.fld F.CLK_STATUS_REF_OK = 1 ∧ t.fld F.CLK_STATUS_PLL_LOCK = 1)) ∧
    (m.inReset = false ∨ m.refclk = false ∨ m.main = false ∨ m.standby = false →
      exec .modResetRelease s = .next { s with out := { s.out with mgt := { m with resetN := true } } }) ∧
    (∀ b, Runs (.supplyFail b) s (fun t => t.fld F.PWR_STATUS_PWR_GOOD = 0 ∧ t.fld F.PWR_STATUS_SUPPLY = 1 ∧
      t.out.mgt = (if b then { m with standby := false } else { m with main := false }) ∧ MemSame s t ∧
      (m.inReset = false → safeActive s = false → SafeEntered 3 133 s t))) ∧
    Runs .refclkLoss s (fun t => t.fld F.CLK_STATUS_REF_OK = 0 ∧ t.fld F.CLK_STATUS_PLL_LOCK = 0 ∧ t.fld F.PWR_STATUS_REFCLK_LOSS = 1 ∧
      t.out.mgt = { m with refclk := false } ∧ MemSame s t ∧ (m.inReset = false → safeActive s = false → SafeEntered 2 133 s t)) ∧
    (m.inReset = false ∨ m.resetN = false ∨ m.main = false ∨ m.standby = false → Runs .refclkReturn s (fun t => t.fld F.CLK_STATUS_REF_OK = 1 ∧
      t.fld F.CLK_STATUS_PLL_LOCK = 1 ∧ t.fld F.PWR_STATUS_REFCLK_LOSS = 0 ∧ t.out.mgt = { m with refclk := true } ∧
      OnlyRegs [R.CLK_STATUS, R.PWR_STATUS] s t)) ∧
    (m.inReset = true → m.resetN = true → m.main = true → m.standby = true → Runs .refclkReturn s (fun t =>
      ReleasedFromReset (if m.applied then 1 else 2) s t ∧ t.fld F.PWR_STATUS_REFCLK_LOSS = 0)) ∧
    Runs (.junctionWarning true) s (CauseRose F.PWR_STATUS_JUNCTION_HOT s) ∧ Runs (.inletHot true) s (CauseRose F.PWR_STATUS_INLET_HOT s) ∧
    exec (.junctionWarning false) s = .next (s.setFld F.PWR_STATUS_JUNCTION_HOT 0) ∧
    exec (.inletHot false) s = .next (s.setFld F.PWR_STATUS_INLET_HOT 0) ∧
    (s.up = true → safeActive s = false → Runs .overTemperature s (SafeEntered 4 133 s)) ∧
    (∀ v : Word, s.up = true → (getBits v 0 0 = 1 → s.fld F.RST_CTRL_PKG_RST = 0 → Runs (.pkgRst .w64 v) s (fun t =>
        ReleasedFromReset 4 s t ∧ t.out.mgt = { m with inReset := false, applied := false })) ∧
      (getBits v 0 0 = 0 → s.fld F.RST_CTRL_PKG_RST = 0 → Runs (.pkgRst .w64 v) s (fun t => t.reply = .ok ∧ t.out = s.out ∧ OnlyRegs [] s t)))

/-- R429 to R433, R453: the supervisor complex. A lockstep mismatch stops the pair and enters the safe state; shared SRAM is read
and written, its errors counted; the fabric aperture and the fence issue transactions, one at a time; the timer becomes pending when
it is due; a software interrupt starts a core that waits in the ROM. -/
def Obligations.SupervisorComplex : Prop :=
  ∀ (k : Fin 4) (s : State), s.up = true →
    (safeActive s = false → Runs (.lockstepMismatch k) s (fun t => t.fld (F.SUP_STATUS_STOPPED k) = 1 ∧
      t.fld (F.SUP_STATUS_LOCKSTEP_ERR k) = 1 ∧ t.fld (rawFld 161) = 1 ∧ SafeEntered 1 161 s t)) ∧
    (s.fld (F.SUP_STATUS_STOPPED k) = 1 → (∀ off size v o, exec (.sramAccess k off size v o) s = .next s) ∧
      (∀ a v, exec (.apertureAccess k a v) s = .next s)) ∧
    (∀ (off : BitVec 23) (size : Nat), s.fld (F.SUP_STATUS_STOPPED k) = 0 →
      (size ∉ [1, 2, 4, 8] ∨ sramSize < off.toNat + size → ∀ v o, exec (.sramAccess k off size v o) s = .next { s with reply := .accessError }) ∧
      (size ∈ [1, 2, 4, 8] → off.toNat + size ≤ sramSize →
        exec (.sramAccess k off size none .clean) s = .next
          { s with reply := .value (BitVec.ofNat 64 (s.readLE (.flat (sramBase + off.toNat)) size)) } ∧
        (∀ w : Word, Runs (.sramAccess k off size (some w) .clean) s (fun t => Bytes t (sramBase + off.toNat) (leBytes size w.toNat) ∧
          MemExcept [(sramBase + off.toNat, size)] s t ∧ t.reply = .ok ∧ RegsExcept [] s t ∧ CoresExcept [] s t)) ∧
        Runs (.sramAccess k off size none .single) s (fun t => t.fld F.SRAM_CE_COUNT = s.sat F.SRAM_CE_COUNT 1 ∧
          t.reply = .value (BitVec.ofNat 64 (s.readLE (.flat (sramBase + off.toNat)) size)) ∧ OnlyRegs [R.SRAM_CE] s t) ∧
        (∀ v, Runs (.sramAccess k off size v .uncorr) s (fun t => t.fld F.SRAM_UE_COUNT = s.sat F.SRAM_UE_COUNT 1 ∧
          t.reply = .accessError ∧ t.fld (rawFld 160) = 1 ∧ MemSame s t)))) ∧
    (∀ (a : BitVec 48) (v : Word), s.fld (F.SUP_STATUS_STOPPED k) = 0 →
      (supWaiting s k = true → exec (.apertureAccess k a none) s = .next s) ∧
      (supWaiting s k = false → a.toNat % 8 ≠ 0 → exec (.apertureAccess k a (some v)) s = .next { s with reply := .accessError }) ∧
      (supWaiting s k = false → a.toNat % 8 = 0 →
        exec (.apertureAccess k a none) s = .next (s.issueTx (.aperture k) (min 2 (s.fld (F.SUP_FABWIN_CLASS k)))
          (s.fld (F.SUP_FABWIN_NODE k)) opREAD 0 8 a.toNat []) ∧
        exec (.apertureAccess k a (some v)) s = .next (s.issueTx (.aperture k) (min 2 (s.fld (F.SUP_FABWIN_CLASS k)))
          (s.fld (F.SUP_FABWIN_NODE k)) opWRITE 0 8 a.toNat (leBytes 8 v.toNat)))) ∧
    (∀ v : Word, (getBits v 0 0 = 0 ∨ supWaiting s k = true → exec (.supFence k v) s = .next s) ∧
      (getBits v 0 0 = 1 → supWaiting s k = false → exec (.supFence k v) s = .next ((s.setFld (F.SUP_FENCE_FENCE k) 1).issueTx (.fence k)
        (min 2 (s.fld (F.SUP_FABWIN_CLASS k))) (s.fld (F.SUP_FABWIN_NODE k)) opFENCE 0 0 0 [])) ∧
      ((k.val = 0 ∨ (supOf s k).inRom = false ∨ s.fld (F.SUP_STATUS_STOPPED k) = 1) → exec (.supMsip k v) s = .next
        (s.setFld (F.SUP_MSIP_MSIP k) (getBits v 0 0))) ∧
      (k.val ≠ 0 → (supOf s k).inRom = true → s.fld (F.SUP_STATUS_STOPPED k) = 0 → getBits v 0 0 = 1 → Runs (.supMsip k v) s (fun t =>
        supOf t k = { supOf s k with inRom := false, start := some (s.readLE (.flat (sramBase + 0x7C0000 + 8 * k.val)) 8) } ∧
        t.fld (F.SUP_MSIP_MSIP k) = 0 ∧ OnlyRegs [R.SUP_MSIP k] s t))) ∧
    (mtimeDue s k = false → exec (.mtimerExpire k) s = .next s) ∧
    (mtimeDue s k = true → Runs (.mtimerExpire k) s (fun t => supOf t k = { supOf s k with mtip := true } ∧
      (∀ j, j ≠ k.val → supOf t j = supOf s j) ∧ OnlyRegs [] s t))

/-- R434 to R440: the event controller. A pulse of an edge source makes it pending, or is merged; only sources that a block or
software drives take one; a pending source is assigned to the first eligible target after its pointer; a claim takes the best
candidate into service, or answers 0x3FF; a completion of the top of the stack ends the service, any other is an error. -/
def Obligations.EventController : Prop :=
  ∀ s : State, s.up = true →
    (∀ i : Fin 512, (sourceDriven i = false → exec (.eventPulse i) s = .next s) ∧
      (sourceDriven i = true → s.fld (F.SRC_CFG_MODE i) = 0 →
        (s.fld (pendFld i) = 0 → Runs (.eventPulse i) s (fun t => t.fld (pendFld i) = 1 ∧ t.fld (rawFld i) = 1 ∧
          t.ldr.latched = (s.ldr.latched || (i.val == 192)) ∧ OnlyRegs [R.PEND (i / 64), R.RAW (i / 64)] s t)) ∧
        (s.fld (pendFld i) = 1 → Runs (.eventPulse i) s (fun t => t.fld (pendFld i) = 1 ∧ t.fld (rawFld i) = 1 ∧
          t.fld F.EVC_MERGED_COUNT = s.sat F.EVC_MERGED_COUNT 1 ∧ OnlyRegs [R.RAW (i / 64), R.EVC_MERGED] s t)))) ∧
    (∀ v : Word, (getBits v 8 0 < 192 → exec (.evcSwset .w64 v) s = .next { s with reply := .ok }) ∧
      (192 ≤ getBits v 8 0 → s.fld (F.SRC_CFG_MODE (getBits v 8 0)) = 0 → Runs (.evcSwset .w64 v) s (fun t =>
        t.fld (pendFld (getBits v 8 0)) = 1 ∧ t.fld (rawFld (getBits v 8 0)) = 1 ∧ t.reply = .ok ∧ MemSame s t))) ∧
    (∀ i : Fin 512, s.fld (F.SRC_CFG_MODE i) = 0 →
      (s.fld (pendFld i) = 0 ∨ s.fld (inservFld i) = 1 → Runs (.eventAssign i) s (fun t => t.assignedTo i = 0 ∧ OnlyRegs [] s t)) ∧
      (∀ tg, s.fld (pendFld i) = 1 → s.fld (inservFld i) = 0 → s.assignedTo i = 0 →
        [s.rrPtr i + 1, s.rrPtr i + 2, s.rrPtr i + 3, s.rrPtr i + 4].find? (fun t => s.eligible i (t % 4)) = some tg →
        Runs (.eventAssign i) s (fun t => t.assignedTo i = tg % 4 + 1 ∧ t.rrPtr i = tg % 4 ∧ OnlyRegs [] s t))) ∧
    (∀ g : Fin 4,
      (bestSource s g = none → exec (.tgtClaim g .w64) s = .next { s with reply := .value 0x3FF#64 }) ∧
      (∀ i, bestSource s g = some i → Runs (.tgtClaim g .w64) s (fun t => t.reply = .value (BitVec.ofNat 64 i) ∧
        t.fld (pendFld i) = 0 ∧ t.fld (inservFld i) = 1 ∧
        t.tgtStack g = (i, groupOf s (s.fld (F.SRC_CFG_PRIO i))) :: s.tgtStack g ∧ t.assignedTo i = 0 ∧
        OnlyRegs [R.PEND (i / 64), R.INSERV (i / 64)] s t)) ∧
      exec (.tgtClaim g .hi) s = .next { s with reply := .value 0#64 } ∧
      (∀ v : Word,
        (∀ x rest, s.tgtStack g = (getBits v 8 0, x) :: rest → Runs (.tgtComplete g .w64 v) s (fun t => t.tgtStack g = rest ∧
          t.fld (inservFld (getBits v 8 0)) = 0 ∧ t.reply = .ok ∧
          OnlyRegs [R.PEND (getBits v 8 0 / 64), R.INSERV (getBits v 8 0 / 64)] s t)) ∧
        ((∀ x rest, s.tgtStack g ≠ (getBits v 8 0, x) :: rest) → exec (.tgtComplete g .w64 v) s = .next
          { s.setFld (F.TGT_STATUS_COMP_ERR g) 1 with reply := .ok })))

/-- R449 to R456, R458 to R461, R470 to R472: the boot ROM and the dike. A dike command runs when no other does; the fuse commands
are refused by the rules of R461 and blow their fuses at their end; a window, the plan's measurement and the locks are set; an
alarm is recorded and acts as DIKE_ACTION says; an erasure ends with the next generation; an attempt fails with the code of its
first failed check, or starts the image. -/
def Obligations.BootAndDike : Prop :=
  ∀ s : State, s.up = true →
    (s.fld F.SEC_CMD_GO = 1 → ∀ a, exec .confirmBoot s = .next s ∧ exec (.enrollOwner a) s = .next s ∧ exec .setOwnerOnly s = .next s ∧
      exec (.revokeVendor a) s = .next s ∧ exec (.advanceSvn a) s = .next s ∧ exec (.setFlashWin a) s = .next s ∧ exec .setPlanMeas s = .next s) ∧
    (s.fld F.SEC_CMD_GO = 0 → ∀ a : BitVec 32,
      Runs .confirmBoot s (fun t => t.fld F.SEC_CMD_RESULT = 1 ∧ t.fld F.SEC_CMD_GO = 0 ∧ t.fld F.BOOT_REC_INFLIGHT = 0 ∧
        t.fld F.BOOT_REC_STEP = 0 ∧ t.fld F.BOOT_REC_STATE = 5 ∧
        t.fld F.BOOT_REC_PREF = (if s.fld F.SEC_STATUS_RUN_SLOT = 1 ∨ s.fld F.SEC_STATUS_RUN_SLOT = 2 then s.fld F.SEC_STATUS_RUN_SLOT
          else s.fld F.BOOT_REC_PREF) ∧ OnlyRegs [R.SEC_CMD, R.BOOT_REC] s t) ∧
      Runs (.setFlashWin a) s (fun t => t.fld F.SEC_CMD_RESULT = 1 ∧ (a.toNat ≤ 3 → t.dike.win = a.toNat ∧
        (a.toNat = 1 → t.dike.winSlot = updateSlot s)) ∧ (3 < a.toNat → t.dike = s.dike) ∧ OnlyRegs [R.SEC_CMD] s t) ∧
      Runs .setPlanMeas s (fun t => t.fld F.SEC_CMD_RESULT = 1 ∧ t.dike.plan = getWords s (R.SEC_DATA 0) 6 ∧ OnlyRegs [R.SEC_CMD] s t) ∧
      (∀ c ∈ [(2, a.toNat, Instr.enrollOwner a), (3, 0, Instr.setOwnerOnly), (4, a.toNat, Instr.revokeVendor a), (5, a.toNat, Instr.advanceSvn a)],
        (fuseRefused s c.1 c.2.1 = true → Runs c.2.2 s (fun t => t.fld F.SEC_CMD_RESULT = 2 ∧ t.fld F.SEC_CMD_GO = 0 ∧ t.dike = s.dike ∧
          OnlyRegs [R.SEC_CMD] s t)) ∧
        (fuseRefused s c.1 c.2.1 = false → Runs c.2.2 s (fun t => t.fld F.SEC_CMD_RESULT = 3 ∧ t.fld F.SEC_CMD_GO = 1 ∧
          t.fld F.SEC_CMD_OP = c.1 ∧ t.fld F.SEC_CMD_ARG = c.2.1 ∧ t.dike.cmdAlarm = false ∧ OnlyRegs [R.SEC_CMD] s t)))) ∧
    (s.fld F.SEC_CMD_GO = 0 → ∀ b, exec (.secCmdEnd b) s = .next s) ∧
    (s.fld F.SEC_CMD_GO = 1 → s.dike.cmdAlarm = true → Runs (.secCmdEnd false) s (fun t => t.fld F.SEC_CMD_RESULT = 2 ∧
      t.fld F.SEC_CMD_GO = 0 ∧ t.dike = s.dike ∧ OnlyRegs [R.SEC_CMD] s t)) ∧
    (s.fld F.SEC_CMD_GO = 1 → s.dike.cmdAlarm = false → ∀ b, Runs (.secCmdEnd b) s (fun t => t.fld F.SEC_CMD_RESULT = 1 ∧
      t.fld F.SEC_CMD_GO = 0 ∧
      (s.fld F.SEC_CMD_OP = 2 → policyOf t = s.fld F.SEC_CMD_ARG % 4 ∧ t.dike.owner = getWords s (R.SEC_DATA 0) 6) ∧
      (s.fld F.SEC_CMD_OP = 3 → policyOf t = 3) ∧
      (s.fld F.SEC_CMD_OP = 4 → s.fld F.SEC_CMD_ARG < 4 → (t.fld F.SEC_STATUS_VREVOKE).testBit (s.fld F.SEC_CMD_ARG) = true) ∧
      (s.fld F.SEC_CMD_OP = 5 → s.fld F.SEC_CMD_ARG ≤ 64 → t.fld F.SVN_MIN_MIN = max (s.fld F.SEC_CMD_ARG) (s.fld F.SVN_MIN_MIN)) ∧
      OnlyRegs [R.SEC_CMD, R.SEC_STATUS, R.SVN_MIN] s t)) ∧
    exec .fuseLock s = .next { s.setReg R.SEC_LOCK (s.reg R.SEC_LOCK ||| 1#64) with reply := .ok } ∧
    exec .actionLock s = .next { s.setReg R.SEC_LOCK (s.reg R.SEC_LOCK ||| 2#64) with reply := .ok } ∧
    (∀ c ∈ [(0, Instr.volt), (1, Instr.clk), (2, Instr.temp), (3, Instr.mesh)],
      (getBits (s.reg R.DIKE_ACTION) (2 * c.1 + 1) (2 * c.1) = 0 → Runs c.2 s (AlarmLogged c.1 s)) ∧
      (getBits (s.reg R.DIKE_ACTION) (2 * c.1 + 1) (2 * c.1) = 1 → s.fld F.SEC_STATUS_ERASING = 0 → Runs c.2 s (fun t =>
        t.now = 0 ∧ t.fld F.RST_CAUSE_SOFT = 1 ∧ (∀ n, t.core n = Core.reset))) ∧
      (2 ≤ getBits (s.reg R.DIKE_ACTION) (2 * c.1 + 1) (2 * c.1) → Runs c.2 s (fun t => AlarmLogged c.1 s t ∧
        t.fld F.SEC_STATUS_ERASING = 1 ∧ t.dike.thenReset = true))) ∧
    (s.fld F.SEC_STATUS_ERASING = 0 → exec .eraseComplete s = .next s) ∧
    (s.fld F.SEC_STATUS_ERASING = 1 → s.dike.thenReset = false → Runs .eraseComplete s (fun t => dikeGen t = min 16 (dikeGen s + 1) ∧
      t.fld F.SEC_STATUS_KEYS_VALID = 0 ∧ t.fld F.SEC_STATUS_ERASING = 0 ∧ (∀ k : Fin 12, t.reg (R.IDK_PUB k) = 0#64) ∧
      t.fld (rawFld 150) = 1 ∧ (s.dike.unlocking = true → t.fld F.SEC_STATUS_DEBUG_OPEN = 1 ∧ t.fld F.BOOT_REC_AUTH_FAILS = 0) ∧
      (s.dike.unlocking = false → t.fld F.SEC_STATUS_DEBUG_OPEN = s.fld F.SEC_STATUS_DEBUG_OPEN) ∧ t.dike.unlocking = false ∧ MemSame s t)) ∧
    (s.dike.romStarted = true → exec .romStart s = .next s) ∧
    (s.dike.romStarted = false → Runs .romStart s (fun t => t.dike.romStarted = true ∧ t.fld F.BOOT_REC_INFLIGHT = 0 ∧
      (s.fld F.BOOT_REC_INFLIGHT = 1 → t.fld F.BOOT_REC_CAUSE = 8 ∧ t.fld F.BOOT_REC_STEP = s.sat F.BOOT_REC_STEP 1) ∧
      (s.fld F.BOOT_REC_INFLIGHT = 0 → t.fld F.BOOT_REC_STEP = s.fld F.BOOT_REC_STEP) ∧
      t.dike.waitEnd = some (s.now + bootWait (t.fld F.BOOT_REC_STEP)) ∧
      t.fld F.BOOT_REC_STATE = (if t.fld F.BOOT_REC_STEP = 0 then 1 else 2) ∧ OnlyRegs [R.BOOT_REC] s t)) ∧
    (s.dike.rom = false ∨ s.dike.romStarted = false ∨ s.dike.waitEnd = none → ∀ b, exec (.bootAttempt b) s = .next s) ∧
    (∀ t0, s.dike.rom = true → s.dike.romStarted = true → s.dike.waitEnd = some t0 → t0 ≤ s.now →
      let slot := bootSlot (s.fld F.BOOT_REC_PREF) (s.fld F.BOOT_REC_STEP)
      let h := s.readBytes (.flat (bootFlashBase + slotBase slot)) 4096
      let body := s.readBytes (.flat (bootFlashBase + slotBase slot + 4096)) (numAt h 40 8)
      let failed (cause : Nat) (t : State) : Prop := t.fld F.BOOT_REC_CAUSE = cause ∧ t.fld F.BOOT_REC_INFLIGHT = 0 ∧
        t.fld F.BOOT_REC_STEP = s.sat F.BOOT_REC_STEP 1 ∧ t.fld F.BOOT_REC_LAST_SLOT = slot ∧ t.fld F.BOOT_REC_STATE = 2 ∧
        t.fld F.BOOT_REC_ATTEMPTS = s.sat F.BOOT_REC_ATTEMPTS 1 ∧ t.dike.waitEnd = some (s.now + bootWait (s.sat F.BOOT_REC_STEP 1)) ∧
        RegsExcept [R.BOOT_REC] s t
      Runs (.bootAttempt false) s (fun t => failed 1 t ∧ MemSame s t) ∧
      (hdrBad h slot = true → Runs (.bootAttempt true) s (fun t => failed 2 t ∧ MemSame s t)) ∧
      (hdrBad h slot = false → keyAccepted s (bytesAt h 104 152) slot = none → Runs (.bootAttempt true) s (fun t => failed 3 t ∧ MemSame s t)) ∧
      (∀ key, hdrBad h slot = false → keyAccepted s (bytesAt h 104 152) slot = some key →
        (slot ≠ 3 → (numAt h 32 4 < s.fld F.SVN_MIN_MIN ∨ 64 < numAt h 32 4) → Runs (.bootAttempt true) s (fun t => failed 4 t ∧ MemSame s t)) ∧
        ((slot = 3 ∨ (s.fld F.SVN_MIN_MIN ≤ numAt h 32 4 ∧ numAt h 32 4 ≤ 64)) →
          (∀ cde, imageSigFail h = some cde → Runs (.bootAttempt true) s (fun t => failed cde t ∧ MemSame s t)) ∧
          (imageSigFail h = none → sha384 body ≠ numAt h 56 48 → Runs (.bootAttempt true) s (failed 7)) ∧
          (imageSigFail h = none → sha384 body = numAt h 56 48 → Runs (.bootAttempt true) s (fun t => t.fld F.BOOT_REC_STATE = 4 ∧
            t.fld F.SEC_STATUS_RUN_SLOT = slot ∧ t.fld F.SEC_STATUS_RUN_KEY = key ∧ t.fld F.BOOT_REC_INFLIGHT = 1 ∧ t.dike.rom = false ∧
            t.dike.svn = numAt h 32 4 ∧ t.dike.entry = some (sramBase + numAt h 48 4 + numAt h 52 4) ∧
            Bytes t (sramBase + numAt h 48 4) body ∧ MemExcept [(sramBase + numAt h 48 4, body.length)] s t)))))

/-! ### Safe state, journal, pairs, maintenance -/

/-- R476 to R482, R485: the safe state by software and the journal. SAFE_CTRL.ENTER enters the safe state, or counts while it is
active. A journal command is refused in the safe state or in the wrong state of the step; otherwise its change is queued, and it
completes when the change is durable in both copies; an accepted COMMIT first applies the marks that are ready. A mark is queued
for its core, dropped, or lost; a mark whose tile writes are done is set, refused when one of them failed. -/
def Obligations.SafeStateAndJournal : Prop :=
  ∀ s : State, s.up = true →
    let step := s.fld F.JRN_STATUS_STEP
    let refused (t : State) : Prop := t.fld F.JRN_CMD_RESULT = 2 ∧ t.fld F.JRN_CMD_GO = 0 ∧ t.fld (rawFld 168) = 1 ∧
      t.reg R.JRN_STATUS = s.reg R.JRN_STATUS ∧ t.jrn = s.jrn ∧ MemSame s t
    let begun (c : JChg) (t : State) : Prop := t.fld F.JRN_CMD_RESULT = 0 ∧ t.fld F.JRN_CMD_GO = 1 ∧
      t.jrn.queue = s.jrn.queue ++ [c] ∧ MemSame s t
    (∀ v : Word, s.fld F.SAFE_CTRL_ENTER = 0 →
      (getBits v 8 8 = 1 → safeActive s = false → Runs (.safeEnter .w64 v) s (fun t => SafeEntered 7 0x1FF s t ∧
        t.fld F.SAFE_CTRL_ENTER = 0 ∧ t.fld F.SAFE_CTRL_ESC = getBits v 3 0 ∧
        (pairRole s = 0 → t.fab.txs = s.fab.txs) ∧
        (pairRole s ≠ 0 → ∃ x, t.fab.txs = s.fab.txs ++ [x] ∧ x.op = opWRITE ∧ x.addr = R.PAIR_PEER ∧
          x.node = s.fld F.PAIR_CTRL_PARTNER ∧ x.data = leBytes 8 (2 ^ 63 + 2 ^ 8 * 0x1FF + 7)))) ∧
      (getBits v 8 8 = 1 → safeActive s = true → s.jrn.safeAt ≠ s.now → Runs (.safeEnter .w64 v) s (fun t =>
        t.fld F.SAFE_MORE_COUNT = s.sat F.SAFE_MORE_COUNT 1 ∧ t.reg R.SAFE_STATUS = s.reg R.SAFE_STATUS ∧
        OnlyRegs [R.SAFE_CTRL, R.SAFE_MORE] s t)) ∧
      (getBits v 8 8 = 0 → Runs (.safeEnter .w64 v) s (fun t => t.fld F.SAFE_CTRL_ESC = getBits v 3 0 ∧ t.reply = .ok ∧
        OnlyRegs [R.SAFE_CTRL] s t))) ∧
    (s.fld F.JRN_CMD_GO = 0 →
      (safeActive s = true → Runs .journalUpdate s refused ∧ Runs .commitStep s refused ∧ Runs .abortStep s refused ∧
        ∀ k, Runs (.openStep k) s refused) ∧
      (safeActive s = false →
        (∀ k : BitVec 55,
          (s.fld F.JRN_STATUS_STATE ≠ 1 → (s.jrn.opened = false ∨ k.toNat = step + 1) → Runs (.openStep k) s (fun t => begun (.start k.toNat) t ∧
            t.fld F.JRN_STATUS_STATE = 1 ∧ t.fld F.JRN_STATUS_FLAGS = 0 ∧ t.fld F.JRN_STATUS_STEP = k.toNat % 2 ^ 48 ∧
            t.jrn.opened = true ∧ t.jrn.bits = [] ∧ (∀ n : Fin 64, t.reg (R.JRN_LAST n) = 0#64 ∧ (t.core n).wfail = none))) ∧
          ((s.fld F.JRN_STATUS_STATE = 1 ∨ (s.jrn.opened = true ∧ k.toNat ≠ step + 1)) → Runs (.openStep k) s refused)) ∧
        (s.fld F.JRN_STATUS_STATE ≠ 1 → Runs .journalUpdate s refused ∧ Runs .commitStep s refused ∧ Runs .abortStep s refused) ∧
        (s.fld F.JRN_STATUS_STATE = 1 →
          Runs .journalUpdate s (fun t => begun (.update step) t ∧ (t.fld F.JRN_STATUS_FLAGS).testBit 1 = true ∧
            t.fld F.JRN_STATUS_STATE = 1 ∧ OnlyRegs [R.JRN_CMD, R.JRN_STATUS] s t) ∧
          Runs .abortStep s (fun t => begun (.abort step) t ∧ t.fld F.JRN_STATUS_STATE = 3 ∧ OnlyRegs [R.JRN_CMD, R.JRN_STATUS] s t) ∧
          ((s.fld F.JRN_STATUS_FLAGS).testBit 0 = true → Runs .commitStep s refused) ∧
          ((s.fld F.JRN_STATUS_FLAGS).testBit 0 = false →
            ((∀ n m rest, (n, m :: rest) ∈ s.jrn.marks → False) → Runs .commitStep s (fun t =>
              begun (.commit step (s.fld F.JRN_STATUS_FLAGS)) t ∧ t.fld F.JRN_STATUS_STATE = 2 ∧
              OnlyRegs [R.JRN_CMD, R.JRN_STATUS] s t)) ∧
            (∀ n m, s.jrn.marks = [(n, [m])] → tileWritesDone s n m.syl = true → (s.core n).wfail = none → Runs .commitStep s (fun t =>
              t.jrn.queue = s.jrn.queue ++ [.mark step n m.tile m.bundle, .commit step (s.fld F.JRN_STATUS_FLAGS)] ∧
              coreMarks t n = [] ∧ look (fun _ => false) t.jrn.bits m.tile = true ∧ t.fld F.JRN_STATUS_STATE = 2 ∧
              OnlyRegs [R.JRN_CMD, R.JRN_STATUS] s t)))))) ∧
    (s.jrn.queue = [] → ∀ b, exec (.journalDurable b) s = .next s) ∧
    (∀ k rest, s.jrn.queue = .abort k :: rest →
      let a := (s.reg R.JRN_BASE).toNat + k % jrnJN s * jrnESize s
      let b := (s.reg R.JRN_LBASE).toNat + k % jrnJN s * jrnESize s
      (Apart [(a, 64), (b, 64)] → Runs (.journalDurable true) s (fun t => t.byte (a + 16) = 3 ∧ t.byte (b + 16) = 3 ∧ t.jrn.queue = rest ∧
        t.fld F.JRN_CMD_RESULT = 1 ∧ t.fld F.JRN_CMD_GO = 0 ∧
        MemExcept [(a + 16, 1), (a + 60, 4), (b + 16, 1), (b + 60, 4)] s t ∧ RegsExcept [R.JRN_CMD] s t)) ∧
      Runs (.journalDurable false) s (fun t => t.byte (b + 16) = 3 ∧ t.jrn.queue = rest ∧ t.fld F.JRN_STATUS_COPY_ERR = 1 ∧
        t.fld (rawFld 168) = 1 ∧ t.fld F.JRN_CMD_RESULT = 1 ∧ MemExcept [(b + 16, 1), (b + 60, 4)] s t)) ∧
    (∀ (n : Fin 64) (pc : BitVec 14) (v : Word),
      ((s.fld F.JRN_STATUS_STATE ≠ 1 ∨ safeActive s = true ∨ s.fld F.JRN_CFG_NTILES ≤ getBits v 19 0) → Runs (.jrnMark n pc v) s (fun t =>
        t.fld F.JRN_DROP_COUNT = s.sat F.JRN_DROP_COUNT 1 ∧ t.jrn = s.jrn ∧ OnlyRegs [R.JRN_DROP] s t)) ∧
      (s.fld F.JRN_STATUS_STATE = 1 → safeActive s = false → getBits v 19 0 < s.fld F.JRN_CFG_NTILES →
        ((coreMarks s n).length < 64 → Runs (.jrnMark n pc v) s (fun t => coreMarks t n = coreMarks s n ++
            [⟨getBits v 19 0, pc.toNat, (s.core n).cur⟩] ∧ (∀ k, k ≠ n.val → coreMarks t k = coreMarks s k) ∧ OnlyRegs [] s t)) ∧
        (64 ≤ (coreMarks s n).length → Runs (.jrnMark n pc v) s (fun t => coreMarks t n = coreMarks s n ∧
          t.fld F.JRN_DROP_COUNT = s.sat F.JRN_DROP_COUNT 1 ∧ t.fld (rawFld 168) = 1 ∧
          (t.fld F.JRN_STATUS_FLAGS).testBit 2 = true ∧ MemSame s t)))) ∧
    (∀ n : Fin 64, (coreMarks s n = [] → exec (.markApply n) s = .next s) ∧
      (∀ m rest, coreMarks s n = m :: rest →
        (tileWritesDone s n m.syl = false → exec (.markApply n) s = .next s) ∧
        (tileWritesDone s n m.syl = true → (s.fld F.JRN_STATUS_STATE ≠ 1 ∨ safeActive s = true) → Runs (.markApply n) s (fun t =>
          coreMarks t n = rest ∧ t.fld F.JRN_DROP_COUNT = s.sat F.JRN_DROP_COUNT 1 ∧ t.jrn.queue = s.jrn.queue ∧ OnlyRegs [R.JRN_DROP] s t)) ∧
        (tileWritesDone s n m.syl = true → s.fld F.JRN_STATUS_STATE = 1 → safeActive s = false →
          (∀ w, (s.core n).wfail = some w → w < m.syl → Runs (.markApply n) s (fun t => coreMarks t n = rest ∧
            t.fld F.JRN_REFUSED_COUNT = s.sat F.JRN_REFUSED_COUNT 1 ∧ t.fld (rawFld 168) = 1 ∧ t.jrn.bits = s.jrn.bits ∧ MemSame s t)) ∧
          ((s.core n).wfail = none → Runs (.markApply n) s (fun t => coreMarks t n = rest ∧
            t.jrn.queue = s.jrn.queue ++ [.mark step n m.tile m.bundle] ∧ look (fun _ => false) t.jrn.bits m.tile = true ∧
            OnlyRegs [] s t)))))

/-- R487 to R493: pairs. The pair registers take the supervisor and the partner only; PAIR_RECV confirms to the sender, PAIR_ACK
advances CONFIRMED, PAIR_HB restarts the loss timeout, PAIR_PEER and a timeout declare the partner lost; heartbeats go out at their
period; a mirror takes the next committed step, issues its PUTs, and ends. -/
def Obligations.Pairs : Prop :=
  ∀ s : State, s.up = true →
    let partner := s.fld F.PAIR_CTRL_PARTNER
    let took (src : Option (BitVec 16)) : Prop := src = none ∨ ∃ x : BitVec 16, src = some x ∧ x.toNat = partner
    let lost (t : State) : Prop := t.fld F.PAIR_STATUS_PEER_LOST = 1 ∧ t.fld (rawFld 163) = 1 ∧ t.jrn.mir = none ∧
      (s.jrn.mir ≠ none → t.fld F.MIR_FAIL_COUNT = s.sat F.MIR_FAIL_COUNT 1 ∧ t.fld F.PAIR_STATUS_MIR_BUSY = 0 ∧
        t.fld (rawFld 164) = 1) ∧ MemSame s t
    (∀ (src : Option (BitVec 16)) (v : Word),
      (¬ took src → ∀ c ∈ [Instr.pairRecv src v, .pairAck src v, .pairHb src v, .pairPeer src v], exec c s = .next { s with reply := .accessError }) ∧
      (took src →
        ((pairRole s = 2 ∨ pairRole s = 3) → Runs (.pairRecv src v) s (fun t => t.reg R.PAIR_RECV = v ∧ t.reg R.PEER_CONFIRMED = v ∧
          t.jrn.queue = s.jrn.queue ++ [.ack v.toNat] ∧ t.reply = .ok ∧ OnlyRegs [R.PAIR_RECV, R.PEER_CONFIRMED] s t)) ∧
        (pairRole s < 2 → Runs (.pairRecv src v) s (fun t => t.reg R.PAIR_RECV = v ∧ t.jrn = s.jrn ∧ OnlyRegs [R.PAIR_RECV] s t)) ∧
        (v.toNat ≤ (s.reg R.CONFIRMED).toNat → Runs (.pairAck src v) s (fun t => t.reg R.PAIR_ACK = v ∧ t.jrn = s.jrn ∧
          OnlyRegs [R.PAIR_ACK] s t)) ∧
        ((s.reg R.CONFIRMED).toNat < v.toNat → Runs (.pairAck src v) s (fun t => t.reg R.PAIR_ACK = v ∧ t.reg R.CONFIRMED = v ∧
          t.fld (rawFld 165) = 1 ∧ t.jrn.queue = s.jrn.queue ++ [.confirm v.toNat, .frec] ∧
          (s.fld F.JRN_STATUS_STEP = v.toNat → s.jrn.opened = true → (t.fld F.JRN_STATUS_FLAGS).testBit 3 = true) ∧ MemSame s t)) ∧
        Runs (.pairHb src v) s (fun t => t.reg R.PAIR_HB = v ∧ t.jrn = { s.jrn with hbSeen := s.now } ∧ OnlyRegs [R.PAIR_HB] s t) ∧
        (pairRole s ≠ 0 → Runs (.pairPeer src v) s (fun t => t.reg R.PAIR_PEER = v ∧ lost t)))) ∧
    (pairRole s = 0 ∨ safeActive s = true ∨ s.jrn.hbUs = 0 → exec .heartbeatSend s = .next s) ∧
    (pairRole s ≠ 0 → safeActive s = false → s.jrn.hbUs ≠ 0 → s.jrn.hbNext ≤ s.now → Runs .heartbeatSend s (fun t =>
      t.jrn = { s.jrn with hbNext := s.jrn.hbNext + 700 * s.jrn.hbUs, hbCount := s.jrn.hbCount + 1 } ∧
      (∃ x, t.fab.txs = s.fab.txs ++ [x] ∧ x.op = opWRITE ∧ x.cls = 2 ∧ x.addr = R.PAIR_HB ∧ x.node = partner ∧
        x.data = leBytes 8 (s.jrn.hbCount + 1)) ∧ OnlyRegs [] s t)) ∧
    (pairRole s = 0 ∨ s.jrn.hbTimeout = 0 ∨ s.fld F.PAIR_STATUS_PEER_LOST = 1 → exec .heartbeatTimeout s = .next s) ∧
    (pairRole s ≠ 0 → s.jrn.hbTimeout ≠ 0 → s.fld F.PAIR_STATUS_PEER_LOST = 0 → s.jrn.hbSeen + 700 * s.jrn.hbTimeout ≤ s.now →
      Runs .heartbeatTimeout s lost) ∧
    (s.jrn.mir = none → s.jrn.mirrors = [] → exec .mirrorStart s = .next s) ∧
    (∀ m rest, s.jrn.mir = none → s.jrn.mirrors = m :: rest → s.fld F.PAIR_STATUS_PEER_LOST = 0 → Runs .mirrorStart s (fun t =>
      t.jrn = { s.jrn with mirrors := rest, mir := some ⟨m, 0, 0, 0⟩ } ∧ t.fld F.PAIR_STATUS_MIR_BUSY = 1 ∧
      t.fld F.PAIR_STATUS_MIR_WAIT = (if rest = [] then 0 else 1) ∧ OnlyRegs [R.PAIR_STATUS] s t)) ∧
    (∀ m, s.jrn.mir = some m → (∀ x ∈ s.fab.txs, ∀ k, x.owner ≠ .mirror k) →
      (∀ p, m.phase = 0 → (mirrorPuts s)[m.next]? = some p → s.poisonedRange p.1 16384 = false → Runs .mirrorStart s (fun t =>
        t.jrn.mir = some { m with next := m.next + 1 } ∧ OnlyRegs [] s t ∧
        (∃ x, t.fab.txs = s.fab.txs ++ [x] ∧ x.op = opPUT ∧ x.cls = 1 ∧ x.node = partner ∧ x.owner = .mirror m.step ∧
          x.addr = s.jrn.peerBase + m.step % 2 * s.jrn.peerSize + p.2 ∧ x.data = s.readBytes (.flat p.1) 16384))) ∧
      (m.phase = 0 → (mirrorPuts s)[m.next]? = none → Runs .mirrorStart s (fun t => t.jrn.mir = some { m with phase := 1 } ∧
        (∃ x, t.fab.txs = s.fab.txs ++ [x] ∧ x.op = opFENCE ∧ x.cls = 1 ∧ x.node = partner) ∧ OnlyRegs [] s t)) ∧
      (m.phase = 1 → Runs .mirrorStart s (fun t => t.jrn.mir = some { m with phase := 2 } ∧
        (∃ x, t.fab.txs = s.fab.txs ++ [x] ∧ x.op = opWRITE ∧ x.addr = R.PAIR_RECV ∧ x.data = leBytes 8 m.step) ∧ OnlyRegs [] s t)) ∧
      (2 ≤ m.phase → Runs .mirrorStart s (fun t => t.jrn.mir = none ∧ t.fld F.PAIR_STATUS_MIR_BUSY = 0 ∧
        OnlyRegs [R.PAIR_STATUS] s t)))

/-- R496, R497, R499 to R502: spares, the maintenance arbiter and the rotating self-test. A core of its domain that is OFF is
replaced by the spare, and is at reset; the reserve pair takes a stopped core; an activity runs when nothing in its way does and
waits otherwise; a checkpoint pauses garbage collections; the self-test takes the units in turn, resets a tested one, records a
failure, and notes an overdue unit. -/
def Obligations.SparesArbiterSelfTest : Prop :=
  ∀ s : State, s.up = true →
    (∀ (d : Fin 8) (v : Word),
      let n := getBits v 5 0
      let legal := getBits v 8 8 = 1 ∧ n / 8 = d.val ∧ coreState s n = 0 ∧ s.fld (F.CORE_SPARE_VALID d) = 0 ∧
        (∀ t0, s.st.run ≠ some (n, t0))
      (legal → Runs (.coreSpare d .w64 v) s (fun t => t.fld (F.CORE_SPARE_CORE d) = n ∧ t.fld (F.CORE_SPARE_VALID d) = 1 ∧
        t.core n = Core.reset ∧ coreState t n = 0 ∧ CoresExcept [n] s t ∧
        (∀ a, a < coreMemBase + n * coreMemSize ∨ coreMemBase + n * coreMemSize + coreMemSize ≤ a → t.byte a = s.byte a))) ∧
      (¬ legal → exec (.coreSpare d .w64 v) s = .next { s.setFld F.SPARE_ERR_MAP_ERR 1 with reply := .ok })) ∧
    (∀ v : Word, s.fld F.SUP_SPARE_GO = 0 →
      let free := ∀ j : Fin 4, s.fld (F.SUP_STATUS_SPARE j) = 0
      (getBits v 0 0 = 1 → s.fld (F.SUP_STATUS_STOPPED (getBits v 2 1)) = 1 → free → Runs (.supSpare .w64 v) s (fun t =>
        t.out.mgt.spareSel = some (getBits v 2 1) ∧ t.fld F.SUP_SPARE_GO = 0 ∧ OnlyRegs [R.SUP_SPARE] s t)) ∧
      (getBits v 0 0 = 1 → (s.fld (F.SUP_STATUS_STOPPED (getBits v 2 1)) = 0 ∨ ¬ free) → Runs (.supSpare .w64 v) s (fun t =>
        t.fld F.SPARE_ERR_MAP_ERR = 1 ∧ t.fld F.SUP_SPARE_GO = 0 ∧ t.out = s.out ∧ OnlyRegs [R.SUP_SPARE, R.SPARE_ERR] s t)) ∧
      (getBits v 0 0 = 0 → Runs (.supSpare .w64 v) s (fun t => t.fld F.SUP_SPARE_CORE = getBits v 2 1 ∧ t.out = s.out ∧
        OnlyRegs [R.SUP_SPARE] s t))) ∧
    (∀ code scope, let a : MaintAct := ⟨code, scope⟩
      (a ∈ s.arb.run → Runs (.arbRequest code scope true) s (fun t => t.arb.run = s.arb.run.erase a ∧ t.arb.wait = s.arb.wait ∧ OnlyRegs [] s t) ∧
        exec (.arbRequest code scope false) s = .next s) ∧
      (a ∉ s.arb.run → exec (.arbRequest code scope true) s = .next s) ∧
      (arbIdle s → code < 10 → Runs (.arbRequest code scope false) s (fun t => t.arb.run = [a] ∧ t.arb.wait = [] ∧ OnlyRegs [] s t)) ∧
      (∀ b, s.arb.run = [b] → s.arb.wait = [] → maintClash a b = true → a ≠ b → b.code ≠ 7 → Runs (.arbRequest code scope false) s (fun t =>
        t.arb.run = [b] ∧ t.arb.wait = [a] ∧ t.fld (F.ARB_WAIT_COUNT code) = s.sat (F.ARB_WAIT_COUNT code) 1 ∧
        OnlyRegs [R.ARB_WAIT code] s t)) ∧
      (arbReady s a = false → exec (.arbStart code scope) s = .next s) ∧
      (code ≠ 1 → code ≠ 3 → code ≠ 9 → arbReady s a = true → exec (.arbStart code scope) s = .next
        { s with arb := { run := s.arb.run ++ [a], wait := s.arb.wait.erase a } }) ∧
      (s.arb.run = [⟨7, 0⟩] → s.arb.wait = [] → gcOverride s ⟨3, scope⟩ = true → Runs (.arbRequest 3 scope false) s (fun t =>
        t.arb.run = [⟨7, 0⟩, ⟨3, scope⟩] ∧ t.fld F.ARB_OVERRIDE_COUNT = s.sat F.ARB_OVERRIDE_COUNT 1 ∧ t.fld (rawFld 169) = 1 ∧
        MemSame s t))) ∧
    (∀ v : Word,
      (getBits v 0 0 = 1 → s.fld F.ARB_CTRL_CKPT = 0 → (∀ a ∈ s.arb.run, a.code ≠ 3) → Runs (.arbCkptWrite .w64 v) s (fun t =>
        t.fld F.ARB_CTRL_CKPT = 1 ∧ t.arb.run = s.arb.run ++ [⟨7, 0⟩] ∧ t.arb.wait = s.arb.wait ∧ t.reply = .ok ∧
        RegsExcept [R.ARB_CTRL, R.ARB_WAIT 3] s t ∧ MemSame s t)) ∧
      (∀ k, getBits v 0 0 = 1 → s.fld F.ARB_CTRL_CKPT = 0 → s.arb.run = [⟨3, k⟩] → gcOverride s ⟨3, k⟩ = false →
        Runs (.arbCkptWrite .w64 v) s (fun t => t.arb.run = [⟨7, 0⟩] ∧ t.arb.wait = ⟨3, k⟩ :: s.arb.wait ∧
          t.fld (F.ARB_WAIT_COUNT 3) = s.sat (F.ARB_WAIT_COUNT 3) 1 ∧ MemSame s t)) ∧
      (∀ k, getBits v 0 0 = 1 → s.fld F.ARB_CTRL_CKPT = 0 → s.arb.run = [⟨3, k⟩] → gcOverride s ⟨3, k⟩ = true →
        Runs (.arbCkptWrite .w64 v) s (fun t => t.arb.run = [⟨3, k⟩, ⟨7, 0⟩] ∧ t.arb.wait = s.arb.wait ∧
          t.fld F.ARB_OVERRIDE_COUNT = s.sat F.ARB_OVERRIDE_COUNT 1 ∧ t.fld (rawFld 169) = 1 ∧ MemSame s t)) ∧
      (getBits v 0 0 = 0 → s.fld F.ARB_CTRL_CKPT = 1 → Runs (.arbCkptWrite .w64 v) s (fun t => t.fld F.ARB_CTRL_CKPT = 0 ∧
        t.arb.run = s.arb.run.erase ⟨7, 0⟩ ∧ t.arb.wait = s.arb.wait ∧ OnlyRegs [R.ARB_CTRL] s t))) ∧
    (s.fld F.ST_CTRL_EN = 0 ∨ s.st.run ≠ none → exec .selfTestTurn s = .next s) ∧
    (s.fld F.ST_CTRL_EN = 1 → s.st.run = none →
      (stUnitState s s.st.turn ≠ 0 → Runs .selfTestTurn s (fun t => t.st = { s.st with turn := (s.st.turn + 1) % 96 } ∧ t.arb = s.arb ∧
        OnlyRegs [] s t)) ∧
      (stUnitState s s.st.turn = 0 → arbIdle s → Runs .selfTestTurn s (fun t =>
        t.st = { s.st with turn := (s.st.turn + 1) % 96, run := some (s.st.turn, s.now) } ∧ t.arb.run = [⟨10, s.st.turn⟩] ∧
        t.fld F.ST_STATUS_BUSY = 1 ∧ OnlyRegs [R.ST_STATUS] s t))) ∧
    (s.st.run = none → ∀ f, exec (.selfTestDone f) s = .next s) ∧
    (∀ u t0, s.st.run = some (u, t0) → t0 + stCycles u ≤ s.now → u < 64 →
      Runs (.selfTestDone none) s (fun t => t.st.run = none ∧ t.core u = Core.reset ∧ coreState t u = 0 ∧ CoresExcept [u] s t ∧
        t.fld F.ST_STATUS_BUSY = 0 ∧ t.fld F.ST_STATUS_UNIT = u ∧ t.arb.run = s.arb.run.erase ⟨10, u⟩ ∧
        t.reg R.ST_RESULT = s.reg R.ST_RESULT) ∧
      (∀ k i, s.fld F.ST_RESULT_VALID = 0 → k < 16 → i < 2 ^ 32 → Runs (.selfTestDone (some (k, i))) s (fun t => t.st.run = none ∧
        t.core u = Core.reset ∧ t.fld F.ST_RESULT_VALID = 1 ∧ t.fld F.ST_RESULT_UNIT = u ∧ t.fld F.ST_RESULT_KIND = k ∧
        t.fld F.ST_RESULT_INDEX = i ∧ t.fld (rawFld 166) = 1))) ∧
    (∀ u : Fin 96, (s.now < look (fun _ => 0) s.st.last u + stPeriod s → exec (.selfTestOverdue u) s = .next s) ∧
      (look (fun _ => 0) s.st.last u + stPeriod s ≤ s.now → Runs (.selfTestOverdue u) s (fun t => t.fld F.ST_STATUS_OVERDUE = 1 ∧
        t.fld (rawFld 167) = 1 ∧ MemSame s t)))
end

