-- ==== Sys2Proof/Laws/SMap.lean ====
section
/-! SUPPORT. The laws of sparse maps: a key that was set reads as set, every other key as before, and the canonical form is
kept. -/

namespace Sys2Proof.Machine

variable {α : Type} {d : Nat → α}

theorem look_dropKey_same (m : List (Nat × α)) (k : Nat) : look d (dropKey k m) k = d k := by
  induction m with
  | nil => rfl
  | cons p m ih => obtain ⟨a, x⟩ := p; by_cases h : a = k <;> simp [dropKey, look, h, ih]

theorem look_dropKey_ne (m : List (Nat × α)) {k j : Nat} (h : j ≠ k) : look d (dropKey k m) j = look d m j := by
  induction m with
  | nil => rfl
  | cons p m ih =>
    obtain ⟨a, x⟩ := p
    by_cases ha : a = k
    · subst ha; simp [dropKey, look, ih, Ne.symm h]
    · simp [dropKey, look, ha, ih]

theorem look_insKey_ne (m : List (Nat × α)) (v : α) {k j : Nat} (h : j ≠ k) : look d (insKey k v m) j = look d m j := by
  induction m with
  | nil => simp [insKey, look, Ne.symm h]
  | cons p m ih =>
    obtain ⟨a, x⟩ := p
    by_cases ha : k < a <;> simp [insKey, look, ha, ih, Ne.symm h]

theorem look_insKey_same (m : List (Nat × α)) (k : Nat) (v : α) : look d (insKey k v (dropKey k m)) k = v := by
  induction m with
  | nil => simp [dropKey, insKey, look]
  | cons p m ih =>
    obtain ⟨a, x⟩ := p
    by_cases ha : a = k
    · simp [dropKey, ha, ih]
    · by_cases hk : k < a <;> simp [dropKey, insKey, look, ha, hk, ih]

variable [DecidableEq α]

/-- A key reads as it was set. -/
@[simp] theorem look_put_same (m : List (Nat × α)) (k : Nat) (v : α) : look d (put d m k v) k = v := by
  unfold put; split
  · simp [look_dropKey_same, *]
  · exact look_insKey_same m k v

/-- Every other key reads as before. -/
theorem look_put_ne (m : List (Nat × α)) (v : α) {k j : Nat} (h : j ≠ k) : look d (put d m k v) j = look d m j := by
  unfold put; split
  · exact look_dropKey_ne m h
  · rw [look_insKey_ne _ _ h, look_dropKey_ne m h]

/-- Every key after a key was set. -/
theorem look_put (m : List (Nat × α)) (k j : Nat) (v : α) : look d (put d m k v) j = if j = k then v else look d m j := by
  split
  · subst_vars; exact look_put_same m _ v
  · exact look_put_ne m v ‹_›

/-! ### The canonical form -/

theorem wfFrom_mono {m : List (Nat × α)} {b c : Nat} (hbc : b ≤ c) (h : wfFrom d (some c) m = true) :
    wfFrom d (some b) m = true := by
  cases m with
  | nil => rfl
  | cons p m =>
    simp only [wfFrom, Bool.and_eq_true, decide_eq_true_eq] at h ⊢
    exact ⟨⟨Nat.lt_of_le_of_lt hbc h.1.1, h.1.2⟩, h.2⟩

theorem wfFrom_none {m : List (Nat × α)} {b : Nat} (h : wfFrom d (some b) m = true) : wfFrom d none m = true := by
  cases m with
  | nil => rfl
  | cons p m => simp only [wfFrom, Bool.and_eq_true, decide_eq_true_eq] at h ⊢; exact ⟨h.1.2, h.2⟩

/-- Keys above b for some b. -/
theorem wfFrom_drop (k : Nat) (m : List (Nat × α)) (b : Option Nat) (h : wfFrom d b m = true) :
    wfFrom d b (dropKey k m) = true := by
  induction m generalizing b with
  | nil => exact h
  | cons p m ih =>
    obtain ⟨a, x⟩ := p
    cases b with
    | none =>
      simp only [wfFrom, Bool.and_eq_true, decide_eq_true_eq] at h
      by_cases ha : a = k
      · simp only [dropKey, ha, if_true]; exact ih none (wfFrom_none h.2)
      · simp only [dropKey, ha, if_false, wfFrom, Bool.and_eq_true, decide_eq_true_eq]; exact ⟨h.1, ih _ h.2⟩
    | some b =>
      simp only [wfFrom, Bool.and_eq_true, decide_eq_true_eq] at h
      by_cases ha : a = k
      · simp only [dropKey, ha, if_true]; exact ih _ (wfFrom_mono (Nat.le_of_lt h.1.1) h.2)
      · simp only [dropKey, ha, if_false, wfFrom, Bool.and_eq_true, decide_eq_true_eq]; exact ⟨h.1, ih _ h.2⟩

theorem wfFrom_ins (k : Nat) (v : α) (hv : v ≠ d k) (m : List (Nat × α)) (b : Option Nat) (hb : ∀ c, b = some c → c < k)
    (hk : ∀ p ∈ m, p.1 ≠ k) (h : wfFrom d b m = true) : wfFrom d b (insKey k v m) = true := by
  induction m generalizing b with
  | nil =>
    cases b with
    | none => simp [insKey, wfFrom, hv]
    | some c => simp [insKey, wfFrom, hv, hb c rfl]
  | cons p m ih =>
    obtain ⟨a, x⟩ := p
    have hak : a ≠ k := hk (a, x) (by simp)
    have hm : ∀ p ∈ m, p.1 ≠ k := fun p hp => hk p (by simp [hp])
    by_cases ha : k < a
    · cases b with
      | none =>
        simp only [wfFrom, Bool.and_eq_true, decide_eq_true_eq] at h
        simp only [insKey, ha, if_true, wfFrom, Bool.and_eq_true, decide_eq_true_eq]; exact ⟨hv, ⟨trivial, h.1⟩, h.2⟩
      | some c =>
        simp only [wfFrom, Bool.and_eq_true, decide_eq_true_eq] at h
        simp only [insKey, ha, if_true, wfFrom, Bool.and_eq_true, decide_eq_true_eq]
        exact ⟨⟨hb c rfl, hv⟩, ⟨trivial, h.1.2⟩, h.2⟩
    · have hlt : a < k := by omega
      cases b with
      | none =>
        simp only [wfFrom, Bool.and_eq_true, decide_eq_true_eq] at h
        simp only [insKey, ha, if_false, wfFrom, Bool.and_eq_true, decide_eq_true_eq]
        exact ⟨h.1, ih (some a) (by intro c hc; cases hc; exact hlt) hm h.2⟩
      | some c =>
        simp only [wfFrom, Bool.and_eq_true, decide_eq_true_eq] at h
        simp only [insKey, ha, if_false, wfFrom, Bool.and_eq_true, decide_eq_true_eq]
        exact ⟨h.1, ih (some a) (by intro c hc; cases hc; exact hlt) hm h.2⟩

omit [DecidableEq α] in
theorem dropKey_ne (k : Nat) (m : List (Nat × α)) : ∀ p ∈ dropKey k m, p.1 ≠ k := by
  induction m with
  | nil => simp [dropKey]
  | cons p m ih =>
    obtain ⟨a, x⟩ := p
    by_cases ha : a = k
    · simp only [dropKey, ha, if_true]; exact ih
    · simp only [dropKey, ha, if_false, List.mem_cons]
      rintro q (rfl | hq)
      · exact ha
      · exact ih q hq

/-- Setting a key keeps the canonical form. -/
@[simp] theorem wfMap_put (m : List (Nat × α)) (k : Nat) (v : α) (h : wfMap d m = true) : wfMap d (put d m k v) = true := by
  unfold put wfMap; split
  · exact wfFrom_drop k m none h
  · exact wfFrom_ins k v ‹_› _ none (by simp) (dropKey_ne k m) (wfFrom_drop k m none h)

@[simp] theorem wfMap_nil : wfMap d ([] : List (Nat × α)) = true := rfl

/-- A part of a map in canonical form is in canonical form. -/
theorem wfMap_filter (p : Nat × α → Bool) (m : List (Nat × α)) (h : wfMap d m = true) : wfMap d (m.filter p) = true := by
  have key : ∀ (m : List (Nat × α)) (b : Option Nat), wfFrom d b m = true → wfFrom d b (m.filter p) = true := by
    intro m
    induction m with
    | nil => intro b h; exact h
    | cons q m ih =>
      obtain ⟨a, x⟩ := q
      intro b h
      have hrest : wfFrom d (some a) m = true := by
        cases b <;> simp only [wfFrom, Bool.and_eq_true, decide_eq_true_eq] at h <;> exact h.2
      by_cases hp : p (a, x) = true
      · rw [List.filter_cons_of_pos hp]
        cases b <;> simp only [wfFrom, Bool.and_eq_true, decide_eq_true_eq] at h ⊢
        · exact ⟨h.1, ih _ hrest⟩
        · exact ⟨h.1, ih _ hrest⟩
      · rw [List.filter_cons_of_neg hp]
        cases b with
        | none => exact wfFrom_none (ih _ hrest)
        | some c =>
          simp only [wfFrom, Bool.and_eq_true, decide_eq_true_eq] at h
          exact wfFrom_mono (Nat.le_of_lt h.1.1) (ih _ hrest)
  exact key m none h

end Sys2Proof.Machine
end

