-- ==== Sys2Proof/Laws/State.lean ====
section
/-! SUPPORT. What each named update of the state changes: one lemma for each field and update, and the laws of registers,
fields of registers, bytes and cores. -/

namespace Sys2Proof.Machine

variable (s : State)

/-! ### Bits of a word -/

theorem bitsOf_testBit (x hi lo i : Nat) : (bitsOf x hi lo).testBit i = (decide (i < hi + 1 - lo) && x.testBit (lo + i)) := by
  simp [bitsOf, Nat.testBit_mod_two_pow, Nat.testBit_shiftRight]

theorem setBits_getLsbD (w : Word) (hi lo v i : Nat) :
    (setBits w hi lo v).getLsbD i =
      (decide (i < 64) && if lo ≤ i ∧ i ≤ hi then v.testBit (i - lo) else w.getLsbD i) := by
  simp only [setBits, BitVec.getLsbD_or, BitVec.getLsbD_and, BitVec.getLsbD_not, BitVec.getLsbD_ofNat, Nat.testBit_shiftLeft,
    Nat.testBit_two_pow_sub_one]
  by_cases h64 : i < 64
  · by_cases h : lo ≤ i ∧ i ≤ hi
    · have : i - lo < hi + 1 - lo := by omega
      simp [h64, h.1, h.2, this]
    · rcases Nat.lt_or_ge i lo with hl | hl
      · simp [h64, Nat.not_le.mpr hl]
      · have : ¬ i - lo < hi + 1 - lo := by omega
        simp [h64, h, this]
  · simp [h64, BitVec.getLsbD_of_ge w i (by omega)]

/-- Bits that were set read as set. -/
@[simp] theorem getBits_setBits (w : Word) (hi lo v : Nat) (hhi : hi < 64) :
    getBits (setBits w hi lo v) hi lo = v % 2 ^ (hi + 1 - lo) := by
  apply Nat.eq_of_testBit_eq
  intro i
  rw [getBits, bitsOf_testBit, Nat.testBit_mod_two_pow, BitVec.testBit_toNat, setBits_getLsbD]
  by_cases h : i < hi + 1 - lo
  · have h1 : lo + i < 64 := by omega
    have h2 : lo + i ≤ hi := by omega
    simp [h, h1, h2]
  · simp [h]

/-- Bits apart from those set read as before. -/
theorem getBits_setBits_ne (w : Word) (hi lo v hi' lo' : Nat) (h : hi < lo' ∨ hi' < lo) :
    getBits (setBits w hi lo v) hi' lo' = getBits w hi' lo' := by
  apply Nat.eq_of_testBit_eq
  intro i
  rw [getBits, getBits, bitsOf_testBit, bitsOf_testBit, BitVec.testBit_toNat, BitVec.testBit_toNat, setBits_getLsbD]
  by_cases h1 : i < hi' + 1 - lo'
  · have h2 : ¬ (lo ≤ lo' + i ∧ lo' + i ≤ hi) := by omega
    by_cases h3 : lo' + i < 64
    · simp [h1, h2, h3]
    · simp [h1, h3, BitVec.getLsbD_of_ge _ _ (by omega : 64 ≤ lo' + i)]
  · simp [h1]

theorem getBits_lt (w : Word) (hi lo : Nat) : getBits w hi lo < 2 ^ (hi + 1 - lo) := Nat.mod_lt _ (Nat.two_pow_pos _)

/-! ### Control registers -/

@[simp] theorem State.reg_setReg_same (a : Nat) (v : Word) : (s.setReg a v).reg a = v := look_put_same _ _ _
theorem State.reg_setReg_ne {a b : Nat} (v : Word) (h : b ≠ a) : (s.setReg a v).reg b = s.reg b := look_put_ne _ _ h
theorem State.reg_setReg (a b : Nat) (v : Word) : (s.setReg a v).reg b = if b = a then v else s.reg b := look_put _ _ _ _

@[simp] theorem State.fld_setFld_same (f : Fld) (v : Nat) (hhi : f.hi < 64) :
    (s.setFld f v).fld f = v % 2 ^ (f.hi + 1 - f.lo) := by
  simp [State.fld, State.setFld, getBits_setBits _ _ _ _ hhi]

/-- Another field reads as before: of another register, or of other bits. -/
theorem State.fld_setFld_ne (f g : Fld) (v : Nat) (h : g.addr ≠ f.addr ∨ f.hi < g.lo ∨ g.hi < f.lo) :
    (s.setFld f v).fld g = s.fld g := by
  by_cases ha : g.addr = f.addr
  · simp only [State.fld, State.setFld, ha, State.reg_setReg_same]
    exact getBits_setBits_ne _ _ _ _ _ _ (h.resolve_left (fun h => h ha))
  · simp [State.fld, State.setFld, State.reg_setReg_ne _ _ ha]

@[simp] theorem State.fld_setReg_same (f : Fld) (a : Nat) (v : Word) (h : f.addr = a) :
    (s.setReg a v).fld f = getBits v f.hi f.lo := by simp [State.fld, ← h]
theorem State.fld_setReg_ne (f : Fld) {a : Nat} (v : Word) (h : f.addr ≠ a) : (s.setReg a v).fld f = s.fld f := by
  simp [State.fld, State.reg_setReg_ne _ _ h]

theorem State.reg_setFld_ne (f : Fld) (v : Nat) {a : Nat} (h : a ≠ f.addr) : (s.setFld f v).reg a = s.reg a :=
  State.reg_setReg_ne _ _ h
theorem State.reg_incFld_ne (f : Fld) (k : Nat) {a : Nat} (h : a ≠ f.addr) : (s.incFld f k).reg a = s.reg a :=
  State.reg_setReg_ne _ _ h

/-- A counter after an increment saturates (R10). -/
@[simp] theorem State.fld_incFld_same (f : Fld) (k : Nat) (hhi : f.hi < 64) :
    (s.incFld f k).fld f = min (s.fld f + k) (2 ^ (f.hi + 1 - f.lo) - 1) := by
  rw [State.incFld, State.fld_setFld_same _ _ _ hhi]
  apply Nat.mod_eq_of_lt
  have := Nat.two_pow_pos (f.hi + 1 - f.lo)
  omega

theorem State.fld_incFld_ne (f g : Fld) (k : Nat) (h : g.addr ≠ f.addr ∨ f.hi < g.lo ∨ g.hi < f.lo) :
    (s.incFld f k).fld g = s.fld g := State.fld_setFld_ne _ _ _ _ h

/-! ### Memory and cores -/

@[simp] theorem State.byte_setByte_same (a : Nat) (b : Byte) : (s.setByte a b).byte a = b := look_put_same _ _ _
theorem State.byte_setByte_ne {a c : Nat} (b : Byte) (h : c ≠ a) : (s.setByte a b).byte c = s.byte c := look_put_ne _ _ h

@[simp] theorem State.core_setCore_same (n : Nat) (c : Core) : (s.setCore n c).core n = c := look_put_same _ _ _
theorem State.core_setCore_ne {n m : Nat} (c : Core) (h : m ≠ n) : (s.setCore n c).core m = s.core m := look_put_ne _ _ h

/-! ### What an update leaves alone -/

@[simp] theorem State.setReg_now (a : Nat) (v : Word) : (s.setReg a v).now = s.now := rfl
@[simp] theorem State.setReg_fresh (a : Nat) (v : Word) : (s.setReg a v).fresh = s.fresh := rfl
@[simp] theorem State.setReg_pending (a : Nat) (v : Word) : (s.setReg a v).pending = s.pending := rfl
@[simp] theorem State.setReg_mem (a : Nat) (v : Word) : (s.setReg a v).mem = s.mem := rfl
@[simp] theorem State.setReg_cores (a : Nat) (v : Word) : (s.setReg a v).cores = s.cores := rfl
@[simp] theorem State.setReg_late (a : Nat) (v : Word) : (s.setReg a v).late = s.late := rfl
@[simp] theorem State.setReg_bcast (a : Nat) (v : Word) : (s.setReg a v).bcast = s.bcast := rfl
@[simp] theorem State.setReg_reply (a : Nat) (v : Word) : (s.setReg a v).reply = s.reply := rfl
@[simp] theorem State.setReg_evc (a : Nat) (v : Word) : (s.setReg a v).evc = s.evc := rfl
@[simp] theorem State.setReg_fab (a : Nat) (v : Word) : (s.setReg a v).fab = s.fab := rfl
@[simp] theorem State.setReg_mc (a : Nat) (v : Word) : (s.setReg a v).mc = s.mc := rfl
@[simp] theorem State.setReg_fl (a : Nat) (v : Word) : (s.setReg a v).fl = s.fl := rfl
@[simp] theorem State.setReg_arb (a : Nat) (v : Word) : (s.setReg a v).arb = s.arb := rfl
@[simp] theorem State.setReg_upd (a : Nat) (v : Word) : (s.setReg a v).upd = s.upd := rfl
@[simp] theorem State.setReg_att (a : Nat) (v : Word) : (s.setReg a v).att = s.att := rfl
@[simp] theorem State.setReg_out (a : Nat) (v : Word) : (s.setReg a v).out = s.out := rfl
@[simp] theorem State.setReg_sup (a : Nat) (v : Word) : (s.setReg a v).sup = s.sup := rfl
@[simp] theorem State.setReg_dike (a : Nat) (v : Word) : (s.setReg a v).dike = s.dike := rfl
@[simp] theorem State.setReg_jrn (a : Nat) (v : Word) : (s.setReg a v).jrn = s.jrn := rfl
@[simp] theorem State.setReg_st (a : Nat) (v : Word) : (s.setReg a v).st = s.st := rfl
@[simp] theorem State.setReg_ldr (a : Nat) (v : Word) : (s.setReg a v).ldr = s.ldr := rfl

@[simp] theorem State.setFld_now (f : Fld) (v : Nat) : (s.setFld f v).now = s.now := rfl
@[simp] theorem State.setFld_fresh (f : Fld) (v : Nat) : (s.setFld f v).fresh = s.fresh := rfl
@[simp] theorem State.setFld_pending (f : Fld) (v : Nat) : (s.setFld f v).pending = s.pending := rfl
@[simp] theorem State.setFld_mem (f : Fld) (v : Nat) : (s.setFld f v).mem = s.mem := rfl
@[simp] theorem State.setFld_cores (f : Fld) (v : Nat) : (s.setFld f v).cores = s.cores := rfl
@[simp] theorem State.setFld_late (f : Fld) (v : Nat) : (s.setFld f v).late = s.late := rfl
@[simp] theorem State.setFld_bcast (f : Fld) (v : Nat) : (s.setFld f v).bcast = s.bcast := rfl
@[simp] theorem State.setFld_reply (f : Fld) (v : Nat) : (s.setFld f v).reply = s.reply := rfl
@[simp] theorem State.setFld_evc (f : Fld) (v : Nat) : (s.setFld f v).evc = s.evc := rfl
@[simp] theorem State.setFld_fab (f : Fld) (v : Nat) : (s.setFld f v).fab = s.fab := rfl
@[simp] theorem State.setFld_mc (f : Fld) (v : Nat) : (s.setFld f v).mc = s.mc := rfl
@[simp] theorem State.setFld_fl (f : Fld) (v : Nat) : (s.setFld f v).fl = s.fl := rfl
@[simp] theorem State.setFld_arb (f : Fld) (v : Nat) : (s.setFld f v).arb = s.arb := rfl
@[simp] theorem State.setFld_upd (f : Fld) (v : Nat) : (s.setFld f v).upd = s.upd := rfl
@[simp] theorem State.setFld_att (f : Fld) (v : Nat) : (s.setFld f v).att = s.att := rfl
@[simp] theorem State.setFld_out (f : Fld) (v : Nat) : (s.setFld f v).out = s.out := rfl
@[simp] theorem State.setFld_sup (f : Fld) (v : Nat) : (s.setFld f v).sup = s.sup := rfl
@[simp] theorem State.setFld_dike (f : Fld) (v : Nat) : (s.setFld f v).dike = s.dike := rfl
@[simp] theorem State.setFld_jrn (f : Fld) (v : Nat) : (s.setFld f v).jrn = s.jrn := rfl
@[simp] theorem State.setFld_st (f : Fld) (v : Nat) : (s.setFld f v).st = s.st := rfl
@[simp] theorem State.setFld_ldr (f : Fld) (v : Nat) : (s.setFld f v).ldr = s.ldr := rfl

@[simp] theorem State.incFld_now (f : Fld) (k : Nat) : (s.incFld f k).now = s.now := rfl
@[simp] theorem State.incFld_fresh (f : Fld) (k : Nat) : (s.incFld f k).fresh = s.fresh := rfl
@[simp] theorem State.incFld_pending (f : Fld) (k : Nat) : (s.incFld f k).pending = s.pending := rfl
@[simp] theorem State.incFld_mem (f : Fld) (k : Nat) : (s.incFld f k).mem = s.mem := rfl
@[simp] theorem State.incFld_cores (f : Fld) (k : Nat) : (s.incFld f k).cores = s.cores := rfl
@[simp] theorem State.incFld_late (f : Fld) (k : Nat) : (s.incFld f k).late = s.late := rfl
@[simp] theorem State.incFld_bcast (f : Fld) (k : Nat) : (s.incFld f k).bcast = s.bcast := rfl
@[simp] theorem State.incFld_reply (f : Fld) (k : Nat) : (s.incFld f k).reply = s.reply := rfl
@[simp] theorem State.incFld_evc (f : Fld) (k : Nat) : (s.incFld f k).evc = s.evc := rfl
@[simp] theorem State.incFld_fab (f : Fld) (k : Nat) : (s.incFld f k).fab = s.fab := rfl
@[simp] theorem State.incFld_mc (f : Fld) (k : Nat) : (s.incFld f k).mc = s.mc := rfl
@[simp] theorem State.incFld_fl (f : Fld) (k : Nat) : (s.incFld f k).fl = s.fl := rfl
@[simp] theorem State.incFld_arb (f : Fld) (k : Nat) : (s.incFld f k).arb = s.arb := rfl
@[simp] theorem State.incFld_upd (f : Fld) (k : Nat) : (s.incFld f k).upd = s.upd := rfl
@[simp] theorem State.incFld_att (f : Fld) (k : Nat) : (s.incFld f k).att = s.att := rfl
@[simp] theorem State.incFld_out (f : Fld) (k : Nat) : (s.incFld f k).out = s.out := rfl
@[simp] theorem State.incFld_sup (f : Fld) (k : Nat) : (s.incFld f k).sup = s.sup := rfl
@[simp] theorem State.incFld_dike (f : Fld) (k : Nat) : (s.incFld f k).dike = s.dike := rfl
@[simp] theorem State.incFld_jrn (f : Fld) (k : Nat) : (s.incFld f k).jrn = s.jrn := rfl
@[simp] theorem State.incFld_st (f : Fld) (k : Nat) : (s.incFld f k).st = s.st := rfl
@[simp] theorem State.incFld_ldr (f : Fld) (k : Nat) : (s.incFld f k).ldr = s.ldr := rfl

@[simp] theorem State.setByte_now (a : Nat) (b : Byte) : (s.setByte a b).now = s.now := rfl
@[simp] theorem State.setByte_fresh (a : Nat) (b : Byte) : (s.setByte a b).fresh = s.fresh := rfl
@[simp] theorem State.setByte_pending (a : Nat) (b : Byte) : (s.setByte a b).pending = s.pending := rfl
@[simp] theorem State.setByte_csr (a : Nat) (b : Byte) : (s.setByte a b).csr = s.csr := rfl
@[simp] theorem State.setByte_cores (a : Nat) (b : Byte) : (s.setByte a b).cores = s.cores := rfl
@[simp] theorem State.setByte_late (a : Nat) (b : Byte) : (s.setByte a b).late = s.late := rfl
@[simp] theorem State.setByte_bcast (a : Nat) (b : Byte) : (s.setByte a b).bcast = s.bcast := rfl
@[simp] theorem State.setByte_reply (a : Nat) (b : Byte) : (s.setByte a b).reply = s.reply := rfl
@[simp] theorem State.setByte_evc (a : Nat) (b : Byte) : (s.setByte a b).evc = s.evc := rfl
@[simp] theorem State.setByte_fab (a : Nat) (b : Byte) : (s.setByte a b).fab = s.fab := rfl
@[simp] theorem State.setByte_mc (a : Nat) (b : Byte) : (s.setByte a b).mc = s.mc := rfl
@[simp] theorem State.setByte_fl (a : Nat) (b : Byte) : (s.setByte a b).fl = s.fl := rfl
@[simp] theorem State.setByte_arb (a : Nat) (b : Byte) : (s.setByte a b).arb = s.arb := rfl
@[simp] theorem State.setByte_upd (a : Nat) (b : Byte) : (s.setByte a b).upd = s.upd := rfl
@[simp] theorem State.setByte_att (a : Nat) (b : Byte) : (s.setByte a b).att = s.att := rfl
@[simp] theorem State.setByte_out (a : Nat) (b : Byte) : (s.setByte a b).out = s.out := rfl
@[simp] theorem State.setByte_sup (a : Nat) (b : Byte) : (s.setByte a b).sup = s.sup := rfl
@[simp] theorem State.setByte_dike (a : Nat) (b : Byte) : (s.setByte a b).dike = s.dike := rfl
@[simp] theorem State.setByte_jrn (a : Nat) (b : Byte) : (s.setByte a b).jrn = s.jrn := rfl
@[simp] theorem State.setByte_st (a : Nat) (b : Byte) : (s.setByte a b).st = s.st := rfl
@[simp] theorem State.setByte_ldr (a : Nat) (b : Byte) : (s.setByte a b).ldr = s.ldr := rfl

@[simp] theorem State.setCore_now (n : Nat) (c : Core) : (s.setCore n c).now = s.now := rfl
@[simp] theorem State.setCore_fresh (n : Nat) (c : Core) : (s.setCore n c).fresh = s.fresh := rfl
@[simp] theorem State.setCore_pending (n : Nat) (c : Core) : (s.setCore n c).pending = s.pending := rfl
@[simp] theorem State.setCore_csr (n : Nat) (c : Core) : (s.setCore n c).csr = s.csr := rfl
@[simp] theorem State.setCore_mem (n : Nat) (c : Core) : (s.setCore n c).mem = s.mem := rfl
@[simp] theorem State.setCore_late (n : Nat) (c : Core) : (s.setCore n c).late = s.late := rfl
@[simp] theorem State.setCore_bcast (n : Nat) (c : Core) : (s.setCore n c).bcast = s.bcast := rfl
@[simp] theorem State.setCore_reply (n : Nat) (c : Core) : (s.setCore n c).reply = s.reply := rfl
@[simp] theorem State.setCore_evc (n : Nat) (c : Core) : (s.setCore n c).evc = s.evc := rfl
@[simp] theorem State.setCore_fab (n : Nat) (c : Core) : (s.setCore n c).fab = s.fab := rfl
@[simp] theorem State.setCore_mc (n : Nat) (c : Core) : (s.setCore n c).mc = s.mc := rfl
@[simp] theorem State.setCore_fl (n : Nat) (c : Core) : (s.setCore n c).fl = s.fl := rfl
@[simp] theorem State.setCore_arb (n : Nat) (c : Core) : (s.setCore n c).arb = s.arb := rfl
@[simp] theorem State.setCore_upd (n : Nat) (c : Core) : (s.setCore n c).upd = s.upd := rfl
@[simp] theorem State.setCore_att (n : Nat) (c : Core) : (s.setCore n c).att = s.att := rfl
@[simp] theorem State.setCore_out (n : Nat) (c : Core) : (s.setCore n c).out = s.out := rfl
@[simp] theorem State.setCore_sup (n : Nat) (c : Core) : (s.setCore n c).sup = s.sup := rfl
@[simp] theorem State.setCore_dike (n : Nat) (c : Core) : (s.setCore n c).dike = s.dike := rfl
@[simp] theorem State.setCore_jrn (n : Nat) (c : Core) : (s.setCore n c).jrn = s.jrn := rfl
@[simp] theorem State.setCore_st (n : Nat) (c : Core) : (s.setCore n c).st = s.st := rfl
@[simp] theorem State.setCore_ldr (n : Nat) (c : Core) : (s.setCore n c).ldr = s.ldr := rfl

@[simp] theorem State.pushLate_now (n due phase : Nat) (op : LateOp) : (s.pushLate n due phase op).now = s.now := rfl
@[simp] theorem State.pushLate_fresh (n due phase : Nat) (op : LateOp) : (s.pushLate n due phase op).fresh = s.fresh := rfl
@[simp] theorem State.pushLate_pending (n due phase : Nat) (op : LateOp) : (s.pushLate n due phase op).pending = s.pending := rfl
@[simp] theorem State.pushLate_csr (n due phase : Nat) (op : LateOp) : (s.pushLate n due phase op).csr = s.csr := rfl
@[simp] theorem State.pushLate_mem (n due phase : Nat) (op : LateOp) : (s.pushLate n due phase op).mem = s.mem := rfl
@[simp] theorem State.pushLate_cores (n due phase : Nat) (op : LateOp) : (s.pushLate n due phase op).cores = s.cores := rfl
@[simp] theorem State.pushLate_bcast (n due phase : Nat) (op : LateOp) : (s.pushLate n due phase op).bcast = s.bcast := rfl
@[simp] theorem State.pushLate_reply (n due phase : Nat) (op : LateOp) : (s.pushLate n due phase op).reply = s.reply := rfl
@[simp] theorem State.pushLate_evc (n due phase : Nat) (op : LateOp) : (s.pushLate n due phase op).evc = s.evc := rfl
@[simp] theorem State.pushLate_fab (n due phase : Nat) (op : LateOp) : (s.pushLate n due phase op).fab = s.fab := rfl
@[simp] theorem State.pushLate_mc (n due phase : Nat) (op : LateOp) : (s.pushLate n due phase op).mc = s.mc := rfl
@[simp] theorem State.pushLate_fl (n due phase : Nat) (op : LateOp) : (s.pushLate n due phase op).fl = s.fl := rfl
@[simp] theorem State.pushLate_arb (n due phase : Nat) (op : LateOp) : (s.pushLate n due phase op).arb = s.arb := rfl
@[simp] theorem State.pushLate_upd (n due phase : Nat) (op : LateOp) : (s.pushLate n due phase op).upd = s.upd := rfl
@[simp] theorem State.pushLate_att (n due phase : Nat) (op : LateOp) : (s.pushLate n due phase op).att = s.att := rfl
@[simp] theorem State.pushLate_out (n due phase : Nat) (op : LateOp) : (s.pushLate n due phase op).out = s.out := rfl
@[simp] theorem State.pushLate_sup (n due phase : Nat) (op : LateOp) : (s.pushLate n due phase op).sup = s.sup := rfl
@[simp] theorem State.pushLate_dike (n due phase : Nat) (op : LateOp) : (s.pushLate n due phase op).dike = s.dike := rfl
@[simp] theorem State.pushLate_jrn (n due phase : Nat) (op : LateOp) : (s.pushLate n due phase op).jrn = s.jrn := rfl
@[simp] theorem State.pushLate_st (n due phase : Nat) (op : LateOp) : (s.pushLate n due phase op).st = s.st := rfl
@[simp] theorem State.pushLate_ldr (n due phase : Nat) (op : LateOp) : (s.pushLate n due phase op).ldr = s.ldr := rfl

@[simp] theorem State.setReg_core (a : Nat) (v : Word) (n : Nat) : (s.setReg a v).core n = s.core n := rfl
@[simp] theorem State.setFld_core (f : Fld) (v n : Nat) : (s.setFld f v).core n = s.core n := rfl
@[simp] theorem State.incFld_core (f : Fld) (k n : Nat) : (s.incFld f k).core n = s.core n := rfl
@[simp] theorem State.pushLate_core (m due phase : Nat) (op : LateOp) (n : Nat) : (s.pushLate m due phase op).core n = s.core n := rfl
@[simp] theorem State.setCore_reg (n : Nat) (c : Core) (a : Nat) : (s.setCore n c).reg a = s.reg a := rfl
@[simp] theorem State.setCore_fld (n : Nat) (c : Core) (f : Fld) : (s.setCore n c).fld f = s.fld f := rfl
@[simp] theorem State.pushLate_reg (n due phase : Nat) (op : LateOp) (a : Nat) : (s.pushLate n due phase op).reg a = s.reg a := rfl
@[simp] theorem State.pushLate_fld (n due phase : Nat) (op : LateOp) (f : Fld) : (s.pushLate n due phase op).fld f = s.fld f := rfl
@[simp] theorem State.setReg_byte (a : Nat) (v : Word) (b : Nat) : (s.setReg a v).byte b = s.byte b := rfl
@[simp] theorem State.setFld_byte (f : Fld) (v b : Nat) : (s.setFld f v).byte b = s.byte b := rfl
@[simp] theorem State.setCore_byte (n : Nat) (c : Core) (b : Nat) : (s.setCore n c).byte b = s.byte b := rfl

/-- What is in flight after an operation was added: that operation and what was in flight before. -/
theorem mem_insertLate (l x : Late) (ls : List Late) : x ∈ insertLate l ls ↔ x = l ∨ x ∈ ls := by
  induction ls with
  | nil => simp [insertLate]
  | cons y ys ih =>
    unfold insertLate; split
    · simp
    · simp only [List.mem_cons, ih]; tauto

/-- Whatever is read of the state at a register, a field or a byte rests on one part of it. -/
theorem State.reg_of_csr {s t : State} (h : t.csr = s.csr) (a : Nat) : t.reg a = s.reg a := by simp [State.reg, h]
theorem State.fld_of_csr {s t : State} (h : t.csr = s.csr) (f : Fld) : t.fld f = s.fld f := by simp [State.fld, State.reg, h]
theorem State.byte_of_mem {s t : State} (h : t.mem = s.mem) (a : Nat) : t.byte a = s.byte a := by simp [State.byte, h]
theorem State.core_of_cores {s t : State} (h : t.cores = s.cores) (n : Nat) : t.core n = s.core n := by simp [State.core, h]

end Sys2Proof.Machine
end

