-- ==== Sys2Proof/Laws/Time.lean ====
section
/-! SUPPORT. The clock and the operations in flight. -/

namespace Sys2Proof.Machine

theorem State.clock_now (s : State) (t : Nat) : (s.clock t).now = max s.now t := by
  unfold State.clock
  split
  next h => exact (Nat.max_eq_left h).symm
  next h => exact (Nat.max_eq_right (by omega : s.now ≤ t)).symm

/-- The clock stands at least at the cycle to which it is moved. -/
theorem le_tickTo_now (s : State) (t : Nat) : t ≤ (tickTo s t).now := by
  unfold tickTo
  rw [State.clock_now]
  exact Nat.le_max_right _ _

/-- Nothing in flight is due by cycle t: none has its effect. -/
theorem runLate_quiet (t k : Nat) (s : State) (h : ∀ l ∈ s.late, t < l.due) : runLate t k s = s := by
  have hd : lateDue t s = false := by
    unfold lateDue
    split
    · rfl
    next l rest hl =>
      have := h l (by rw [hl]; exact List.mem_cons_self)
      simp only [decide_eq_false_iff_not, Nat.not_le]
      exact this
  cases k with
  | zero =>
    unfold runLate lateStep
    split
    · rfl
    next l rest hl =>
      have := h l (by rw [hl]; exact List.mem_cons_self)
      rw [if_neg (by omega)]
  | succ k =>
    unfold runLate
    rw [hd]
    rfl

theorem tickTo_quiet (s : State) (t : Nat) (h : ∀ l ∈ s.late, t < l.due) : tickTo s t = s.clock t := by
  unfold tickTo
  rw [runLate_quiet t _ s h]

/-- In the present cycle nothing is left to do. -/
theorem tickTo_now (s : State) (h : ∀ l ∈ s.late, s.now < l.due) : tickTo s s.now = s := by
  rw [tickTo_quiet s s.now h]
  exact if_pos (Nat.le_refl _)

theorem tickTo_past (s : State) (t : Nat) (ht : t ≤ s.now) (h : ∀ l ∈ s.late, t < l.due) : tickTo s t = s := by
  rw [tickTo_quiet s t h]
  exact if_pos ht

theorem State.up_inReset {s : State} (h : s.up = true) : s.out.mgt.inReset = false := by simpa [State.up] using h

/-- A command of the package where power and reset allow it. -/
theorem ifUp_up (f : State → State) {s : State} (h : s.up = true) : ifUp f s = .next { f s with pending := s.pending } := by
  simp [ifUp, always, State.up_inReset h]

end Sys2Proof.Machine
end

