-- ==== Sys2Proof/Laws/Issue.lean ====
section
/-! SUPPORT. A lone syllable at issue: from the command to the application of its bundle. -/

namespace Sys2Proof.Machine

variable {s : State} {n : Nat}

@[simp] theorem State.gathered_csr : (s.gathered n).csr = s.csr := rfl
@[simp] theorem State.gathered_late : (s.gathered n).late = s.late := rfl
@[simp] theorem State.gathered_now : (s.gathered n).now = s.now := rfl
@[simp] theorem State.gathered_mem : (s.gathered n).mem = s.mem := rfl
@[simp] theorem State.gathered_pending : (s.gathered n).pending = s.pending := rfl
@[simp] theorem State.gathered_reg (a : Nat) : (s.gathered n).reg a = s.reg a := rfl
@[simp] theorem State.gathered_fld (f : Fld) : (s.gathered n).fld f = s.fld f := rfl
@[simp] theorem State.gathered_flag (f : Fld) : (s.gathered n).flag f = s.flag f := rfl
@[simp] theorem State.gathered_sr (m i : Nat) : (s.gathered n).sr m i = s.sr m i := rfl
@[simp] theorem State.gathered_pr (m i : Nat) : (s.gathered n).pr m i = s.pr m i := rfl
@[simp] theorem State.gathered_byte (a : Nat) : (s.gathered n).byte a = s.byte a := rfl
@[simp] theorem State.gathered_core : (s.gathered n).core n = { s.core n with latch := [] } := State.core_setCore_same s n _
theorem State.gathered_core_ne {m : Nat} (h : m ≠ n) : (s.gathered n).core m = s.core m := State.core_setCore_ne s _ h

theorem bundleSyls_one {i : Instr} {x : SylInfo} (h : sylInfo i = some x) : bundleSyls [i] = [x] := by
  unfold bundleSyls
  simp only [List.filterMap_cons, h, List.filterMap_nil]
  obtain ⟨slot, op, y, legal, hold, tier, wait, qsync, check, apply⟩ := x
  cases slot <;> rfl

theorem execSyls_one {i : Instr} {x : SylInfo} (h : sylInfo i = some x) :
    execSyls s [i] = if x.legal && s.pr x.y.n x.y.pred.toNat then [x] else [] := by
  unfold execSyls
  rw [bundleSyls_one h]
  simp only [List.filter_cons, List.filter_nil]

theorem fetchEcc_clean {i : Instr} (h : ∀ y sl op e, i = .nop y sl op e → e = .clean) : fetchEcc i = 0 := by
  unfold fetchEcc
  split
  next y sl op => exact absurd (h _ _ _ _ rfl) (by decide)
  next y sl op => exact absurd (h _ _ _ _ rfl) (by decide)
  next => rfl

/-- A bundle without an ECC outcome leaves what the fetch finds as it is. -/
theorem plantEcc_one {i : Instr} (h : ∀ y sl op e, i = .nop y sl op e → e = .clean) : plantEcc s n [i] = s := by
  unfold plantEcc
  simp only [List.foldl_cons, List.foldl_nil, fetchEcc_clean h, Nat.max_self, true_or, if_true]

/-- A command that is a last syllable: its bundle reaches issue. -/
theorem addSyl_last {i : Instr} {x : SylInfo} (h : sylInfo i = some x) (hl : x.y.last = true) (hr : Ready s x.y.n) :
    addSyl i s = reachIssue (s.gathered x.y.n) x.y.n [i] := by
  unfold addSyl
  simp only [h, hr.issues, hr.latch, hl, Bool.not_true, Bool.false_eq_true, if_false, if_true, List.filter_nil, List.nil_append]
  rfl

/-- The bundle of a lone clean syllable at a core that can issue, up to the evaluation of what holds it. -/
theorem reachIssue_ready {i : Instr} (hr : Ready s n) (hc : ∀ y sl op e, i = .nop y sl op e → e = .clean) :
    reachIssue (s.gathered n) n [i] =
      tickTo (if (bundleStalls (s.gathered n) n s.now [i]).any
        then startHold (s.gathered n) n s.now [i] (bundleStalls (s.gathered n) n s.now [i])
        else releaseAt (s.gathered n) n s.now [i]) s.now := by
  have hu : max s.now (s.core n).nextIssue = s.now := Nat.max_eq_left hr.cycle
  have ht : tickTo (s.gathered n) s.now = s.gathered n := tickTo_now (s.gathered n) hr.late
  have hi : coreIssues (s.gathered n) n = true := hr.issues
  have hf : fetchBundle (s.gathered n) n = s.gathered n := by
    unfold fetchBundle
    rw [if_neg]
    rw [State.gathered_core]
    intro h
    have := hr.ecc
    have h2 := h.2
    simp only at h2
    rw [show pcOf (s.gathered n) n = pcOf s n from rfl, this] at h2
    exact absurd h2 (by decide)
  have hff : fetchFaults (s.gathered n) n = [] := by
    unfold fetchFaults
    simp only [State.gathered_core, hr.inside, Bool.false_eq_true, if_false]
    rw [if_neg]
    rw [show pcOf (s.gathered n) n = pcOf s n from rfl, hr.ecc]
    decide
  unfold reachIssue
  simp only [State.gathered_core, State.gathered_now, hu, ht, hi, plantEcc_one hc, hf, hff, hr.due, List.isEmpty_nil, Bool.not_true, Bool.or_self,
    Bool.false_eq_true, if_false]

/-- Nothing is held: a lone syllable without a barrier issues alone. -/
theorem releaseAt_one {i : Instr} {x : SylInfo} (h : sylInfo i = some x) (hq : x.qsync = false ∨ x.legal = false ∨
    s.pr x.y.n x.y.pred.toNat = false) (hh : (s.core n).held = none) :
    releaseAt (s.gathered n) n s.now [i] = issueBundle (s.gathered n) n s.now [i] := by
  have hno : ((execSyls (s.gathered n) [i]).any fun x => x.qsync) = false := by
    rw [execSyls_one h]
    split
    next hx =>
      simp only [Bool.and_eq_true, State.gathered_pr] at hx
      rcases hq with hq | hq | hq
      · simp [hq]
      · rw [hq] at hx; exact absurd hx.1 (by decide)
      · rw [hq] at hx; exact absurd hx.2 (by decide)
    next => rfl
  have hg : issueGroup (s.gathered n) n [i] = [(n, [i])] := by
    unfold issueGroup
    rw [hno]
    rfl
  unfold releaseAt
  rw [hg]
  simp only [List.foldl_cons, List.foldl_nil, issueAt, State.gathered_core, hh]

/-- A lone syllable that nothing holds and without a fault issues. -/
theorem bundleFaults_one {i : Instr} {x : SylInfo} (h : sylInfo i = some x) (hr : Ready s n) :
    bundleFaults (s.gathered n) n s.now [i] = sylFaults (s.gathered n) s.now x := by
  have hff : fetchFaults (s.gathered n) n = [] := by
    unfold fetchFaults
    simp only [State.gathered_core, hr.inside, Bool.false_eq_true, if_false]
    rw [if_neg]
    rw [show pcOf (s.gathered n) n = pcOf s n from rfl, hr.ecc]
    decide
  unfold bundleFaults
  simp only [State.gathered_core, hr.due, hff, bundleSyls_one h]
  simp [sortDef]

/-- A command of the four slots is handed to its core. -/
theorem exec_syl {i : Instr} {x : SylInfo} (h : sylInfo i = some x) : exec i s = ifUp (addSyl i) s := by
  cases i <;> first | rfl | cases h

/-- Nothing holds a bundle whose lone syllable is clear, or does not execute. -/
theorem bundleStalls_one {i : Instr} {x : SylInfo} (h : sylInfo i = some x) (hq : x.qsync = false) :
    bundleStalls s n s.now [i] =
      if x.legal && s.pr x.y.n x.y.pred.toNat then ⟨x.hold s.now x.y s, x.tier s.now x.y s, x.wait x.y s⟩
      else ⟨false, none, false⟩ := by
  unfold bundleStalls accHeldBy
  rw [execSyls_one h]
  split <;> simp [hq]

/-- A lone syllable that nothing holds or faults issues, and its bundle is applied. -/
theorem addSyl_issues {i : Instr} {x : SylInfo} (h : Issues i x s) :
    addSyl i s = tickTo (applyBundle (s.gathered x.y.n) x.y.n s.now [i]) s.now := by
  rw [addSyl_last h.syl h.last h.ready, reachIssue_ready h.ready h.clean]
  have hs : bundleStalls (s.gathered x.y.n) x.y.n (s.gathered x.y.n).now [i] = ⟨false, none, false⟩ := by
    rw [bundleStalls_one h.syl h.clear.alone]
    split
    · have e1 : x.hold s.now x.y (s.gathered x.y.n) = false := h.clear.hold
      have e2 : x.tier s.now x.y (s.gathered x.y.n) = none := h.clear.tier
      rw [State.gathered_now, e1, e2, h.clear.wait]
    · rfl
  rw [State.gathered_now] at hs
  rw [hs]
  simp only [Stalls.any, Option.isSome_none, Bool.or_self, Bool.false_eq_true, if_false]
  rw [releaseAt_one h.syl (.inl h.clear.alone) h.ready.held]
  have hf : bundleFaults (s.gathered x.y.n) x.y.n s.now [i] = [] := by
    rw [bundleFaults_one h.syl h.ready]
    unfold sylFaults
    have hp := h.clear.pred
    simp only [h.clear.legal, Bool.not_true, Bool.false_eq_true, if_false, hp, if_true]
    have e : x.check s.now x.y (s.gathered x.y.n) = [] := h.clear.faults
    rw [e]
    rfl
  unfold issueBundle
  rw [hf]

theorem setCur_core (s : State) (n k : Nat) : (setCur s n k).core n = { s.core n with cur := k } := State.core_setCore_same _ _ _
theorem clearCtl_core (s : State) (n : Nat) : (clearCtl s n).core n = { s.core n with ctl := ⟨none, none, false⟩ } :=
  State.core_setCore_same _ _ _

/-! ### The sequencer after the effects -/

theorem loopEnd_none (pc k : Nat) (h : kdepth s n = 0) : loopEnd n pc (k + 1) s = (none, s) := by
  unfold loopEnd
  simp only [h, true_or, if_true]

/-- What an issue counts and signs. -/
theorem cfsIssue_quiet (s : State) (n u pc : Nat) (hw : s.fld (F.CFS_FETCH_WCOUNT n) < 4095) :
    cfsIssue s n u pc false =
      (((s.setFld (F.CFS_FETCH_SIG n) (cfsStep (s.fld (F.CFS_FETCH_SIG n)) pc)).setFld (F.CFS_FETCH_WCOUNT n)
        (s.fld (F.CFS_FETCH_WCOUNT n) + 1)).setFld (F.CFS_CHECK_SIG n)
        (cfsStep (s.fld (F.CFS_CHECK_SIG n)) pc)).setFld (F.CFS_CHECK_WCOUNT n) (s.fld (F.CFS_FETCH_WCOUNT n) + 1) := by
  have h : (false || (s.fld (F.CFS_FETCH_WCOUNT n) + 1 == 4096)) = false := by
    simp only [Bool.false_or, beq_eq_false_iff_ne]
    omega
  unfold cfsIssue
  simp only [h, Bool.false_eq_true, if_false]

/-- Without a branch, a delay slot, a skip or an open loop the next bundle follows. -/
theorem nextBundle_straight (s : State) (n pc : Nat) (hctl : (s.core n).ctl = ⟨none, none, false⟩)
    (hbr : (s.core n).branch = none) (hk : kdepth s n = 0) : nextBundle s n pc = (pc + 1, s) := by
  unfold nextBundle
  rw [loopEnd_none pc 4 hk]
  simp only [hctl, hbr]

/-- The counts of an issue: the bundle count, and the core's own fields; nothing else. -/
theorem countIssue_spec (s : State) (n u k ord : Nat) :
    (countIssue s n u k ord).late = s.late ∧ (countIssue s n u k ord).now = s.now ∧ (countIssue s n u k ord).mem = s.mem ∧
    (∀ a, a ≠ R.BUNDLE_COUNT n → (countIssue s n u k ord).reg a = s.reg a) ∧
    (∀ m, m ≠ n → (countIssue s n u k ord).core m = s.core m) ∧
    (countIssue s n u k ord).core n = { s.core n with issued := k, cur := ord, nextIssue := u + 1 } ∧
    (countIssue s n u k ord).fld (F.BUNDLE_COUNT_COUNT n) = min (s.fld (F.BUNDLE_COUNT_COUNT n) + 1) (2 ^ 64 - 1) :=
  ⟨rfl, rfl, rfl, fun _ ha => State.reg_incFld_ne _ _ _ ha, fun _ hm => State.core_setCore_ne _ _ hm,
    State.core_setCore_same _ _ _, State.fld_incFld_same _ _ _ (by simp)⟩

/-- What an issue signs, where the window does not fill: both signatures and the count of the window; nothing else. -/
theorem cfsIssue_spec (s : State) (n u pc : Nat) (hw : s.fld (F.CFS_FETCH_WCOUNT n) < 4095) :
    (cfsIssue s n u pc false).late = s.late ∧ (cfsIssue s n u pc false).now = s.now ∧ (cfsIssue s n u pc false).mem = s.mem ∧
    (∀ a, a ≠ R.CFS_FETCH n → a ≠ R.CFS_CHECK n → (cfsIssue s n u pc false).reg a = s.reg a) ∧
    (∀ m, (cfsIssue s n u pc false).core m = s.core m) ∧
    (cfsIssue s n u pc false).fld (F.CFS_FETCH_SIG n) = cfsStep (s.fld (F.CFS_FETCH_SIG n)) pc % 2 ^ 32 ∧
    (cfsIssue s n u pc false).fld (F.CFS_CHECK_SIG n) = cfsStep (s.fld (F.CFS_CHECK_SIG n)) pc % 2 ^ 32 ∧
    (cfsIssue s n u pc false).fld (F.CFS_FETCH_WCOUNT n) = s.fld (F.CFS_FETCH_WCOUNT n) + 1 := by
  rw [cfsIssue_quiet s n u pc hw]
  refine ⟨rfl, rfl, rfl, ?_, fun _ => rfl, ?_, ?_, ?_⟩
  · intro a h1 h2
    rw [State.reg_setFld_ne _ _ _ h2, State.reg_setFld_ne _ _ _ h2, State.reg_setFld_ne _ _ _ h1, State.reg_setFld_ne _ _ _ h1]
  · rw [State.fld_setFld_ne _ (F.CFS_CHECK_WCOUNT n) _ _ (.inl (by simp)),
      State.fld_setFld_ne _ (F.CFS_CHECK_SIG n) _ _ (.inl (by simp)),
      State.fld_setFld_ne _ (F.CFS_FETCH_WCOUNT n) _ _ (.inr (by simp))]
    exact State.fld_setFld_same _ _ _ (by simp)
  · rw [State.fld_setFld_ne _ (F.CFS_CHECK_WCOUNT n) _ _ (.inr (by simp))]
    exact State.fld_setFld_same _ _ _ (by simp)
  · rw [State.fld_setFld_ne _ (F.CFS_CHECK_WCOUNT n) _ _ (.inl (by simp)),
      State.fld_setFld_ne _ (F.CFS_CHECK_SIG n) _ _ (.inl (by simp)), State.fld_setFld_same _ _ _ (by simp)]
    exact Nat.mod_eq_of_lt (by simp only [Nat.reduceSub, Nat.reduceAdd, Nat.reducePow]; omega)

/-- The program counter set: no other field of the status, no other register, no other core. -/
theorem setPc_spec (s : State) (n a : Nat) (ha : a < 16384) :
    (setPc s n a).late = s.late ∧ (setPc s n a).now = s.now ∧ (setPc s n a).mem = s.mem ∧ pcOf (setPc s n a) n = a ∧
    (∀ b, b ≠ R.SEQ_STATUS n → (setPc s n a).reg b = s.reg b) ∧ (∀ m, m ≠ n → (setPc s n a).core m = s.core m) ∧
    (setPc s n a).core n = { s.core n with pastEnd := false } ∧
    (∀ hi lo, (16 > hi ∨ lo > 29) → (setPc s n a).fld ⟨R.SEQ_STATUS n, hi, lo⟩ = s.fld ⟨R.SEQ_STATUS n, hi, lo⟩) := by
  unfold setPc
  generalize hd : s.setFld (F.SEQ_STATUS_PC n) (a % 16384) = d
  have dr : ∀ b, b ≠ R.SEQ_STATUS n → d.reg b = s.reg b := fun b hb => hd ▸ State.reg_setFld_ne s _ _ hb
  have dc : ∀ m, d.core m = s.core m := fun m => hd ▸ rfl
  refine ⟨hd ▸ rfl, hd ▸ rfl, hd ▸ rfl, ?_, fun b hb => (State.setCore_reg d n _ b).trans (dr b hb),
    fun m hm => (State.core_setCore_ne d _ hm).trans (dc m), ?_, ?_⟩
  · unfold pcOf
    rw [State.setCore_fld, ← hd, State.fld_setFld_same s _ _ (by simp)]
    simp only [Nat.reduceSub, Nat.reduceAdd, Nat.reducePow]
    omega
  · rw [State.core_setCore_same, show decide (16384 ≤ a) = false by simp; omega]
  · intro hi lo h
    rw [State.setCore_fld, ← hd]
    exact State.fld_setFld_ne s (F.SEQ_STATUS_PC n) ⟨R.SEQ_STATUS n, hi, lo⟩ _ (.inr (by simp only; omega))

/-- Where nothing is asked of the sequencer and no loop is open, the next bundle follows. -/
theorem sequence_straight (u k pc : Nat) (hctl : (s.core n).ctl = ⟨none, none, false⟩) (hs : Straight s n) :
    sequence s n u k pc = setPc (cfsIssue (countIssue s n u k ((k - 1) * 4)) n u pc false) n (pc + 1) := by
  obtain ⟨_, _, _, cr, _, cc, _⟩ := countIssue_spec s n u k ((k - 1) * 4)
  generalize hc : countIssue s n u k ((k - 1) * 4) = c at cr cc
  have hw : c.fld (F.CFS_FETCH_WCOUNT n) < 4095 := by
    unfold State.fld
    rw [cr _ (by simp)]
    exact hs.window
  obtain ⟨_, _, _, dr, dc, _⟩ := cfsIssue_spec c n u pc hw
  generalize hd : cfsIssue c n u pc false = d at dr dc
  have hk : kdepth d n = 0 := by
    unfold kdepth State.fld
    rw [dr _ (by simp) (by simp), cr _ (by simp)]
    exact hs.loops
  unfold sequence
  simp only [hctl, hc, hd, Bool.false_eq_true, if_false]
  rw [nextBundle_straight d n pc (by rw [dc, cc]; exact hctl) (by rw [dc, cc]; exact hs.branch) hk]

/-- What such an issue does: it counts, takes the address into both signatures and goes on to the next bundle; nothing else
changes. -/
theorem sequence_spec (u k pc : Nat) (hctl : (s.core n).ctl = ⟨none, none, false⟩) (hs : Straight s n) (hpc : pc + 1 < 16384) :
    (sequence s n u k pc).late = s.late ∧ (sequence s n u k pc).now = s.now ∧ (sequence s n u k pc).mem = s.mem ∧
    pcOf (sequence s n u k pc) n = pc + 1 ∧ RegsExcept (issueRegs n) s (sequence s n u k pc) ∧
    (∀ m, m ≠ n → (sequence s n u k pc).core m = s.core m) ∧
    (sequence s n u k pc).core n =
      { s.core n with issued := k, cur := (k - 1) * 4, nextIssue := u + 1, pastEnd := false } := by
  rw [sequence_straight u k pc hctl hs]
  obtain ⟨cl, cn, ce, cr, cm, cc, _⟩ := countIssue_spec s n u k ((k - 1) * 4)
  generalize countIssue s n u k ((k - 1) * 4) = c at cl cn ce cr cm cc
  have hw : c.fld (F.CFS_FETCH_WCOUNT n) < 4095 := by
    unfold State.fld
    rw [cr _ (by simp)]
    exact hs.window
  obtain ⟨dl, dn, de, dr, dc, _⟩ := cfsIssue_spec c n u pc hw
  generalize cfsIssue c n u pc false = d at dl dn de dr dc
  obtain ⟨tl, tn, te, tp, tr, tm, tc, _⟩ := setPc_spec d n (pc + 1) hpc
  refine ⟨tl.trans (dl.trans cl), tn.trans (dn.trans cn), te.trans (de.trans ce), tp, ?_, ?_, ?_⟩
  · intro a ha
    simp only [issueRegs, List.mem_cons, List.not_mem_nil, or_false, not_or] at ha
    rw [tr a ha.1, dr a ha.2.2.1 ha.2.2.2, cr a ha.2.1]
  · intro m hm
    rw [tm m hm, dc m, cm m hm]
  · rw [tc, dc, cc]

/-! ### A lone syllable that puts one operation in flight -/

/-- The state in which the effect of a lone syllable is added. -/
def beforeEffect (g : State) (n : Nat) (slot : SlotL) : State :=
  setCur (clearCtl g n) n ((g.core n).issued * 4 + slotNo slot)

theorem beforeEffect_core (g : State) (n : Nat) (slot : SlotL) : (beforeEffect g n slot).core n =
    { g.core n with ctl := ⟨none, none, false⟩, cur := (g.core n).issued * 4 + slotNo slot } := by
  unfold beforeEffect
  rw [setCur_core, clearCtl_core]

theorem beforeEffect_core_ne (g : State) {n m : Nat} (slot : SlotL) (h : m ≠ n) :
    (beforeEffect g n slot).core m = g.core m := by
  unfold beforeEffect setCur clearCtl
  rw [State.core_setCore_ne _ _ h, State.core_setCore_ne _ _ h]

theorem applyBundle_one {g : State} {i : Instr} {x : SylInfo} (u : Nat) (hx : execSyls g [i] = [x]) :
    applyBundle g n u [i] =
      sequence (x.apply u x.y (beforeEffect g n x.slot)) n u ((g.core n).issued + 1) (pcOf g n) := by
  unfold applyBundle applySyls
  rw [hx]
  rfl

theorem applyBundle_push {g : State} {i : Instr} {x : SylInfo} (u due : Nat) (op : LateOp) (hx : execSyls g [i] = [x])
    (hs : Straight g n)
    (happ : x.apply u x.y (beforeEffect g n x.slot) = (beforeEffect g n x.slot).pushLate n due 0 op) :
    (applyBundle g n u [i]).late = insertLate ⟨n, (g.core n).issued * 4 + slotNo x.slot, due, 0, op⟩ g.late ∧
    (applyBundle g n u [i]).now = g.now ∧ (applyBundle g n u [i]).mem = g.mem ∧
    pcOf (applyBundle g n u [i]) n = pcOf g n + 1 ∧ RegsExcept (issueRegs n) g (applyBundle g n u [i]) ∧
    (∀ m, m ≠ n → (applyBundle g n u [i]).core m = g.core m) := by
  rw [applyBundle_one u hx, happ]
  have hc : ((beforeEffect g n x.slot).pushLate n due 0 op).core n =
      { g.core n with ctl := ⟨none, none, false⟩, cur := (g.core n).issued * 4 + slotNo x.slot } := beforeEffect_core g n x.slot
  have hl : ((beforeEffect g n x.slot).pushLate n due 0 op).late =
      insertLate ⟨n, (g.core n).issued * 4 + slotNo x.slot, due, 0, op⟩ g.late := by
    unfold State.pushLate
    rw [beforeEffect_core]
    rfl
  have hm : ∀ m, m ≠ n → ((beforeEffect g n x.slot).pushLate n due 0 op).core m = g.core m :=
    fun m h => beforeEffect_core_ne g x.slot h
  have hr : ∀ a, ((beforeEffect g n x.slot).pushLate n due 0 op).reg a = g.reg a := fun a => rfl
  have hn : ((beforeEffect g n x.slot).pushLate n due 0 op).now = g.now := rfl
  have he : ((beforeEffect g n x.slot).pushLate n due 0 op).mem = g.mem := rfl
  generalize (beforeEffect g n x.slot).pushLate n due 0 op = d at hc hl hm hr hn he
  have hf : ∀ f, d.fld f = g.fld f := fun f => by unfold State.fld; rw [hr]
  have hd : Straight d n := ⟨(hf _).trans hs.loops, by rw [hc]; exact hs.branch, by rw [hf]; exact hs.window, by
    unfold pcOf; rw [hf]; exact hs.next⟩
  obtain ⟨tl, tn, te, tp, tr, tm, _⟩ := sequence_spec (s := d) u ((g.core n).issued + 1) (pcOf g n) (by rw [hc]) hd hs.next
  exact ⟨tl.trans hl, tn.trans hn, te.trans he, tp, fun a ha => (tr a ha).trans (hr a), fun m h => (tm m h).trans (hm m h)⟩

end Sys2Proof.Machine
end

