-- ==== Sys2Proof/Laws/Mem.lean ====
section
/-! SUPPORT. Memory: every operation that writes it keeps its canonical form, and a write of bytes changes those bytes alone. -/

namespace Sys2Proof.Machine

/-- A write of one byte keeps the canonical form. -/
theorem State.setByte_wf (s : State) (a : Nat) (b : Byte) (h : Memory.wf s.mem = true) : Memory.wf (s.setByte a b).mem = true :=
  wfMap_put s.mem a b h

/-- A write of bytes from a place on keeps the canonical form. -/
theorem State.writeAt_wf (p : Place) (bs : List Byte) (s : State) (i : Nat) (h : Memory.wf s.mem = true) :
    Memory.wf (s.writeAt p i bs).mem = true := by
  induction bs generalizing s i with
  | nil => exact h
  | cons b bs ih => exact ih _ _ (s.setByte_wf _ b h)

/-- A write of bytes keeps the canonical form. -/
theorem State.writeBytes_wf (s : State) (p : Place) (bs : List Byte) (h : Memory.wf s.mem = true) :
    Memory.wf (s.writeBytes p bs).mem = true := s.writeAt_wf p bs 0 h

/-- Memory of which some addresses are left out, as at a reset, an erasure or a loss of power, is in canonical form. -/
theorem Memory.wf_filter (p : Host.Cell → Bool) (m : List Host.Cell) (h : Memory.wf m = true) : Memory.wf (m.filter p) = true :=
  wfMap_filter p m h

/-- The memory of the state after reset is in canonical form. -/
theorem State.reset_mem_wf : Memory.wf State.reset.mem = true := rfl

/-- A write of bytes changes no byte of another address. -/
theorem State.byte_writeAt_ne (p : Place) (a : Nat) (bs : List Byte) (s : State) (i : Nat)
    (h : ∀ j, i ≤ j → j < i + bs.length → a ≠ p.addr j) : (s.writeAt p i bs).byte a = s.byte a := by
  induction bs generalizing s i with
  | nil => rfl
  | cons b bs ih =>
    have h1 := ih (s.setByte (p.addr i) b) (i + 1) (fun j h1 h2 => h j (by omega) (by simp; omega))
    have h2 : (s.setByte (p.addr i) b).byte a = s.byte a := look_put_ne _ _ (h i (Nat.le_refl i) (by simp))
    exact h1.trans h2

/-- Outside the bytes written, memory reads as before. -/
theorem State.byte_writeBytes_ne (s : State) (p : Place) (bs : List Byte) (a : Nat)
    (h : ∀ j, j < bs.length → a ≠ p.addr j) : (s.writeBytes p bs).byte a = s.byte a :=
  s.byte_writeAt_ne p a bs 0 fun j _ hj => h j (by omega)

/-- The bytes written read back, where no two of them fall on one address. -/
theorem State.byte_writeAt_same (p : Place) (bs : List Byte) (s : State) (i j : Nat) (hj : j < bs.length)
    (inj : ∀ x y, i ≤ x → x < y → y < i + bs.length → p.addr x ≠ p.addr y) :
    (s.writeAt p i bs).byte (p.addr (i + j)) = bs[j] := by
  induction bs generalizing s i j with
  | nil => exact absurd hj (Nat.not_lt_zero _)
  | cons b bs ih =>
    cases j with
    | zero =>
      have h1 := State.byte_writeAt_ne p (p.addr i) bs (s.setByte (p.addr i) b) (i + 1)
        fun k h1 h2 => inj i k (Nat.le_refl i) (by omega) (by simp; omega)
      exact h1.trans (look_put_same _ _ _)
    | succ j =>
      have h1 := ih (s.setByte (p.addr i) b) (i + 1) j (by simpa using hj)
        fun x y hx hxy hy => inj x y (by omega) hxy (by simp; omega)
      have e : i + (j + 1) = i + 1 + j := by omega
      rw [e]; exact h1

/-- What was written at a flat address reads back. -/
theorem State.byte_writeBytes_same (s : State) (a : Nat) (bs : List Byte) (j : Nat) (hj : j < bs.length) :
    (s.writeBytes (.flat a) bs).byte (a + j) = bs[j] := by
  have h := State.byte_writeAt_same (.flat a) bs s 0 j hj (by intro x y _ hxy _; simp only [Place.addr]; omega)
  simpa [Place.addr, State.writeBytes] using h

end Sys2Proof.Machine
end

