-- ==== Sys2Proof/Laws/Regs.lean ====
section
/-! SUPPORT. Where the registers stand: in a block of equal parts the part's number plays no role in finding a register. -/

namespace Sys2Proof.Machine

/-- A register of a block of N parts of 64 KiB from base0: it has one place in each part. -/
def RegDesc.inBlock (base0 N : Nat) (d : RegDesc) : Bool :=
  d.sA == 0x10000 && d.nA == N && decide (base0 ≤ d.base) &&
    decide (d.base - base0 + (d.nB - 1) * d.sB + (d.nC - 1) * d.sC < 0x10000)

/-- Whether a register of such a block stands at offset o of each part. -/
def RegDesc.atOff (base0 o : Nat) (d : RegDesc) : Bool :=
  let r1 := o - (d.base - base0)
  let ib := if d.sB = 0 then 0 else r1 / d.sB
  let r2 := r1 - ib * d.sB
  let ic := if d.sC = 0 then 0 else r2 / d.sC
  decide (d.base - base0 ≤ o) && decide (ib < d.nB) && decide (ic < d.nC) && decide (r2 - ic * d.sC = 0)

theorem divIf_mul_le (r k : Nat) : (if k = 0 then 0 else r / k) * k ≤ r := by
  split
  · simp
  · exact Nat.div_mul_le_self r k

theorem RegDesc.covers_block {base0 N : Nat} {d : RegDesc} (hd : d.inBlock base0 N = true) {n o : Nat} (hn : n < N)
    (ho : o < 0x10000) : d.covers (base0 + n * 0x10000 + o) = d.atOff base0 o := by
  simp only [RegDesc.inBlock, Bool.and_eq_true, beq_iff_eq, decide_eq_true_eq] at hd
  obtain ⟨⟨⟨hs, hN⟩, hb⟩, hf⟩ := hd
  unfold RegDesc.covers RegDesc.atOff
  simp only [hs, hN, Nat.reduceEqDiff, if_false]
  by_cases hle : d.base - base0 ≤ o
  · have h1 : base0 + n * 0x10000 + o - d.base = n * 0x10000 + (o - (d.base - base0)) := by omega
    have h2 : (base0 + n * 0x10000 + o - d.base) / 0x10000 = n := by omega
    have h3 : base0 + n * 0x10000 + o - d.base - n * 0x10000 = o - (d.base - base0) := by omega
    have h4 : d.base ≤ base0 + n * 0x10000 + o := by omega
    simp only [h2, h3, h4, hn, hle, decide_true, Bool.true_and]
  · simp only [hle, decide_false, Bool.false_and]
    by_cases h4 : d.base ≤ base0 + n * 0x10000 + o
    · have hn1 : 1 ≤ n := by omega
      have h2 : (base0 + n * 0x10000 + o - d.base) / 0x10000 = n - 1 := by omega
      simp only [h2]
      have h3 : base0 + n * 0x10000 + o - d.base - (n - 1) * 0x10000 = 0x10000 + o - (d.base - base0) := by omega
      rw [h3]
      generalize hr : 0x10000 + o - (d.base - base0) = r
      generalize hib : (if d.sB = 0 then 0 else r / d.sB) = ib
      have e1 : ib * d.sB ≤ r := hib ▸ divIf_mul_le r d.sB
      generalize hic : (if d.sC = 0 then 0 else (r - ib * d.sB) / d.sC) = ic
      have e2 : ic * d.sC ≤ r - ib * d.sB := hic ▸ divIf_mul_le _ d.sC
      by_cases k1 : ib < d.nB
      · by_cases k2 : ic < d.nC
        · have m1 : ib * d.sB ≤ (d.nB - 1) * d.sB := Nat.mul_le_mul_right _ (by omega)
          have m2 : ic * d.sC ≤ (d.nC - 1) * d.sC := Nat.mul_le_mul_right _ (by omega)
          have : ¬ (r - ib * d.sB - ic * d.sC = 0) := by omega
          simp [this]
        · simp [k2]
      · simp [k1]
    · simp [h4]

theorem regAt_block {base0 N : Nat} {t : List RegDesc} (ht : t.all (RegDesc.inBlock base0 N) = true) {n o : Nat} (hn : n < N)
    (ho : o < 0x10000) (hr : regTableAt (base0 + n * 0x10000 + o) = t) :
    regAt (base0 + n * 0x10000 + o) = t.find? (RegDesc.atOff base0 o) := by
  unfold regAt
  rw [hr]
  rw [List.all_eq_true] at ht
  clear hr
  induction t with
  | nil => rfl
  | cons d t ih =>
    simp only [List.find?_cons]
    rw [RegDesc.covers_block (ht d (by simp)) hn ho, ih (fun x hx => ht x (List.mem_cons_of_mem _ hx))]

theorem regAt_core {n o : Nat} (hn : n < 64) (ho : o < 0x10000) :
    regAt (0x7F0001000000 + n * 0x10000 + o) = regTable_core.find? (RegDesc.atOff 0x7F0001000000 o) :=
  regAt_block (by decide +kernel) hn ho (by
    unfold regTableAt
    repeat (first | rw [if_neg (by omega)] | rw [if_pos (by omega)]))

theorem regAt_port {n o : Nat} (hn : n < 24) (ho : o < 0x10000) :
    regAt (0x7F0000400000 + n * 0x10000 + o) = regTable_port.find? (RegDesc.atOff 0x7F0000400000 o) :=
  regAt_block (by decide +kernel) hn ho (by
    unfold regTableAt
    repeat (first | rw [if_neg (by omega)] | rw [if_pos (by omega)]))

theorem regAt_mc {n o : Nat} (hn : n < 16) (ho : o < 0x10000) :
    regAt (0x7F0000600000 + n * 0x10000 + o) = regTable_mc.find? (RegDesc.atOff 0x7F0000600000 o) :=
  regAt_block (by decide +kernel) hn ho (by
    unfold regTableAt
    repeat (first | rw [if_neg (by omega)] | rw [if_pos (by omega)]))

theorem regAt_SREG {n i : Nat} (hn : n < 64) (hi : i < 64) :
    regAt (R.SREG n i) = some ⟨0x7f0001000000, 64, 0x10000, 64, 0x8, 1, 0x0, 0x0#64, [⟨63, 0, .rw⟩]⟩ := by
  rw [show R.SREG n i = 0x7F0001000000 + n * 0x10000 + i * 8 from rfl, regAt_core hn (by omega)]
  exact (by decide +kernel : ∀ i : Fin 64, regTable_core.find? (RegDesc.atOff 0x7F0001000000 (i * 8)) = _) ⟨i, hi⟩

theorem regAt_DREG {n d w : Nat} (hn : n < 64) (hd : d < 32) (hw : w < 4) :
    regAt (R.DREG n d w) = some ⟨0x7f0001000400, 64, 0x10000, 32, 0x20, 4, 0x8, 0x0#64, [⟨63, 0, .rw⟩]⟩ := by
  rw [show R.DREG n d w = 0x7F0001000000 + n * 0x10000 + (0x400 + d * 0x20 + w * 8) by unfold R.DREG; omega,
    regAt_core hn (by omega)]
  exact (by decide +kernel : ∀ (d : Fin 32) (w : Fin 4),
    regTable_core.find? (RegDesc.atOff 0x7F0001000000 (0x400 + d * 0x20 + w * 8)) = _) ⟨d, hd⟩ ⟨w, hw⟩

theorem regAt_PRED {n : Nat} (hn : n < 64) :
    regAt (R.PRED n) = some ⟨0x7f0001000200, 64, 0x10000, 1, 0x0, 1, 0x0, 0x1#64, [⟨15, 1, .rw⟩, ⟨0, 0, .ro⟩]⟩ := by
  rw [show R.PRED n = 0x7F0001000000 + n * 0x10000 + 0x200 by unfold R.PRED; omega, regAt_core hn (by omega)]
  decide +kernel

theorem regAt_KREG {n i : Nat} (hn : n < 64) (hi : i < 4) :
    regAt (R.KREG n i) = some ⟨0x7f0001000210, 64, 0x10000, 4, 0x8, 1, 0x0, 0x0#64, [⟨61, 48, .rw⟩, ⟨45, 32, .rw⟩, ⟨31, 0, .rw⟩]⟩ := by
  rw [show R.KREG n i = 0x7F0001000000 + n * 0x10000 + (0x210 + i * 8) by unfold R.KREG; omega, regAt_core hn (by omega)]
  exact (by decide +kernel : ∀ i : Fin 4, regTable_core.find? (RegDesc.atOff 0x7F0001000000 (0x210 + i * 8)) = _) ⟨i, hi⟩

/-- A register of a core's block found by its offset. -/
theorem regAt_coreOff {n : Nat} (hn : n < 64) (o : Nat) (ho : o < 0x10000) (d : RegDesc)
    (h : regTable_core.find? (RegDesc.atOff 0x7F0001000000 o) = some d) :
    regAt (0x7F0001000000 + n * 0x10000 + o) = some d := (regAt_core hn ho).trans h

theorem regAt_WINDOW {n i : Nat} (hi : Bool) (hn : n < 64) (h : i < 256) :
    (regAt (if hi then R.WINDOW_HI n i else R.WINDOW_LO n i)).map (·.fields) = some [⟨63, 0, .rw⟩] := by
  cases hi
  · rw [show (if false = true then R.WINDOW_HI n i else R.WINDOW_LO n i) = 0x7F0001000000 + n * 0x10000 + (0x2000 + i * 0x10) by
      simp only [Bool.false_eq_true, if_false, R.WINDOW_LO]; omega, regAt_core hn (by omega)]
    exact (by decide +kernel : ∀ i : Fin 256,
      (regTable_core.find? (RegDesc.atOff 0x7F0001000000 (0x2000 + i * 0x10))).map (·.fields) = _) ⟨i, h⟩
  · rw [show (if true = true then R.WINDOW_HI n i else R.WINDOW_LO n i) = 0x7F0001000000 + n * 0x10000 + (0x2008 + i * 0x10) by
      simp only [if_true, R.WINDOW_HI]; omega, regAt_core hn (by omega)]
    exact (by decide +kernel : ∀ i : Fin 256,
      (regTable_core.find? (RegDesc.atOff 0x7F0001000000 (0x2008 + i * 0x10))).map (·.fields) = _) ⟨i, h⟩

theorem regAt_MREG {n i w : Nat} (hn : n < 64) (hi : i < 8) (hw : w < 4) (h0 : i ≠ 0) :
    (regAt (R.MREG n i w)).map (·.fields) = some [⟨63, 0, .rw⟩] := by
  rw [show R.MREG n i w = 0x7F0001000000 + n * 0x10000 + (0x4440 + i * 0x20 + w * 8) by unfold R.MREG; omega,
    regAt_core hn (by omega)]
  exact (by decide +kernel : ∀ (i : Fin 8) (w : Fin 4), i.val ≠ 0 →
    (regTable_core.find? (RegDesc.atOff 0x7F0001000000 (0x4440 + i * 0x20 + w * 8))).map (·.fields) = _) ⟨i, hi⟩ ⟨w, hw⟩ h0

/-- A write by type of a register that is one RW field of 64 bits, whole. -/
theorem State.writeByType_rw64 (s : State) (a : Nat) (v : Word) (h : (regAt a).map (·.fields) = some [⟨63, 0, .rw⟩]) :
    s.writeByType a .w64 v = s.setReg a v := by
  unfold State.writeByType
  cases hr : regAt a with
  | none => simp [hr] at h
  | some d =>
    simp only [hr, Option.map_some, Option.some.injEq] at h
    simp only [RegDesc.write, h, List.foldl, FieldDesc.write, FieldDesc.mask, AccSz.mask, AccSz.place]
    rw [show BitVec.ofNat 64 ((2 ^ (63 + 1 - 0) - 1) <<< 0) = BitVec.allOnes 64 by decide, BitVec.and_allOnes,
      BitVec.not_allOnes, BitVec.and_zero, BitVec.zero_or, BitVec.and_allOnes]

end Sys2Proof.Machine
end

