-- ==== Sys2Proof/Tests/Slice0.lean ====
section
/-! SUPPORT. Tests: ill-formed commands that WellFormed refuses, witnesses that meet the hypotheses of the statements, and
single steps with results taken from the spec's own numbers. -/

namespace Sys2Proof.Tests

set_option Elab.async false

open Sys2Proof Sys2Proof.Machine

/-! ### Small states -/

def flds (l : List (Fld × Nat)) (s : State) : State := l.foldl (fun s p => s.setFld p.1 p.2) s
def regs (l : List (Nat × Nat)) (s : State) : State := l.foldl (fun s p => s.setReg p.1 (BitVec.ofNat 64 p.2)) s
def upd (f : Core → Core) (s : State) : State := s.setCore 3 (f (s.core 3))
def bytes (a : Nat) (bs : List Byte) (s : State) : State := s.writeBytes (.flat a) bs

/-- A bit field of a syllable or of a control word. -/
def ff (v hi lo : Nat) : Nat := v % 2 ^ (hi + 1 - lo) * 2 ^ lo
/-- A syllable of core 3, last of its bundle, with predicate p0. -/
def syl (f : Nat) : Syl := ⟨3, true, 0#4, BitVec.ofNat 22 f⟩
/-- An address in the memory of core 3. -/
def cm (off : Nat) : Nat := coreMemBase + 3 * coreMemSize + off

/-- A core that is ON, enabled and RUNNING. -/
def running (n : Nat) : State → State := flds [(F.SEQ_CTRL_STATE n, 1), (F.SEQ_CTRL_ENABLE n, 1), (F.SEQ_STATUS_RUN n, runRUNNING)]
/-- Core 3 stands before bundle 7 in cycle 100; its registers are named. -/
def run3 (l : List (Nat × Nat)) : State := upd (fun c => { c with issued := 9, nextIssue := 100 })
  { regs (l.map fun p => (R.SREG 3 p.1, p.2)) (running 3 (flds [(F.SEQ_STATUS_PC 3, 7)] State.reset)) with now := 100 }
def run : State := run3 []
/-- The package in reset. -/
def down : State := setMgt State.reset { State.reset.out.mgt with inReset := true }

/-! ### Decidable forms of the premises that are structures -/

def readyB (s : State) (n : Nat) : Bool := s.up && coreIssues s n && (s.core n).latch.isEmpty && (s.core n).held.isNone &&
  (s.core n).dueFaults.isEmpty && !(s.core n).pastEnd && look (fun _ => 0) (s.core n).imemErr (pcOf s n) == 0 &&
  decide ((s.core n).nextIssue ≤ s.now) && s.late.all fun l => decide (s.now < l.due)

theorem ready_of {s : State} {n : Nat} (h : readyB s n = true) : Ready s n := by
  simp [readyB] at h
  obtain ⟨⟨⟨⟨⟨⟨⟨⟨h1, h2⟩, h3⟩, h4⟩, h5⟩, h6⟩, h7⟩, h8⟩, h9⟩ := h
  exact ⟨h1, h2, h3, h4, h5, h6, h7, h8, h9⟩

def cleanB (i : Instr) : Bool := match i with
  | .nop _ _ _ e => e == .clean
  | _ => true

theorem clean_of {i : Instr} (h : cleanB i = true) : ∀ y sl op e, i = .nop y sl op e → e = .clean := by
  rintro y sl op e rfl
  exact eq_of_beq h

def clearB (s : State) (x : SylInfo) : Bool := x.legal && s.pr x.y.n x.y.pred.toNat && (x.check s.now x.y s).isEmpty &&
  !(x.hold s.now x.y s) && (x.tier s.now x.y s).isNone && !(x.wait x.y s) && !x.qsync

theorem clear_of {s : State} {x : SylInfo} (h : clearB s x = true) : Clear s x := by
  simp [clearB] at h
  obtain ⟨⟨⟨⟨⟨⟨h1, h2⟩, h3⟩, h4⟩, h5⟩, h6⟩, h7⟩ := h
  exact ⟨h1, h2, h3, h4, h5, h6, h7⟩

def issuesB (s : State) (i : Instr) : Bool := match sylInfo i with
  | some x => x.y.last && readyB s x.y.n && clearB (s.gathered x.y.n) x && cleanB i
  | none => false

theorem issues_of {s : State} {i : Instr} (h : issuesB s i = true) : ∃ x, Issues i x s := by
  unfold issuesB at h
  split at h
  · simp only [Bool.and_eq_true] at h
    exact ⟨_, ‹_›, h.1.1.1, ready_of h.1.1.2, clear_of h.1.2, clean_of h.2⟩
  · cases h

/-- Every command of the list issues alone in the state. -/
def IssueAll (s : State) (l : List Instr) : Prop := ∀ i ∈ l, ∃ x, Issues i x s

theorem issueAll_of {s : State} {l : List Instr} (h : (l.all fun i => issuesB s i) = true) : IssueAll s l :=
  fun i hi => issues_of (List.all_eq_true.mp h i hi)

def straightB (s : State) (n : Nat) : Bool := kdepth s n == 0 && (s.core n).branch.isNone &&
  decide (s.fld (F.CFS_FETCH_WCOUNT n) < 4095) && decide (pcOf s n + 1 < 16384)

theorem straight_of {s : State} {n : Nat} (h : straightB s n = true) : Straight s n := by
  simp [straightB] at h
  obtain ⟨⟨⟨h1, h2⟩, h3⟩, h4⟩ := h
  exact ⟨h1, h2, h3, h4⟩

def dueB (s : State) (n : Nat) : Bool := match s.late with
  | [] => false
  | l :: rest => s.up && l.n == n && decide (s.now ≤ l.due) && rest.all fun l' => decide (l.due < l'.due)

theorem due_of {s : State} {n : Nat} (h : dueB s n = true) : ∃ l rest, DueNext s n l rest := by
  unfold dueB at h
  split at h
  · cases h
  · simp at h
    obtain ⟨⟨⟨h1, h2⟩, h3⟩, h4⟩ := h
    exact ⟨_, _, h1, ‹_›, h2, h3, h4⟩

/-- One operation in flight at core 3, due in cycle 101, and one due later. -/
def due (op : LateOp) (s : State) : State := { s with late := [⟨3, 33, 101, 0, op⟩, ⟨3, 37, 150, 0, .sreg 2 5#64⟩] }

/-! ### Ill-formed commands -/

def ipBig : Nat := 2 ^ 128
def sparse : Arr := .link 0 0 0#16 0#16 0#8 0#16 0#48 (List.replicate 16385 0#8)

theorem test_ill_formed : [Instr.registerWrite (2 ^ 48) 8 0#64, .registerWrite 0 0 0#64, .rcRead (2 ^ 48) 8, .rcRead 0 0,
    .nop (syl 0) .s 0x10#6 .clean, .claimArrival none [sparse], .accWindowRead 0 0xC00000 4, .accWindowWrite 0 0xBFFFFD 4 0#64,
    .mcReadComplete 0 (.corrected 0), .scrubRead 0 (.uncorr 0), .spareCopyDone 0 [2, 1], .retireCopyDone 0 [1, 1],
    .flashMapLoadDone 0#64 (List.replicate 129 0#64), .update 0 [3, 2], .fstat 0 [1, 1], .gacc 0 [2, 2, 3],
    .attConfigWrite 0 0x09 .w64 0#64, .flitReceive 0 (List.replicate 255 0#8), .put sparse,
    .radd (.link 0 0 0#16 0#16 0#8 0#48 0 (List.replicate 21 0#96) true),
    .radd (.link 0 0 0#16 0#16 0#8 0#48 8192 [0#96] true), .completionReceive 0#16 0#8 0#64 (List.replicate 16385 0#8),
    .ethFrameReceive 0 (.solicit ipBig 0), .ethFrameReceive 0 (.echo 0 ipBig []), .ethFrameReceive 0 (.udp 0 0 (2 ^ 16) 0 true []),
    .ingestData 0 ipBig 0 [], .ingestData 0 0 (2 ^ 16) [], .ingConfigWrite 0 0x28 .w64 0#64, .cxlHostRead 1 .clean,
    .cxlHostRead 0 (.corrected 0), .cxlHostWrite 63 0#512 0#64 false, .clearPoison 32 0#512, .setTimestamp (2 ^ 64),
    .challenge (List.replicate 4097 0#8), .getMeasurements (List.replicate 4097 0#8), .unlock (List.replicate 4097 0#8),
    .sramAccess 0 0#23 3 none .clean, .sramAccess 0 4#23 8 none .clean, .arbRequest 0 0 false, .arbStart 11 0,
    .selfTestDone (some (16, 0)), .selfTestDone (some (0, 2 ^ 32))].all (fun i => !i.wf) = true := by decide +kernel

theorem test_ill_formed_length : Instr.wf (.ingestData 0 0 0 (List.replicate 65536 0#8)) = false ∧
    Instr.wf (.ethFrameReceive 0 (.udp 0 0 0 0 true (List.replicate 65528 0#8))) = false := by
  constructor
  · show (ipv6 0 && udpPort 0 && decide ((List.replicate 65536 0#8).length ≤ 65535)) = false
    rw [List.length_replicate]
    decide
  · show (ipv6 0 && ipv6 0 && udpPort 0 && udpPort 0 && decide ((List.replicate 65528 0#8).length ≤ 65527)) = false
    rw [List.length_replicate]
    decide

theorem test_well_formed : [Instr.registerWrite (2 ^ 48 - 8) 8 0#64, .nop (syl 0) .s 0#6 .clean, .accWindowRead 0 0xBFFFFC 4,
    .spareCopyDone 0 [1, 2], .flitReceive 0 (List.replicate 256 0#8), .sramAccess 0 8#23 8 none .clean, .arbStart 10 0,
    .selfTestDone (some (15, 5))].all Instr.wf = true := by decide +kernel

theorem test_reset_wf : State.reset.wf = true := by decide

/-! ### Witnesses: the block, control registers, engines -/

theorem witness_QueueAndClock : ∃ t, step { State.reset with pending := [.gettid] } = .next t := ⟨_, rfl⟩

theorem witness_EveryCommandIsAnswered : down.up = false ∧ actsInReset (.sAdd (syl 0)) = false := by decide +kernel

theorem witness_StepKeepsCanonicalForm : run.wf = true ∧ ∃ t, step run = .next t := ⟨by decide +kernel, _, rfl⟩

theorem witness_RegisterAccess : State.reset.up = true ∧ ¬ (8 = 8 ∧ 4 % 8 = 0) ∧ ¬ (8 = 4 ∧ 4 % 4 = 0) ∧
    R.BUNDLE_COUNT (0 : Fin 64) ∈ [R.BUNDLE_COUNT (0 : Fin 64), R.STALL_TOTAL (0 : Fin 64)] ∧
    (⟨R.BUNDLE_COUNT 63, 63, 0⟩ : Fld).hi < 64 ∧ (⟨R.BUNDLE_COUNT 63, 63, 0⟩ : Fld).lo ≤ 63 := by decide +kernel

/-- Four fields of ACC_REMOTE's shape: RO, RW, W1C, W1S and RC bits side by side. -/
def desc : RegDesc := ⟨0, 1, 0, 1, 0, 1, 0, 0#64, [⟨63, 32, .rw⟩, ⟨31, 31, .w1c⟩, ⟨30, 1, .w1s⟩, ⟨0, 0, .ro⟩]⟩

theorem witness_WriteOfEachAccessType : (∀ f ∈ desc.fields, f.lo ≤ f.hi ∧ f.hi < 64) ∧
    desc.fields.Pairwise (fun f g => f.hi < g.lo ∨ g.hi < f.lo) ∧ (⟨63, 32, .rw⟩ : FieldDesc) ∈ desc.fields ∧
    AccSz.hi.mask.getLsbD 63 = true := by decide +kernel

/-- Core 3 is IDLE with HALF at 8, at 9 with the low half held. -/
def imem8 : State := flds [(F.IMEM_PTR_HALF 3, 8)] State.reset
def imem9 : State := upd (fun c => { c with imemHeld := some (4, 7#64) }) (flds [(F.IMEM_PTR_HALF 3, 9)] State.reset)

theorem witness_RegisterAndInstructionWindows : State.reset.up = true ∧ coreIdle State.reset 3 = true ∧ run.up = true ∧
    coreIdle run 3 = false ∧ imem8.fld (F.IMEM_PTR_HALF 3) % 2 = 0 ∧ coreIdle imem8 3 = true ∧ imem9.up = true ∧
    coreIdle imem9 3 = true ∧ imem9.fld (F.IMEM_PTR_HALF 3) % 2 = 1 ∧
    (imem9.core 3).imemHeld = some (imem9.fld (F.IMEM_PTR_HALF 3) / 2, 7#64) := by decide +kernel

theorem witness_VectorWindows : State.reset.up = true ∧ vecIdle State.reset 3 = true ∧ vecIdle run 3 = false := by decide +kernel

def lichen : State := regs [(R.LICHEN_COL 3 1, 0x8100)] State.reset

theorem witness_CoreConfigurationRegisters : lichen.up = true ∧ coreState lichen 3 = 0 ∧ coreState run 3 ≠ 0 ∧
    getBits 0x8100#64 8 0 ≤ 256 ∧ 256 < getBits 0x8101#64 8 0 ∧
    (getBits 0x8100#64 15 15 = 1 ∧ getBits (lichen.reg (R.LICHEN_COL 3 1)) 15 15 = 1 ∧
      getBits (lichen.reg (R.LICHEN_COL 3 1)) 8 0 = getBits 0x8100#64 8 0) ∧
    ¬ (getBits 0x80FF#64 15 15 = 1 ∧ getBits (lichen.reg (R.LICHEN_COL 3 1)) 15 15 = 1 ∧
      getBits (lichen.reg (R.LICHEN_COL 3 1)) 8 0 = getBits 0x80FF#64 8 0) := by decide +kernel

/-- Flash was enabled in the last cycle. -/
def enabling : State := { flds [(F.FL_CTRL_ENABLE, 1)] State.reset with late := [⟨64, 0, 1, 0, .engineOn (engineCtl .flash)⟩] }

theorem witness_EnginesTurnOn : (∀ p, Engine.flash ≠ .port p) ∧ State.reset.up = true ∧ State.reset.st.run = none ∧
    State.reset.engState (engineCtl .flash) = 0 ∧ State.reset.enabled (engineCtl .flash) = false ∧
    run.engState (engineCtl (.core 3)) ≠ 0 ∧ run.enabled (engineCtl (.core 3)) = true ∧ enabling.pending = [] ∧
    enabling.engState (engineCtl .flash) = 0 ∧ enabling.enabled (engineCtl .flash) = true ∧
    enabling.late = [⟨64, 0, enabling.now + 1, 0, .engineOn (engineCtl .flash)⟩] := ⟨nofun, by decide +kernel⟩

def attOn : State := flds [(F.ATT_CTRL_STATE 2, 1), (F.ATT_CTRL_ENABLE 2, 1)] State.reset

theorem witness_EnginesClose : attOn.up = true ∧ attState attOn 2 = 1 ∧ attOn.fld (F.ATT_CTRL_ENABLE 2) = 1 ∧ coreState run 3 = 1 ∧
    run.fld (F.SEQ_CTRL_ENABLE 3) = 1 ∧ ¬ (coreState run 4 = 1 ∧ run.fld (F.SEQ_CTRL_ENABLE 4) = 1) := by decide +kernel

def closing3 : State := flds [(F.SEQ_CTRL_STATE 3, 2)] State.reset

theorem witness_CloseDoneTurnsAnEngineOff : closing3.up = true ∧ coreState closing3 3 = 2 ∧ (∀ l ∈ closing3.late, l.n ≠ 3) ∧
    (closing3.core 3).fq = [] ∧ (closing3.core 3).placed = [] := by decide +kernel

/-- Core 3 is ON and IDLE; then with a valid fault record. -/
def idle3 : State := flds [(F.SEQ_CTRL_STATE 3, 1)] State.reset
def faulted3 : State := flds [(F.FAULT_REC_VALID 3, 1)] idle3

theorem witness_SequencerStart : getBits 1#64 0 0 = 1 ∧ idle3.up = true ∧ coreState idle3 3 = 1 ∧ coreIdle idle3 3 = true ∧
    idle3.fld (F.FAULT_REC_VALID 3) = 0 ∧ faulted3.up = true ∧ faulted3.fld (F.FAULT_REC_VALID 3) = 1 ∧
    coreState State.reset 3 ≠ 1 ∧ coreIdle run 3 = false := by decide +kernel

/-! ### Witnesses: bundles of core 3 -/

def early : Syl := { syl 0 with last := false }

theorem witness_SyllableJoinsItsBundle : ∃ x, sylInfo (.sAdd early) = some x ∧ x.y.last = false ∧ run.up = true ∧
    coreIssues run x.y.n = true ∧ coreIssues State.reset x.y.n = false := ⟨_, rfl, by decide +kernel⟩

/-- Every form of the S slot that gives a scalar or a predicate, with the operation codes and registers 1, 2 and 3. -/
def each (f : Nat) (l : List (Syl → Instr)) : List Instr := l.map fun c => c (syl f)
def results : List Instr := each (ff 1 21 16) [.sAdd, .sSub, .sAnd, .sOr, .sXor, .sShl, .sShr, .sSra, .sMin, .sMax, .sMinu, .sMaxu, .sMul, .sMulhu, .sSel,
  .sAddi, .sAndi, .sShli, .sShri, .sSrai, .sLi, .sLih16, .sLih32, .sLih48, .sRdp]
def predicates : List Instr := each (ff 1 17 14) [.sCmp, .sCmpi, .sPlog] ++ [.sWrp (syl 63)]

theorem witness_ScalarAndPredicateResults : IssueAll run results ∧ IssueAll run predicates ∧ Straight run (3 : Fin 64) ∧
    (∀ i ∈ results, (scalarResult i run).isSome) ∧ (∀ i ∈ predicates, (predicateResult i run).isSome) :=
  ⟨issueAll_of (by decide +kernel), issueAll_of (by decide +kernel), straight_of (by decide +kernel), by decide +kernel,
    by decide +kernel⟩

/-- Predicate p1 is 0. -/
def off : Syl := { syl 0 with pred := 1#4 }

theorem witness_SyllableIssues : (∃ x, Issues (.sAdd (syl 0)) x run) ∧ (∃ x, sylInfo (.sAdd off) = some x ∧ x.y.last = true ∧
      Ready run x.y.n ∧ x.legal = true ∧ run.pr x.y.n x.y.pred.toNat = false) ∧
    (∀ y sl op e, Instr.sAdd off = .nop y sl op e → e = .clean) :=
  ⟨issues_of (by decide +kernel), ⟨_, rfl, by decide +kernel, ready_of (by decide +kernel), by decide +kernel⟩, nofun⟩

/-- Scalar register 60 holds an address of the core's own memory. -/
def ownMem : State := run3 [(60, cm 0x100)]
def loads : List Instr := [.sLd (syl (ff 1 21 16 + ff 60 15 10)), .sSt (syl (ff 1 21 16 + ff 60 15 10))]

theorem witness_ScalarMemory : IssueAll ownMem loads ∧ Straight ownMem (3 : Fin 64) ∧
    inOwnBlock 3 (sMemAddr (syl (ff 1 21 16 + ff 60 15 10)) ownMem) = false :=
  ⟨issueAll_of (by decide +kernel), straight_of (by decide +kernel), by decide +kernel⟩

theorem witness_Branches : IssueAll run [.sBr (syl 0x3FFF), .sBrr (syl 0), .sBrl (syl (ff 5 19 14))] ∧ Straight run (3 : Fin 64) :=
  ⟨issueAll_of (by decide +kernel), straight_of (by decide +kernel)⟩

/-- The last delay slot of a branch; the END of a loop with COUNT 2 and with COUNT 1. -/
def slot1 : State := upd (fun c => { c with branch := some (1, 16383) }) run
def loopEnd (count : Nat) : State := flds [(F.SEQ_STATUS_KDEPTH 3, 1), (F.KREG_END 3 0, 7), (F.KREG_START 3 0, 2), (F.KREG_COUNT 3 0, count)] run
def nop0 : Instr := .nop (syl 0) .s 0#6 .clean

theorem witness_DelaySlotsAndLoopEnds : (∃ x, Issues nop0 x slot1) ∧ (∃ x, Issues nop0 x (loopEnd 2)) ∧ (∃ x, Issues nop0 x (loopEnd 1)) ∧
    slot1.fld (F.CFS_FETCH_WCOUNT 3) < 4095 ∧ pcOf slot1 3 + 1 < 16384 ∧ kdepth slot1 3 = 0 ∧ (slot1.core 3).branch = some (1, 16383) ∧
    ((loopEnd 2).core 3).branch = none ∧ kdepth (loopEnd 2) 3 = 0 + 1 ∧ (loopEnd 2).fld (F.KREG_END 3 0) = pcOf (loopEnd 2) 3 ∧
    2 ≤ (loopEnd 2).fld (F.KREG_COUNT 3 0) ∧ kdepth (loopEnd 1) 3 = 1 ∧ (loopEnd 1).fld (F.KREG_COUNT 3 0) = 1 ∧
    (loopEnd 1).fld (F.KREG_END 3 0) = pcOf (loopEnd 1) 3 :=
  ⟨issues_of (by decide +kernel), issues_of (by decide +kernel), issues_of (by decide +kernel), by decide +kernel⟩

/-- S.LOOP of the register form, END 20, with the count in register 5. -/
def loopSyl : Syl := syl (ff 5 19 14 + 20)

theorem witness_LoopBreakHalt : IssueAll run [.sLoop loopSyl, .sHalt (syl 0)] ∧ IssueAll (run3 [(5, 4)]) [.sLoop loopSyl] ∧
    IssueAll (loopEnd 2) [.sBrk (syl 9)] ∧ Straight run (3 : Fin 64) ∧ Straight (run3 [(5, 4)]) (3 : Fin 64) ∧ sLoopCount loopSyl run = 0 ∧
    fb loopSyl 13 0 + 1 < 16384 ∧ sLoopCount loopSyl (run3 [(5, 4)]) ≠ 0 ∧ ((loopEnd 2).core 3).branch = none ∧ kdepth (loopEnd 2) 3 = 1 :=
  ⟨issueAll_of (by decide +kernel), issueAll_of (by decide +kernel), issueAll_of (by decide +kernel), straight_of (by decide +kernel),
    straight_of (by decide +kernel), by decide +kernel⟩

theorem witness_IllegalAndSuppressedSyllables : (∃ x, sylInfo (.nop (syl 0) .s 0x3F#6 .clean) = some x ∧ x.y.last = true ∧ Ready run x.y.n ∧
      x.legal = false ∧ run.fld (F.FAULT_REC_VALID x.y.n) = 0) ∧ Straight run (3 : Fin 64) ∧
    (∃ x, sylInfo (.sAdd off) = some x ∧ x.y.last = true ∧ Ready run x.y.n ∧ x.legal = true ∧ run.pr x.y.n x.y.pred.toNat = false) ∧
    (∃ x, sylInfo nop0 = some x ∧ x.y.last = true ∧ Ready run x.y.n ∧ x.legal = true) :=
  ⟨⟨_, rfl, by decide +kernel, ready_of (by decide +kernel), by decide +kernel⟩, straight_of (by decide +kernel),
    ⟨_, rfl, by decide +kernel, ready_of (by decide +kernel), by decide +kernel⟩,
    ⟨_, rfl, by decide +kernel, ready_of (by decide +kernel), by decide +kernel⟩⟩

/-- M.WAIT for COMP counter 1 to reach scalar register 5; a drain while every slot drains; a bundle held on the wait. -/
def waitSyl : Syl := syl (2 ^ 21 + ff 1 20 17 + 5)
def waits : State := run3 [(5, 1)]
def drains : State := upd (fun c => { c with slotOps := (List.range 18).map fun k => ⟨k, true, 0, 90, 500⟩ }) run
def held (b : Instr) (limit waited : Nat) (s : State) : State :=
  upd (fun c => { c with held := some ⟨[b], 90, 100, ⟨false, false, true⟩, waited, 0, none⟩ })
    (flds [(F.WAIT_LIMIT_LIMIT 3, limit), (F.SEQ_STATUS_RUN 3, runSTALLED)] s)

/-- A lone syllable that could issue but for a hold or a wait. -/
def Waits (s : State) (i : Instr) (hold wait : Bool) : Prop := ∃ x, sylInfo i = some x ∧ x.y.last = true ∧ Ready s x.y.n ∧
  x.legal = true ∧ s.pr x.y.n x.y.pred.toNat = true ∧ x.tier s.now x.y (s.gathered x.y.n) = none ∧ x.qsync = false ∧
  x.hold s.now x.y (s.gathered x.y.n) = hold ∧ x.wait x.y (s.gathered x.y.n) = wait

theorem witness_Stalls : Waits waits (.mWait waitSyl) false true ∧ Waits drains (.aMm (syl 0)) true false ∧
    (run.core 3).held = none ∧ (held nop0 0 5 run).fld (F.WAIT_LIMIT_LIMIT 3) = 0 ∧ (∀ l ∈ run.late, run.now < l.due) ∧
    (bundleStalls (held nop0 1 5 run) 3 100 [nop0]).any = false ∧ (held (.mWait waitSyl) 5 5 waits).up = true ∧
    (bundleStalls (held (.mWait waitSyl) 5 5 waits) 3 100 [.mWait waitSyl]).wait = true ∧
    (held (.mWait waitSyl) 5 5 waits).fld (F.WAIT_LIMIT_LIMIT 3) = 5 ∧ ((held (.mWait waitSyl) 5 5 waits).core 3).dueFaults = [] ∧
    (held (.mWait waitSyl) 5 5 waits).fld (F.FAULT_REC_VALID 3) = 0 ∧ (held (.mWait waitSyl) 5 5 waits).now = 100 :=
  ⟨⟨_, rfl, by decide +kernel, ready_of (by decide +kernel), by decide +kernel, by decide +kernel, rfl, by decide +kernel⟩,
    ⟨_, rfl, by decide +kernel, ready_of (by decide +kernel), by decide +kernel, by decide +kernel, rfl, by decide +kernel⟩,
    by decide +kernel⟩

/-! ### Witnesses: what is in flight at core 3 -/

def dues (l : List LateOp) (s : State) : Prop := ∀ op ∈ l, ∃ a rest, DueNext (due op s) 3 a rest ∧ a.op = op
theorem dues_of {l : List LateOp} {s : State} (h : s.up = true ∧ s.now ≤ 101) : dues l s :=
  fun op _ => ⟨_, _, ⟨h.1, rfl, rfl, h.2, by simp⟩, rfl⟩

theorem witness_ResultsLand : dues [.sreg 63 7#64, .pred 0 false, .pred 15 true, .preds 0xFFFF, .mregs 0 5#256, .mregs 7 5#256,
    .compInc 15 1] run := dues_of (by decide +kernel)

def tile256 (ls : List (List Byte)) : LateOp := .wldLine 101 256 0 1 1 false false 0 ls []

theorem witness_StoresTilesAndWeightsLand : dues [.mem (.core 3 (coreMemSize - 1)) [1#8, 2#8], .mem (.flat (stackBase - 2)) [1#8, 2#8],
      .mem (.flat stackEnd) [1#8], .vwrite 31 [(8191, 5#32)] 0xFF] run ∧ (stackBase - 2) + 2 ≤ stackBase ∧
    (∃ l rest, DueNext { run with late := [⟨3, 33, 357, 1, tile256 [[1#8]]⟩] } 3 l rest ∧ l.due = 101 + 256 ∧ l.op = tile256 [[1#8]]) :=
  ⟨dues_of (by decide +kernel), by decide, ⟨_, _, ⟨by decide +kernel, rfl, rfl, by decide +kernel, by simp⟩, rfl, rfl⟩⟩

theorem witness_DrainVerdict : dues [.drainDone 4 77 8 [] 5, .drainDone 4 77 8 [(7, 511), (0, 3)] 5] run ∧
    (∀ l ∈ (due (.drainDone 4 77 8 [] 5) run).late.tail, 101 + 1 < l.due) ∧ run.fld (F.CHK_LAST_VALID 3) = 0 ∧
    (flds [(F.CHK_LAST_VALID 3, 1)] run).fld (F.CHK_LAST_VALID 3) = 1 := ⟨dues_of (by decide +kernel), by decide +kernel⟩

def done3 : State := flds [(F.SEQ_STATUS_RUN 3, runDONE)] run

theorem witness_DeferredFaultsAndSignatures : dues [.deferred ⟨0x15, 2, some 5, 77, 9⟩, .cfsCompare 5 36] run ∧
    dues [.deferred ⟨0xFF, 2, some 5, 77, 9⟩] done3 ∧ coreIssues run 3 = true ∧ (run.core 3).held = none ∧ coreIssues done3 3 = false ∧
    coreState done3 3 = 1 ∧ coreRun done3 3 ≠ runSTALLED ∧ coreRun done3 3 = runDONE ∧ done3.fld (F.FAULT_REC_VALID 3) = 0 ∧
    (flds [(F.FAULT_REC_VALID 3, 1)] done3).fld (F.FAULT_REC_VALID 3) = 1 :=
  ⟨dues_of (by decide +kernel), dues_of (by decide +kernel), by decide +kernel⟩

def mm (nt : Nat) : MMDesc := ⟨50, 7, 17, true, 4, 4, 1, 0, 0, false, 0, 0, 0, 0, 0, 0x100, 512, 0, ⟨0, 3, nt, false, [], [], [], []⟩⟩

theorem witness_OutputRowWritten : dues [.mmRow (mm 256) 255 [] 0 0#96, .mmRow (mm 0) 0 [] 0 1#96] run ∧ (mm 256).slot < 18 ∧
    (mm 256).tile.nt ≤ 256 ∧ (run.core 3).accErr = [] := ⟨dues_of (by decide +kernel), by decide +kernel⟩

theorem witness_StreamsAdditionsAndSuppressionEnd : dues [.bcastClose 0 5, .raddDone 15] run ∧
    (∀ l ∈ run.late, (run.core 3).nmsDone < l.due) ∧ (upd (fun c => { c with nmsDone := 100 }) run).now ≤
      ((upd (fun c => { c with nmsDone := 100 }) run).core 3).nmsDone := ⟨dues_of (by decide +kernel), by decide +kernel⟩

/-! ### Witnesses: the M, A and V slots -/

/-- Node bits of a global address of this device. -/
def here : Nat := 0xFFFF * 2 ^ 48
/-- A stream descriptor (Table 9.7): one dimension of count tiles, stride apart. -/
def descr (base node count stride fmt tier depth : Nat) : BitVec 256 := BitVec.ofNat 256 (base + node * 2 ^ 48 + count * 2 ^ 64 +
  2 ^ 80 + 2 ^ 96 + 2 ^ 112 + stride * 2 ^ 128 + fmt * 2 ^ 240 + tier * 2 ^ 244 + depth * 2 ^ 246)
def dregs (d : Nat) (v : BitVec 256) : List (Nat × Nat) := (List.range 4).map fun k => (R.DREG 3 d k, (v.extractLsb' (64 * k) 64).toNat)
/-- Streams in LPDDR 6, in stack memory, in flash and at node 0x42. -/
def dL : BitVec 256 := descr 0x100000 0xFFFF 64 64 0 1 1
def dS : BitVec 256 := descr (stackBase + 0x10000) 0xFFFF 64 64 0 0 0
def dF : BitVec 256 := descr flashBase 0xFFFF 64 64 0 2 1
def dN : BitVec 256 := descr 0x100000 0x42 64 64 0 3 1
/-- A moss stream in LPDDR 6. -/
def dM : BitVec 256 := descr 0x100000 0xFFFF 4 0x800 8 1 1

/-- Core 3 with a window over LPDDR 6, two descriptors, and addresses in its registers. -/
def mst : State := regs (dregs 1 dL ++ dregs 0 dS ++ [(R.WINDOW_LO 3 0, 2 ^ 37 - 2 ^ 32), (R.WINDOW_HI 3 0, here + 2 ^ 27 - 1)])
  (run3 [(60, cm 0x100), (59, here + 0x100000), (58, here + stackBase + 0x20000), (57, here + stackBase + 0x40000), (55, here + R.COMP 5 1),
    (54, here + accWinBase + 0x8000), (56, here + R.CLAIM_STATE 63)])
def opened (d : Nat) (out : Bool) (v : BitVec 256) (s : State) : State :=
  upd (fun c => c.setStream d (newStream out 6 v (stackBase + 0x40000) 9)) s
def slot (d i : Nat) (f : StgSlot → StgSlot) (s : State) : State := upd (fun c => match c.stream d with
  | some t => c.setStream d (t.setSlot i (f (t.slots.getD i StgSlot.reset)))
  | none => c) s
def inS : State := slot 1 0 (fun x => { x with st := .ready, hdrIn := true }) (opened 1 false dL mst)
def outS : State := opened 1 true dL (opened 0 true dS mst)
/-- A tile of 4 KiB and scalar register 60. -/
def mv : Nat := ff 3 21 19 + ff 60 17 12

theorem witness_MovesAndStreams : IssueAll mst [.mLd (syl (mv + ff 58 11 6)), .mSt (syl (mv + ff 58 11 6)),
      .mSopen (syl (ff 1 21 21 + ff 5 20 17 + ff 57 16 11 + 1)), .mClaim (syl (ff 7 17 12 + 3)), .mWait (syl (ff 4 20 17))] ∧
    IssueAll inS [.mSclose (syl 1), .mLds (syl (mv + 1)), .mWait (syl (ff 6 20 17))] ∧
    IssueAll outS [.mSts (syl mv), .mSts (syl (mv + 1))] ∧ Straight mst (3 : Fin 64) ∧ Straight inS (3 : Fin 64) ∧
    Straight outS (3 : Fin 64) ∧ ((inS.core 3).stream 1).isSome ∧ ((outS.core 3).stream 0).isSome ∧ ((outS.core 3).stream 1).isSome ∧
    dTier dS = 0 ∧ dTier dL ≠ 0 :=
  ⟨issueAll_of (by decide +kernel), issueAll_of (by decide +kernel), issueAll_of (by decide +kernel), straight_of (by decide +kernel),
    straight_of (by decide +kernel), straight_of (by decide +kernel), by decide +kernel⟩

theorem witness_FabricOperationsQueue : IssueAll mst [.mPut (syl (mv + ff 59 11 6 + ff 3 5 2 + 2)), .mGet (syl (mv + ff 59 11 6 + ff 3 5 2 + 2)),
      .mRadd (syl (ff 5 21 19 + ff 60 17 12 + ff 54 11 6 + ff 15 5 2)), .mFadd (syl (ff 2 5 2 + ff 59 11 6 + ff 60 17 12)),
      .mMsg (syl (ff 2 5 2 + ff 55 11 6)), .mFence (syl (ff 2 5 2)), .mClaimr (syl (ff 2 5 2 + ff 56 11 6))] ∧ Straight mst (3 : Fin 64) :=
  ⟨issueAll_of (by decide +kernel), straight_of (by decide +kernel)⟩

/-- The lone M.QSYNC of core m, and core m held on it. -/
def qsyl (m : Nat) : Syl := { syl 0 with n := Fin.ofNat 64 m }
def qheld (m : Nat) : Held := ⟨[.mQsync (qsyl m)], 90, 100, ⟨false, false, true⟩, 0, 0, none⟩
def atBarrier (m : Nat) (s : State) : State := let t := running m s
  t.setCore m { t.core m with held := some (qheld m) }
def quartet : State := atBarrier 0 (atBarrier 1 (atBarrier 2 run))

theorem witness_QuartetBarrier : Ready (running 0 run) (3 : Fin 64) ∧ quartetReady ((running 0 run).gathered 3) 3 (running 0 run).now = false ∧
    (syl 0).last = true ∧ mQsyncLegal (syl 0) = true ∧ run.pr 3 0 = true ∧ Ready quartet (3 : Fin 64) ∧ Straight quartet (3 : Fin 64) ∧
    (∀ m, m / 4 = 3 / 4 → m ≠ 3 → AtBarrier quartet m (qheld m) (qsyl m)) := by
  refine ⟨ready_of (by decide +kernel), by decide +kernel, by decide, by decide, by decide +kernel, ready_of (by decide +kernel),
    straight_of (by decide +kernel), fun m hm hne => ?_⟩
  have h : m = 0 ∨ m = 1 ∨ m = 2 := by omega
  rcases h with rfl | rfl | rfl <;>
    exact ⟨by decide +kernel, rfl, rfl, rfl, by decide +kernel, by decide +kernel, rfl, by decide +kernel, by decide +kernel,
      by decide +kernel, straight_of (by decide +kernel)⟩

/-- Registers of an A.WLD (50), an A.MM (51 to 53), an A.SADD (54, 55) and an A.DRAIN (40 to 43) of 4 rows. -/
def wtile : WTile := ⟨0, 16, 16, false, List.replicate 16 (List.replicate 16 0x3f80), [], List.replicate 16 0, List.replicate 16 0⟩
def arr : State := upd (fun c => { c with wtiles := (wtile, wtile), wvalid := (true, true) }) (run3 [(50, 16 + 16 * 2 ^ 16),
  (51, 3 + 2 ^ 8 * 16 + 0x200 * 2 ^ 32), (53, cm 0x4000), (54, 3 + 0xC00 * 2 ^ 32), (55, 4), (40, cm 0x3000), (41, 3 + 15 * 2 ^ 8 + 0x400 * 2 ^ 32),
  (42, cm 0x5000), (43, 5)])
/-- A.DRAIN of slot 7, stochastic, zeroing. -/
def drain7 : Nat := ff 2 16 15 + ff 1 14 14 + ff 2 10 6 + 40
def mms : List Nat := [ff 51 11 6 + 53, ff 1 21 20 + ff 1 18 18 + ff 1 17 13 + ff 51 11 6 + 53, ff 1 19 19 + ff 17 17 13 + ff 51 11 6 + 53]

theorem witness_ArraySyllables : IssueAll arr ([.aWld (syl (ff 50 11 6 + 53)), .aSadd (syl (ff 2 17 13 + ff 54 11 6 + 53)),
      .aDrain (syl drain7), .aDrain (syl (ff 2 10 6 + 40))] ++ mms.map fun f => .aMm (syl f)) ∧ Straight arr (3 : Fin 64) ∧
    (mms.all fun f => (mmSlot (syl f) arr).isSome) ∧ (saSlot (syl (ff 2 17 13 + ff 54 11 6 + 53)) arr).isSome ∧
    (drSlot (syl drain7) arr).isSome ∧ (arr.core 3).accErr = [] ∧ drZero (syl drain7) = true ∧ drZero (syl (ff 2 10 6 + 40)) = false ∧
    drRm (syl drain7) = 2 :=
  ⟨issueAll_of (by decide +kernel), straight_of (by decide +kernel), by decide +kernel⟩

/-- Tile 1 holds two elements; m0 is all ones; the parameter blocks of V.BOXDEC and V.NMS stand in core memory. -/
def params : List Byte := leBytes 8 (cm 0x7000) ++ leBytes 8 (cm 0x8000) ++ leBytes 8 (cm 0xA000) ++ leBytes 4 100 ++ leBytes 4 100 ++
  leBytes 4 0x3f000000 ++ leBytes 4 0x3dcccccd ++ List.replicate 24 0#8
def vec : State := bytes (cm 0x7800) (leBytes 8 (cm 0x8000) ++ List.replicate 56 0#8) (bytes (cm 0x6000) params
  (upd (fun c => { c with vregs := [(8192, 0x3f800000#32), (8447, 0xC1234567#32)] })
    (run3 [(40, cm 0x3000), (41, 0x400 * 2 ^ 32 + 0x3f800000), (42, cm 0x5000), (45, cm 0x6000), (47, cm 0x7800)])))
/-- The element-wise operations: tile 1 to tile 5, and the conversion with stochastic rounding. -/
def e1 : Nat := ff 5 21 19 + ff 1 18 16
def elements : List Instr := each e1 [.vFop, .vFops, .vIop, .vIops, .vFma, .vFmas, .vFun, .vFcmp, .vSel, .vMov, .vSplit, .vCvt] ++
  each (e1 + 0x3F80) [.vFaddi, .vFmuli, .vFmaxi, .vFmini, .vIaddi, .vBci] ++ [.vBcs (syl (ff 5 21 19)), .vCvt (syl (e1 + ff 2 5 4))]
def records : List Instr := [.vLd (syl (ff 6 21 19 + 40)), .vSt (syl (e1 + 40)), .vRed (syl e1), .vStat (syl (ff 1 18 16 + 40)),
  .vSms (syl (ff 1 18 16 + 40)), .vSmn (syl (e1 + 40)), .vNorm (syl (e1 + 40)), .vExt (syl (ff 30 21 16 + ff 2 15 13 + 40)),
  .vBoxdec (syl (ff 3 21 19 + ff 1 18 16 + 47)), .vNms (syl (ff 1 21 19 + ff 1 18 16 + 45))] ++
  [1, 2, 3].map fun op => .vMset (syl (ff 3 21 19 + ff op 18 16))

theorem witness_VectorSyllables : IssueAll vec elements ∧ IssueAll vec records ∧ Straight vec (3 : Fin 64) ∧
    (elements.all fun i => (elementResult i vec).isSome) ∧ (∃ i ∈ elements, ∃ y, i = .vCvt y ∧ fb y 5 4 = 2) :=
  ⟨issueAll_of (by decide +kernel), issueAll_of (by decide +kernel), straight_of (by decide +kernel), by decide +kernel,
    .vCvt (syl (e1 + ff 2 5 4)), by decide +kernel, _, rfl, by decide⟩

theorem witness_AccumulatorEntries : run.up = true ∧ coreState run 3 ≠ 0 ∧ State.reset.up = true ∧ coreState State.reset 3 = 0 ∧
    (8 = 8 ∧ 0xBFFFF8 % 8 = 0) ∧ 0xBFFFF8 + 8 ≤ 0xC00000 ∧ (State.reset.core 3).accErr = [] ∧
    (flds [(F.ACC_CE_COUNT_COUNT 3, 2 ^ 32 - 1)] State.reset).fld (F.ACC_CE_COUNT_COUNT 3) < 2 ^ 32 ∧ 0xBFFFF4 % 4 = 0 ∧
    (winEntry 0xBFFFF4).2.2.2 = 0 ∧ (winEntry 0xBFFFFC).2.2.2 = 8 ∧ 0xBFFFFC + 4 ≤ 0xC00000 ∧
    ((upd (fun c => { c with accHeld := some (0xBFFFFC - 8, [1, 2]) }) State.reset).core 3).accHeld = some (0xBFFFFC - 8, [1, 2]) ∧
    State.reset.fld (F.ACC_REMOTE_OPEN 3) = 0 := by decide +kernel

/-- A GET of core 3, at the head of its queue, whose transaction has ended. -/
def getOp : FqOp := ⟨9, .get, 3, 1, 5, here + stackBase, 0, 0x100, [], 0, 7, 0x30, false, true, 0⟩
def getTx (status : Nat) : TxReq := ⟨77, .core 3 9, 1, 0xFFFF, opGET, 0, 8, stackBase, [], .done status 5 [1#8, 2#8], 5, false⟩
def ended (status : Nat) : State := let s := upd (fun c => { c with fq := [getOp, { getOp with id := 10 }] }) run
  { s with fab := { s.fab with txs := [getTx status] } }
/-- Core 3 has waited for a tile of stream 1 as long as its bound. -/
def lds1 : Instr := .mLds (syl (mv + 1))
def starved : State := upd (fun c => { c with held := some ⟨[lds1], 90, 100, ⟨false, true, false⟩, 0, 0x10000, some (1, 0)⟩ })
  (flds [(F.SEQ_STATUS_RUN 3, runSTALLED)] (slot 1 0 (fun x => { x with st := .requested }) (opened 1 false dL mst)))

theorem witness_OperationsEnd : (∀ st ∈ [csOK, csTIMEOUT], (ended st).up = true ∧ ((ended st).core 3).fq = [getOp, { getOp with id := 10 }] ∧
      (∀ q ∈ [{ getOp with id := 10 }], q.id ≠ 9 ∧ q.kind ≠ .fence) ∧ coreState (ended st) 3 = 1 ∧
      (ended st).fab.txs.find? (fun q => q.owner == .core 3 9) = some (getTx st)) ∧
    starved.up = true ∧ (starved.core 3).held.map (fun h => (h.bundle, h.upto, h.tierWaited)) = some ([lds1], starved.now, 0x10000) ∧
    (∀ l ∈ starved.late, starved.now < l.due) ∧ (bundleStalls starved 3 starved.now [lds1]).wait = false ∧
    ((bundleStalls starved 3 starved.now [lds1]).tier.map fun x => (x.d, x.bound)) = some (1, 0) ∧ ((starved.core 3).stream 1).isSome ∧
    starved.fld (F.TIER_BOUND_BOUND 3 0) = 0x10000 ∧ starved.fld (F.FAULT_REC_VALID 3) = 0 := by decide +kernel

/-- A plan image of one section, a buffer list of one buffer, with its digest; and a load request for it. -/
def planBody : List Byte := leBytes 2 tBUFFERS ++ leBytes 6 0 ++ leBytes 8 320 ++ leBytes 8 32 ++ leBytes 8 0 ++ List.replicate 32 0#8 ++
  leBytes 8 0x200000 ++ leBytes 8 64 ++ List.replicate 48 0#8
def planImage : List Byte := leBytes 8 magicPlan ++ leBytes 2 0x100 ++ leBytes 2 1 ++ leBytes 4 0 ++ leBytes 12 orderText ++
  leBytes 2 steppingText ++ leBytes 2 0 ++ leBytes 8 384 ++ leBytes 8 1 ++ leBytes 2 0xFFFF ++ List.replicate 14 0#8 ++
  leBytes 48 0xd59a358400dbec2f2726dc2374e3e9c85a931a7f5a3377cd1944448d97e5f1c8996720d4baf0af2e89cce6a631189f60 ++ List.replicate 144 0#8 ++ planBody
def request (seq : Nat) (img : List Byte) (s : State) : State := bytes 0x10000 img (bytes reqAddr (leBytes 4 seq ++ leBytes 4 0 ++
  leBytes 8 0x10000 ++ leBytes 8 384) { s with ldr := { s.ldr with latched := true } })
def loading (l : Bool) (s : State) : State := { s with ldr := { s.ldr with req := some ⟨5, 0, 0x10000, 384, 0, 0⟩, loading := l } }
/-- Controller 1, which holds the image, closes. -/
def closedMem : State := flds [(F.MC_CTRL_STATE 1, 2)] (loading false State.reset)

theorem witness_PlanLoader : State.reset.up = true ∧ State.reset.ldr.latched = false ∧ (request 0 [] State.reset).ldr.latched = true ∧
    (request 0 [] State.reset).ldr.req = none ∧ (readRequest (request 0 [] State.reset)).seq = 0 ∧
    (readRequest (request 5 [] run)).seq ≠ 0 ∧ loadBusy (request 5 [] run) = true ∧ loadBusy (request 5 [] State.reset) = false ∧
    (readRequest (request 5 [] State.reset)).image % 64 = 0 ∧ memOk State.reset 0x10000 384 = true ∧
    closedMem.ldr.loading = false ∧ (readImage closedMem ⟨5, 0, 0x10000, 384, 0, 0⟩).1 = none := by decide +kernel

theorem witness_PlanLoader_accepted : (let s := request 5 planImage State.reset
    let s1 := { s with ldr := { s.ldr with latched := false, part := false } }
    ((readImage s1 (readRequest s)).1.map fun b => (decide (imgLen b ≤ (readRequest s).limit), (chkEarly s1 b).isNone)) = some (true, true)) ∧
    (let s := loading true (request 5 [] State.reset)
     s.ldr.loading = true ∧ (readImage s ⟨5, 0, 0x10000, 384, 0, 0⟩).1.isSome) := by decide +kernel

/-! ### Witnesses: tiers and memory -/

/-- Core 3 with stream 1 open to a tier, tiles of the granted window; and with no window. -/
def tierS (v : BitVec 256) : State := opened 1 false v mst
def noWin : State := regs [(R.WINDOW_LO 3 0, 0), (R.WINDOW_HI 3 0, 0)] (tierS dL)
def win42 : State := regs [(R.WINDOW_LO 3 0, 2 ^ 37 - 2 ^ 32), (R.WINDOW_HI 3 0, 0x42 * 2 ^ 48 + 2 ^ 27 - 1)] (tierS dN)
def prefetchB (s : State) (granted : Bool) : Bool := match (s.core 3).stream 1 with
  | some t => !t.out && !t.stopped && dTier t.desc != 0 && coreState s 3 == 1 && (match nextPrefetch t with
    | some (tile, i) => decide (i < t.slots.length) && decide ((t.slots.getD i StgSlot.reset).freeAt ≤ s.now) &&
      tileGranted s 3 t.desc tile permRD == granted
    | none => false)
  | none => false
/-- Slot 0 of stream 1 with its units. -/
def slotIn (v : BitVec 256) (st : SlotSt) (left : List Nat) (fkind : Nat) : State :=
  slot 1 0 (fun x => { x with st := st, left := left, fkind := fkind, gen := 3, guardAt := some 36 }) (tierS v)
def guarded : State := upd (fun c => { c with held := some ⟨[lds1], 90, 100, ⟨false, true, false⟩, 0, 5, some (1, 0)⟩ }) (slotIn dL .stale [] 0)
def slot0 (s : State) : StgSlot := match (s.core 3).stream 1 with
  | some t => t.slots.getD 0 StgSlot.reset
  | none => StgSlot.reset

theorem witness_TierTiles_prefetch : [tierS dL, tierS dF, win42].all (fun s => prefetchB s true) ∧ prefetchB noWin false := by
  decide +kernel

theorem witness_TierTiles_moss : ((tierS dM).core 3).stream 1 = some (newStream false 6 dM (stackBase + 0x40000) 9) ∧ dMoss dM = true ∧
    dTier dM = 1 ∧ 0 < (newStream false 6 dM (stackBase + 0x40000) 9).slots.length := by
  refine ⟨?_, ?_, ?_, ?_⟩ <;> decide +kernel

theorem witness_TierTiles_ended : (slot0 (slotIn dL .requested [] 0)).left = [] ∧ dMoss dL = false ∧
    (slot0 (slotIn dL .requested [] 0)).st = .requested ∧ (slot0 (slotIn dL .requested [4096] 0)).left ≠ [] ∧
    (slot0 (slotIn dL .stale [] 2)).fkind ≠ 0 ∧ (slot0 (slotIn dM .requested [] 0)).hdrIn = false ∧
    (slot0 (slotIn dM .requested [] 0)).st = .requested := by decide +kernel

theorem witness_TierTiles_guard : (guarded.core 3).held.map (·.awaited) = some (some (1, 0)) ∧ (slot0 guarded).guardAt = some 36 ∧
    36 + 64 ≤ guarded.now ∧ (slot0 guarded).st = .stale ∧ (slot0 guarded).refetch = false ∧ (mst.core 3).held = none := by decide +kernel

theorem noneEnded_of {s : State} (h : s.fab.txs = []) : noneEnded s := by simp [noneEnded, h]
theorem witness_TierTiles_noneEnded : noneEnded (slotIn dL .requested [] 0) ∧ noneEnded (slotIn dM .requested [] 0) :=
  ⟨noneEnded_of (by decide +kernel), noneEnded_of (by decide +kernel)⟩

/-- Tile 3 of output stream 1, placed in staging. -/
def outTile (v : BitVec 256) (visible : Nat) (suppressed started : Bool) (left : List Nat) (refused : Option (Nat × Nat)) : OutTile :=
  ⟨1, 9, 3, 5, v, stackBase + 0x40000, visible, suppressed, started, left, refused, 4⟩
def placed (o : OutTile) : State := upd (fun c => { c with placed := [o] }) mst

theorem witness_OutputTiles : (∀ o ∈ [outTile dL 101 false false [] none, outTile dL 100 true false [] none, outTile dL 100 false false [] none,
      outTile dF 100 false false [] none], (placed o).up = true ∧ ((placed o).core 3).placed.find? (fun q => q.d == 1 && !q.started) = some o) ∧
    (∀ o ∈ [outTile dL 50 false true [] none, outTile dL 50 false true [4] none, outTile dL 50 false true [] (some (1, 2))],
      ((placed o).core 3).placed.find? (fun q => q.d == 1) = some o ∧ coreState (placed o) 3 ≠ 2) ∧ dTier dL = 1 ∧ dTier dF = 2 := by
  decide +kernel

theorem witness_OutputTiles_noneEnded : noneEnded (placed (outTile dL 50 false true [] none)) := noneEnded_of (by decide +kernel)

/-- A request for unit 0x1001 of controller 1, its slot of stream 1, and the controller ON or CLOSING. -/
def mcReq (wr : List (Nat × List Byte)) (hold skip : Bool) (conf : Nat) (st : McSt) : McReq :=
  ⟨7, 1, 0x1001, ⟨3, 1, 9, 0, 3, 0⟩, false, false, wr, hold, skip, conf, st⟩
def mcS (state : Nat) (wait reqs : List McReq) : State := let s := flds [(F.MC_CTRL_STATE 1, state)] (slotIn dL .requested [0x1001] 0)
  { s with mc := { s.mc with wait := wait, reqs := reqs, confs := [⟨1, ⟨3, 1, 9, 0, 3, 0⟩, [0x1001]⟩] } }
def q0 : McReq := mcReq [] false false 0 .queued
def qHigh : McReq := { q0 with c := 5, unit := usableEnd State.reset / 256 }
def qData (chk : Bool) : McReq := mcReq [] false false 0 (.data (List.replicate 256 5#8) chk)

theorem witness_MemoryControllers : mcState State.reset 1 = 0 ∧ (mcS 1 [q0] []).up = true ∧ mcState (mcS 1 [q0] []) 1 = 1 ∧
    mcNext (mcS 1 [q0] []) 1 = some q0 ∧ mcState (mcS 2 [q0] []) 1 = 2 ∧ (mcS 2 [q0] []).mc.wait.find? (fun r => r.c == 1) = some q0 ∧
    (∀ q ∈ [q0, mcReq [(0, List.replicate 256 5#8)] false false 0 .queued, mcReq [(255, [1#8])] false false 0 .queued,
        mcReq [] true true 2 .queued, qData true, qData false],
      (mcS 1 [] [q]).mc.reqs.find? (fun r => r.id == 7) = some q ∧ q.c = 1 ∧ mcBehind (mcS 1 [] [q]) q = false) ∧
    256 * 0x1001 < usableEnd (mcS 1 [] [q0]) ∧ usableEnd (mcS 1 [] [q0]) ≤ 256 * qHigh.unit ∧
    mcBehind (mcS 1 [] [{ q0 with id := 3 }, q0]) q0 = true ∧ mcOf 0x1001 = 1 ∧ (tagSlot (mcS 1 [] [qData true]) q0.tag).isSome ∧
    (mcS 1 [] [qData true]).poisoned 0x1001 = false ∧ (∀ q ∈ (mcS 1 [] []).mc.reqs, q.c ≠ 1) ∧
    (mcS 1 [] []).mc.confs.find? (fun e => e.c == 1 && e.tag.n == 3 && e.tag.d == 1 && e.tag.slot == 0) = some ⟨1, ⟨3, 1, 9, 0, 3, 0⟩, [0x1001]⟩ := by
  decide +kernel

/-- A scrubbing controller; a spare-in of the bank whose rows are used up; one in progress; a retirement in progress. -/
def scrub : State := flds [(F.MC_CTRL_STATE 5, 1), (F.SCRUB_CTRL_EN 5, 1), (F.SCRUB_STATUS_UNIT 5, unitsPerSub - 2)] State.reset
def usedUp (k : Nat) : State := { State.reset with mc := { State.reset.mc with used := [(bankKey 5 0 0, k)] } }
def sparing : State := flds [(F.SPARE_CMD_GO 5, 1), (F.SPARE_STATUS_BUSY 5, 1)] State.reset
def retiring : State := flds [(F.RETIRE_STATUS_STATE 5, 1)] State.reset
def goWord (f : Fld) : Word := BitVec.ofNat 64 (2 ^ f.lo)

theorem witness_MemoryMaintenance : State.reset.up = true ∧ mcState State.reset 5 ≠ 1 ∧ mcState scrub 5 = 1 ∧ scrub.fld (F.SCRUB_CTRL_EN 5) = 1 ∧
    scrub.arb.run = [] ∧ scrub.arb.wait = [] ∧ scrub.fld (F.SCRUB_STATUS_UNIT 5) + 1 < unitsPerSub ∧
    scrub.poisoned (unitAt 5 (scrub.fld (F.SCRUB_STATUS_SUBCH 5)) (scrub.fld (F.SCRUB_STATUS_UNIT 5))) = false ∧
    mcOf (unitAt 5 (scrub.fld (F.SCRUB_STATUS_SUBCH 5)) (scrub.fld (F.SCRUB_STATUS_UNIT 5))) = 5 ∧
    (∀ k ∈ [31, 32], (usedUp k).fld (F.SPARE_CMD_GO 5) = 0 ∧
      ((usedUp k).writeByType (R.SPARE_CMD 5) .w64 (goWord (F.SPARE_CMD_GO 5))).flag (F.SPARE_CMD_GO 5) = true ∧
      look (fun _ => 0) (usedUp k).mc.used (bankKey 5 (((usedUp k).writeByType (R.SPARE_CMD 5) .w64 (goWord (F.SPARE_CMD_GO 5))).fld (F.SPARE_CMD_SUBCH 5))
        (((usedUp k).writeByType (R.SPARE_CMD 5) .w64 (goWord (F.SPARE_CMD_GO 5))).fld (F.SPARE_CMD_BANK 5))) = k) ∧
    sparing.fld (F.SPARE_CMD_GO 5) = 1 ∧ sparing.fld (F.SPARE_STATUS_BUSY 5) = 1 ∧
    (State.reset.writeByType (R.RETIRE_CMD 5) .w64 (goWord (F.RETIRE_CMD_GO 5))).flag (F.RETIRE_CMD_GO 5) = true ∧ coreState run (3 : Fin 64) ≠ 0 ∧
    (∀ n : Fin 64, coreState State.reset n = 0) ∧ cxlAbove State.reset = false ∧ State.reset.fld (F.RETIRE_STATUS_STATE 5) = 0 ∧
    retiring.fld (F.RETIRE_STATUS_STATE 5) = 1 ∧ retiring.arb.wait.contains ⟨2, 5⟩ = false := by decide +kernel

/-- The flash controller with one request, its map ready or not, a balance. -/
def flReq (wr : List (Nat × List Byte)) (arrived : Bool) : FlReq := ⟨7, ⟨3, 1, 9, 0, 3, 0⟩, 99, [99 * 64], wr, arrived⟩
def flS (ready balance : Nat) (q : List FlReq) : State :=
  { regs [(R.SPILL_BALANCE, balance)] (flds [(F.FL_CTRL_STATE, 1), (F.FL_STATUS_MAP_READY, ready)] (slotIn dF .requested [99] 0)) with
    fl := { Flash.reset with reqs := q } }
def flWr (a : Nat) : List (Nat × List Byte) := [(a, List.replicate 256 5#8)]
def readOnly : State := flds [(F.FL_STATUS_SPILL_RO, 1)] (flS 1 16384 [flReq (flWr flashBase) false])

theorem witness_FlashController : (flS 0 0 []).up = true ∧ flState (flS 0 0 []) = 1 ∧ (flS 0 0 []).fld F.FL_STATUS_MAP_READY = 0 ∧
    flState State.reset = 0 ∧ (flS 1 0 []).fld F.FL_STATUS_MAP_READY = 1 ∧
    (∀ q ∈ [flReq [] false, flReq (flWr flashBase) false], (flS 1 16384 [q]).fl.reqs.find? (fun r => r.id == 7 && !r.arrived) = some q) ∧
    flReadOnly (flS 1 16384 [flReq (flWr flashBase) false]) flashBase = false ∧ spillBal (flS 1 16384 []) = 16384 ∧
    flReadOnly readOnly flashBase = true ∧ flashRegion flashBase = some 0 ∧ spillBal (flS 1 16383 []) < 16384 ∧
    (flS 1 0 [flReq [] true]).fl.reqs.find? (fun r => r.id == 7 && r.arrived && r.wr.isEmpty) = some (flReq [] true) ∧
    (tagSlot (flS 1 0 [flReq [] true]) ⟨3, 1, 9, 0, 3, 0⟩).map (fun p => decide (0 < p.1.slots.length)) = some true ∧
    flBad (flS 1 0 [flReq [] true]) 99 = false ∧
    (flS 1 0 [flReq (flWr (flashEnd - 256)) true]).fl.reqs.find? (fun r => r.id == 7 && r.arrived && !r.wr.isEmpty) =
      some (flReq (flWr (flashEnd - 256)) true) ∧ State.reset.fld (F.FL_DIE_SPARE_BULK 5) = 0 ∧
    (flds [(F.FL_DIE_SPARE_BULK 5, 5)] State.reset).fld (F.FL_DIE_SPARE_BULK 5) = 5 := by decide +kernel

/-! ### Witnesses: update units and attention engines -/

/-- The unit that owns parameter 0 of the group, and the group; the record at the ring's head; the unit with both. -/
def uc : Nat := mcOf (0x52000 / 256)
def group (rule : Nat) : Group := ⟨9, rule, 0, 1, 1, 1, 0x50000, 0x51000, 0x52000, 0x53000, 0x60000, 0x61000, 0x54000, 0x55000, 0x56000⟩
def updRec (op step : Nat) : List Byte := leBytes 1 op ++ leBytes 1 9 ++ leBytes 6 0 ++ leBytes 8 step ++ leBytes 4 0x3dcccccd ++
  leBytes 4 0x3c23d70a ++ leBytes 4 0x3f666666 ++ leBytes 4 0x3f7fbe77 ++ leBytes 4 0x322bcc77 ++ leBytes 4 0x3f800000 ++ leBytes 8 0x70000 ++
  leBytes 8 (here + stackBase + 0x100) ++ leBytes 4 0x99
def unitS (gs : List Group) (rc : List Byte) (cur : Option UpdCur) : State := bytes 0x400C0 rc (bytes 0x55000 (leBytes 8 6)
  (setUpd (flds [(F.UPD_CTRL_STATE uc, 1), (F.UPD_RING_BASE uc, 0x40000), (F.UPD_RING_LOG2N uc, 4), (F.UPD_PTR_HEAD uc, 3),
    (F.UPD_PTR_TAIL uc, 4)] run) uc ⟨gs, cur⟩))
def mirrored (s : State) : State := flds [(F.PAIR_CTRL_ROLE, 1)] { s with jrn := { s.jrn with mirrors := [6] } }
/-- The unit takes its next command, which meets the clauses' premises on its record and its group. -/
def dueUnit (s : State) (op step : Nat) (g : Option Group) : Bool := updState s uc == 1 && updHead s uc != updTail s uc &&
  (updOf s uc).cur == none && (updNext s uc).op == op && (updNext s uc).step == step && updGroup s uc (updNext s uc) == g
def apartB (ws : List (Nat × Nat)) : Bool := match ws with
  | [] => true
  | x :: xs => xs.all (fun y => decide (x.1 + x.2 ≤ y.1) || decide (y.1 + y.2 ≤ x.1)) && apartB xs
theorem apart_of {ws : List (Nat × Nat)} (h : apartB ws = true) : Apart ws := by
  induction ws with
  | nil => exact .nil
  | cons x xs ih =>
    simp only [apartB, Bool.and_eq_true, List.all_eq_true, Bool.or_eq_true, decide_eq_true_eq] at h
    exact .cons h.1 (ih h.2)
/-- The unit owns exactly parameter 0 of the group, which reads nothing poisoned and whose writes stand apart. -/
def ownsOne (s : State) (g : Group) (r : UpdRec) : Bool := updOwned g uc == [0] &&
  (updReads g r 0).all (fun x => poisonedUnits s x.1 x.2 == []) && apartB (spans (updParam s g r r.coef ⟨[], [], XVal.one⟩ 0).1 ++ [(g.hdr, 8)])

theorem witness_UpdateUnits : State.reset.up = true ∧ updState State.reset uc = 0 ∧ updState (unitS [] [] none) uc ≠ 0 ∧
    [1, 2, 3].all (fun op => dueUnit (unitS [] (updRec op 7) none) op 7 none) = true ∧
    dueUnit (mirrored (unitS [group 1] (updRec 1 7) none)) 1 7 (some (group 1)) = true ∧
    mirrorHolds (mirrored (unitS [group 1] (updRec 1 7) none)) 7 = true ∧
    [0, 6, 8].all (fun k => dueUnit (unitS [group 1] (updRec 1 k) none) 1 k (some (group 1))) = true ∧
    [0, 6, 7, 8].all (fun k => !mirrorHolds (unitS [group 1] (updRec 1 k) none) k) = true ∧
    (unitS [group 1] (updRec 1 7) none).readLE (.flat (group 1).hdr) 8 + 1 = 7 ∧
    (∀ op ∈ [0, 3], (updOf (unitS [] [] (some ⟨updNext run 0, none, op⟩)) uc).cur = some ⟨updNext run 0, none, op⟩) ∧
    (updOf (mirrored (unitS [] [] (some ⟨updNext run 0, some 10, 0⟩))) uc).cur = some ⟨updNext run 0, some 10, 0⟩ := by decide +kernel

theorem witness_UpdateUnits_notDue : ¬ updDue State.reset uc := fun h => absurd h.1 (by decide +kernel)

theorem witness_UpdateUnits_owned : [1, 2, 3].all (fun rule => let s := unitS [group rule] (updRec 1 7) none
      dueUnit s 1 7 (some (group rule)) && (group rule).rule != 4 && ownsOne s (group rule) (updNext s uc)) = true ∧
    (let s := unitS [group 4] (updRec 2 7) none
     dueUnit s 2 7 (some (group 4)) && updOwned (group 4) uc == [0] &&
       poisonedUnits s (gradRange (group 4) (updNext s uc) 0).1 (gradRange (group 4) (updNext s uc) 0).2 == [] &&
       apartB [gradRange (group 4) (updNext s uc) 0, (partialAt (group 4) uc 0, 12 * 2)]) = true ∧
    (let s := unitS [group 3] (updRec 3 7) none
     dueUnit s 3 7 (some (group 3)) && poisonedUnits s (group 3).gaccum 12 == [] && poisonedUnits s (updNext s uc).src 2 == []) = true ∧
    (let s := unitS [group 3] (updRec 1 7) none
     let r := updNext s uc
     let h := unitS [group 3] (updRec 1 7) (some ⟨r, some 10, 0⟩)
     !mirrorHolds h r.step && updGroup h uc r == some (group 3) && r.op == 1 && ownsOne h (group 3) r) = true := by decide +kernel

/-- Attention engine 2: sequence 5 has one leaf with pages at 2 ^ 25 (chunk 3) and none at chunk 4; a record at its commit ring's
head; a step record at its step ring's head. -/
def fern0 : Nat := 0x1000000
def qS (state : Nat) (rc sr : List Byte) (a : Att) : State :=
  let s := flds [(F.ATT_CTRL_STATE 2, state), (F.ATT_CONF_H 2, 1), (F.ATT_CONF_HKV 2, 1), (F.ATT_CONF_FERN_KIB 2, 64), (F.ATT_FERN_BASE 2, fern0),
    (F.ATT_CRING_BASE 2, 0x20000), (F.ATT_CRING_LOG2N 2, 4), (F.ATT_CPTR_HEAD 2, 5), (F.ATT_CPTR_TAIL 2, 6), (F.ATT_RRING_BASE 2, 0x30000),
    (F.ATT_RRING_LOG2N 2, 3), (F.ATT_SRING_BASE 2, 0x28000), (F.ATT_SRING_LOG2N 2, 2), (F.ATT_SPTR_HEAD 2, 3), (F.ATT_SPTR_TAIL 2, 4),
    (F.SEQ_STATE_LEN 2 5, 3), (F.SEQ_STATE_LEN 2 6, 1)] run
  let s := bytes (fern0 + 512 * 5) (leBytes 8 (2 ^ 63 + fern0 + 0x8000) ++ leBytes 8 (2 ^ 63 + fern0 + 0x8200)) s
  let s := bytes (fern0 + 0x8000) (leBytes 8 (2 ^ 63 + 0x2000000) ++ leBytes 24 0 ++ leBytes 8 0x2000000) s
  setAtt (bytes 0x200A0 rc (bytes 0x28180 sr s)) 2 a
def commitRec (op sid idx len dst : Nat) : List Byte := leBytes 1 op ++ leBytes 1 sid ++ leBytes 2 idx ++ leBytes 4 len ++ leBytes 8 dst ++
  leBytes 8 (here + stackBase + 0x100) ++ leBytes 4 0x77
def stepOf (sids : List Nat) (pinEnd i p j : Nat) : AttStep :=
  ⟨0x28180, 1, 1, 0, 0, 0x50000, 0x52000, 0x54000, 0x56000, here + stackBase + 0x100, 0x77, sids, [3], pinEnd, i, p, j, pinEnd, [], []⟩
def commitS (state : Nat) (rc : List Byte) : State := qS state rc [] Att.reset
def heldQ (w : Option Nat) : State := qS 1 (commitRec 5 5 0 3 0) [] { Att.reset with cur := some (stepOf [5] 500 0 0 0), waitFrom := w }
/-- A commit that is due and applies, with its operation. -/
def applies (rc : List Byte) (op : Nat) : Bool := let s := commitS 1 rc
  let r := commitRecord s 2
  attState s 2 == 1 && s.fld (F.ATT_CPTR_HEAD 2) != s.fld (F.ATT_CPTR_TAIL 2) && attOf s 2 == Att.reset && r.op == op && commitOk s 2 r &&
    decide ((commitReleases s 2 r).length ≤ relRoom s 2)
def refused (rc : List Byte) (op : Nat) : Bool := let s := commitS 1 rc
  attState s 2 == 1 && attOf s 2 == Att.reset && (commitRecord s 2).op == op && !commitOk s 2 (commitRecord s 2)

theorem witness_AttentionCommits : (commitS 0 []).up = true ∧ attState (commitS 0 []) 2 = 0 ∧ attState (commitS 1 []) 2 = 1 ∧
    attConfigOff 0x08 = true ∧ (∀ s ∈ [heldQ none], (commitRecord s 2).op = 5 ∧ attState s 2 = 1 ∧
      s.fld (F.ATT_CPTR_HEAD 2) ≠ s.fld (F.ATT_CPTR_TAIL 2) ∧ attHeld s 2 5 = true ∧ (commitRecord s 2).sid = 5 ∧
      (attOf s 2).waitFrom = none) ∧
    (List.range 8).all (fun op => refused (commitRec op 64 0 0 0) op) = true ∧
    applies (commitRec 1 5 3 0 (fern0 + 0x8400)) 1 = true ∧ applies (commitRec 2 5 0 0 0x3000000) 2 = true ∧
    applies (commitRec 2 5 5 0 0x3000000) 2 = true ∧ applies (commitRec 3 5 0 0 0) 3 = true ∧ applies (commitRec 4 5 1 0 0) 4 = true ∧
    applies (commitRec 5 5 0 (2 ^ 20) 0) 5 = true ∧ applies (commitRec 6 5 0 0 0) 6 = true := by decide +kernel

theorem witness_AttentionCommits_apart : (let s := commitS 1 (commitRec 1 5 3 0 (fern0 + 0x8400))
      apartB [((commitRecord s 2).dst, 512), (rootAt s 2 5 3, 8), ((commitRecord s 2).addr + 28, 1)]) = true ∧
    [0, 5].all (fun k => let s := commitS 1 (commitRec 2 5 k 0 0x3000000)
      let relAt := s.fld (F.ATT_RRING_BASE 2) + 8 * (s.fld (F.ATT_RPTR_REL_TAIL 2) % 2 ^ relLog s 2)
      (match leafEntryAt s 2 5 k with
       | some a => apartB [(a, 8), (relAt, 8), ((commitRecord s 2).addr + 28, 1)] && entryValid (fernEntry s a) == (k == 0)
       | none => false) && apartB [(rootAt s 2 5 1, 8), (relAt, 8), ((commitRecord s 2).addr + 28, 1)]) = true := by decide +kernel

def stepRec (op nseq sid : Nat) : List Byte := leBytes 1 op ++ leBytes 1 nseq ++ leBytes 2 1 ++ leBytes 4 0 ++ leBytes 4 0x3e000000 ++ leBytes 4 0 ++
  leBytes 8 0x50000 ++ leBytes 8 0x52000 ++ leBytes 8 0x54000 ++ leBytes 8 0x56000 ++ leBytes 8 (here + stackBase + 0x100) ++ leBytes 4 0x77 ++
  leBytes 4 0 ++ leBytes 1 sid
def stepS (state : Nat) (sr : List Byte) : State := qS state [] sr Att.reset
def stepping (st : AttStep) : State := qS 1 [] [] { Att.reset with cur := some st }
def poison (u : Nat) (s : State) : State := { s with mc := { s.mc with poison := [(u, true)] } }

theorem witness_AttentionSteps : (stepS 1 []).up = true ∧ attState (stepS 1 []) 2 = 1 ∧
    (stepS 1 []).fld (F.ATT_SPTR_HEAD 2) ≠ (stepS 1 []).fld (F.ATT_SPTR_TAIL 2) ∧ (attOf (stepS 1 []) 2).cur = none ∧
    (∀ r ∈ [stepRec 0 1 5, stepRec 1 0 5, stepRec 1 1 64], (stepRecord (stepS 1 r) 2).2 = false) ∧
    (stepRecord (stepS 1 (stepRec 1 1 5)) 2).2 = true ∧ (stepRecord (stepS 1 (stepRec 1 1 5)) 2).1.sids = [5] ∧
    (let st := stepOf [5] 100 0 0 0
     (attOf (stepping st) 2).cur = some st ∧ st.pinEnd ≤ (stepping st).now ∧ attNext (stepping st) 2 st = (some (0, 0, 0), false)) ∧
    (let st := stepOf [6] 100 0 0 0
     attNext (stepping st) 2 st = (some (0, 0, 0), false) ∧ leafEntryAt (stepping st) 2 6 0 = none) ∧
    (let s := stepping (stepOf [5] 100 0 0 0)
     leafEntryAt s 2 5 0 = some (fern0 + 0x8000) ∧ entryValid (fernEntry s (fern0 + 0x8000)) = true ∧
     s.poisonedRange (pageOf (fernEntry s (fern0 + 0x8000))) (pageBytes s 2) = false ∧
     (poison 0x20000 s).poisonedRange (pageOf (fernEntry s (fern0 + 0x8000))) (pageBytes s 2) = true) ∧
    (let s := bytes (fern0 + 0x8000) (leBytes 8 0x2000000) (stepping (stepOf [5] 100 0 0 0))
     leafEntryAt s 2 5 0 = some (fern0 + 0x8000) ∧ entryValid (fernEntry s (fern0 + 0x8000)) = false) := by decide +kernel

theorem witness_AttentionSteps_end : (let st := stepOf [5] 100 1 0 0
     let s := stepping st
     let bs := (attRowOut (look (fun _ => AttRow.init (attD s 2)) st.rows 0) false).vals.flatMap fun v => leBytes 2 v
     (attOf s 2).cur == some st && decide (max st.pinEnd st.busyEnd ≤ s.now) && attNext s 2 st == (none, false) && (attOf s 2).rel == [] &&
     attH s 2 == 1 && st.nseq == 1 && st.q == 1 && st.flags == 0 && st.missing == [] &&
     apartB [(st.obase, bs.length), (st.addr + 60, 1)]) = true := by decide +kernel

/-! ### Witnesses: the fabric -/

/-- A flit on the wire (Table 12.3): its header, 240 payload bytes, its CRC and its parity symbols. -/
def wire (head : Nat) (payload : List Byte) (stomp : Bool) : List Byte :=
  let b := leBytes 8 head ++ payload ++ List.replicate (240 - payload.length) 0
  let c := crc32c b
  let b := b ++ leBytes 4 (if stomp then 0xFFFFFFFF - c else c)
  b ++ (List.range 4).map fun i => (List.range 63).foldl (fun a k => a ^^^ b.getD (4 * k + i) 0#8) 0#8
def headOf (dest cls kind seq len : Nat) : Nat := dest * 2 ^ 48 + cls * 2 ^ 46 + kind * 2 ^ 43 + seq * 2 ^ 33 + len * 2 ^ 4
def hit (k : Byte) (raw : List Byte) : List Byte := raw.set 100 (raw.getD 100 0 ^^^ k)
def onPort (p : Nat) (f : Port → Port) (s : State) : State := s.setPort p (f (s.port p))
def linkIs (p l : Nat) : State → State := flds [(F.PORT_STATUS_LSTATE p, l), (F.PORT_CTRL_STATE p, 1), (F.PORT_CTRL_ENABLE p, 1)]
/-- Port 4 in a link state, port 7 ACTIVE; node 0x55 is reached through port 7, node 0x56 through port 4; this is node 0x11. -/
def linkS (l : Nat) (f : Port → Port) : State := onPort 4 f (onPort 7 (fun y => { y with running := 0x102 }) (linkIs 4 l (linkIs 7 4
  (regs [(R.ROUTE 21, (2 ^ 15 + 7) * 2 ^ 16 + (2 ^ 15 + 4) * 2 ^ 32)] (flds [(F.FAB_NODE_NODE, 0x11)] run)))))
def same (y : Port) : Port := y
def corrNull (raw : List Byte) : Bool := match flitVerdict true raw with
  | .corrected r => hdr r 45 43 == 0 && hdr r 22 22 == 0 && hdr r 19 12 == 0
  | _ => false
def through : List Byte := wire (headOf 0x55 1 4 1023 15) (List.replicate 16 1#8) false

set_option maxRecDepth 100000 in
theorem witness_LinkTraffic_flits : lstate State.reset 4 < 3 ∧ 3 ≤ lstate (linkS 3 same) 4 ∧
    (∀ raw ∈ [wire 0 [] false, through], raw.length = 256 ∧ flitVerdict true raw = .clean raw ∧ hdr raw 22 22 = 0) ∧
    (hdr (wire 0 [] false) 45 43 = 0 ∧ hdr (wire 0 [] false) 21 20 = 0) ∧ hdr through 45 43 = 4 ∧
    hdr through 42 33 ≠ ((linkS 4 same).port 4).rxExp ∧ ((linkS 4 (fun y => { y with feats := 1 })).port 4).feats.testBit 0 = true ∧
    flitVerdict true (hit 0xFF#8 (wire 0 [] false)) = .uncorrectable ∧ inOrder (linkS 4 same) 4 (hit 0xFF#8 (wire 0 [] false)) = false ∧
    corrNull (hit 2#8 (wire 0 [] false)) = true := by decide +kernel

set_option maxRecDepth 100000 in
theorem witness_LinkTraffic_route : (let s := linkS 4 (fun y => { y with rxExp := 1023 })
      inOrder s 4 through = true ∧ hdr through 45 43 = 4 ∧ hdr through 63 48 = 0x55 ∧ classStopped s 4 (hdr through 47 46) = false ∧
      s.nodeLocal 0x55 = false ∧ routePort s 0x55 = some 7 ∧ (s.port 7).running = 0x102) ∧
    (let raw := wire (headOf 0x11 1 4 0 15) [] true
     let s := linkS 4 (fun y => { y with feats := 1 })
     flitVerdict true raw = .stomped ∧ inOrder s 4 raw = true ∧ s.nodeLocal (hdr raw 63 48) = true) := by decide +kernel

def flitTo (node cls : Nat) : Flit := ⟨node, cls, 4, [1#8]⟩
def packet (node cls : Nat) : Pkt := ⟨node, cls, [flitTo node cls], false, none, none⟩
/-- Port 4 with a flit of class c ready and one credit of that class. -/
def oneCredit (c : Nat) : Nat × Nat × Nat := (if c = 0 then 1 else 0, if c = 1 then 1 else 0, if c = 2 then 1 else 0)
def sending (c : Nat) : State := linkS 4 fun y =>
  { y with q := [packet 0x55 c], credits := oneCredit c, codes := [(0, BitVec.ofNat 64 c)], flen := 4, retry := [(3, flitTo 0x55 2)] }

theorem witness_LinkTraffic_slot : (∀ s ∈ [linkS 4 (fun y => { y with flen := 2 }), linkS 3 (fun y => { y with flen := 2, sinceMark := 16379 }),
      linkS 4 (fun y => { y with flen := 2, sinceMark := 16378, ctl := [.nak 3] }), linkS 4 (fun y => { y with flen := 2, replay := [(3, flitTo 1 1)] })],
      3 ≤ lstate s 4 ∧ (s.port 4).owed = (0, 0, 0) ∧ (s.port 4).slot + 1 < (s.port 4).flen ∧ (s.port 4).swap = none) ∧
    ((linkS 3 (fun y => { y with flen := 2 })).port 4).ctl = [] ∧ ((linkS 3 (fun y => { y with flen := 2 })).port 4).replay = [] ∧
    ((linkS 4 (fun y => { y with flen := 2 })).port 4).q = [] ∧
    (∀ c ∈ [0, 1, 2], let x := (sending c).port 4
      x.ctl = [] ∧ x.replay = [] ∧ lstate (sending c) 4 = 4 ∧ x.retry.length < 512 ∧ 0 < credOf x.credits c ∧ x.slot + 1 < x.flen ∧
      (classOrder (slotCode x x.slot)).head? = some c ∧ readyFlit x c = some (packet 0x55 c, flitTo 0x55 c) ∧
      (packet 0x55 c).ingress = none ∧ x.sinceMark < 16379) := by decide +kernel

def replaying (n : Nat) : State := linkS 4 fun y => { y with retry := [(1023, flitTo 0x55 1), (0, flitTo 0x55 1)], replays := n }
theorem witness_LinkTraffic_replay : lstate State.reset 4 < 2 ∧ 2 ≤ lstate (linkS 2 same) 4 ∧
    ((replaying 14).port 4).retry.filter (fun f => seqLe 1023 f.1) ≠ [] ∧ ((replaying 14).port 4).replays < 15 ∧
    ((replaying 14).port 4).ackAt + 700 ≤ ({ replaying 14 with now := 700 } : State).now ∧ seqLe 1023 1023 = true ∧
    ((linkS 4 same).port 4).retry = [] ∧ State.reset.fld (F.SCHED_CTRL_SWAP 4) = 0 ∧
    (flds [(F.SCHED_CTRL_SWAP 4, 1)] State.reset).fld (F.SCHED_CTRL_SWAP 4) = 1 ∧ ((linkS 4 same).port 4).feats.testBit 1 = false ∧
    (∀ w ∈ [none, some (2, false)], let x := (linkS 4 (fun y => { y with feats := 2, swap := w })).port 4
      x.feats.testBit 1 = true ∧ x.swap = w) := by decide +kernel

def request8 (id op node : Nat) (st : TxState) (o : TxOwner) : TxReq := ⟨id, o, 1, node, op, 0, 8, 0x1000, List.replicate 8 1#8, st, 5, false⟩
def withTxs (l : List TxReq) (s : State) : State := { s with fab := { s.fab with txs := l, count := 90 } }
def nego (vers node : Nat) : Nego := ⟨vers, 3, node, 10, 20, 30⟩
def adv3 (y : Port) : Port := { y with adv := 0x300000007#64 }
def expired : State := withTxs [request8 77 2 0x55 (.sent 4 3 0 false) (.core 3 9)]
  (flds [(F.PORT_CTRL_STATE 4, 2)] (linkS 4 (fun y => { y with closeAt := some 100, trk := [(3, 77)] })))

theorem witness_LinkStates : lstate State.reset 4 = 0 ∧ (∀ l ∈ [1, 2, 3, 4], lstate (linkS l same) 4 = l) ∧ ((linkS 1 same).port 4).q = [] ∧
    ((linkS 2 same).port 4).lastGood + 1400 ≤ ({ linkS 2 same with now := 1400 } : State).now ∧ (State.reset.port 4).downAt = none ∧
    (let s := { linkS 0 (fun y => { y with downAt := some 3 }) with now := 7000003 }
     (s.port 4).downAt = some 3 ∧ portState s 4 = 1 ∧ lstate s 4 = 0 ∧ 3 + 7000000 ≤ s.now) ∧
    8 &&& offerVers (linkS 3 adv3) 4 = 0 ∧ 7 &&& offerVers (linkS 3 adv3) 4 ≠ 0 ∧ ((linkS 3 adv3).port 4).rxNegAck = none ∧
    ((linkS 3 adv3).port 4).rxNeg = none ∧ ownNode (linkS 3 adv3) ≠ 0xFFFF ∧
    (let s := linkS 3 (fun y => { adv3 y with rxNeg := some (nego 7 0x77), rxNegAck := some 1 })
     (s.port 4).rxNeg = some (nego 7 0x77) ∧ (nego 7 0x77).vers &&& offerVers s 4 ≠ 0 ∧ (nego 7 0x77).node ≠ 0xFFFF ∧ (s.port 4).rxNegAck ≠ none) ∧
    (portState State.reset 4 = 0 ∧ State.reset.fld (F.PORT_CTRL_ENABLE 4) = 0 ∧ State.reset.st.run = none) ∧
    portState (linkS 4 same) 4 = 1 ∧ (linkS 4 same).fld (F.PORT_CTRL_ENABLE 4) = 1 ∧ ((linkS 4 same).port 4).trk = [] ∧
    ((linkS 4 (fun y => { y with trk := [(0, 9)] })).port 4).trk ≠ [] ∧
    ((expired.port 4).closeAt = some 100 ∧ portState expired 4 = 2 ∧ 100 ≤ expired.now ∧ (expired.port 4).trk = [(3, 77)] ∧
      expired.tx 77 = some (request8 77 2 0x55 (.sent 4 3 0 false) (.core 3 9))) ∧ (State.reset.port 4).closeAt = none ∧
    (State.reset.arb.run = [] ∧ State.reset.arb.wait = []) ∧ 17 < getBits 0x12#64 4 0 ∧
    (getBits 0x9191#64 7 7 = 1 ∧ getBits 0x9191#64 15 15 = 1 ∧ getBits 0x9191#64 4 0 = getBits 0x9191#64 12 8) ∧
    ¬ (17 < getBits 0x9190#64 4 0 ∨ 17 < getBits 0x9190#64 12 8 ∨ getBits 0x9190#64 4 0 = getBits 0x9190#64 12 8) ∧
    (∀ k : Fin 24, portState State.reset k = 0) ∧ portState (linkS 4 same) (4 : Fin 24) ≠ 0 := by decide +kernel

/-- Transaction 77 of core 3 at a port with trackers in use. -/
def fabS (st : TxState) (op node : Nat) (trk : List (Nat × Nat)) : State :=
  withTxs [request8 77 op node st (.core 3 9)] (linkS 4 (fun y => { y with running := 0x102, trk := trk }))
def allTrk : List (Nat × Nat) := (List.range 512).map fun k => (k, 1000 + k)

theorem witness_FabricTransactions_requests : (∀ st ∈ [TxState.waiting, .sent 4 3 50 false, .sent 4 3 100 true, .sent 4 3 0 false], ∀ op ∈ [opREAD, opWRITE],
      (fabS st op 0x56 []).tx 77 = some (request8 77 op 0x56 st (.core 3 9)) ∧ (fabS st op 0x56 []).jrn.mir = none) ∧
    routePort (fabS .waiting 2 0x57 []) 0x57 = none ∧ routePort (fabS .waiting 2 0x56 []) 0x56 = some 4 ∧
    versionHas ((fabS .waiting 2 0x56 []).port 4).running 2 = true ∧ freeTracker ((fabS .waiting 2 0x56 [(0, 9), (2, 8)]).port 4) = some 1 ∧
    (fabS .waiting 2 0x56 []).fld (F.PORT_CONF_TRK_TIMEOUT 4) ≠ 0 ∧
    portState (fabS .waiting 2 0x56 []) 4 ≠ 2 ∧ 100 ≤ (fabS .waiting 2 0x56 []).now ∧ bitsOf (0x0803#16 : BitVec 16).toNat 13 9 = 4 ∧
    (((fabS (.sent 4 3 50 false) 2 0x56 []).port 4).trk.find? fun t => t.1 == 3) = none ∧
    (((fabS (.sent 4 3 50 false) 2 0x56 [(3, 77)]).port 4).trk.find? fun t => t.1 == 3) = some (3, 77) := by decide +kernel

theorem witness_FabricTransactions_full : freeTracker ((fabS .waiting 2 0x56 allTrk).port 4) = none := by
  have h : ((fabS .waiting 2 0x56 allTrk).port 4).trk = allTrk := by decide +kernel
  unfold freeTracker
  rw [h]
  simp [allTrk]

/-- An arrival on port 4 from node 0x56, and the transaction that it makes. -/
def arrAt (cls : Fin 3) (sz : Byte) (len addr : Nat) (data : List Byte) : Arr :=
  .link 4 cls 0x56#16 0x1234#16 sz (BitVec.ofNat 16 len) (BitVec.ofNat 48 addr) data
def arrivesB (s : State) (op : Nat) (a : Arr) (ok : TxnIn → Bool) : Bool := match arrival s op a with
  | some t => !classStopped s t.port t.cls && t.port != loopPort && ok t
  | none => false
theorem arrives_of {s : State} {op : Nat} {a : Arr} {ok : TxnIn → Bool} (h : arrivesB s op a ok = true) :
    ∃ t, Arrives s op a t ∧ ok t = true := by
  unfold arrivesB at h
  split at h
  · simp only [Bool.and_eq_true, Bool.not_eq_true', bne_iff_ne, ne_eq] at h
    exact ⟨_, ⟨‹_›, h.1.1, fun e => absurd e h.1.2⟩, h.2⟩
  · cases h
def goodB (s : State) (a len : Nat) : Bool := (lpddrOk s a len || stackOk a len) && (closingUnits s a len).isEmpty && (poisonUnits s a len).isEmpty
def plainB (s : State) (t : TxnIn) : Bool := !safeActive s && !isCtl t && rwSize t && goodB s t.addr t.len && !s.fernTouched t.addr t.len &&
  !inMailbox t.addr t.len
def tileB (s : State) (t : TxnIn) : Bool := !safeActive s && decide (t.sz < 6) && t.addr % 64 == 0 && goodB s t.addr (tileLen t.sz) &&
  !s.fernTouched t.addr (tileLen t.sz) && !inMailbox t.addr (tileLen t.sz)
/-- Each operation arrives with what its clause asks for: the least and the greatest plain sizes, both memories, the last tile size. -/
def fits : List (Nat × Arr × (State → TxnIn → Bool)) :=
  [(opREAD, arrAt 1 0 8 0x1000 [], plainB), (opREAD, arrAt 1 0 1024 (stackEnd - 1024) [], plainB),
   (opWRITE, arrAt 0 0 8 0x1000 (List.replicate 8 1#8), fun s t => plainB s t && t.data.length == t.len),
   (opGET, arrAt 0 0 0 0x40000 [], tileB), (opGET, arrAt 0 5 0 0x40000 [], tileB),
   (opPUT, arrAt 1 0 0 0x40000 (List.replicate (tileLen 0) 1#8), fun s t => tileB s t && t.data.length == tileLen t.sz),
   (opFADD, arrAt 1 0 0 0x10008 (List.replicate 8 1#8), fun s t => t.addr % 8 == 0 && goodB s t.addr 8 && !s.fernTouched t.addr 8 && !inMailbox t.addr 8),
   (opMSG, arrAt 1 0 8 (R.COMP 63 15) (List.replicate 8 1#8), fun _ t => t.addr == R.COMP 63 15),
   (opFENCE, arrAt 1 0 0 0 [], fun _ _ => true), (opCLAIM, arrAt 1 0 0 (R.CLAIM_STATE 63) [], fun _ t => t.addr == R.CLAIM_STATE 63)]

theorem witness_FabricTransactions_arrivals :
    (fits.all fun f => arrivesB (linkS 4 same) f.1 f.2.1 (f.2.2 (linkS 4 same))) = true ∧ safeActive (linkS 4 same) = false ∧
    (fits.all fun f => arrival State.reset f.1 f.2.1 == none) = true ∧
    (let s := flds [(F.SAFE_STATUS_ACTIVE, 1)] (linkS 4 same)
     (fits.all fun f => arrivesB s f.1 f.2.1 (fun t => t.cls != 2)) = true ∧ safeActive s = true) := by decide +kernel

theorem witness_FabricTransactions_loop : ∀ x ∈ [{ request8 77 opFENCE 0x11 .loop (.fence 1) with cls := 0 },
      { request8 77 opREAD 0x11 .loop (.aperture 1) with cls := 2 }], let s := withTxs [x] (linkS 4 same)
    loopHead s x.cls = some x ∧ s.tx x.id = some x ∧ classStopped s loopPort x.cls = false ∧ safeActive s = false ∧ x.len = 8 ∧
      x.addr % 8 = 0 ∧ goodB s x.addr 8 = true := by decide +kernel

/-- Slot 1 of core 3 has reduction entry 2, slot 2 has none, slot 3 is not open; turns of contributors 0x56, 0x57 and 0x58. -/
def redE : RedEntry := ⟨2, 32, [(0x56, 4), (0x57, 4), (0x58, 24)]⟩
def redS (turn rx : Nat) : State := setRed (flds [(F.ACC_REMOTE_OPEN 3, 6), (F.RED_STATE_TURN 2, turn), (F.RED_STATE_COUNT_RX 2, rx)]
  (linkS 4 same)) 3 1 (some redE)
def raddTo (src sz slot rem : Nat) (es : List L96) : RaddFlit := ⟨1, src, 0x1234, sz, accWinBase + 3 * coreMemSize + slot * 0xC0000 + rem, 0, es, false⟩
def aimed (f : RaddFlit) (n slot e : Nat) : Bool := f.target == some (n, slot, e)
def heldR (f : RaddFlit) : State := onPort 4 (fun y => { y with held := [.radd f] }) (redS 0 0)

theorem witness_ReduceAdd : (redS 0 0).up = true ∧ safeActive (redS 0 0) = false ∧ lstate (redS 0 0) 4 = 4 ∧ classStopped (redS 0 0) 4 1 = false ∧
    (raddTo 0x56 4 1 0 []).target = none ∧ (raddTo 0x56 5 1 8 []).target = none ∧ aimed (raddTo 0x56 5 3 0 []) 3 3 0 = true ∧
    ((redS 0 0).fld (F.ACC_REMOTE_OPEN 3)).testBit 3 = false ∧ aimed (raddTo 0x56 5 2 0 []) 3 2 0 = true ∧
    ((redS 0 0).fld (F.ACC_REMOTE_OPEN 3)).testBit 2 = true ∧ redOf (redS 0 0) 3 2 = none ∧ ((redS 0 0).core 3).accErr = [] ∧
    aimed (raddTo 0x56 5 1 0 [7#96]) 3 1 0 = true ∧ redOf (redS 0 8190) 3 1 = some redE ∧
    redE.contributor 0x56 4 = some ((redS 0 8190).fld (F.RED_STATE_TURN 2)) ∧ (redS 0 8190).fld (F.RED_STATE_COUNT_RX 2) + 1 < 32 * 256 ∧
    redE.contributor 0x57 4 = some 1 ∧ (redS 0 0).fld (F.RED_STATE_TURN 2) < 1 ∧ 0 < (redS 1 0).fld (F.RED_STATE_TURN 2) ∧
    ((heldR (raddTo 0x56 5 3 0 [])).port 4).held = [.radd (raddTo 0x56 5 3 0 [])] ∧ ((redS 0 0).port 4).held = [] ∧
    loopHead (redS 0 0) 1 = none ∧ (redS 0 0).fab.radd = [] ∧
    (let x := { request8 77 opRADD 0x11 .loop (.core 3 9) with sz := 4 }
     loopHead (withTxs [x] (redS 0 0)) 1 = some x ∧ (withTxs [x] (redS 0 0)).tx 77 = some x) := by decide +kernel

/-! ### Witnesses: outside interfaces, management, power, supervisor -/

/-- The header of an ingest datagram (Table 13.4). -/
def ingHead (k len seq mark off : Nat) : List Byte := leBytes 2 0x4E49 ++ leBytes 2 0x0101 ++ leBytes 2 k ++ leBytes 2 len ++ leBytes 4 seq ++
  leBytes 4 mark ++ leBytes 8 off ++ leBytes 8 0
def datagram (k seq mark off : Nat) : List Byte := ingHead k 64 seq mark off ++ List.replicate 64 5#8
/-- Ethernet port 0 in a state with its link; stream 3 enabled on both ports, with its datagrams. -/
def ethS (state : Nat) (g : Ing) : State := setIng (flds [(F.ETH_CTRL_STATE 0, state), (F.ETH_STATUS_LINK 0, 1), (F.ING_CTRL_ENABLE 3, 1),
  (F.ING_CTRL_PORTS 3, 3), (F.ING_BASE_BASE 3, 0x100000), (F.ING_SIZE_SIZE 3, 0x200000), (F.ING_STATE_ACKED 3, 4)] run) 3 g
def datum (seq : Nat) (mark written : Bool) : IngDat := ⟨seq, mark, 0, 0x100040, [1, 2, 3], written⟩
def ing4 (g : List IngDat) (since : Nat) (timer : Option Nat) : State := ethS 1 ⟨g, (7, 9, 1), since, timer⟩
def seen (s : State) (sq : Nat) : Bool := decide (sq ≤ ingAcked s 3) || (ingOf s 3).got.any fun d => d.seq == sq
def admitted (s : State) (src : Nat) : Bool := s.fld (F.ING_CTRL_ENABLE 3) == 1 && (s.fld (F.ING_CTRL_PORTS 3)).testBit 0 && ingPrefixOk s 3 src
def inside (s : State) (off : Nat) : Bool := decide (off + 64 ≤ s.fld (F.ING_SIZE_SIZE 3)) && ingRange s (s.fld (F.ING_BASE_BASE 3) + off) 64

theorem witness_EthernetAndIngest : (ethS 1 Ing.reset).up = true ∧ ethState State.reset 0 = 0 ∧ ethState (ethS 1 Ing.reset) 0 = 1 ∧
    ethState (ethS 2 Ing.reset) 0 = 2 ∧ (ethS 2 Ing.reset).fld (F.ETH_STATUS_LINK 0) = 1 ∧ ingHeader [] = none ∧
    (∀ x ∈ [(260, 0, 0), (261, 1, 0x1FFFC0), (4, 0, 0x200000)], ingHeader (datagram 3 x.1 x.2.1 x.2.2) = some (3, 64, x.1, x.2.1 == 1, x.2.2)) ∧
    admitted (ethS 1 Ing.reset) 7 = true ∧ admitted (flds [(F.ING_CTRL_ENABLE 3, 0)] (ethS 1 Ing.reset)) 7 = false ∧
    inside (ethS 1 Ing.reset) 0x1FFFC0 = true ∧ inside (ethS 1 Ing.reset) 0x200000 = false ∧ 260 ≤ ingAcked (ethS 1 Ing.reset) 3 + 256 ∧
    ingAcked (ethS 1 Ing.reset) 3 + 256 < 261 ∧ seen (ethS 1 Ing.reset) 4 = true ∧ seen (ing4 [datum 6 false false] 14 none) 6 = true ∧
    seen (ing4 [datum 6 false false] 14 none) 5 = false ∧ (ingOf (ing4 [] 14 none) 3).since < 15 ∧ 15 ≤ (ingOf (ing4 [] 15 none) 3).since ∧
    ((ingOf (ing4 [datum 6 false true] 0 none) 3).got.find? fun d => !d.written) = none ∧
    (∀ m ∈ [false, true], let s := ing4 [datum 5 m false] 0 none
      (ingOf s 3).got = [datum 5 m false] ∧ 5 = ingAcked s 3 + 1 ∧ ingAcked s 3 + 1 < 2 ^ 32 ∧ ethState s 0 ≠ 2) ∧
    (ingOf (ing4 [] 0 none) 3).timer = none ∧ (ingOf (ing4 [] 0 (some 100)) 3).timer = some 100 ∧ 100 ≤ (ing4 [] 0 (some 100)).now ∧
    State.reset.fld (F.ING_CTRL_ENABLE 3) = 0 ∧ getBits 1#64 0 0 = 1 ∧ getBits 2#64 0 0 = 0 := by decide +kernel

/-- The CXL port in a state, with its link; with a committed window of 4 MiB at 2 MiB; with held window writes. -/
def cxlS (state link : Nat) : State := flds [(F.CXL_CTRL_STATE, state), (F.CXL_STATUS_LINK, link)] run
def window (s : State) : State := flds [(F.CXL_STATUS_COMMITTED, 1), (F.CXL_WIN_BASE_BASE, 0x200000), (F.CXL_WIN_SIZE_SIZE, 0x400000)] s
def heldWin : State := let s := window (cxlS 1 1)
  setCxl s { s.out.cxl with held := some (some 0x600000#64, some 7#64), clock := some (7, 50) }
def perst : State := let s := cxlS 1 1
  setMgt s { s.out.mgt with perst := true }

theorem witness_CxlPort : (cxlS 1 1).up = true ∧ (cxlS 1 1).fld F.CXL_STATUS_LINK = 1 ∧ cxlState (cxlS 1 1) = 1 ∧ cxlState (cxlS 2 1) = 2 ∧
    State.reset.fld F.CXL_STATUS_LINK = 0 ∧ cxlState State.reset = 0 ∧ cxlAddr (cxlS 1 1) 0 = none ∧
    cxlAddr (window (cxlS 1 1)) 0x400000 = none ∧ cxlAddr (window (cxlS 1 1)) 0x3FFFC0 = some 0x5FFFC0 ∧
    cxlAddr (window (cxlS 1 1)) 0 = some 0x200000 ∧ 0x200000 % 64 = 0 ∧ (window (cxlS 1 1)).poisoned (0x200000 / 256) = false ∧
    (poison (0x200000 / 256) (window (cxlS 1 1))).poisoned (0x200000 / 256) = true ∧ heldWin.out.cxl.clock = some (7, 50) ∧
    (cxlS 1 1).fld F.CXL_STATUS_COMMITTED = 0 ∧ (cxlS 1 1).out.cxl.held = none ∧ heldWin.fld F.CXL_STATUS_COMMITTED = 1 ∧
    heldWin.fld F.CXL_STATUS_LINK = 1 ∧ cxlState heldWin = 1 ∧ heldWin.out.cxl.held = some (some 0x600000#64, some 7#64) ∧
    perst.out.mgt.perst = true ∧ (cxlS 1 1).out.mgt.perst = false := by decide +kernel

def mgtS (f : Mgt → Mgt) (s : State) : State := setMgt s (f s.out.mgt)
def dikeS (f : Dike → Dike) (s : State) : State := setDike s (f s.dike)
def updating : State := dikeS (fun d => { d with win := 1, winSlot := 2 }) (mgtS (fun m => { m with update := some 2 }) State.reset)
def keyed (leaf : Nat) : State := flds [(F.SEC_STATUS_KEYS_VALID, 1), (F.LMS_NEXT_LEAF, leaf)] State.reset

theorem witness_ManagementEndpoint : (mgtS (fun m => { m with standby := false }) State.reset).out.mgt.standby = false ∧
    State.reset.out.mgt.standby = true ∧ down.out.mgt.standby = true ∧ down.out.mgt.inReset = true ∧ State.reset.out.mgt.inReset = false ∧
    State.reset.out.mgt.update = none ∧ updating.out.mgt.update = some 2 ∧ updating.out.mgt.inReset = false ∧ updating.dike.win = 1 ∧
    updating.dike.winSlot = 2 ∧ (slotSize 2 - 3) + 3 ≤ slotSize 2 ∧ slotSize 2 - 3 < 2 ^ 25 ∧ spdmBusy State.reset = true ∧
    (∀ l ∈ [0, 2 ^ 25 - 1], spdmBusy (keyed l) = false ∧ (keyed l).fld F.LMS_NEXT_LEAF = l) ∧
    spdmBusy (keyed (2 ^ 25)) = false ∧ 2 ^ 25 ≤ (keyed (2 ^ 25)).fld F.LMS_NEXT_LEAF ∧ State.reset.dike.signed = none ∧
    (dikeS (fun d => { d with signed := some none }) State.reset).dike.signed = some none ∧
    (dikeS (fun d => { d with signed := some (some (5, [1])) }) State.reset).dike.signed = some (some (5, [1])) ∧
    State.reset.fld F.SEC_STATUS_ERASING = 0 ∧ ([] : List Byte).length ≠ 4096 ∧ State.reset.fld F.BOOT_REC_AUTH_FAILS ≠ 2 ∧
    State.reset.fld F.SEC_STATUS_DEBUG_OPEN = 0 ∧ getBits (State.reset.reg R.DIKE_ACTION) 11 10 = 0 ∧
    (flds [(F.SEC_STATUS_DEBUG_OPEN, 1)] State.reset).fld F.SEC_STATUS_DEBUG_OPEN = 1 ∧
    (sramBase + sramSize - 8) % 8 = 0 ∧ inRange (sramBase + sramSize - 8) 8 sramBase (sramBase + sramSize) = true := by decide +kernel

theorem witness_ManagementEndpoint_token : (List.replicate 4096 0#8).length = 4096 ∧ tokenValid State.reset (List.replicate 4096 0#8) = false :=
  ⟨List.length_replicate, by decide +kernel⟩

theorem witness_PowerAndReset : State.reset.out.mgt.standby = true ∧ (mgtS (fun m => { m with standby := false }) State.reset).out.mgt.standby = false ∧
    (let m := down.out.mgt
     m.inReset = true ∧ m.refclk = true ∧ m.main = true ∧ m.standby = true ∧ m.resetN = true) ∧ State.reset.out.mgt.inReset = false ∧
    safeActive State.reset = false ∧ State.reset.up = true ∧ getBits 1#64 0 0 = 1 ∧ State.reset.fld F.RST_CTRL_PKG_RST = 0 := by decide +kernel

def stopped : State := flds [(F.SUP_STATUS_STOPPED 1, 1)] State.reset
def waiting : State := apertureIssue State.reset 1 8 none

theorem witness_SupervisorComplex : State.reset.up = true ∧ safeActive State.reset = false ∧ stopped.fld (F.SUP_STATUS_STOPPED 1) = 1 ∧
    State.reset.fld (F.SUP_STATUS_STOPPED 1) = 0 ∧ 3 ∉ [1, 2, 4, 8] ∧ sramSize < (0x7FFFFD#23 : BitVec 23).toNat + 4 ∧
    (0x7FFFF8#23 : BitVec 23).toNat + 8 ≤ sramSize ∧ supWaiting waiting 1 = true ∧ waiting.fld (F.SUP_STATUS_STOPPED 1) = 0 ∧
    supWaiting State.reset 1 = false ∧ (1 : Nat) % 8 ≠ 0 ∧ getBits 0#64 0 0 = 0 ∧ getBits 1#64 0 0 = 1 ∧ (supOf State.reset 1).inRom = true ∧
    mtimeDue State.reset 1 = false ∧ mtimeDue (regs [(R.SUP_MTIMECMP 1, 0)] State.reset) 1 = true := by decide +kernel

/-! ### Witnesses: events, security, safe state, pairs, maintenance -/

/-- Source 200 enabled for every target at the highest priority; target 0 enabled; the source pending, merged, claimed. -/
def src : State := flds [(F.TGT_CTRL_EN 0, 1), (F.SRC_CFG_EN 200, 1), (F.SRC_CFG_TARGETS 200, 15), (F.SRC_CFG_PRIO 200, 0xFF)] run
def pending : State := src.raise 200
def claimed : State := (tgtClaim pending 0).2
def unassigned : State := flds [(pendFld 200, 1)] src

theorem witness_EventController : run.up = true ∧ sourceDriven 127 = false ∧ sourceDriven 511 = true ∧ src.fld (F.SRC_CFG_MODE 200) = 0 ∧
    src.fld (pendFld 200) = 0 ∧ pending.fld (pendFld 200) = 1 ∧ getBits 191#64 8 0 < 192 ∧ 192 ≤ getBits 192#64 8 0 ∧
    src.fld (F.SRC_CFG_MODE (getBits 192#64 8 0)) = 0 ∧ claimed.fld (inservFld 200) = 1 ∧
    (unassigned.fld (pendFld 200) = 1 ∧ unassigned.fld (inservFld 200) = 0 ∧ unassigned.assignedTo 200 = 0 ∧
      ([unassigned.rrPtr 200 + 1, unassigned.rrPtr 200 + 2, unassigned.rrPtr 200 + 3, unassigned.rrPtr 200 + 4].find? fun t =>
        unassigned.eligible 200 (t % 4)).isSome) ∧ bestSource run 0 = none ∧ bestSource pending 0 = some 200 ∧
    claimed.tgtStack 0 = [(200, groupOf src 0xFF)] ∧ run.tgtStack 0 = [] := by decide +kernel

/-- A boot image header (Table 18.3) of SVN svn with the hash of its keys; it stands in a slot; its keys are the owner's. -/
def bootKeys : List Byte := List.replicate 152 0#8
def bootHead (svn : Nat) : List Byte := leBytes 8 0x31544F4F42584452 ++ leBytes 2 0x100 ++ leBytes 2 4096 ++ leBytes 4 0 ++ leBytes 12 orderCode ++
  leBytes 2 stepCode ++ leBytes 2 0 ++ leBytes 4 svn ++ leBytes 4 7 ++ leBytes 8 64 ++ leBytes 4 0x1000 ++ leBytes 4 0 ++ leBytes 48 1 ++ bootKeys
/-- The ROM's wait ends in cycle 100; preferred slot 2, first step. -/
def rom (s : State) : State := dikeS (fun d => { d with romStarted := true, waitEnd := some 100 }) (flds [(F.BOOT_REC_PREF, 2)] s)
def image : State := bytes (bootFlashBase + slotBase 2) (bootHead 1) (rom run)
def owned (owner least : Nat) : State := dikeS (fun d => { d with owner := leBytes 48 owner })
  (flds [(F.SEC_STATUS_POLICY, 3), (F.SVN_MIN_MIN, least)] image)
def secCmd (op arg : Nat) (al : Bool) : State := dikeS (fun d => { d with cmdAlarm := al })
  (flds [(F.SEC_CMD_OP, op), (F.SEC_CMD_ARG, arg), (F.SEC_CMD_GO, 1)] State.reset)
def svn64 : State := dikeS (fun d => { d with svn := 64 }) (flds [(F.SEC_STATUS_POLICY, 1)] State.reset)

theorem witness_BootAndDike : (secCmd 2 3 false).up = true ∧ (secCmd 2 3 false).fld F.SEC_CMD_GO = 1 ∧ State.reset.fld F.SEC_CMD_GO = 0 ∧
    fuseRefused State.reset 2 1 = false ∧ fuseRefused State.reset 2 3 = false ∧ fuseRefused State.reset 2 2 = true ∧
    fuseRefused svn64 3 0 = false ∧ fuseRefused State.reset 3 0 = true ∧ fuseRefused State.reset 4 4 = true ∧ fuseRefused svn64 4 3 = false ∧
    fuseRefused svn64 5 64 = false ∧ fuseRefused svn64 5 65 = true ∧ (secCmd 2 3 true).dike.cmdAlarm = true ∧
    (∀ x ∈ [(2, 3), (3, 0), (4, 3), (5, 64)], (secCmd x.1 x.2 false).dike.cmdAlarm = false ∧ (secCmd x.1 x.2 false).fld F.SEC_CMD_OP = x.1 ∧
      (secCmd x.1 x.2 false).fld F.SEC_CMD_ARG = x.2) ∧
    (∀ x ∈ [(0#64, 0), (0x55#64, 1), (0xAA#64, 2)], ∀ k ∈ [0, 3],
      getBits ((regs [(R.DIKE_ACTION, x.1.toNat)] State.reset).reg R.DIKE_ACTION) (2 * k + 1) (2 * k) = x.2) ∧
    State.reset.fld F.SEC_STATUS_ERASING = 0 ∧ (flds [(F.SEC_STATUS_ERASING, 1)] State.reset).fld F.SEC_STATUS_ERASING = 1 ∧
    State.reset.dike.thenReset = false ∧ State.reset.dike.unlocking = false ∧ State.reset.dike.romStarted = false ∧
    (rom run).dike.romStarted = true ∧ State.reset.fld F.BOOT_REC_INFLIGHT = 0 ∧
    ((rom run).dike.rom = true ∧ (rom run).dike.waitEnd = some 100 ∧ 100 ≤ (rom run).now) := by decide +kernel

def slot2 (s : State) : List Byte := s.readBytes (.flat (bootFlashBase + slotBase 2)) 4096

theorem witness_BootAndDike_header : bootSlot ((rom run).fld F.BOOT_REC_PREF) ((rom run).fld F.BOOT_REC_STEP) = 2 ∧
    hdrBad (slot2 (rom run)) 2 = true := by decide +kernel

theorem readAt_congr {s t : State} (h : s.mem = t.mem) (p : Place) (i k : Nat) : s.readAt p i k = t.readAt p i k := by
  induction k generalizing i with
  | zero => rfl
  | succ k ih => simp only [State.readAt, State.byte, h, ih]
theorem mem_flds (l : List (Fld × Nat)) (s : State) : (flds l s).mem = s.mem := by
  unfold flds
  induction l generalizing s with
  | nil => rfl
  | cons x l ih => exact (ih _).trans rfl
theorem mem_dikeS (f : Dike → Dike) (s : State) : (dikeS f s).mem = s.mem := rfl
theorem mem_owned (o k : Nat) : (owned o k).mem = image.mem := (mem_dikeS _ _).trans (mem_flds _ _)
theorem slot2_owned (o k : Nat) : slot2 (owned o k) = slot2 image := by
  unfold slot2 State.readBytes
  exact readAt_congr (mem_owned o k) _ _ _

/-- The header in slot 2 passes its checks, whoever the owner is; its keys and its SVN. -/
theorem witness_BootAndDike_slot : hdrBad (slot2 image) 2 = false ∧ bytesAt (slot2 image) 104 152 = bootKeys ∧ numAt (slot2 image) 32 4 = 1 := by
  decide +kernel

theorem witness_BootAndDike_keys : keyAccepted (owned 0 1) bootKeys 2 = none ∧
    keyAccepted (owned 11760107257013373646054828958937121289495623691461285913009700199488023357017523965886640408233281167170364874632946 1)
      bootKeys 2 = some 4 ∧ (owned 0 2).fld F.SVN_MIN_MIN = 2 ∧ (owned 0 1).fld F.SVN_MIN_MIN = 1 := by decide +kernel

/-- A journal of 2 steps and 1000 tiles; an open step 8 with its flags; the safe state; marks of core 3. -/
def jrn (f : Jrn → Jrn) (s : State) : State := { s with jrn := f s.jrn }
def j0 : State := regs [(R.JRN_BASE, stackBase + 0x20000), (R.JRN_LBASE, 0x300000)] (flds [(F.JRN_CFG_JN, 2), (F.JRN_CFG_NTILES, 1000)] run)
def openJ (flags : Nat) : State := jrn (fun j => { j with opened := true })
  (flds [(F.JRN_STATUS_STATE, 1), (F.JRN_STATUS_FLAGS, flags), (F.JRN_STATUS_STEP, 8)] j0)
def safe (s : State) : State := regs [(R.SAFE_STATUS, 2 ^ 63 + 2 ^ 8 * 133 + 3)] s
def mark : JMark := ⟨5, 3, 4⟩
def marked (w : Option Nat) (s : State) : State := setMarks (upd (fun c => { c with wfail := w }) s) 3 [mark]
def closedJ : State := jrn (fun j => { j with opened := true }) (flds [(F.JRN_STATUS_STEP, 8)] j0)
def aborting (lbase : Nat) : State := jrn (fun j => { j with queue := [.abort 7, .frec] }) (regs [(R.JRN_LBASE, lbase)] (openJ 0))

theorem witness_SafeStateAndJournal : j0.up = true ∧ j0.fld F.SAFE_CTRL_ENTER = 0 ∧ getBits 0x10F#64 8 8 = 1 ∧ getBits 15#64 8 8 = 0 ∧
    safeActive j0 = false ∧ pairRole j0 = 0 ∧ pairRole (flds [(F.PAIR_CTRL_ROLE, 3)] j0) ≠ 0 ∧ safeActive (safe j0) = true ∧
    (safe j0).jrn.safeAt ≠ (safe j0).now ∧ j0.fld F.JRN_CMD_GO = 0 ∧ (safe (openJ 0)).fld F.JRN_CMD_GO = 0 ∧
    j0.fld F.JRN_STATUS_STATE ≠ 1 ∧ j0.jrn.opened = false ∧ closedJ.jrn.opened = true ∧ closedJ.fld F.JRN_STATUS_STEP + 1 = 9 ∧
    closedJ.fld F.JRN_STATUS_STATE ≠ 1 ∧ (openJ 0).fld F.JRN_STATUS_STATE = 1 ∧ ((openJ 1).fld F.JRN_STATUS_FLAGS).testBit 0 = true ∧
    ((openJ 2).fld F.JRN_STATUS_FLAGS).testBit 0 = false ∧ (openJ 2).jrn.marks = [] ∧
    ((marked none (openJ 2)).jrn.marks = [((3 : Fin 64).val, [mark])] ∧ tileWritesDone (marked none (openJ 2)) 3 4 = true ∧
      ((marked none (openJ 2)).core 3).wfail = none) ∧ j0.jrn.queue = [] ∧
    (aborting 0x300000).jrn.queue = [.abort 7, .frec] ∧ getBits 1000#64 19 0 = 1000 ∧ j0.fld F.JRN_CFG_NTILES ≤ 1000 ∧
    getBits 999#64 19 0 < (openJ 0).fld F.JRN_CFG_NTILES ∧ (coreMarks (openJ 0) 3).length < 64 ∧
    64 ≤ (coreMarks (setMarks (openJ 0) 3 (List.replicate 64 mark)) 3).length ∧ coreMarks (marked (some 3) (openJ 0)) 3 = [mark] ∧
    tileWritesDone (marked none { openJ 0 with late := [⟨3, 2, 120, 0, .mem (.flat stackBase) [1]⟩] }) 3 4 = false ∧
    tileWritesDone (marked (some 3) (openJ 0)) 3 4 = true ∧ ((marked (some 3) (openJ 0)).core 3).wfail = some 3 ∧ 3 < mark.syl ∧
    (marked none j0).fld F.JRN_STATUS_STATE ≠ 1 := by decide +kernel

theorem witness_SafeStateAndJournal_apart : (let s := aborting 0x300000
    apartB [((s.reg R.JRN_BASE).toNat + 7 % jrnJN s * jrnESize s, 64), ((s.reg R.JRN_LBASE).toNat + 7 % jrnJN s * jrnESize s, 64)]) = true := by
  decide +kernel

/-- A pair of a role with partner 8, its heartbeats due, its mirror and one region to mirror. -/
def pairS (role : Nat) (m : Option Mirror) (l : List Nat) : State := flds [(F.PAIR_CTRL_ROLE, role), (F.PAIR_CTRL_PARTNER, 8)]
  (jrn (fun j => { j with hbUs := 1, hbTimeout := 4, regions := [(0x100000, 32768, 0x4000)], peerBase := 0x800000, peerSize := 0x100000,
                          mir := m, mirrors := l }) { run with now := 2800 })

theorem witness_Pairs : (pairS 3 none []).up = true ∧ ¬ ((some (9#16 : BitVec 16)) = none ∨ (9#16 : BitVec 16).toNat = (pairS 3 none []).fld F.PAIR_CTRL_PARTNER) ∧
    (8#16 : BitVec 16).toNat = (pairS 3 none []).fld F.PAIR_CTRL_PARTNER ∧ pairRole (pairS 2 none []) = 2 ∧ pairRole (pairS 1 none []) < 2 ∧
    (1#64 : Word).toNat ≤ ((regs [(R.CONFIRMED, 1)] (pairS 3 none [])).reg R.CONFIRMED).toNat ∧
    ((pairS 3 none []).reg R.CONFIRMED).toNat < (1#64 : Word).toNat ∧ pairRole run = 0 ∧ safeActive (pairS 3 none []) = false ∧
    (pairS 3 none []).jrn.hbUs ≠ 0 ∧ (pairS 3 none []).jrn.hbNext ≤ (pairS 3 none []).now ∧ (pairS 3 none []).jrn.hbTimeout ≠ 0 ∧
    (pairS 3 none []).fld F.PAIR_STATUS_PEER_LOST = 0 ∧ (pairS 3 none []).jrn.hbSeen + 700 * 4 ≤ (pairS 3 none []).now ∧
    (pairS 3 none []).jrn.mir = none ∧ (pairS 3 none []).jrn.mirrors = [] ∧ (pairS 3 none [5, 6]).jrn.mirrors = [5, 6] ∧
    (∀ p ∈ [0, 1, 2], (pairS 3 (some ⟨5, 0, 0, p⟩) []).jrn.mir = some ⟨5, 0, 0, p⟩ ∧ (pairS 3 (some ⟨5, 0, 0, p⟩) []).fab.txs = []) ∧
    ((mirrorPuts (pairS 3 (some ⟨5, 0, 0, 0⟩) []))[1]?).isSome ∧ (mirrorPuts (pairS 3 (some ⟨5, 0, 0, 0⟩) []))[2]? = none ∧
    (pairS 3 none []).poisonedRange 0x100000 16384 = false := by decide +kernel

/-- The maintenance arbiter with its running and waiting activities; the self-test with a unit under test. -/
def arbS (r w : List MaintAct) (s : State) : State := { s with arb := ⟨r, w⟩ }
def testing (u : Nat) : State := { State.reset with now := 2 ^ 46, st := { SelfTest.reset with run := some (u, 50) } }
def deadSup : State := flds [(F.SUP_STATUS_STOPPED 2, 1)] State.reset
def dieFull : State := flds [(F.FL_DIE_SPARE_BULK 2, 9), (F.FL_DIE_SPARE_SPILL 2, 9)] State.reset

theorem witness_SparesArbiterSelfTest : State.reset.up = true ∧
    (getBits 0x13F#64 8 8 = 1 ∧ getBits 0x13F#64 5 0 / 8 = (7 : Fin 8).val ∧ coreState State.reset 63 = 0 ∧
      State.reset.fld (F.CORE_SPARE_VALID 7) = 0 ∧ State.reset.st.run = none) ∧ getBits 0x3F#64 8 8 = 0 ∧ coreState run 3 ≠ 0 ∧
    (getBits 5#64 0 0 = 1 ∧ getBits 5#64 2 1 = 2 ∧ deadSup.fld F.SUP_SPARE_GO = 0 ∧ deadSup.fld (F.SUP_STATUS_STOPPED 2) = 1 ∧
      ∀ j : Fin 4, deadSup.fld (F.SUP_STATUS_SPARE j) = 0) ∧ State.reset.fld (F.SUP_STATUS_STOPPED 2) = 0 ∧ getBits 4#64 0 0 = 0 ∧
    (⟨3, 2⟩ : MaintAct) ∈ (arbS [⟨3, 2⟩] [] State.reset).arb.run ∧ (⟨3, 3⟩ : MaintAct) ∉ (arbS [⟨3, 2⟩] [] State.reset).arb.run ∧
    State.reset.arb.run = [] ∧ State.reset.arb.wait = [] ∧ maintClash ⟨3, 2⟩ ⟨4, 2⟩ = true ∧ arbReady State.reset ⟨3, 2⟩ = false ∧
    arbReady (arbS [] [⟨4, 2⟩] State.reset) ⟨4, 2⟩ = true ∧ gcOverride (arbS [⟨7, 0⟩] [] State.reset) ⟨3, 2⟩ = true ∧
    gcOverride (arbS [⟨3, 2⟩] [] dieFull) ⟨3, 2⟩ = false ∧ getBits 1#64 0 0 = 1 ∧ State.reset.fld F.ARB_CTRL_CKPT = 0 ∧
    (flds [(F.ARB_CTRL_CKPT, 1)] State.reset).fld F.ARB_CTRL_CKPT = 1 ∧ (flds [(F.ST_CTRL_EN, 0)] State.reset).fld F.ST_CTRL_EN = 0 ∧
    (flds [(F.ST_CTRL_EN, 1)] run).fld F.ST_CTRL_EN = 1 ∧ stUnitState { run with st := { run.st with turn := 3 } } 3 ≠ 0 ∧
    (∀ u ∈ [0, 95], stUnitState State.reset u = 0) ∧ (testing 63).st.run = some (63, 50) ∧ 50 + stCycles 63 ≤ (testing 63).now ∧
    State.reset.fld F.ST_RESULT_VALID = 0 ∧ State.reset.now < look (fun _ => 0) State.reset.st.last 95 + stPeriod State.reset ∧
    look (fun _ => 0) (testing 3).st.last 95 + stPeriod (testing 3) ≤ (testing 3).now := by decide +kernel

/-! ### The spec's worked numbers -/

/-- The syllable words of chapters 6, 7 and 13: S.LI s12, 0x0FFF; A.MM; V.ST; V.NMS. -/
theorem test_syllable_words : decodeSyl .s 3 true 0x540C0FFF = .sLi (syl 0x0C0FFF) ∧
    decodeSyl .a 3 true 0x0818030A = .aMm (syl (2 ^ 20 + 2 ^ 19 + 12 * 64 + 10)) ∧
    decodeSyl .v 3 true 0x541D0014 = .vSt (syl (3 * 2 ^ 19 + 10 * 2 ^ 15 + 20)) ∧
    decodeSyl .v 3 true 0x78110014 = .vNms (syl (2 * 2 ^ 19 + 2 ^ 16 + 20)) := by decide +kernel

/-- S.LI s12, 0x0FFF writes its result at the end of the cycle. -/
theorem test_sLi : (match exec (.sLi (syl 0x0C0FFF)) run with
    | .next t => (t.late.map fun l => l.op) == [.sreg 12 0xFFF#64] && pcOf t 3 == 8
    | _ => false) = true := by decide +kernel

/-- Table 6.12: counter 5 with EPOCH 7, NEXT 0 and LIMIT 10; the two claims of cycle 100; the new epoch; the claim of cycle 310. -/
def counter5 : State := flds [(F.CLAIM_STATE_EPOCH 5, 7), (F.CLAIM_SET_LIMIT 5, 10)] State.reset
theorem test_claims : (claimTake counter5 5).1 = (7, 0) ∧ (claimTake (claimTake counter5 5).2 5).1 = (7, 1) ∧
    (match exec (.claimSetWrite 5 .w64 (4 * 2 ^ 32)) (claimTake counter5 5).2 with
      | .next t => (claimTake t 5).1 == (8, 0) && t.fld (F.CLAIM_SET_LIMIT 5) == 4
      | _ => false) = true := by decide +kernel

/-- Chapter 10: the unit of address 0x0012_0004_0200, and its home when subchannel 1 of controller 4 is retired. -/
theorem test_interleave : mcOf 0x12000402 = 4 ∧ subOf 0x12000402 = 1 ∧ lOf 0x12000402 = 1179652 ∧ unitAt 4 1 1179652 = 0x12000402 ∧
    unitHome (flds [(F.RETIRE_STATUS_STATE 4, 2), (F.RETIRE_STATUS_SUBCH 4, 1)] State.reset) 0x12000402 = (9, 20722483) := by
  decide +kernel

/-- Table 9.7: the descriptor's tiles, staging, and the last row of its range. -/
def table97 : BitVec 256 := 0x21D000000000040000000004000004000001000400100100FFFF001200000000#256
theorem test_descriptor : dTiles table97 = 512 ∧ slotBytes table97 = 16384 ∧ stagingBytes table97 = 131072 ∧ dTier table97 = 1 ∧
    (tileRows table97 511).getLast? = some (0x1200000000 + 255 * 8192 + 15 * 512 + 3 * 2 ^ 21, 512) ∧
    tileGlobal table97 9 = 0xFFFF001200040200 := by decide +kernel

/-- Table 11.4: the tile's block 0. -/
def elems114 : List Nat := 0x3F80 :: List.replicate 4 0 ++ 0x4020 :: List.replicate 121 0 ++ 0x3F00 :: List.replicate 896 0
theorem test_moss : encodeBlock elems114 = (0x80000003, leBytes 4 0x21 ++ leBytes 8 0 ++ leBytes 4 0x80000000 ++ List.replicate 112 0 ++
      leBytes 2 0x3F80 ++ leBytes 2 0x4020 ++ leBytes 2 0x3F00) ∧
    declaredUnits [0x80000003, 0, 0x40000400, 0, 0, 0, 0, 0] = [0, 16, 17, 18, 19, 20, 21, 22, 23, 24] := by decide +kernel

/-- R76: 1 + 2^−9 + 2^−12 drained to BF16 with two draws. -/
theorem test_stochastic : (drainCvt 0 (.sto 0x30000000) (.fin false 4105 (-12))).1 = 0x3F81 ∧
    (drainCvt 0 (.sto 0x50000000) (.fin false 4105 (-12))).1 = 0x3F80 := by decide +kernel

/-- Table 13.6: the five boxes in rank order, box 4 being no candidate. -/
def box (i : Nat) (score : Int) (c : List Nat) : NmsBox :=
  ⟨i, .fin false score.toNat (-4), .fin false (c.getD 0 0) 0, .fin false (c.getD 1 0) 0, .fin false (c.getD 2 0) 0, .fin false (c.getD 3 0) 0, i⟩
def boxes : List NmsBox := [box 3 11 [20, 0, 40, 10], box 2 13 [20, 0, 30, 10], box 1 13 [1, 1, 11, 11], box 0 14 [0, 0, 10, 10]].foldr rankInsert []
theorem test_nms : nmsVisit (.fin false 1 (-1)) false 4 boxes = [0, 2, 3] ∧ nmsVisit (.fin false 1 (-1)) false 2 boxes = [0, 2] ∧
    nmsVisit (.fin false 1 (-1)) true 4 boxes = [0, 1, 2, 3] := by decide +kernel

/-- Table 17.4: sources 88 and 5 pending, then 145, at target 0. -/
def table174 : State := let s := flds [(F.EVC_CTRL_GROUP_SPLIT, 4), (F.TGT_CTRL_EN 0, 1), (F.SRC_CFG_PRIO 5, 0x57), (F.SRC_CFG_TARGETS 5, 1),
    (F.SRC_CFG_EN 5, 1), (F.SRC_CFG_PRIO 88, 0x52), (F.SRC_CFG_TARGETS 88, 3), (F.SRC_CFG_EN 88, 1), (F.SRC_CFG_MODE 88, 1),
    (F.SRC_CFG_PRIO 145, 0xA0), (F.SRC_CFG_TARGETS 145, 1), (F.SRC_CFG_EN 145, 1)] State.reset
  (s.raise 88).raise 5
theorem test_event_claim : (match exec (.tgtClaim 0 .w64) table174 with
    | .next t => t.reply == .value 5#64 && bestSource t 0 == none && bestSource (t.raise 145) 0 == some 145 && t.tgtStack 0 == [(5, 5)]
    | _ => false) = true := by decide +kernel

/-- Table 18.6: the slots (1 A, 2 B, 3 recovery) and the waits in seconds, from PREF = B. -/
theorem test_boot_waits : (List.range 9).map (bootSlot 2) = [2, 1, 3, 2, 1, 3, 2, 1, 3] ∧
    (List.range 9).map (fun k => bootWait k / 700000000) = [0, 1, 2, 4, 8, 16, 32, 64, 64] := by decide +kernel

/-- The header of SEQ 1,000 of chapter 16, with its 8,192 bytes of data. -/
def seq1000 : List Byte := [0x49, 0x4E, 1, 1, 3, 0, 0, 0x20, 0xE8, 3, 0, 0, 0, 0, 0, 0, 0, 0xE0, 0x7C, 0, 0, 0, 0, 0] ++ List.replicate 8 0
theorem test_ingest_header : ingHeader (seq1000 ++ List.replicate 8192 0) = some (3, 8192, 1000, false, 0x7CE000) := by decide +kernel

end Sys2Proof.Tests
end

section
/-! SUPPORT. A software write of a control register, bit by bit and for registers whose fields are all of one access type
(R5, Table 0.2), and what a read clears (R6). -/

namespace Sys2Proof.Machine

/-- What a bit of a field holds after a software write of a data bit (Table 0.2). -/
def Acc.writeBit (acc : Acc) (old data : Bool) : Bool :=
  match acc with
  | .rw => data
  | .w1c => old && !data
  | .w1s => old || data
  | .ro => old
  | .rc => old

/-- A second write of the same data changes nothing more. -/
@[simp] theorem Acc.writeBit_writeBit (acc : Acc) (old data : Bool) :
    acc.writeBit (acc.writeBit old data) data = acc.writeBit old data := by
  cases acc <;> cases old <;> cases data <;> rfl

theorem FieldDesc.mask_getLsbD {f : FieldDesc} (hhi : f.hi < 64) (i : Nat) :
    f.mask.getLsbD i = decide (f.lo ≤ i ∧ i ≤ f.hi) := by
  simp only [FieldDesc.mask, BitVec.getLsbD_ofNat, Nat.testBit_shiftLeft, Nat.testBit_two_pow_sub_one]
  rw [Bool.eq_iff_iff]
  simp only [Bool.and_eq_true, decide_eq_true_eq]
  omega

/-- The effect of a write on one bit of one field. -/
theorem FieldDesc.write_getLsbD (f : FieldDesc) (m data w : Word) (i : Nat) :
    (f.write m data w).getLsbD i =
      if (f.mask &&& m).getLsbD i then f.acc.writeBit (w.getLsbD i) (data.getLsbD i) else w.getLsbD i := by
  by_cases hi : i < 64
  · unfold FieldDesc.write
    dsimp only
    generalize f.mask &&& m = fm
    cases f.acc with
    | rw =>
      simp only [BitVec.getLsbD_or, BitVec.getLsbD_and, BitVec.getLsbD_not]
      cases fm.getLsbD i <;> simp [Acc.writeBit, hi]
    | w1c =>
      simp only [BitVec.getLsbD_and, BitVec.getLsbD_not]
      cases fm.getLsbD i <;> simp [Acc.writeBit, hi]
    | w1s =>
      simp only [BitVec.getLsbD_or, BitVec.getLsbD_and]
      cases fm.getLsbD i <;> simp [Acc.writeBit]
    | ro => exact (ite_self _).symm
    | rc => exact (ite_self _).symm
  · have hge : 64 ≤ i := Nat.le_of_not_lt hi
    simp only [BitVec.getLsbD_of_ge _ i hge, Bool.false_eq_true, if_false]

/-- A bit outside the field or outside the accessed half keeps its value. -/
theorem FieldDesc.write_getLsbD_outside {f : FieldDesc} (hhi : f.hi < 64) (m data w : Word) {i : Nat}
    (hout : m.getLsbD i = false ∨ ¬ (f.lo ≤ i ∧ i ≤ f.hi)) : (f.write m data w).getLsbD i = w.getLsbD i := by
  have hmask : (f.mask &&& m).getLsbD i = false := by
    rw [BitVec.getLsbD_and, FieldDesc.mask_getLsbD hhi]
    rcases hout with hm | hf
    · simp [hm]
    · simp [hf]
  rw [FieldDesc.write_getLsbD, hmask]
  rfl

/-- An accessed bit of the field changes as its access type says. -/
theorem FieldDesc.write_getLsbD_inside {f : FieldDesc} (hhi : f.hi < 64) (m data w : Word) {i : Nat}
    (hm : m.getLsbD i = true) (hlo : f.lo ≤ i) (hi : i ≤ f.hi) :
    (f.write m data w).getLsbD i = f.acc.writeBit (w.getLsbD i) (data.getLsbD i) := by
  have hmask : (f.mask &&& m).getLsbD i = true := by
    rw [BitVec.getLsbD_and, FieldDesc.mask_getLsbD hhi, hm]
    simp [hlo, hi]
  rw [FieldDesc.write_getLsbD, hmask]
  rfl

/-- The bits of a word written field by field that no field covers, or that the access leaves out, keep their value. -/
theorem foldl_write_getLsbD_outside (m data : Word) {i : Nat} (fs : List FieldDesc) (w : Word)
    (hhi : ∀ f ∈ fs, f.hi < 64) (hout : m.getLsbD i = false ∨ ∀ f ∈ fs, ¬ (f.lo ≤ i ∧ i ≤ f.hi)) :
    (fs.foldl (fun w f => f.write m data w) w).getLsbD i = w.getLsbD i := by
  induction fs generalizing w with
  | nil => rfl
  | cons f fs ih =>
    rw [List.foldl_cons, ih _ (fun g hg => hhi g (List.mem_cons_of_mem f hg))
      (hout.imp_right fun h g hg => h g (List.mem_cons_of_mem f hg))]
    exact FieldDesc.write_getLsbD_outside (hhi f List.mem_cons_self) m data w
      (hout.imp_right fun h => h f List.mem_cons_self)

/-- Fields that do not overlap: a bit of a field is changed by the write of that field alone. -/
theorem foldl_write_getLsbD_inside (m data : Word) {i : Nat} (hm : m.getLsbD i = true) (fs : List FieldDesc) (w : Word)
    (hhi : ∀ f ∈ fs, f.hi < 64) (hdisj : fs.Pairwise fun f g => f.hi < g.lo ∨ g.hi < f.lo) {f : FieldDesc}
    (hf : f ∈ fs) (hlo : f.lo ≤ i) (hi : i ≤ f.hi) :
    (fs.foldl (fun w f => f.write m data w) w).getLsbD i = f.acc.writeBit (w.getLsbD i) (data.getLsbD i) := by
  induction fs generalizing w with
  | nil => exact absurd hf List.not_mem_nil
  | cons g gs ih =>
    obtain ⟨hg, hgs⟩ := List.pairwise_cons.mp hdisj
    have hhi' : ∀ x ∈ gs, x.hi < 64 := fun x hx => hhi x (List.mem_cons_of_mem g hx)
    have hghi := hhi g List.mem_cons_self
    rw [List.foldl_cons]
    rcases List.mem_cons.mp hf with rfl | hmem
    · have hrest : ∀ x ∈ gs, ¬ (x.lo ≤ i ∧ i ≤ x.hi) := fun x hx => by have := hg x hx; omega
      rw [foldl_write_getLsbD_outside m data gs _ hhi' (.inr hrest)]
      exact FieldDesc.write_getLsbD_inside hghi m data w hm hlo hi
    · have hapart : ¬ (g.lo ≤ i ∧ i ≤ g.hi) := by have := hg f hmem; omega
      rw [ih _ hhi' hgs hmem, FieldDesc.write_getLsbD_outside hghi m data w (.inr hapart)]

/-! ### Registers whose fields are all of one access type -/

/-- The bits that the fields of a register cover. -/
def fieldsMask : List FieldDesc → Word
  | [] => 0#64
  | f :: fs => f.mask ||| fieldsMask fs

theorem foldl_write_getLsbD_uniform (acc : Acc) (m data : Word) (i : Nat) (fs : List FieldDesc) (w : Word)
    (hacc : ∀ f ∈ fs, f.acc = acc) :
    (fs.foldl (fun w f => f.write m data w) w).getLsbD i =
      if (fieldsMask fs &&& m).getLsbD i then acc.writeBit (w.getLsbD i) (data.getLsbD i) else w.getLsbD i := by
  induction fs generalizing w with
  | nil => simp [fieldsMask]
  | cons f fs ih =>
    rw [List.foldl_cons, ih _ (fun g hg => hacc g (List.mem_cons_of_mem f hg)), FieldDesc.write_getLsbD,
      hacc f List.mem_cons_self]
    simp only [fieldsMask, BitVec.getLsbD_and, BitVec.getLsbD_or]
    cases f.mask.getLsbD i <;> cases (fieldsMask fs).getLsbD i <;> cases m.getLsbD i <;> simp

section
variable {d : RegDesc} (sz : AccSz) (old v : Word)

/-- A write of a register of RW fields replaces their accessed bits. -/
theorem RegDesc.write_rw (h : ∀ f ∈ d.fields, f.acc = .rw) :
    d.write sz old v =
      (old &&& ~~~(fieldsMask d.fields &&& sz.mask)) ||| (sz.place v &&& (fieldsMask d.fields &&& sz.mask)) := by
  apply BitVec.eq_of_getLsbD_eq
  intro i hi
  rw [RegDesc.write, foldl_write_getLsbD_uniform .rw _ _ _ _ _ h]
  generalize fieldsMask d.fields &&& sz.mask = M
  simp only [BitVec.getLsbD_or, BitVec.getLsbD_and, BitVec.getLsbD_not]
  cases M.getLsbD i <;> simp [Acc.writeBit, hi]

/-- A write of a register of W1C fields clears the accessed bits of which the data is one. -/
theorem RegDesc.write_w1c (h : ∀ f ∈ d.fields, f.acc = .w1c) :
    d.write sz old v = old &&& ~~~(sz.place v &&& (fieldsMask d.fields &&& sz.mask)) := by
  apply BitVec.eq_of_getLsbD_eq
  intro i hi
  rw [RegDesc.write, foldl_write_getLsbD_uniform .w1c _ _ _ _ _ h]
  generalize fieldsMask d.fields &&& sz.mask = M
  simp only [BitVec.getLsbD_and, BitVec.getLsbD_not]
  cases M.getLsbD i <;> simp [Acc.writeBit, hi]

/-- A write of a register of W1S fields sets the accessed bits of which the data is one. -/
theorem RegDesc.write_w1s (h : ∀ f ∈ d.fields, f.acc = .w1s) :
    d.write sz old v = old ||| (sz.place v &&& (fieldsMask d.fields &&& sz.mask)) := by
  apply BitVec.eq_of_getLsbD_eq
  intro i _
  rw [RegDesc.write, foldl_write_getLsbD_uniform .w1s _ _ _ _ _ h]
  generalize fieldsMask d.fields &&& sz.mask = M
  rw [BitVec.getLsbD_or, BitVec.getLsbD_and]
  cases M.getLsbD i <;> simp [Acc.writeBit]

/-- A write changes nothing of a register of RC fields. -/
theorem RegDesc.write_rc (h : ∀ f ∈ d.fields, f.acc = .rc) : d.write sz old v = old := by
  apply BitVec.eq_of_getLsbD_eq
  intro i _
  rw [RegDesc.write, foldl_write_getLsbD_uniform .rc _ _ _ _ _ h]
  exact ite_self _

/-- A read clears the whole of a register that is one RC field of 64 bits (R6). -/
theorem RegDesc.afterRead_rc64 (h : d.fields = [⟨63, 0, .rc⟩]) : d.afterRead .w64 old = 0#64 := by
  rw [RegDesc.afterRead, h]
  change old &&& ~~~(BitVec.allOnes 64 &&& BitVec.allOnes 64) = 0#64
  rw [BitVec.and_self, BitVec.not_allOnes, BitVec.and_zero]

/-- A read clears nothing of a register without RC fields. -/
theorem RegDesc.afterRead_of_no_rc (h : ∀ f ∈ d.fields, f.acc ≠ .rc) : d.afterRead sz old = old := by
  unfold RegDesc.afterRead
  generalize d.fields = fs at h
  induction fs generalizing old with
  | nil => rfl
  | cons f fs ih =>
    rw [List.foldl_cons, if_neg (h f List.mem_cons_self)]
    exact ih old fun g hg => h g (List.mem_cons_of_mem f hg)

end

/-! ### From the command to the register -/

section
variable {s : State} (hup : s.up = true)

/-- An access of another size or alignment names no register (R4). -/
theorem accOf_eq_none {addr size : Nat} (h8 : ¬ (size = 8 ∧ addr % 8 = 0)) (h4 : ¬ (size = 4 ∧ addr % 4 = 0)) :
    accOf addr size = none := by
  rw [accOf, if_neg h8, if_neg (by omega), if_neg (by omega)]

theorem accOf_eight {a : Nat} (ha : a % 8 = 0) : accOf a 8 = some (a, .w64) := if_pos ⟨rfl, ha⟩

theorem accOf_four {a : Nat} (ha : a % 8 = 0) : accOf a 4 = some (a, .lo) := by
  rw [accOf, if_neg (by omega), if_pos ⟨rfl, ha⟩]

include hup in
theorem exec_registerWrite (addr size : Nat) (v : Word) :
    exec (.registerWrite addr size v) s = .next { ctlWrite s .sup addr size v with pending := s.pending } :=
  ifUp_up (fun s => ctlWrite s .sup addr size v) hup

include hup in
theorem exec_rcRead (addr size : Nat) :
    exec (.rcRead addr size) s = .next { ctlRead s addr size with pending := s.pending } :=
  ifUp_up (fun s => ctlRead s addr size) hup

include hup in
/-- REGISTER_WRITE of a register without a rule of its own. -/
theorem exec_registerWrite_byType {a size : Nat} {sz : AccSz} {v : Word} {d : RegDesc} (hacc : accOf a size = some (a, sz))
    (hroute : regWrite s .sup a sz v = State.writeByType { s with reply := .ok } a sz v) (hd : regAt a = some d) :
    exec (.registerWrite a size v) s = .next { s.setReg a (d.write sz (s.reg a) v) with reply := .ok } := by
  rw [exec_registerWrite hup, ctlWrite, hacc]
  dsimp only
  rw [hroute, State.writeByType, hd]
  rfl

include hup in
/-- RC_READ of a register that reads as stored. -/
theorem exec_rcRead_stored {a : Nat} {d : RegDesc} (ha : a % 8 = 0)
    (hroute : regRead s a .w64 = { s.clearRead a .w64 with reply := .value (s.reg a) }) (hd : regAt a = some d) :
    exec (.rcRead a 8) s = .next { s.setReg a (d.afterRead .w64 (s.reg a)) with reply := .value (s.reg a) } := by
  rw [exec_rcRead hup, ctlRead, accOf_eight ha]
  dsimp only
  rw [hroute, State.clearRead, hd]
  rfl

end

/-- The offsets of a core's block at which a write has a rule of its own. -/
def coreWriteRuled (off : Nat) : Prop :=
  off < 0x200 ∨ off = 0x200 ∨ (0x210 ≤ off ∧ off < 0x230) ∨ (0x400 ≤ off ∧ off < 0x800) ∨ off = 0x1000 ∨ off = 0x1008 ∨
  off = 0x1068 ∨ off = 0x1070 ∨ (0x1100 ≤ off ∧ off < 0x1180) ∨ (0x2000 ≤ off ∧ off < 0x3000) ∨
  (off = 0x4010 ∨ off = 0x4018) ∨ (off = 0x4020 ∨ off = 0x4028) ∨ off = 0x4100 ∨ off = 0x4208 ∨
  (0x4440 ≤ off ∧ off < 0x4540) ∨ off = 0x4548 ∨ off = 0x5400

/-- The offsets of a core's block at which a read returns a view of the core's state. -/
def coreReadViewed (off : Nat) : Prop :=
  off = 0x4008 ∨ off = 0x4200 ∨ off = 0x4208 ∨ off = 0x1030 ∨ off = 0x1070 ∨ off = 0x1190 ∨ off = 0x1198 ∨ off = 0x4408 ∨
  (0x4440 ≤ off ∧ off < 0x4460) ∨ off = 0x4548 ∨ (0x5100 ≤ off ∧ off < 0x5200) ∨ off = 0x5300 ∨ off = 0x5400 ∨ off = 0x1008

section
variable {s : State} {n off : Nat} (hn : n < 64)

include hn in
theorem regWrite_core (hoff : off < 0x10000) (w : Writer) (sz : AccSz) (v : Word) :
    regWrite s w (coreBlock n + off) sz v = coreWrite { s with reply := .ok } w n off sz v := by
  have hblk : (coreBlock n + off - 0x7F0001000000) / 0x10000 = n := by unfold coreBlock; omega
  have hrem : (coreBlock n + off) % 0x10000 = off := by unfold coreBlock; omega
  have hlo : 0x7F0001000000 ≤ coreBlock n + off := by unfold coreBlock; omega
  have hhi : coreBlock n + off < 0x7F0001400000 := by unfold coreBlock; omega
  unfold regWrite
  dsimp only
  iterate 13 rw [if_neg (by omega)]
  rw [if_pos hhi, hblk, hrem]

include hn in
theorem regRead_core (hoff : off < 0x10000) (sz : AccSz) :
    regRead s (coreBlock n + off) sz = { (coreRead s n off sz).2 with reply := .value (coreRead s n off sz).1 } := by
  have hblk : (coreBlock n + off - 0x7F0001000000) / 0x10000 = n := by unfold coreBlock; omega
  have hrem : (coreBlock n + off) % 0x10000 = off := by unfold coreBlock; omega
  have hin : 0x7F0001000000 ≤ coreBlock n + off ∧ coreBlock n + off < 0x7F0001400000 := by unfold coreBlock; omega
  rw [regRead, if_pos hin, hblk, hrem]

/-- At every other offset a write acts by access type alone. -/
theorem coreWrite_byType (hoff : ¬ coreWriteRuled off) (w : Writer) (sz : AccSz) (v : Word) :
    coreWrite s w n off sz v = s.writeByType (coreBlock n + off) sz v := by
  unfold coreWriteRuled at hoff
  unfold coreWrite
  dsimp only
  iterate 17 rw [if_neg (by omega)]

theorem coreView_stored (hoff : ¬ coreReadViewed off) (raw : Word) : coreView s n off raw = raw := by
  unfold coreReadViewed at hoff
  unfold coreView
  dsimp only
  iterate 14 rw [if_neg (by omega)]

/-- At every other offset a read returns the stored value, its RC fields cleared. -/
theorem coreRead_stored (hoff : ¬ coreReadViewed off) (sz : AccSz) :
    coreRead s n off sz = (sz.get (s.reg (coreBlock n + off)), s.clearRead (coreBlock n + off) sz) := by
  have hview := coreView_stored (s := s) (n := n) hoff
  unfold coreReadViewed at hoff
  unfold coreRead
  dsimp only
  rw [hview, if_neg (by omega), if_neg (by omega)]

end

section
variable {n : Nat} (hn : n < 64)

theorem ARRAY_CONF_eq (n : Nat) : R.ARRAY_CONF n = coreBlock n + 0x4000 := by unfold R.ARRAY_CONF coreBlock; omega
theorem DRAIN_STATUS_eq (n : Nat) : R.DRAIN_STATUS n = coreBlock n + 0x4220 := by unfold R.DRAIN_STATUS coreBlock; omega
theorem BUNDLE_COUNT_eq (n : Nat) : R.BUNDLE_COUNT n = coreBlock n + 0x1038 := by unfold R.BUNDLE_COUNT coreBlock; omega
theorem STALL_TOTAL_eq (n : Nat) : R.STALL_TOTAL n = coreBlock n + 0x1040 := by unfold R.STALL_TOTAL coreBlock; omega
theorem FAULT_REC_eq (n : Nat) : R.FAULT_REC n = coreBlock n + 0x1018 := by unfold R.FAULT_REC coreBlock; omega

theorem coreBlock_aligned (n : Nat) {off : Nat} (hoff : off % 8 = 0) : (coreBlock n + off) % 8 = 0 := by
  unfold coreBlock; omega

include hn

theorem regAt_ARRAY_CONF : regAt (coreBlock n + 0x4000) =
    some ⟨0x7f0001004000, 64, 0x10000, 1, 0x0, 1, 0x0, 0x14#64, [⟨8, 8, .rw⟩, ⟨4, 0, .rw⟩]⟩ :=
  regAt_coreOff hn _ (by decide) _ (by decide +kernel)

theorem regAt_DRAIN_STATUS : regAt (coreBlock n + 0x4220) =
    some ⟨0x7f0001004220, 64, 0x10000, 1, 0x0, 1, 0x0, 0x0#64, [⟨7, 7, .w1c⟩, ⟨6, 6, .w1c⟩, ⟨5, 5, .w1c⟩, ⟨4, 4, .w1c⟩,
      ⟨3, 3, .w1c⟩, ⟨2, 2, .w1c⟩, ⟨1, 1, .w1c⟩, ⟨0, 0, .w1c⟩]⟩ :=
  regAt_coreOff hn _ (by decide) _ (by decide +kernel)

theorem regAt_BUNDLE_COUNT : regAt (coreBlock n + 0x1038) =
    some ⟨0x7f0001001038, 64, 0x10000, 1, 0x0, 1, 0x0, 0x0#64, [⟨63, 0, .rc⟩]⟩ :=
  regAt_coreOff hn _ (by decide) _ (by decide +kernel)

theorem regAt_STALL_TOTAL : regAt (coreBlock n + 0x1040) =
    some ⟨0x7f0001001040, 64, 0x10000, 1, 0x0, 1, 0x0, 0x0#64, [⟨63, 0, .rc⟩]⟩ :=
  regAt_coreOff hn _ (by decide) _ (by decide +kernel)

theorem regAt_FAULT_REC : regAt (coreBlock n + 0x1018) =
    some ⟨0x7f0001001018, 64, 0x10000, 1, 0x0, 1, 0x0, 0x0#64, [⟨63, 63, .w1c⟩, ⟨62, 62, .w1c⟩, ⟨61, 60, .ro⟩,
      ⟨59, 58, .ro⟩, ⟨45, 32, .ro⟩, ⟨29, 16, .ro⟩, ⟨7, 0, .ro⟩]⟩ :=
  regAt_coreOff hn _ (by decide) _ (by decide +kernel)

end

theorem regAt_SEC_LOCK : regAt R.SEC_LOCK =
    some ⟨0x7f0000300040, 1, 0x0, 1, 0x0, 1, 0x0, 0x0#64, [⟨1, 1, .w1s⟩, ⟨0, 0, .w1s⟩]⟩ := by decide +kernel

theorem regAt_ARB_OVERRIDE : regAt R.ARB_OVERRIDE =
    some ⟨0x7f0000b00208, 1, 0x0, 1, 0x0, 1, 0x0, 0x0#64, [⟨63, 0, .rc⟩]⟩ := by decide +kernel

/-! ### The accesses of the registers that the obligation names -/

section
variable {s : State} (hup : s.up = true)

include hup in
/-- REGISTER_WRITE of a register of a core's block without a rule of its own. -/
theorem exec_registerWrite_core {n off size : Nat} {sz : AccSz} {d : RegDesc} (v : Word) (hn : n < 64) (hlt : off < 0x10000)
    (hoff : ¬ coreWriteRuled off) (hacc : accOf (coreBlock n + off) size = some (coreBlock n + off, sz))
    (hd : regAt (coreBlock n + off) = some d) :
    exec (.registerWrite (coreBlock n + off) size v) s =
      .next { s.setReg (coreBlock n + off) (d.write sz (s.reg (coreBlock n + off)) v) with reply := .ok } :=
  exec_registerWrite_byType hup hacc ((regWrite_core hn hlt _ _ _).trans (coreWrite_byType hoff _ _ _)) hd

include hup in
/-- RC_READ of a register of a core's block that reads as stored. -/
theorem exec_rcRead_core {n off : Nat} {d : RegDesc} (hn : n < 64) (hlt : off < 0x10000) (hal : off % 8 = 0)
    (hoff : ¬ coreReadViewed off) (hd : regAt (coreBlock n + off) = some d) :
    exec (.rcRead (coreBlock n + off) 8) s = .next { s.setReg (coreBlock n + off)
      (d.afterRead .w64 (s.reg (coreBlock n + off))) with reply := .value (s.reg (coreBlock n + off)) } := by
  refine exec_rcRead_stored hup (coreBlock_aligned n hal) ?_ hd
  rw [regRead_core hn hlt, coreRead_stored hoff]
  rfl

include hup in
/-- R4: an access of another size or alignment is not performed. -/
theorem access_of_bad_size {addr size : Nat} (v : Word) (h8 : ¬ (size = 8 ∧ addr % 8 = 0))
    (h4 : ¬ (size = 4 ∧ addr % 4 = 0)) :
    exec (.registerWrite addr size v) s = .next { s with reply := .accessError } ∧
    exec (.rcRead addr size) s = .next { s with reply := .accessError } := by
  rw [exec_registerWrite hup, exec_rcRead hup, ctlWrite, ctlRead, accOf_eq_none h8 h4]
  exact ⟨rfl, rfl⟩

include hup in
/-- RW (ARRAY_CONF), whole and its low half. -/
theorem write_ARRAY_CONF {n size : Nat} (hn : n < 64) (v : Word) (hsize : size = 8 ∨ size = 4) :
    exec (.registerWrite (R.ARRAY_CONF n) size v) s = .next { s.setReg (R.ARRAY_CONF n)
      ((s.reg (R.ARRAY_CONF n) &&& ~~~0x11F#64) ||| (v &&& 0x11F#64)) with reply := .ok } := by
  have ha := coreBlock_aligned n (off := 0x4000) rfl
  have hplain : ¬ coreWriteRuled 0x4000 := by simp [coreWriteRuled]
  have hM : fieldsMask [⟨8, 8, .rw⟩, ⟨4, 0, .rw⟩] = 0x11F#64 := by decide
  rw [ARRAY_CONF_eq]
  rcases hsize with rfl | rfl
  · rw [exec_registerWrite_core hup v hn (by decide) hplain (accOf_eight ha) (regAt_ARRAY_CONF hn),
      RegDesc.write_rw _ _ _ (by simp), hM]
    rfl
  · rw [exec_registerWrite_core hup v hn (by decide) hplain (accOf_four ha) (regAt_ARRAY_CONF hn),
      RegDesc.write_rw _ _ _ (by simp), hM, AccSz.place, AccSz.mask, BitVec.and_assoc]
    rfl

include hup in
/-- W1C (DRAIN_STATUS). -/
theorem write_DRAIN_STATUS {n : Nat} (hn : n < 64) (v : Word) :
    exec (.registerWrite (R.DRAIN_STATUS n) 8 v) s =
      .next { s.setReg (R.DRAIN_STATUS n) (s.reg (R.DRAIN_STATUS n) &&& ~~~(v &&& 0xFF#64)) with reply := .ok } := by
  rw [DRAIN_STATUS_eq, exec_registerWrite_core hup v hn (by decide) (by simp [coreWriteRuled])
    (accOf_eight (coreBlock_aligned n rfl)) (regAt_DRAIN_STATUS hn), RegDesc.write_w1c _ _ _ (by simp)]
  rfl

include hup in
/-- W1S (SEC_LOCK), a register of the dike. -/
theorem write_SEC_LOCK (v : Word) :
    exec (.registerWrite R.SEC_LOCK 8 v) s =
      .next { s.setReg R.SEC_LOCK (s.reg R.SEC_LOCK ||| (v &&& 3#64)) with reply := .ok } := by
  rw [exec_registerWrite_byType hup (accOf_eight rfl) rfl regAt_SEC_LOCK, RegDesc.write_w1s _ _ _ (by simp)]
  rfl

include hup in
/-- A write of an RC counter changes nothing but the reply (BUNDLE_COUNT). -/
theorem write_BUNDLE_COUNT {n : Nat} (hn : n < 64) (v : Word) :
    exec (.registerWrite (R.BUNDLE_COUNT n) 8 v) s =
      .next { s.setReg (R.BUNDLE_COUNT n) (s.reg (R.BUNDLE_COUNT n)) with reply := .ok } := by
  rw [BUNDLE_COUNT_eq, exec_registerWrite_core hup v hn (by decide) (by simp [coreWriteRuled])
    (accOf_eight (coreBlock_aligned n rfl)) (regAt_BUNDLE_COUNT hn), RegDesc.write_rc _ _ _ (by simp)]

include hup in
/-- RC_READ of a core's counter answers and clears it (R6). -/
theorem read_core_counter {n a : Nat} (hn : n < 64) (ha : a ∈ [R.BUNDLE_COUNT n, R.STALL_TOTAL n]) :
    exec (.rcRead a 8) s = .next { s.setReg a 0#64 with reply := .value (s.reg a) } := by
  simp only [List.mem_cons, List.not_mem_nil, or_false] at ha
  rcases ha with rfl | rfl
  · rw [BUNDLE_COUNT_eq, exec_rcRead_core hup hn (by decide) rfl (by simp [coreReadViewed]) (regAt_BUNDLE_COUNT hn),
      RegDesc.afterRead_rc64 _ rfl]
  · rw [STALL_TOTAL_eq, exec_rcRead_core hup hn (by decide) rfl (by simp [coreReadViewed]) (regAt_STALL_TOTAL hn),
      RegDesc.afterRead_rc64 _ rfl]

include hup in
/-- RC_READ of the arbiter's counter answers and clears it (R6). -/
theorem read_ARB_OVERRIDE :
    exec (.rcRead R.ARB_OVERRIDE 8) s =
      .next { s.setReg R.ARB_OVERRIDE 0#64 with reply := .value (s.reg R.ARB_OVERRIDE) } := by
  rw [exec_rcRead_stored hup rfl rfl regAt_ARB_OVERRIDE, RegDesc.afterRead_rc64 _ rfl]

include hup in
/-- RC_READ of a register without RC fields answers and clears nothing (FAULT_REC). -/
theorem read_FAULT_REC {n : Nat} (hn : n < 64) :
    exec (.rcRead (R.FAULT_REC n) 8) s = .next { s.setReg (R.FAULT_REC n) (s.reg (R.FAULT_REC n)) with
      reply := .value (s.reg (R.FAULT_REC n)) } := by
  rw [FAULT_REC_eq, exec_rcRead_core hup hn (by decide) rfl (by simp [coreReadViewed]) (regAt_FAULT_REC hn),
    RegDesc.afterRead_of_no_rc _ _ (by simp)]

end

/-- A register set and an answer given: every other register is as before. -/
theorem regsExcept_setReg_reply (s : State) (a : Nat) (v : Word) (r : Reply) :
    RegsExcept [a] s { s.setReg a v with reply := r } := fun _ hb =>
  State.reg_setReg_ne s v (by simpa using hb)

/-- A register set to what it held: every register is as before. -/
theorem regsExcept_setReg_self_reply (s : State) (a : Nat) (r : Reply) :
    RegsExcept [] s { s.setReg a (s.reg a) with reply := r } := fun b _ => by
  change (s.setReg a (s.reg a)).reg b = s.reg b
  rw [State.reg_setReg]
  split
  · next h => rw [h]
  · rfl

end Sys2Proof.Machine
end

section
/-! The obligations on access types, register accesses and the canonical form after reset. -/

open Sys2Proof Sys2Proof.Machine

/-- Settles O8: a bit of a field is changed by that field's write alone, and a bit of no field by none. -/
theorem writeOfEachAccessType : Obligations.WriteOfEachAccessType := by
  unfold Obligations.WriteOfEachAccessType
  intro d sz old v hbounds hdisj
  have hhi : ∀ f ∈ d.fields, f.hi < 64 := fun f hf => (hbounds f hf).2
  refine ⟨fun f hf i hlo hi hm => ?_, fun i hout => foldl_write_getLsbD_outside _ _ _ _ hhi hout⟩
  rw [RegDesc.write, foldl_write_getLsbD_inside _ _ hm _ _ hhi hdisj hf hlo hi]
  cases f.acc <;> rfl

/-- Settles O7: the accesses refused (R4), written (R5), read and cleared (R6), and a counter that saturates (R10). -/
theorem registerAccess : Obligations.RegisterAccess := by
  unfold Obligations.RegisterAccess
  refine ⟨fun s addr size v hup h8 h4 => access_of_bad_size hup v h8 h4, fun n v s hup => ?_, fun n s hup => ?_,
    fun s f k hhi _ => ?_⟩
  · exact ⟨write_ARRAY_CONF hup n.isLt v (.inl rfl), write_ARRAY_CONF hup n.isLt v (.inr rfl),
      write_DRAIN_STATUS hup n.isLt v, write_SEC_LOCK hup v, _, write_BUNDLE_COUNT hup n.isLt v,
      regsExcept_setReg_self_reply s _ _, fun _ => rfl, fun _ _ => rfl⟩
  · refine ⟨fun a ha => read_core_counter hup n.isLt ha, ⟨_, read_ARB_OVERRIDE hup, rfl, ?_, regsExcept_setReg_reply s _ _ _,
      fun _ => rfl, fun _ _ => rfl⟩, _, read_FAULT_REC hup n.isLt, rfl, regsExcept_setReg_self_reply s _ _, fun _ => rfl,
      fun _ _ => rfl⟩
    exact State.fld_setReg_same s F.ARB_OVERRIDE_COUNT R.ARB_OVERRIDE 0#64 rfl
  · exact ⟨State.fld_incFld_same s f k hhi, fun a ha => State.reg_incFld_ne s f k (by simpa using ha)⟩

/-- Settles O5: memory, control registers and cores are empty maps after reset. -/
theorem resetIsCanonical : Obligations.ResetIsCanonical := by
  unfold Obligations.ResetIsCanonical State.wf
  rw [State.reset_mem_wf, show State.reset.csr = [] from rfl, show State.reset.cores = [] from rfl, wfMap_nil, wfMap_nil]
  rfl

end

section
/-! SUPPORT. Writes made by units of the device: what they leave alone, the bytes they leave in memory, and reads of memory that
they did not touch. -/

namespace Sys2Proof.Machine

/-! ### Little-endian bytes and reads -/

@[simp] theorem leBytes_length (n v : Nat) : (leBytes n v).length = n := by
  induction n generalizing v with
  | zero => rfl
  | succ n ih => simp [leBytes, ih]

theorem leBytes_zero (n : Nat) : leBytes n 0 = List.replicate n 0#8 := by
  induction n with
  | zero => rfl
  | succ n ih => simp [leBytes, List.replicate_succ, ih]

theorem leNat_replicate_zero (n : Nat) : leNat (List.replicate n 0#8) = 0 := by
  induction n with
  | zero => rfl
  | succ n ih => simp [leNat, List.replicate_succ, ih]

theorem State.readAt_eq_map (s : State) (p : Place) (i k : Nat) :
    s.readAt p i k = (List.range k).map fun j => s.byte (p.addr (i + j)) := by
  induction k generalizing i with
  | zero => rfl
  | succ k ih =>
    rw [State.readAt, ih, List.range_succ_eq_map, List.map_cons, List.map_map]
    simp only [Function.comp_def, Nat.add_zero, Nat.succ_eq_add_one, Nat.add_assoc, Nat.add_comm 1]

/-- A read rests on the bytes of its range alone. -/
theorem State.readLE_congr {s t : State} {a k : Nat} (h : ∀ j, j < k → t.byte (a + j) = s.byte (a + j)) :
    t.readLE (.flat a) k = s.readLE (.flat a) k := by
  simp only [State.readLE, State.readBytes, State.readAt_eq_map, Place.addr, Nat.zero_add]
  exact congrArg leNat (List.map_congr_left fun j hj => h j (List.mem_range.mp hj))

theorem State.readLE_of_mem {s t : State} (h : t.mem = s.mem) (a k : Nat) :
    t.readLE (.flat a) k = s.readLE (.flat a) k := State.readLE_congr fun _ _ => State.byte_of_mem h _

theorem State.readLE_eq_zero {s : State} {a k : Nat} (h : ∀ j, j < k → s.byte (a + j) = 0#8) :
    s.readLE (.flat a) k = 0 := by
  have hbytes : s.readBytes (.flat a) k = List.replicate k 0#8 := by
    simp only [State.readBytes, State.readAt_eq_map, Place.addr, Nat.zero_add]
    exact List.eq_replicate_iff.mpr ⟨by simp, fun b hb => by
      obtain ⟨j, hj, rfl⟩ := List.mem_map.mp hb
      exact h j (List.mem_range.mp hj)⟩
  rw [State.readLE, hbytes, leNat_replicate_zero]

/-! ### One write of a unit -/

section
variable (s : State) (a : Nat) (bs : List Byte)

theorem State.writeAt_eq (p : Place) (i : Nat) : ∃ m, s.writeAt p i bs = { s with mem := m } := by
  induction bs generalizing s i with
  | nil => exact ⟨s.mem, rfl⟩
  | cons b bs ih => exact (ih (s.setByte (p.addr i) b) (i + 1)).imp fun _ hm => hm

/-- Whole units that are written lose their poison, and nothing else changes (R259). -/
theorem State.wholeUnits_eq (len : Nat) : ∃ k, s.wholeUnits a len = { s with mc := k } ∧
    ∀ u, look (fun _ => false) k.poison u = true → s.poisoned u = true := by
  have hfold : ∀ (is : List Nat) (s : State), ∃ k, is.foldl (fun st i =>
      let u := (a + 255) / 256 + i
      if 256 * u + 256 ≤ a + len then st.setPoison u false else st) s = { s with mc := k } ∧
      ∀ u, look (fun _ => false) k.poison u = true → s.poisoned u = true := by
    intro is
    induction is with
    | nil => exact fun s => ⟨s.mc, rfl, fun _ h => h⟩
    | cons i is ih =>
      intro s
      rw [List.foldl_cons]
      dsimp only
      split
      · obtain ⟨k, hk, hpoison⟩ := ih (s.setPoison ((a + 255) / 256 + i) false)
        refine ⟨k, hk, fun u hu => ?_⟩
        have hset := hpoison u hu
        simp only [State.poisoned, State.setPoison, look_put] at hset
        split at hset
        · cases hset
        · exact hset
      · exact ih s
  unfold State.wholeUnits
  split
  · exact ⟨s.mc, rfl, fun _ h => h⟩
  · exact hfold _ s

/-- A unit's write changes memory, the guarded slots of the cores, and poison. -/
theorem unitWrite_eq : ∃ cs k, unitWrite s a bs = { s with mem := (s.writeBytes (.flat a) bs).mem, cores := cs, mc := k } ∧
    ∀ u, look (fun _ => false) k.poison u = true → s.poisoned u = true := by
  obtain ⟨m, hm⟩ := s.writeAt_eq bs (.flat a) 0
  have hguard : ∃ cs, deviceWrite s a bs = { s with mem := (s.writeBytes (.flat a) bs).mem, cores := cs } := by
    unfold deviceWrite guardMark State.writeBytes
    rw [hm]
    split
    · exact ⟨s.cores, rfl⟩
    · exact ⟨_, rfl⟩
  obtain ⟨cs, hcs⟩ := hguard
  obtain ⟨k, hk, hpoison⟩ := (deviceWrite s a bs).wholeUnits_eq a bs.length
  refine ⟨cs, k, ?_, fun u hu => ?_⟩
  · rw [unitWrite, hk, hcs]
  · have := hpoison u hu
    rwa [hcs] at this

@[simp] theorem unitWrite_mem : (unitWrite s a bs).mem = (s.writeBytes (.flat a) bs).mem := by
  obtain ⟨_, _, h, _⟩ := unitWrite_eq s a bs; rw [h]
@[simp] theorem unitWrite_csr : (unitWrite s a bs).csr = s.csr := by obtain ⟨_, _, h, _⟩ := unitWrite_eq s a bs; rw [h]
@[simp] theorem unitWrite_upd : (unitWrite s a bs).upd = s.upd := by obtain ⟨_, _, h, _⟩ := unitWrite_eq s a bs; rw [h]
@[simp] theorem unitWrite_fab : (unitWrite s a bs).fab = s.fab := by obtain ⟨_, _, h, _⟩ := unitWrite_eq s a bs; rw [h]
@[simp] theorem unitWrite_pending : (unitWrite s a bs).pending = s.pending := by
  obtain ⟨_, _, h, _⟩ := unitWrite_eq s a bs; rw [h]

theorem poisoned_of_unitWrite {u : Nat} (hu : (unitWrite s a bs).poisoned u = true) : s.poisoned u = true := by
  obtain ⟨_, _, h, hpoison⟩ := unitWrite_eq s a bs
  rw [h] at hu
  exact hpoison u hu

/-- The bytes written stand. -/
theorem bytes_unitWrite : Bytes (unitWrite s a bs) a bs := fun j hj => by
  rw [State.byte_of_mem (unitWrite_mem s a bs), State.byte_writeBytes_same s a bs j hj, List.getD_eq_getElem _ _ hj]

/-- Every other byte is as before. -/
theorem memExcept_unitWrite : MemExcept [(a, bs.length)] s (unitWrite s a bs) := fun b hb => by
  rw [State.byte_of_mem (unitWrite_mem s a bs)]
  refine State.byte_writeBytes_ne s (.flat a) bs b fun j hj heq => ?_
  have hout := hb (a, bs.length) (by simp)
  simp only [Place.addr] at heq
  omega

end

/-! ### What stays unchanged, step by step -/

section
variable {s t u : State}

theorem MemExcept.trans {ws xs : List (Nat × Nat)} (h : MemExcept ws s t) (h' : MemExcept xs t u) :
    MemExcept (ws ++ xs) s u := fun a ha =>
  (h' a fun w hw => ha w (List.mem_append_right ws hw)).trans (h a fun w hw => ha w (List.mem_append_left xs hw))

theorem MemExcept.of_mem {ws : List (Nat × Nat)} (h : MemExcept ws s t) (hmem : u.mem = t.mem) : MemExcept ws s u :=
  fun a ha => (State.byte_of_mem hmem a).trans (h a ha)

/-- Fewer bytes may have changed than a larger set of ranges allows. -/
theorem MemExcept.mono {ws xs : List (Nat × Nat)} (h : MemExcept ws s t)
    (hsub : ∀ w ∈ ws, ∃ x ∈ xs, x.1 ≤ w.1 ∧ w.1 + w.2 ≤ x.1 + x.2) : MemExcept xs s t := fun a ha =>
  h a fun w hw => by
    obtain ⟨x, hx, hlo, hhi⟩ := hsub w hw
    have := ha x hx
    omega

/-- Bytes apart from all that changes stand. -/
theorem Bytes.of_memExcept {ws : List (Nat × Nat)} {a : Nat} {bs : List Byte} (h : Bytes s a bs) (hmem : MemExcept ws s t)
    (hapart : ∀ w ∈ ws, a + bs.length ≤ w.1 ∨ w.1 + w.2 ≤ a) : Bytes t a bs := fun k hk =>
  (hmem (a + k) fun w hw => by have := hapart w hw; omega).trans (h k hk)

theorem Bytes.of_mem {a : Nat} {bs : List Byte} (h : Bytes s a bs) (hmem : t.mem = s.mem) : Bytes t a bs :=
  fun k hk => (State.byte_of_mem hmem _).trans (h k hk)

theorem RegsExcept.refl (as : List Nat) (s : State) : RegsExcept as s s := fun _ _ => rfl

theorem RegsExcept.of_csr {as : List Nat} (h : RegsExcept as s t) (hcsr : u.csr = t.csr) : RegsExcept as s u :=
  fun a ha => (State.reg_of_csr hcsr a).trans (h a ha)

theorem RegsExcept.trans {as bs : List Nat} (h : RegsExcept as s t) (h' : RegsExcept bs t u) : RegsExcept (as ++ bs) s u :=
  fun a ha => (h' a fun hb => ha (List.mem_append_right as hb)).trans (h a fun hb => ha (List.mem_append_left bs hb))

theorem RegsExcept.setReg {as : List Nat} (h : RegsExcept as s t) {b : Nat} (v : Word) (hb : b ∈ as) :
    RegsExcept as s (t.setReg b v) := fun a ha =>
  (State.reg_setReg_ne t v fun e : a = b => ha (e ▸ hb)).trans (h a ha)

theorem RegsExcept.setFld {as : List Nat} (h : RegsExcept as s t) {f : Fld} (v : Nat) (hf : f.addr ∈ as) :
    RegsExcept as s (t.setFld f v) := h.setReg _ hf

theorem RegsExcept.incFld {as : List Nat} (h : RegsExcept as s t) {f : Fld} (k : Nat) (hf : f.addr ∈ as) :
    RegsExcept as s (t.incFld f k) := h.setReg _ hf

/-- A field of a register that is not among those that changed. -/
theorem RegsExcept.fld {as : List Nat} (h : RegsExcept as s t) {f : Fld} (hf : f.addr ∉ as) : t.fld f = s.fld f := by
  rw [State.fld, h _ hf, State.fld]

end

/-! ### Several writes, one after the other -/

/-- The writes of a list made by a unit, in order. -/
def unitWrites (s : State) (ws : List (Nat × List Byte)) : State := ws.foldl (fun st w => unitWrite st w.1 w.2) s

section
variable (s : State) (ws : List (Nat × List Byte))

@[simp] theorem unitWrites_cons (w : Nat × List Byte) : unitWrites s (w :: ws) = unitWrites (unitWrite s w.1 w.2) ws := rfl
@[simp] theorem unitWrites_csr : (unitWrites s ws).csr = s.csr := by
  induction ws generalizing s with
  | nil => rfl
  | cons w ws ih => simp [ih]
@[simp] theorem unitWrites_upd : (unitWrites s ws).upd = s.upd := by
  induction ws generalizing s with
  | nil => rfl
  | cons w ws ih => simp [ih]
@[simp] theorem unitWrites_pending : (unitWrites s ws).pending = s.pending := by
  induction ws generalizing s with
  | nil => rfl
  | cons w ws ih => simp [ih]

/-- Bytes outside every range written are as before. -/
theorem memExcept_unitWrites : MemExcept (spans ws) s (unitWrites s ws) := by
  induction ws generalizing s with
  | nil => exact fun _ _ => rfl
  | cons w ws ih => exact (memExcept_unitWrite s w.1 w.2).trans (ih (unitWrite s w.1 w.2))

/-- Where no two ranges share a byte, every list of bytes written stands. -/
theorem bytes_unitWrites (hapart : Apart (spans ws)) : ∀ x ∈ ws, Bytes (unitWrites s ws) x.1 x.2 := by
  induction ws generalizing s with
  | nil => exact fun x hx => absurd hx List.not_mem_nil
  | cons w ws ih =>
    obtain ⟨hw, hws⟩ := List.pairwise_cons.mp hapart
    intro x hx
    rcases List.mem_cons.mp hx with rfl | hx
    · exact (bytes_unitWrite s x.1 x.2).of_memExcept (memExcept_unitWrites _ ws) hw
    · exact ih (unitWrite s w.1 w.2) hws x hx

end

end Sys2Proof.Machine
end

section
/-! SUPPORT. The update units: what taking a command leaves alone, and the work of a command as one explicit next state for each of
its outcomes (R303 to R315). -/

namespace Sys2Proof.Machine

/-! ### The unit's own record -/

@[simp] theorem updOf_setUpd_same (s : State) (c : Nat) (u : Upd) : updOf (setUpd s c u) c = u := look_put_same _ _ _
@[simp] theorem setUpd_csr (s : State) (c : Nat) (u : Upd) : (setUpd s c u).csr = s.csr := rfl
@[simp] theorem setUpd_mem (s : State) (c : Nat) (u : Upd) : (setUpd s c u).mem = s.mem := rfl
@[simp] theorem setUpd_cores (s : State) (c : Nat) (u : Upd) : (setUpd s c u).cores = s.cores := rfl
@[simp] theorem setUpd_pending (s : State) (c : Nat) (u : Upd) : (setUpd s c u).pending = s.pending := rfl

/-- The work of command r is done and its status noted. -/
def updNoted (s : State) (c : Nat) (r : UpdRec) (st : Nat) : State := setUpd s c { updOf s c with cur := some ⟨r, none, st⟩ }

@[simp] theorem updNoted_csr (s : State) (c : Nat) (r : UpdRec) (st : Nat) : (updNoted s c r st).csr = s.csr := rfl
@[simp] theorem updNoted_mem (s : State) (c : Nat) (r : UpdRec) (st : Nat) : (updNoted s c r st).mem = s.mem := rfl
@[simp] theorem updNoted_cores (s : State) (c : Nat) (r : UpdRec) (st : Nat) : (updNoted s c r st).cores = s.cores := rfl
@[simp] theorem updNoted_pending (s : State) (c : Nat) (r : UpdRec) (st : Nat) : (updNoted s c r st).pending = s.pending := rfl
@[simp] theorem updOf_updNoted (s : State) (c : Nat) (r : UpdRec) (st : Nat) :
    (updOf (updNoted s c r st) c).cur = some ⟨r, none, st⟩ := by simp [updNoted]

/-- The counts of a finished pass: parameters handled and values that are not finite. -/
def updCounted (s : State) (c done nonfin : Nat) : State :=
  (s.incFld (F.UPD_PARAMS_COUNT c) done).incFld (F.UPD_NONFINITE_COUNT c) nonfin

/-! ### Computations rest on memory -/

section
variable {s t : State} (hmem : t.mem = s.mem)
include hmem

theorem updGrad_of_mem (g : Group) (r : UpdRec) (i : Nat) : updGrad t g r i = updGrad s g r i := by
  simp only [updGrad, rdL96, rdBF16, State.readLE_of_mem hmem]

theorem rdMom_of_mem (g : Group) (a : Nat) : rdMom t g a = rdMom s g a := by
  simp only [rdMom, rdBF16, rdF32, State.readLE_of_mem hmem]

theorem updRule_of_mem (g : Group) (r : UpdRec) (k : Coef) (f : Factors) (i : Nat) :
    updRule t g r k f i = updRule s g r k f i := by
  unfold updRule
  simp only [updGrad_of_mem hmem, rdMom_of_mem hmem]

theorem updParam_of_mem (g : Group) (r : UpdRec) (k : Coef) (f : Factors) (i : Nat) :
    updParam t g r k f i = updParam s g r k f i := by
  simp only [updParam, updRule_of_mem hmem, rdF32, rdBF16, State.readLE_of_mem hmem]

end

theorem poisonedUnits_eq_nil {s t : State} (h : ∀ u, t.poisoned u = true → s.poisoned u = true) {a len : Nat}
    (hs : poisonedUnits s a len = []) : poisonedUnits t a len = [] := by
  unfold poisonedUnits at hs ⊢
  split
  · rfl
  · next hin =>
    rw [if_neg hin, List.filterMap_eq_nil_iff] at hs
    refine List.filterMap_eq_nil_iff.mpr fun i hi => if_neg fun hp => ?_
    have := hs i hi
    rw [if_pos (h _ hp)] at this
    cases this

/-! ### A command is taken -/

/-- s' differs from s in the status and the hold counter of unit c alone, as after the unit has taken or released a command. -/
structure UpdStart (c : Nat) (s s' : State) : Prop where
  mem : s'.mem = s.mem
  mc : s'.mc = s.mc
  upd : s'.upd = s.upd
  jrn : s'.jrn = s.jrn
  cores : s'.cores = s.cores
  pending : s'.pending = s.pending
  regs : RegsExcept [R.UPD_STATUS c, R.MIRROR_HOLD c] s s'

namespace UpdStart
variable {c : Nat} {s s' : State} (h : UpdStart c s s')
include h

theorem updOf_eq : updOf s' c = updOf s c := by rw [updOf, h.upd, updOf]

theorem poisonedUnits_eq (a len : Nat) : poisonedUnits s' a len = poisonedUnits s a len := by
  unfold poisonedUnits State.poisoned
  rw [h.mc]

theorem updGroup_eq (r : UpdRec) : updGroup s' c r = updGroup s c r := by
  have husable : usableEnd s' = usableEnd s := by
    rw [usableEnd, State.flag, h.regs.fld (by simp [R.MC_STATUS, R.UPD_STATUS, R.MIRROR_HOLD]; omega), usableEnd, State.flag]
  rw [updGroup, h.updOf_eq, husable, updGroup]

theorem mirrorHolds_eq (hc : c < 16) (step : Nat) : mirrorHolds s' step = mirrorHolds s step := by
  have hrole : pairRole s' = pairRole s := h.regs.fld (by simp [R.PAIR_CTRL, R.UPD_STATUS, R.MIRROR_HOLD]; omega)
  have hputs : mirrorPuts s' = mirrorPuts s := by rw [mirrorPuts, h.jrn, mirrorPuts]
  rw [mirrorHolds, hrole, h.jrn, hputs, mirrorHolds]

end UpdStart

/-- Unit c has read command r: it is busy with the command's group (R315). -/
def updTaken (s : State) (c : Nat) (r : UpdRec) : State := (s.setFld (F.UPD_STATUS_BUSY c) 1).setFld (F.UPD_STATUS_CUR_GID c) r.gid

theorem updTaken_regs (s : State) (c : Nat) (r : UpdRec) : RegsExcept [R.UPD_STATUS c] s (updTaken s c r) :=
  ((RegsExcept.refl _ s).setFld 1 (by simp)).setFld r.gid (by simp)

theorem updTaken_start (s : State) (c : Nat) (r : UpdRec) : UpdStart c s (updTaken s c r) :=
  ⟨rfl, rfl, rfl, rfl, rfl, rfl, ((RegsExcept.refl _ s).setFld 1 (by simp)).setFld r.gid (by simp)⟩

theorem updTaken_busy (s : State) (c : Nat) (r : UpdRec) : (updTaken s c r).fld (F.UPD_STATUS_BUSY c) = 1 := by
  rw [updTaken, State.fld_setFld_ne _ _ _ _ (by simp), State.fld_setFld_same _ _ _ (by simp)]
  rfl

/-- The hold of a command of unit c has been released (R24). -/
def updReleased (s : State) (c t0 : Nat) : State :=
  (s.setFld (F.UPD_STATUS_HOLDING c) 0).incFld (F.MIRROR_HOLD_CYCLES c) ((s.now - t0) * 8 / 7)

theorem updReleased_start (s : State) (c t0 : Nat) : UpdStart c s (updReleased s c t0) :=
  ⟨rfl, rfl, rfl, rfl, rfl, rfl, ((RegsExcept.refl _ s).setFld 0 (by simp)).incFld _ (by simp)⟩

section
variable {s : State} {c : Nat} {mine : UpdRec → Bool} {bad : List Nat}

/-- No command is due: nothing happens. -/
theorem updBegin_of_not_due (h : ¬ updDue s c) : updBegin s c mine bad = s := by
  refine if_pos ?_
  unfold updDue at h
  by_contra hn
  simp only [not_or, not_not] at hn
  exact h hn

/-- The command at HEAD is one of another row: nothing happens. -/
theorem updBegin_of_not_mine (h : mine (updNext s c) = false) : updBegin s c mine bad = s := by
  unfold updBegin
  split
  · rfl
  · simp [h]

variable (hdue : updDue s c) (hmine : mine (updNext s c) = true)
include hdue hmine

theorem updBegin_due : updBegin s c mine bad =
    if (updNext s c).op == 1 && (updGroup (updTaken s c (updNext s c)) c (updNext s c)).isSome &&
        mirrorHolds (updTaken s c (updNext s c)) (updNext s c).step then
      let s2 := ((updTaken s c (updNext s c)).setFld (F.UPD_STATUS_HOLDING c) 1).incFld (F.MIRROR_HOLD_HOLDS c) 1
      setUpd s2 c { updOf s2 c with cur := some ⟨updNext s c, some s2.now, 0⟩ }
    else updWork (bad.foldl (fun st u => mcUncorrRow st u 1 0) (updTaken s c (updNext s c))) c (updNext s c) := by
  obtain ⟨hon, hne, hfree⟩ := hdue
  unfold updBegin
  rw [if_neg (by simp [hon, hne, hfree])]
  dsimp only
  rw [hmine]
  rfl

/-- A command that the mirror does not hold does its work. -/
theorem updBegin_works (hc : c < 16) (hfree : (updNext s c).op = 1 → (updGroup s c (updNext s c)).isSome = true →
    mirrorHolds s (updNext s c).step = false) :
    updBegin s c mine [] = updWork (updTaken s c (updNext s c)) c (updNext s c) := by
  have hstart := updTaken_start s c (updNext s c)
  rw [updBegin_due hdue hmine, hstart.updGroup_eq, hstart.mirrorHolds_eq hc]
  refine if_neg fun hheld => ?_
  simp only [Bool.and_eq_true, beq_iff_eq] at hheld
  obtain ⟨⟨hop, hsome⟩, hholds⟩ := hheld
  exact absurd hholds (by simp [hfree hop hsome])

/-- An UPDATE of a step that is still mirrored is held (R24). -/
theorem updBegin_holds (hc : c < 16) {g : Group} (hop : (updNext s c).op = 1) (hg : updGroup s c (updNext s c) = some g)
    (hheld : mirrorHolds s (updNext s c).step = true) :
    updBegin s c mine bad = setUpd
      (((updTaken s c (updNext s c)).setFld (F.UPD_STATUS_HOLDING c) 1).incFld (F.MIRROR_HOLD_HOLDS c) 1) c
      { updOf s c with cur := some ⟨updNext s c, some s.now, 0⟩ } := by
  have hstart := updTaken_start s c (updNext s c)
  rw [updBegin_due hdue hmine, hstart.updGroup_eq, hstart.mirrorHolds_eq hc, hop, hg, hheld]
  rfl

end

/-! ### The work of a command -/

/-- Command r is an UPDATE of the group g by its next step, and parameter i is the only one that unit c owns: its reads are
sound and its writes touch no byte twice. -/
structure UpdatesOne (c : Nat) (g : Group) (r : UpdRec) (i : Nat) (s : State) : Prop where
  group : updGroup s c r = some g
  op : r.op = 1
  started : r.step ≠ 0
  next : r.step = s.readLE (.flat g.hdr) 8 + 1
  rule : g.rule ≠ 4
  owned : updOwned g c = [i]
  sound : ∀ x ∈ updReads g r i, poisonedUnits s x.1 x.2 = []
  apart : Apart (spans (updParam s g r r.coef ⟨[], [], XVal.one⟩ i).1 ++ [(g.hdr, 8)])

theorem UpdatesOne.of_start {c : Nat} {g : Group} {r : UpdRec} {i : Nat} {s s' : State} (h : UpdatesOne c g r i s)
    (hs : UpdStart c s s') : UpdatesOne c g r i s' where
  group := (hs.updGroup_eq r).trans h.group
  op := h.op
  started := h.started
  next := by rw [State.readLE_of_mem hs.mem]; exact h.next
  rule := h.rule
  owned := h.owned
  sound := fun x hx => (hs.poisonedUnits_eq x.1 x.2).trans (h.sound x hx)
  apart := by rw [updParam_of_mem hs.mem]; exact h.apart

/-- The partial sums of unit c set to zero. -/
def partialsCleared (s : State) (c : Nat) (g : Group) : State :=
  unitWrite s (partialAt g c 0) (leBytes (12 * (g.rows + g.cols)) 0)

section
variable {s : State} {c : Nat} {r : UpdRec}

theorem updWork_of_bad (h : updGroup s c r = none) : updWork s c r = updNoted s c r 3 := by
  rw [updWork, h]
  rfl

theorem updEach_one {i : Nat} {reads : Nat → List (Nat × Nat)} (f : State → Nat → List (Nat × List Byte) × Bool)
    (hsound : ∀ x ∈ reads i, poisonedUnits s x.1 x.2 = []) :
    updEach s [i] reads f = ⟨unitWrites s (f s i).1, 1, b2n (!(f s i).2), [], []⟩ := by
  have hnone : (reads i).flatMap (fun x => poisonedUnits s x.1 x.2) = [] := List.flatMap_eq_nil_iff.mpr hsound
  simp only [updEach, List.foldl_cons, List.foldl_nil, hnone, ne_eq, not_true_eq_false, if_false, Nat.zero_add]
  rfl

/-- UPDATE of a group of which the unit owns one parameter (R309). -/
theorem UpdatesOne.updWork_eq {g : Group} {i : Nat} (h : UpdatesOne c g r i s) :
    updWork s c r =
      let o := updParam s g r r.coef ⟨[], [], XVal.one⟩ i
      updNoted (unitWrite (updCounted (unitWrites s o.1) c 1 (b2n (!o.2))) g.hdr (leBytes 8 r.step)) c r
        (if o.2 = true then 1 else 129) := by
  have hop := h.op
  have hnext : ¬ (r.step = 0 ∨ r.step ≠ s.readLE (.flat g.hdr) 8 + 1) := fun hn => hn.elim h.started fun hne => hne h.next
  have hrun : runUpdate s c g r =
      let o := updParam s g r r.coef ⟨[], [], XVal.one⟩ i
      (unitWrite (updCounted (unitWrites s o.1) c 1 (b2n (!o.2))) g.hdr (leBytes 8 r.step), if o.2 = true then 1 else 129) := by
    rw [runUpdate]
    dsimp only
    rw [if_neg hnext]
    simp only [h.rule, if_false, ne_eq, not_true_eq_false, h.owned]
    rw [updEach_one _ h.sound]
    cases (updParam s g r r.coef ⟨[], [], XVal.one⟩ i).2 <;> rfl
  rw [updWork, h.group]
  dsimp only
  rw [if_neg (by omega), if_neg (by omega), hrun]
  rfl

variable {g : Group} {i : Nat} (hg : updGroup s c r = some g)
include hg

/-- UPDATE of the wrong step changes nothing and notes STEP_MISMATCH (R307). -/
theorem updWork_update_wrongStep (hop : r.op = 1) (hstep : r.step = 0 ∨ r.step ≠ s.readLE (.flat g.hdr) 8 + 1) :
    updWork s c r = updNoted s c r 2 := by
  rw [updWork, hg]
  dsimp only
  rw [if_neg (by omega), if_neg (by omega), runUpdate, if_pos hstep]
  rfl

/-- GACC of a group of which the unit owns one parameter (R312). -/
theorem updWork_gacc (hop : r.op = 3) (hown : updOwned g c = [i]) (hacc : poisonedUnits s (g.gaccum + 12 * i) 12 = [])
    (hsrc : poisonedUnits s (r.src + 2 * i) 2 = []) :
    updWork s c r =
      let p := (d32 r.gscale).mul (rdBF16 s (r.src + 2 * i))
      updNoted (updCounted (unitWrite s (g.gaccum + 12 * i)
        (leBytes 12 ((L96.dec (rdL96 s (g.gaccum + 12 * i))).add (Tot.ofX p.1 p.2)).enc.toNat)) c 1 0) c r 1 := by
  rw [updWork, hg]
  dsimp only
  rw [if_neg (by omega), if_pos hop, runGacc, hown, updEach_one _ (by simp [hacc, hsrc])]
  rfl

/-- FSTAT of a group of which the unit owns one parameter (R311). -/
theorem updWork_fstat (hop : r.op = 2) (hown : updOwned g c = [i])
    (hsound : poisonedUnits s (gradRange g r i).1 (gradRange g r i).2 = []) :
    updWork s c r =
      let z := partialsCleared s c g
      let q := lAdd (lMul (updGrad z g r i) (updGrad z g r i)) (d32 r.eps)
      let sum (k : Nat) : Nat × List Byte :=
        (partialAt g c k, leBytes 12 ((L96.dec (rdL96 z (partialAt g c k))).add (Tot.ofX q false)).enc.toNat)
      updNoted ((unitWrites z [sum (i / g.cols), sum (g.rows + i % g.cols)]).incFld (F.UPD_NONFINITE_COUNT c) 0) c r 1 := by
  have hsound' : ∀ x ∈ [gradRange g r i], poisonedUnits (partialsCleared s c g) x.1 x.2 = [] :=
    List.forall_mem_singleton.mpr (poisonedUnits_eq_nil (fun u => poisoned_of_unitWrite s _ _) hsound)
  rw [updWork, hg]
  dsimp only
  rw [if_pos hop, runFstat, hown]
  dsimp only
  rw [← partialsCleared, updEach_one _ hsound']
  rfl

end

end Sys2Proof.Machine
end

section
/-! SUPPORT. What the work of an update unit's command leaves in memory and registers: UPDATE, FSTAT, GACC (R306 to R312). -/

namespace Sys2Proof.Machine

/-! ### UPDATE -/

section
variable (s : State) (c done nonfin : Nat)

@[simp] theorem updCounted_mem : (updCounted s c done nonfin).mem = s.mem := rfl
@[simp] theorem updCounted_pending : (updCounted s c done nonfin).pending = s.pending := rfl

theorem updCounted_regs : RegsExcept [R.UPD_PARAMS c, R.UPD_NONFINITE c] s (updCounted s c done nonfin) :=
  ((RegsExcept.refl _ s).incFld done (by simp)).incFld nonfin (by simp)

theorem updCounted_params : (updCounted s c done nonfin).fld (F.UPD_PARAMS_COUNT c) = s.sat (F.UPD_PARAMS_COUNT c) done := by
  rw [updCounted, State.fld_incFld_ne _ _ _ _ (by simp), State.fld_incFld_same _ _ _ (by simp)]
  rfl

theorem updCounted_nonfinite :
    (updCounted s c done nonfin).fld (F.UPD_NONFINITE_COUNT c) = s.sat (F.UPD_NONFINITE_COUNT c) nonfin := by
  rw [updCounted, State.fld_incFld_same _ _ _ (by simp), State.fld_incFld_ne _ _ _ _ (by simp)]
  rfl

end

theorem State.sat_of_csr {s t : State} (h : t.csr = s.csr) (f : Fld) (k : Nat) : t.sat f k = s.sat f k := by
  rw [State.sat, State.fld_of_csr h, State.sat]

theorem State.sat_of_regs {s t : State} {as : List Nat} (h : RegsExcept as s t) {f : Fld} (hf : f.addr ∉ as) (k : Nat) :
    t.sat f k = s.sat f k := by
  rw [State.sat, h.fld hf, State.sat]

/-- Writes of which no two share a byte, and one more after them: all of them stand, and nothing else changes. -/
theorem writes_then_write {s w t : State} {ws : List (Nat × List Byte)} {a : Nat} {bs : List Byte}
    (hw : w.mem = (unitWrites s ws).mem) (ht : t.mem = (unitWrite w a bs).mem) (hapart : Apart (spans ws ++ [(a, bs.length)])) :
    (∀ x ∈ ws, Bytes t x.1 x.2) ∧ Bytes t a bs ∧ MemExcept (spans ws ++ [(a, bs.length)]) s t := by
  obtain ⟨hws, -, hlast⟩ := List.pairwise_append.mp hapart
  have hlater : MemExcept [(a, bs.length)] w t := (memExcept_unitWrite w a bs).of_mem ht
  refine ⟨fun x hx => ?_, (bytes_unitWrite w a bs).of_mem ht, ((memExcept_unitWrites s ws).of_mem hw).trans hlater⟩
  exact ((bytes_unitWrites s ws hws x hx).of_mem hw).of_memExcept hlater
    (hlast (x.1, x.2.length) (List.mem_map_of_mem hx))

/-- UPDATE of one parameter: its writes, the group's step, the counts and the status (R306, R307, R309). -/
theorem UpdatesOne.paramUpdated {c : Nat} {g : Group} {r : UpdRec} {i : Nat} {s : State} (h : UpdatesOne c g r i s) :
    ParamUpdated c g r i s (updWork s c r) ∧ RegsExcept [R.UPD_PARAMS c, R.UPD_NONFINITE c] s (updWork s c r) ∧
      (updWork s c r).pending = s.pending := by
  have heq := h.updWork_eq
  have hapart := h.apart
  rw [← leBytes_length 8 r.step] at hapart
  dsimp only at heq
  generalize updWork s c r = t at heq ⊢
  generalize hw : updCounted (unitWrites s (updParam s g r r.coef ⟨[], [], XVal.one⟩ i).1) c 1
    (b2n (!(updParam s g r r.coef ⟨[], [], XVal.one⟩ i).2)) = w at heq
  have hcsr := unitWrites_csr s (updParam s g r r.coef ⟨[], [], XVal.one⟩ i).1
  have htw : t.csr = w.csr := by rw [heq, updNoted_csr, unitWrite_csr]
  obtain ⟨hwrites, hstep, hothers⟩ := writes_then_write (s := s) (w := w) (t := t)
    (by rw [← hw, updCounted_mem]) (by rw [heq, updNoted_mem]) hapart
  rw [leBytes_length] at hothers
  refine ⟨⟨hwrites, hstep, hothers, ?_, ?_, ?_⟩, ?_, ?_⟩
  · rw [State.fld_of_csr htw, ← hw, updCounted_params, State.sat_of_csr hcsr]
  · rw [State.fld_of_csr htw, ← hw, updCounted_nonfinite, State.sat_of_csr hcsr]
    cases (updParam s g r r.coef ⟨[], [], XVal.one⟩ i).2 <;> rfl
  · rw [heq, updOf_updNoted]
  · refine RegsExcept.of_csr ?_ htw
    rw [← hw]
    exact ((RegsExcept.refl [] s).of_csr hcsr).trans (updCounted_regs _ c 1 _)
  · rw [heq, updNoted_pending, unitWrite_pending, ← hw, updCounted_pending, unitWrites_pending]

/-- The counts and the bytes left are the same seen from the state before the command was taken or released. -/
theorem ParamUpdated.of_start {c : Nat} {g : Group} {r : UpdRec} {i : Nat} {s s' t : State} (hs : UpdStart c s s')
    (h : ParamUpdated c g r i s' t) : ParamUpdated c g r i s t := by
  obtain ⟨hwrites, hstep, hothers, hparams, hfinite, hstatus⟩ := h
  rw [updParam_of_mem hs.mem] at hwrites hothers hfinite hstatus
  rw [State.sat_of_regs hs.regs (by simp)] at hparams hfinite
  exact ⟨hwrites, hstep, fun a ha => (hothers a ha).trans (State.byte_of_mem hs.mem a), hparams, hfinite, hstatus⟩

/-! ### FSTAT and GACC -/

theorem updGrad_congr {s t : State} {g : Group} {r : UpdRec} {i : Nat}
    (h : ∀ j, j < (gradRange g r i).2 → t.byte ((gradRange g r i).1 + j) = s.byte ((gradRange g r i).1 + j)) :
    updGrad t g r i = updGrad s g r i := by
  have hread := State.readLE_congr h
  unfold gradRange at hread
  unfold updGrad
  cases hsrc : r.gsrc
  · rw [hsrc] at hread
    simp only [Bool.false_eq_true, if_false, rdBF16] at hread ⊢
    rw [hread]
  · rw [hsrc] at hread
    simp only [if_true, rdL96] at hread ⊢
    rw [hread]

/-- The partial sums of a unit stand one after the other. -/
theorem partialAt_eq (g : Group) (c k : Nat) : partialAt g c k = partialAt g c 0 + 12 * k := by
  unfold partialAt
  ring

section
variable (s : State) (c : Nat) (g : Group)

theorem bytes_partialsCleared {k : Nat} (hk : k < g.rows + g.cols) :
    Bytes (partialsCleared s c g) (partialAt g c k) (leBytes 12 0) := fun j hj => by
  rw [leBytes_length] at hj
  have hall := bytes_unitWrite s (partialAt g c 0) (leBytes (12 * (g.rows + g.cols)) 0) (12 * k + j) (by simp; omega)
  rw [partialAt_eq g c k, Nat.add_assoc, partialsCleared, hall]
  simp only [leBytes_zero]
  rw [List.getD_replicate _ (by omega), List.getD_replicate _ hj]

theorem rdL96_partialsCleared {k : Nat} (hk : k < g.rows + g.cols) :
    rdL96 (partialsCleared s c g) (partialAt g c k) = 0#96 := by
  have hzero : (partialsCleared s c g).readLE (.flat (partialAt g c k)) 12 = 0 := State.readLE_eq_zero fun j hj => by
    rw [bytes_partialsCleared s c g hk j (by simpa using hj), leBytes_zero, List.getD_replicate _ hj]
  rw [rdL96, hzero]

theorem memExcept_partialsCleared :
    MemExcept [(partialAt g c 0, 12 * (g.rows + g.cols))] s (partialsCleared s c g) := by
  have h := memExcept_unitWrite s (partialAt g c 0) (leBytes (12 * (g.rows + g.cols)) 0)
  rwa [leBytes_length] at h

end

/-- Two different sums written over partial sums that are 0: these two stand, the others stay 0, nothing else changes. -/
theorem two_sums_written {z : State} {g : Group} {c a b : Nat} (hab : a < b) (hb : b < g.rows + g.cols)
    (hzero : ∀ k, k < g.rows + g.cols → Bytes z (partialAt g c k) (leBytes 12 0)) (sum : Nat) :
    let t := unitWrites z [(partialAt g c a, leBytes 12 sum), (partialAt g c b, leBytes 12 sum)]
    (∀ k, k < g.rows + g.cols →
        Bytes t (partialAt g c k) (if k = a ∨ k = b then leBytes 12 sum else leBytes 12 0)) ∧
      MemExcept [(partialAt g c 0, 12 * (g.rows + g.cols))] z t := by
  have haddr := partialAt_eq g c
  have hspans : spans [(partialAt g c a, leBytes 12 sum), (partialAt g c b, leBytes 12 sum)] =
      [(partialAt g c a, 12), (partialAt g c b, 12)] := by simp [spans]
  have hexcept := memExcept_unitWrites z [(partialAt g c a, leBytes 12 sum), (partialAt g c b, leBytes 12 sum)]
  have hstand := bytes_unitWrites z [(partialAt g c a, leBytes 12 sum), (partialAt g c b, leBytes 12 sum)] (by
    rw [hspans]
    refine List.pairwise_pair.mpr (.inl ?_)
    rw [haddr a, haddr b]
    omega)
  rw [hspans] at hexcept
  refine ⟨fun k hk => ?_, hexcept.mono fun w hw => ⟨_, List.mem_singleton.mpr rfl, ?_⟩⟩
  · split
    · next hsum => rcases hsum with rfl | rfl <;> exact hstand (partialAt g c k, leBytes 12 sum) (by simp)
    · next hother =>
      refine (hzero k hk).of_memExcept hexcept fun w hw => ?_
      rw [leBytes_length, haddr k]
      rcases List.mem_pair.mp hw with rfl | rfl
      · rw [haddr a]
        omega
      · rw [haddr b]
        omega
  · rcases List.mem_pair.mp hw with rfl | rfl
    · rw [haddr a]
      omega
    · rw [haddr b]
      omega

/-- What FSTAT leaves when unit c owns the one parameter i: i's sum at its row and its column, zero at every other (R311). -/
theorem updWork_fstat_sums {s : State} {c : Nat} {g : Group} {r : UpdRec} {i : Nat} (hg : updGroup s c r = some g)
    (hop : r.op = 2) (hown : updOwned g c = [i]) (hsound : poisonedUnits s (gradRange g r i).1 (gradRange g r i).2 = [])
    (hi : i < g.rows * g.cols) (hapart : Apart [gradRange g r i, (partialAt g c 0, 12 * (g.rows + g.cols))]) :
    let sum := ((L96.dec 0#96).add (Tot.ofX (lAdd (lMul (updGrad s g r i) (updGrad s g r i)) (d32 r.eps)) false)).enc.toNat
    let t := updWork s c r
    (updOf t c).cur = some ⟨r, none, 1⟩ ∧
      (∀ k, k < g.rows + g.cols → Bytes t (partialAt g c k)
        (if k = i / g.cols ∨ k = g.rows + i % g.cols then leBytes 12 sum else leBytes 12 0)) ∧
      MemExcept [(partialAt g c 0, 12 * (g.rows + g.cols))] s t ∧ RegsExcept [R.UPD_NONFINITE c] s t ∧ t.pending = s.pending := by
  have hcols : 0 < g.cols := Nat.pos_of_ne_zero fun h0 => by simp [h0] at hi
  have hrow : i / g.cols < g.rows := Nat.div_lt_of_lt_mul (by rwa [Nat.mul_comm])
  have hcol : i % g.cols < g.cols := Nat.mod_lt i hcols
  have hcleared := memExcept_partialsCleared s c g
  have hgrad : updGrad (partialsCleared s c g) g r i = updGrad s g r i := updGrad_congr fun j hj =>
    hcleared _ (List.forall_mem_singleton.mpr (by
      have := List.pairwise_pair.mp hapart
      dsimp only at this ⊢
      omega))
  have heq := updWork_fstat hg hop hown hsound
  dsimp only at heq ⊢
  rw [hgrad, rdL96_partialsCleared s c g (by omega), rdL96_partialsCleared s c g (by omega)] at heq
  generalize ((L96.dec 0#96).add (Tot.ofX (lAdd (lMul (updGrad s g r i) (updGrad s g r i)) (d32 r.eps)) false)).enc.toNat = sum
    at heq ⊢
  obtain ⟨hsums, hexcept⟩ := two_sums_written (z := partialsCleared s c g) (show i / g.cols < g.rows + i % g.cols by omega)
    (by omega) (fun k hk => bytes_partialsCleared s c g hk) sum
  rw [heq]
  refine ⟨updOf_updNoted _ c r 1, fun k hk => (hsums k hk).of_mem rfl,
    fun a ha => (hexcept a ha).trans (hcleared a ha), ?_, by simp [partialsCleared]⟩
  exact (((RegsExcept.refl [R.UPD_NONFINITE c] s).of_csr (unitWrite_csr s _ _)).of_csr
    (unitWrites_csr (partialsCleared s c g) _)).incFld 0 (by simp)

/-- What GACC leaves when unit c owns the one parameter i: its accumulator with the product added, and the count (R312). -/
theorem updWork_gacc_sum {s : State} {c : Nat} {g : Group} {r : UpdRec} {i : Nat} (hg : updGroup s c r = some g)
    (hop : r.op = 3) (hown : updOwned g c = [i]) (hacc : poisonedUnits s (g.gaccum + 12 * i) 12 = [])
    (hsrc : poisonedUnits s (r.src + 2 * i) 2 = []) :
    let p := (d32 r.gscale).mul (rdBF16 s (r.src + 2 * i))
    let t := updWork s c r
    (updOf t c).cur = some ⟨r, none, 1⟩ ∧
      Bytes t (g.gaccum + 12 * i) (leBytes 12 ((L96.dec (rdL96 s (g.gaccum + 12 * i))).add (Tot.ofX p.1 p.2)).enc.toNat) ∧
      MemExcept [(g.gaccum + 12 * i, 12)] s t ∧ t.fld (F.UPD_PARAMS_COUNT c) = s.sat (F.UPD_PARAMS_COUNT c) 1 ∧
      RegsExcept [R.UPD_PARAMS c, R.UPD_NONFINITE c] s t ∧ t.pending = s.pending := by
  have heq := updWork_gacc hg hop hown hacc hsrc
  dsimp only at heq ⊢
  generalize hbs : leBytes 12 ((L96.dec (rdL96 s (g.gaccum + 12 * i))).add (Tot.ofX
    ((d32 r.gscale).mul (rdBF16 s (r.src + 2 * i))).1 ((d32 r.gscale).mul (rdBF16 s (r.src + 2 * i))).2)).enc.toNat = bs at heq ⊢
  have hlen : bs.length = 12 := by rw [← hbs, leBytes_length]
  have hexcept := memExcept_unitWrite s (g.gaccum + 12 * i) bs
  rw [hlen] at hexcept
  have hcsr := unitWrite_csr s (g.gaccum + 12 * i) bs
  rw [heq]
  refine ⟨updOf_updNoted _ c r 1, (bytes_unitWrite s _ bs).of_mem rfl, hexcept.of_mem rfl, ?_, ?_, ?_⟩
  · rw [State.fld_of_csr (updNoted_csr _ c r 1), updCounted_params, State.sat_of_csr hcsr]
  · exact (((RegsExcept.refl [] s).of_csr hcsr).trans (updCounted_regs _ c 1 0)).of_csr rfl
  · rw [updNoted_pending, updCounted_pending, unitWrite_pending]

end Sys2Proof.Machine
end

section
/-! SUPPORT. The completion of an update unit's command (R316) and the registers of its ring (Table 12.6). -/

namespace Sys2Proof.Machine

/-! ### Completion -/

/-- A message to an address is in line after those before it, and nothing else changes (R154). -/
theorem notify_eq (s : State) (addr val : Nat) :
    ∃ fab, notify s addr val = { s with fab := fab } ∧ Notified addr val s (notify s addr val) := by
  unfold notify Notified
  split
  · exact ⟨s.fab, rfl, by simp⟩
  · exact ⟨_, rfl, by simp [State.issueTx]⟩

/-- FAULTED of the open step is set (R483); only the journal changes. -/
theorem setFaulted_spec (s : State) : RegsExcept [R.JRN_STATUS] s (setFaulted s) ∧ (setFaulted s).mem = s.mem ∧
    (setFaulted s).upd = s.upd ∧ (setFaulted s).fab = s.fab ∧ (setFaulted s).pending = s.pending ∧
    (jrnOpen s = true → ((setFaulted s).fld F.JRN_STATUS_FLAGS).testBit 0 = true) := by
  unfold setFaulted
  split
  · refine ⟨(RegsExcept.refl _ s).setFld _ (by simp), rfl, rfl, rfl, rfl, fun _ => ?_⟩
    have hset : (pushChg (s.orFld F.JRN_STATUS_FLAGS 1) (.fault (s.fld F.JRN_STATUS_STEP))).fld F.JRN_STATUS_FLAGS =
      (s.fld F.JRN_STATUS_FLAGS ||| 1) % 2 ^ 4 := State.fld_setFld_same s F.JRN_STATUS_FLAGS _ (by simp)
    rw [hset, Nat.testBit_mod_two_pow, Nat.testBit_or]
    simp
  · next hskip =>
    refine ⟨RegsExcept.refl _ s, rfl, rfl, rfl, rfl, fun hopen => ?_⟩
    simpa [hopen] using hskip

/-- Command q has completed: STATUS, NOTIFY, HEAD, the unit free (R316). -/
def updEnded (s : State) (c : Nat) (q : UpdRec) (st : Nat) : State :=
  let s2 := notify (unitWrite s (q.addr + 60) (leBytes 1 st)) q.notify q.nval
  let s4 := ((s2.setFld (F.UPD_PTR_HEAD c) ((updHead s2 c + 1) % 2 ^ 32)).setFld (F.UPD_STATUS_BUSY c) 0).setFld
    (F.UPD_STATUS_CUR_GID c) 0
  setUpd s4 c { updOf s4 c with cur := none }

/-- A completion of a closing unit is counted. -/
def updCloseCounted (s : State) (c : Nat) : State := if updState s c = 2 then s.incFld (F.UPD_CLOSE_DONE c) 1 else s

/-- A failed update faults the step (R483). -/
def updFaults (s : State) (st : Nat) : State := if st % 128 = 2 ∨ st % 128 = 4 then setFaulted s else s

theorem updComplete_eq {s : State} {c : Nat} {q : UpdRec} {st : Nat} (h : (updOf s c).cur = some ⟨q, none, st⟩) :
    updComplete s c = updFaults (updCloseCounted (updEnded s c q st) c) st := by
  rw [updComplete, h]
  rfl

section
variable (s : State) (c : Nat) (q : UpdRec) (st : Nat)

theorem updEnded_spec : (updOf (updEnded s c q st) c).cur = none ∧
    (updEnded s c q st).mem = (unitWrite s (q.addr + 60) (leBytes 1 st)).mem ∧
    Notified q.notify q.nval s (updEnded s c q st) ∧
    (updEnded s c q st).fld (F.UPD_PTR_HEAD c) = (updHead s c + 1) % 2 ^ 32 ∧
    (updEnded s c q st).fld (F.UPD_STATUS_BUSY c) = 0 ∧ RegsExcept [R.UPD_PTR c, R.UPD_STATUS c] s (updEnded s c q st) ∧
    (updEnded s c q st).pending = s.pending := by
  unfold updEnded
  have hfab := unitWrite_fab s (q.addr + 60) (leBytes 1 st)
  have hcsr := unitWrite_csr s (q.addr + 60) (leBytes 1 st)
  have hpending := unitWrite_pending s (q.addr + 60) (leBytes 1 st)
  generalize unitWrite s (q.addr + 60) (leBytes 1 st) = s1 at hfab hcsr hpending ⊢
  obtain ⟨fab, hnotify, hline⟩ := notify_eq s1 q.notify q.nval
  have hcsr2 : (notify s1 q.notify q.nval).csr = s.csr := by rw [hnotify, ← hcsr]
  have hmem2 : (notify s1 q.notify q.nval).mem = s1.mem := by rw [hnotify]
  have hpending2 : (notify s1 q.notify q.nval).pending = s.pending := by rw [hnotify, ← hpending]
  generalize notify s1 q.notify q.nval = s2 at hline hcsr2 hmem2 hpending2 ⊢
  dsimp only
  refine ⟨by simp, hmem2, ?_, ?_, ?_, ?_, hpending2⟩
  · rw [Notified, hfab] at hline
    exact hline
  · rw [State.fld_of_csr (setUpd_csr _ c _), State.fld_setFld_ne _ _ _ _ (by simp), State.fld_setFld_ne _ _ _ _ (by simp),
      State.fld_setFld_same _ _ _ (by simp), updHead, State.fld_of_csr hcsr2, ← updHead]
    exact Nat.mod_mod _ _
  · rw [State.fld_of_csr (setUpd_csr _ c _), State.fld_setFld_ne _ _ _ _ (by simp), State.fld_setFld_same _ _ _ (by simp)]
    rfl
  · refine RegsExcept.of_csr ?_ (setUpd_csr _ c _)
    exact ((((RegsExcept.refl _ s).of_csr hcsr2).setFld _ (by simp)).setFld 0 (by simp)).setFld 0 (by simp)

theorem updCloseCounted_spec : updOf (updCloseCounted s c) c = updOf s c ∧ (updCloseCounted s c).mem = s.mem ∧
    (updCloseCounted s c).fab = s.fab ∧ (updCloseCounted s c).pending = s.pending ∧
    RegsExcept [R.UPD_CLOSE c] s (updCloseCounted s c) ∧
    (updState s c = 2 → (updCloseCounted s c).fld (F.UPD_CLOSE_DONE c) = s.sat (F.UPD_CLOSE_DONE c) 1) := by
  unfold updCloseCounted
  split
  · exact ⟨rfl, rfl, rfl, rfl, (RegsExcept.refl _ s).incFld 1 (by simp), fun _ => State.fld_incFld_same s _ 1 (by simp)⟩
  · next hon => exact ⟨rfl, rfl, rfl, rfl, RegsExcept.refl _ s, fun h => absurd h hon⟩

theorem updFaults_spec : updOf (updFaults s st) c = updOf s c ∧ (updFaults s st).mem = s.mem ∧
    (updFaults s st).fab = s.fab ∧ (updFaults s st).pending = s.pending ∧ RegsExcept [R.JRN_STATUS] s (updFaults s st) ∧
    ((st % 128 = 2 ∨ st % 128 = 4) → jrnOpen s = true → ((updFaults s st).fld F.JRN_STATUS_FLAGS).testBit 0 = true) := by
  unfold updFaults
  split
  · obtain ⟨hregs, hmem, hupd, hfab, hpending, hflag⟩ := setFaulted_spec s
    exact ⟨by rw [updOf, hupd, updOf], hmem, hfab, hpending, hregs, fun _ => hflag⟩
  · next hok => exact ⟨rfl, rfl, rfl, rfl, RegsExcept.refl _ s, fun h => absurd h hok⟩

end

/-- What UPD_COMMAND_COMPLETE leaves (R316). -/
theorem updComplete_spec {s : State} {c : Nat} (hc : c < 16) {q : UpdRec} {st : Nat}
    (h : (updOf s c).cur = some ⟨q, none, st⟩) :
    let t := updComplete s c
    (updOf t c).cur = none ∧ t.byte (q.addr + 60) = BitVec.ofNat 8 st ∧ MemExcept [(q.addr + 60, 1)] s t ∧
      Notified q.notify q.nval s t ∧ t.fld (F.UPD_PTR_HEAD c) = (updHead s c + 1) % 2 ^ 32 ∧
      t.fld (F.UPD_STATUS_BUSY c) = 0 ∧
      (updState s c = 2 → t.fld (F.UPD_CLOSE_DONE c) = s.sat (F.UPD_CLOSE_DONE c) 1) ∧
      ((st % 128 = 2 ∨ st % 128 = 4) → jrnOpen s = true → (t.fld F.JRN_STATUS_FLAGS).testBit 0 = true) ∧
      RegsExcept [R.UPD_PTR c, R.UPD_STATUS c, R.UPD_CLOSE c, R.JRN_STATUS] s t ∧ t.pending = s.pending := by
  dsimp only
  rw [updComplete_eq h]
  obtain ⟨hcur, hmem1, hline, hhead, hbusy, hregs1, hpending1⟩ := updEnded_spec s c q st
  generalize updEnded s c q st = e at *
  obtain ⟨hupd2, hmem2, hfab2, hpending2, hregs2, hdone⟩ := updCloseCounted_spec e c
  generalize updCloseCounted e c = d at *
  obtain ⟨hupd3, hmem3, hfab3, hpending3, hregs3, hfaulted⟩ := updFaults_spec d c st
  generalize updFaults d st = t at *
  have hmem : t.mem = (unitWrite s (q.addr + 60) (leBytes 1 st)).mem := hmem3.trans (hmem2.trans hmem1)
  have hregs := hregs2.trans hregs3
  have hne : (F.UPD_CLOSE_DONE c).addr ∉ [R.JRN_STATUS] := by simp [R.UPD_CLOSE, R.JRN_STATUS]; omega
  have hptr : (F.UPD_PTR_HEAD c).addr ∉ [R.UPD_CLOSE c] ++ [R.JRN_STATUS] := by simp [R.UPD_PTR, R.UPD_CLOSE, R.JRN_STATUS]; omega
  have hstatus : (F.UPD_STATUS_BUSY c).addr ∉ [R.UPD_CLOSE c] ++ [R.JRN_STATUS] := by
    simp [R.UPD_STATUS, R.UPD_CLOSE, R.JRN_STATUS]; omega
  have hclose : (F.UPD_CLOSE_DONE c).addr ∉ [R.UPD_PTR c, R.UPD_STATUS c] := by
    simp [R.UPD_CLOSE, R.UPD_PTR, R.UPD_STATUS]
  have hctl : (F.UPD_CTRL_STATE c).addr ∉ [R.UPD_PTR c, R.UPD_STATUS c] := by
    simp [R.UPD_CTRL, R.UPD_PTR, R.UPD_STATUS]
  have hjrn : F.JRN_STATUS_STATE.addr ∉ [R.UPD_PTR c, R.UPD_STATUS c] ++ [R.UPD_CLOSE c] := by
    simp [R.UPD_CLOSE, R.UPD_PTR, R.UPD_STATUS, R.JRN_STATUS]; omega
  refine ⟨by rw [hupd3, hupd2, hcur], ?_, ?_, ?_, ?_, ?_, fun hclosing => ?_, fun hst hopen => hfaulted hst ?_,
    hregs1.trans hregs, by rw [hpending3, hpending2, hpending1]⟩
  · exact (bytes_unitWrite s (q.addr + 60) (leBytes 1 st)).of_mem hmem 0 (by simp)
  · exact (memExcept_unitWrite s (q.addr + 60) (leBytes 1 st)).of_mem hmem
  · rw [Notified, hfab3, hfab2]
    exact hline
  · rw [hregs.fld hptr, hhead]
  · rw [hregs.fld hstatus, hbusy]
  · rw [hregs3.fld hne, hdone ((hregs1.fld hctl).trans hclosing), State.sat_of_regs hregs1 hclose]
  · rw [jrnOpen, (hregs1.trans hregs2).fld hjrn]
    exact hopen

/-! ### The ring's registers -/

theorem regAt_UPD_RING {c : Nat} (hc : c < 16) : regAt (R.UPD_RING c) =
    some ⟨0x7f0000608008, 16, 0x10000, 1, 0x0, 1, 0x0, 0x0#64, [⟨51, 48, .rw⟩, ⟨47, 0, .rw⟩]⟩ := by
  rw [show R.UPD_RING c = 0x7F0000600000 + c * 0x10000 + 0x8008 by unfold R.UPD_RING; omega, regAt_mc hc (by omega)]
  decide +kernel

theorem getBits_testBit (w : Word) (hi lo i : Nat) :
    (getBits w hi lo).testBit i = (decide (i < hi + 1 - lo) && w.getLsbD (lo + i)) := by
  rw [getBits, bitsOf_testBit, BitVec.testBit_toNat]

theorem getBits_congr {w v : Word} {hi lo : Nat} (h : ∀ i, i ≤ hi → w.getLsbD i = v.getLsbD i) :
    getBits w hi lo = getBits v hi lo := Nat.eq_of_testBit_eq fun i => by
  rw [getBits_testBit, getBits_testBit]
  by_cases hi' : i < hi + 1 - lo
  · rw [h (lo + i) (by omega)]
  · simp [hi']

/-- A field whose k lowest bits are set to 0. -/
theorem getBits_setBits_zero_low (w : Word) {hi k : Nat} (hk : k ≤ hi) (hhi : hi < 64) :
    getBits (setBits w k 0 0) hi 0 = getBits w hi (k + 1) * 2 ^ (k + 1) := Nat.eq_of_testBit_eq fun i => by
  rw [Nat.testBit_mul_two_pow, getBits_testBit, getBits_testBit, setBits_getLsbD]
  by_cases hlow : i ≤ k
  · simp [hlow, show ¬ k + 1 ≤ i by omega]
  · have hge : k + 1 ≤ i := by omega
    have hsum : k + 1 + (i - (k + 1)) = i := by omega
    by_cases hin : i ≤ hi
    · simp [hlow, hge, hsum, show i < hi + 1 by omega, show i < 64 by omega]
      omega
    · simp [show ¬ i < hi + 1 by omega]
      omega

/-- UPD_RING written while the unit is OFF: LOG2N, and BASE in whole cells of 64 bytes; HEAD and TAIL are 0 (Table 12.6). -/
theorem updRingWrite_off {s : State} {c : Nat} (hc : c < 16) (v : Word) (hoff : updState s c = 0) :
    let t := updRingWrite s c .w64 v
    t.fld (F.UPD_RING_LOG2N c) = getBits v 51 48 ∧ t.fld (F.UPD_RING_BASE c) = getBits v 47 6 * 64 ∧
      t.reg (R.UPD_PTR c) = 0#64 ∧ RegsExcept [R.UPD_RING c, R.UPD_PTR c] s t ∧ t.cores = s.cores ∧ t.mem = s.mem ∧
      t.reply = s.reply ∧ t.pending = s.pending := by
  dsimp only
  unfold updRingWrite State.writeByType
  rw [if_neg (by simp [hoff]), regAt_UPD_RING hc]
  dsimp only
  generalize hw : RegDesc.write _ .w64 (s.reg (R.UPD_RING c)) v = w
  have hmask : fieldsMask [⟨51, 48, .rw⟩, ⟨47, 0, .rw⟩] &&& AccSz.w64.mask = BitVec.ofNat 64 (2 ^ 52 - 1) := by decide
  have hbit : ∀ i, i ≤ 51 → w.getLsbD i = v.getLsbD i := fun i hi => by
    have hin : (BitVec.ofNat 64 (2 ^ 52 - 1)).getLsbD i = true := by
      rw [BitVec.getLsbD_ofNat, Nat.testBit_two_pow_sub_one, Bool.and_eq_true, decide_eq_true_eq, decide_eq_true_eq]
      omega
    rw [← hw, RegDesc.write, foldl_write_getLsbD_uniform .rw _ _ _ _ _ (by simp), hmask, hin]
    rfl
  have hring : R.UPD_RING c ≠ R.UPD_PTR c := by simp [R.UPD_RING, R.UPD_PTR]
  rw [State.reg_setReg_same]
  refine ⟨?_, ?_, State.reg_setReg_same _ _ _, ?_, rfl, rfl, rfl, rfl⟩
  · rw [State.fld_setReg_ne _ _ _ hring, State.fld_setReg_same _ (F.UPD_RING_LOG2N c) (R.UPD_RING c) _ rfl]
    exact (getBits_setBits_ne w 5 0 0 51 48 (by omega)).trans (getBits_congr hbit)
  · rw [State.fld_setReg_ne _ _ _ hring, State.fld_setReg_same _ (F.UPD_RING_BASE c) (R.UPD_RING c) _ rfl]
    exact (getBits_setBits_zero_low w (by omega : 5 ≤ 47) (by omega)).trans
      (congrArg (· * 64) (getBits_congr fun i hi => hbit i (by omega)))
  · exact (((RegsExcept.refl _ s).setReg w (by simp)).setReg _ (by simp)).setReg _ (by simp)

end Sys2Proof.Machine
end

section
/-! SUPPORT. The rows of the update units, from the command to the state that it leaves. -/

namespace Sys2Proof.Machine

section
variable {s : State} {i : Instr} {f : State → State} (hup : s.up = true) (hrow : exec i s = ifUp f s)
include hup hrow

/-- A row of the package whose meaning leaves the queue alone ends in the state that its meaning gives. -/
theorem exec_row {t : State} (hf : f s = t) (hpending : t.pending = s.pending) : exec i s = .next t := by
  rw [hrow, ifUp_up f hup, hf, ← hpending]

theorem runs_row {P : State → Prop} (hpending : (f s).pending = s.pending) (h : P (f s)) : Runs i s P :=
  ⟨f s, exec_row hup hrow rfl hpending, h⟩

end

section
variable {c : Fin 16} {s : State}

/-- The row UPDATE takes the commands of the reserved operations too (R314). -/
theorem exec_update (bad : List Nat) :
    exec (.update c bad) s = ifUp (fun s => updBegin s c (fun r => r.op != 2 && r.op != 3) bad) s := rfl

/-- The row FSTAT. -/
theorem exec_fstat (bad : List Nat) : exec (.fstat c bad) s = ifUp (fun s => updBegin s c (fun r => r.op == 2) bad) s := rfl

/-- The row GACC. -/
theorem exec_gacc (bad : List Nat) : exec (.gacc c bad) s = ifUp (fun s => updBegin s c (fun r => r.op == 3) bad) s := rfl

variable (hup : s.up = true)
include hup

theorem exec_updDoor (k : BitVec 32) : exec (.updDoor c k) s =
    .next { (if 2 ^ updLog s c < ringUsed (updHead s c) (updTail s c) + k.toNat then s.setFld (F.UPD_STATUS_RING_ERR c) 1
      else s.setFld (F.UPD_PTR_TAIL c) ((updTail s c + k.toNat) % 2 ^ 32)) with reply := .ok } := by
  refine exec_row hup (f := fun s => (updDoor (okReply s) c k.toNat).2) rfl ?_ (by split <;> rfl)
  unfold updDoor
  by_cases hfull : 2 ^ updLog s c < ringUsed (updHead s c) (updTail s c) + k.toNat
  · rw [if_pos hfull]
    exact congrArg Prod.snd (if_pos hfull)
  · rw [if_neg hfull]
    exact congrArg Prod.snd (if_neg hfull)

theorem exec_updRingWrite_on (v : Word) (hon : updState s c ≠ 0) :
    exec (.updRingWrite c .w64 v) s = .next { s with reply := .ok } :=
  exec_row hup (f := fun s => updRingWrite (okReply s) c .w64 v) rfl (if_pos hon) rfl

theorem runs_updRingWrite_off (v : Word) (hoff : updState s c = 0) : Runs (.updRingWrite c .w64 v) s fun t =>
    t.fld (F.UPD_RING_LOG2N c) = getBits v 51 48 ∧ t.fld (F.UPD_RING_BASE c) = getBits v 47 6 * 64 ∧
      t.reg (R.UPD_PTR c) = 0#64 ∧ t.reply = .ok ∧ RegsExcept [R.UPD_RING c, R.UPD_PTR c] s t ∧ CoresExcept [] s t ∧
      MemSame s t := by
  obtain ⟨hlog, hbase, hptr, hregs, hcores, hmem, hreply, hpending⟩ := updRingWrite_off (s := okReply s) c.isLt v hoff
  exact runs_row hup (f := fun s => updRingWrite (okReply s) c .w64 v) rfl hpending
    ⟨hlog, hbase, hptr, hreply, hregs, fun n _ => State.core_of_cores hcores n, fun a => State.byte_of_mem hmem a⟩

/-- A row whose command is not due, or is another row's, does nothing. -/
theorem exec_begin_idle {row : Instr} {mine : UpdRec → Bool} {bad : List Nat}
    (hrow : exec row s = ifUp (fun s => updBegin s c mine bad) s) (hidle : updBegin s c mine bad = s) :
    exec row s = .next s := exec_row hup hrow hidle rfl

/-- What a row does when its command is due and is not held: the command's work from the state in which it is taken. -/
theorem runs_begin {row : Instr} {mine : UpdRec → Bool} (hrow : exec row s = ifUp (fun s => updBegin s c mine []) s)
    (hdue : updDue s c) (hmine : mine (updNext s c) = true)
    (hfree : (updNext s c).op = 1 → (updGroup s c (updNext s c)).isSome = true → mirrorHolds s (updNext s c).step = false)
    {P : State → Prop} (hpending : (updWork (updTaken s c (updNext s c)) c (updNext s c)).pending = s.pending)
    (h : P (updWork (updTaken s c (updNext s c)) c (updNext s c))) : Runs row s P := by
  rw [← updBegin_works hdue hmine c.isLt hfree] at hpending h
  exact runs_row hup hrow hpending h

/-- A command of no group of the unit, or of a wrong one, ends with BAD_CMD and writes nothing (R314). -/
theorem runs_badCommand {row : Instr} {mine : UpdRec → Bool} (hrow : exec row s = ifUp (fun s => updBegin s c mine []) s)
    (hdue : updDue s c) (hmine : mine (updNext s c) = true) (hbad : updGroup s c (updNext s c) = none) :
    Runs row s fun t => (updOf t c).cur = some ⟨updNext s c, none, 3⟩ ∧ t.fld (F.UPD_STATUS_BUSY c) = 1 ∧
      RegsExcept [R.UPD_STATUS c] s t ∧ CoresExcept [] s t ∧ MemSame s t := by
  have hstart := updTaken_start s c (updNext s c)
  have hwork := updWork_of_bad ((hstart.updGroup_eq (updNext s c)).trans hbad)
  refine runs_begin hup hrow hdue hmine (by simp [hbad]) ?_ ?_ <;> rw [hwork]
  · rw [updNoted_pending, hstart.pending]
  · exact ⟨updOf_updNoted _ c _ 3, (State.fld_of_csr (updNoted_csr _ c _ 3) _).trans (updTaken_busy s c _),
      (updTaken_regs s c _).of_csr (updNoted_csr _ c _ 3),
      fun n _ => State.core_of_cores ((updNoted_cores _ c _ 3).trans hstart.cores) n,
      fun a => State.byte_of_mem ((updNoted_mem _ c _ 3).trans hstart.mem) a⟩

/-- UPDATE of a step whose predecessor the mirror still reads is held (R24). -/
theorem runs_update_held {g : Group} (hdue : updDue s c) (hg : updGroup s c (updNext s c) = some g)
    (hop : (updNext s c).op = 1) (hheld : mirrorHolds s (updNext s c).step = true) :
    Runs (.update c []) s fun t => (updOf t c).cur = some ⟨updNext s c, some s.now, 0⟩ ∧
      t.fld (F.UPD_STATUS_HOLDING c) = 1 ∧ t.fld (F.MIRROR_HOLD_HOLDS c) = s.sat (F.MIRROR_HOLD_HOLDS c) 1 ∧
      RegsExcept [R.UPD_STATUS c, R.MIRROR_HOLD c] s t ∧ CoresExcept [] s t ∧ MemSame s t := by
  have hstart := updTaken_start s c (updNext s c)
  have hregs := (updTaken_regs s c (updNext s c)).setFld (f := F.UPD_STATUS_HOLDING c) 1 (by simp)
  have hheldEq : updUpdate s c [] = _ := updBegin_holds hdue (by simp [hop]) c.isLt hop hg hheld
  refine runs_row hup (f := fun s => updUpdate s c []) rfl ?_ ?_ <;> rw [hheldEq]
  · rw [setUpd_pending, State.incFld_pending, State.setFld_pending, hstart.pending]
  · refine ⟨by rw [updOf_setUpd_same], ?_, ?_, ?_, fun n _ => State.core_of_cores ?_ n, fun a => State.byte_of_mem ?_ a⟩
    · rw [State.fld_of_csr (setUpd_csr _ c _), State.fld_incFld_ne _ _ _ _ (by simp), State.fld_setFld_same _ _ _ (by simp)]
      rfl
    · rw [State.fld_of_csr (setUpd_csr _ c _), State.fld_incFld_same _ _ _ (by simp), hregs.fld (by simp)]
      rfl
    · exact RegsExcept.of_csr ((hstart.regs.setFld _ (by simp)).incFld 1 (by simp)) (setUpd_csr _ c _)
    · rw [setUpd_cores, State.incFld_cores, State.setFld_cores, hstart.cores]
    · rw [setUpd_mem, State.incFld_mem, State.setFld_mem, hstart.mem]

/-- UPDATE of another step than the next one ends with STEP_MISMATCH and writes nothing (R307). -/
theorem runs_update_wrongStep {g : Group} (hdue : updDue s c) (hg : updGroup s c (updNext s c) = some g)
    (hop : (updNext s c).op = 1) (hfree : mirrorHolds s (updNext s c).step = false)
    (hstep : (updNext s c).step = 0 ∨ (updNext s c).step ≠ s.readLE (.flat g.hdr) 8 + 1) :
    Runs (.update c []) s fun t => (updOf t c).cur = some ⟨updNext s c, none, 2⟩ ∧
      RegsExcept [R.UPD_STATUS c] s t ∧ MemSame s t := by
  have hstart := updTaken_start s c (updNext s c)
  have hwork := updWork_update_wrongStep ((hstart.updGroup_eq (updNext s c)).trans hg) hop
    (by rwa [State.readLE_of_mem hstart.mem])
  refine runs_begin hup (exec_update _) hdue (by simp [hop]) (fun _ _ => hfree) ?_ ?_ <;> rw [hwork]
  · rw [updNoted_pending, hstart.pending]
  · exact ⟨updOf_updNoted _ c _ 2, (updTaken_regs s c _).of_csr (updNoted_csr _ c _ 2),
      fun a => State.byte_of_mem ((updNoted_mem _ c _ 2).trans hstart.mem) a⟩

/-- UPDATE of the one parameter that the unit owns (R309). -/
theorem runs_update_param {g : Group} {i : Nat} (hdue : updDue s c) (hfree : mirrorHolds s (updNext s c).step = false)
    (h : UpdatesOne c g (updNext s c) i s) : Runs (.update c []) s fun t => ParamUpdated c g (updNext s c) i s t ∧
      RegsExcept [R.UPD_STATUS c, R.UPD_PARAMS c, R.UPD_NONFINITE c] s t := by
  have hstart := updTaken_start s c (updNext s c)
  obtain ⟨hparam, hregs, hpending⟩ := (h.of_start hstart).paramUpdated
  exact runs_begin hup (exec_update _) hdue (by simp [h.op]) (fun _ _ => hfree) hpending
    ⟨hparam.of_start hstart, (updTaken_regs s c _).trans hregs⟩

/-- FSTAT of the one parameter that the unit owns (R311). -/
theorem runs_fstat_param {g : Group} {i : Nat} (hdue : updDue s c) (hg : updGroup s c (updNext s c) = some g)
    (hop : (updNext s c).op = 2) (hown : updOwned g c = [i])
    (hsound : poisonedUnits s (gradRange g (updNext s c) i).1 (gradRange g (updNext s c) i).2 = [])
    (hi : i < g.rows * g.cols)
    (hapart : Apart [gradRange g (updNext s c) i, (partialAt g c 0, 12 * (g.rows + g.cols))]) :
    let r := updNext s c
    let sum := ((L96.dec 0#96).add (Tot.ofX (lAdd (lMul (updGrad s g r i) (updGrad s g r i)) (d32 r.eps)) false)).enc.toNat
    Runs (.fstat c []) s fun t => (updOf t c).cur = some ⟨r, none, 1⟩ ∧
      (∀ k, k < g.rows + g.cols → Bytes t (partialAt g c k)
        (if k = i / g.cols ∨ k = g.rows + i % g.cols then leBytes 12 sum else leBytes 12 0)) ∧
      MemExcept [(partialAt g c 0, 12 * (g.rows + g.cols))] s t ∧ RegsExcept [R.UPD_STATUS c, R.UPD_NONFINITE c] s t := by
  have hstart := updTaken_start s c (updNext s c)
  obtain ⟨hcur, hsums, hmem, hregs, hpending⟩ := updWork_fstat_sums ((hstart.updGroup_eq (updNext s c)).trans hg) hop hown
    ((hstart.poisonedUnits_eq _ _).trans hsound) hi hapart
  rw [updGrad_of_mem hstart.mem] at hsums
  exact runs_begin hup (exec_fstat _) hdue (by simp [hop]) (by simp [hop]) hpending
    ⟨hcur, hsums, fun a ha => (hmem a ha).trans (State.byte_of_mem hstart.mem a), (updTaken_regs s c _).trans hregs⟩

/-- GACC of the one parameter that the unit owns (R312). -/
theorem runs_gacc_param {g : Group} {i : Nat} (hdue : updDue s c) (hg : updGroup s c (updNext s c) = some g)
    (hop : (updNext s c).op = 3) (hown : updOwned g c = [i]) (hacc : poisonedUnits s (g.gaccum + 12 * i) 12 = [])
    (hsrc : poisonedUnits s ((updNext s c).src + 2 * i) 2 = []) :
    let r := updNext s c
    let p := (d32 r.gscale).mul (rdBF16 s (r.src + 2 * i))
    Runs (.gacc c []) s fun t => (updOf t c).cur = some ⟨r, none, 1⟩ ∧
      Bytes t (g.gaccum + 12 * i) (leBytes 12 ((L96.dec (rdL96 s (g.gaccum + 12 * i))).add (Tot.ofX p.1 p.2)).enc.toNat) ∧
      MemExcept [(g.gaccum + 12 * i, 12)] s t ∧ t.fld (F.UPD_PARAMS_COUNT c) = s.sat (F.UPD_PARAMS_COUNT c) 1 ∧
      RegsExcept [R.UPD_STATUS c, R.UPD_PARAMS c, R.UPD_NONFINITE c] s t := by
  have hstart := updTaken_start s c (updNext s c)
  obtain ⟨hcur, hbytes, hmem, hparams, hregs, hpending⟩ := updWork_gacc_sum ((hstart.updGroup_eq (updNext s c)).trans hg) hop
    hown ((hstart.poisonedUnits_eq _ _).trans hacc) ((hstart.poisonedUnits_eq _ _).trans hsrc)
  rw [rdL96, State.readLE_of_mem hstart.mem, rdBF16, State.readLE_of_mem hstart.mem] at hbytes
  exact runs_begin hup (exec_gacc _) hdue (by simp [hop]) (by simp [hop]) hpending
    ⟨hcur, hbytes, fun a ha => (hmem a ha).trans (State.byte_of_mem hstart.mem a),
      hparams.trans (State.sat_of_regs (updTaken_regs s c _) (by simp) 1), (updTaken_regs s c _).trans hregs⟩

/-- A held UPDATE of the one parameter that the unit owns, released (R24). -/
theorem runs_release_param {q : UpdRec} {t0 x : Nat} {g : Group} {i : Nat} (hcur : (updOf s c).cur = some ⟨q, some t0, x⟩)
    (hfree : mirrorHolds s q.step = false) (h : UpdatesOne c g q i s) :
    Runs (.mirrorHoldRelease c) s fun t => ParamUpdated c g q i s t ∧ t.fld (F.UPD_STATUS_HOLDING c) = 0 ∧
      t.fld (F.MIRROR_HOLD_CYCLES c) = s.sat (F.MIRROR_HOLD_CYCLES c) ((s.now - t0) * 8 / 7) := by
  have hstart := updReleased_start s c t0
  obtain ⟨hparam, hregs, hpending⟩ := (h.of_start hstart).paramUpdated
  have hrelease : mirrorHoldRelease s c = updWork (updReleased s c t0) c q := by
    rw [mirrorHoldRelease, hcur]
    exact if_neg (by simp [hfree])
  refine runs_row hup (f := fun s => mirrorHoldRelease s c) rfl ?_ ?_ <;> rw [hrelease]
  · exact hpending
  · refine ⟨hparam.of_start hstart, ?_, ?_⟩
    · rw [hregs.fld (by simp), updReleased, State.fld_incFld_ne _ _ _ _ (by simp), State.fld_setFld_same _ _ _ (by simp)]
      rfl
    · rw [hregs.fld (by simp), updReleased, State.fld_incFld_same _ _ _ (by simp), State.fld_setFld_ne _ _ _ _ (by simp)]
      rfl

/-- A release while the mirror still holds the command, or with no command held, does nothing. -/
theorem exec_release_idle (h : ∀ q t0 x, (updOf s c).cur = some ⟨q, some t0, x⟩ → mirrorHolds s q.step = true) :
    exec (.mirrorHoldRelease c) s = .next s := by
  refine exec_row hup (f := fun s => mirrorHoldRelease s c) rfl ?_ rfl
  unfold mirrorHoldRelease
  split
  · next q t0 x hcur => exact if_pos (h q t0 x hcur)
  · rfl

/-- A completion with no command whose work is done does nothing. -/
theorem exec_complete_idle (h : ∀ q x, (updOf s c).cur ≠ some ⟨q, none, x⟩) : exec (.updCommandComplete c) s = .next s := by
  refine exec_row hup (f := fun s => updComplete s c) rfl ?_ rfl
  unfold updComplete
  split
  · next q x hcur => exact absurd hcur (h q x)
  · rfl

end

end Sys2Proof.Machine
end

section
/-! The obligation on the update units. -/

open Sys2Proof Sys2Proof.Machine

/-- Settles O44: a row whose command is not due changes nothing; one whose command is due is held, or does the command's work from
the state in which it is taken, and what that work leaves is the same seen from the state before. -/
theorem updateUnits : Obligations.UpdateUnits := by
  unfold Obligations.UpdateUnits
  intro c s hup
  dsimp only
  refine ⟨exec_updDoor hup, fun v => ⟨exec_updRingWrite_on hup v, runs_updRingWrite_off hup v⟩, fun hidle bad => ?_,
    fun hop bad => ?_, fun hdue hbad => ?_, fun g i hdue hg => ?_, fun q st hcur => ?_, fun q t0 x hcur => ?_,
    fun hnone => ?_, exec_complete_idle hup⟩
  · exact ⟨exec_begin_idle hup (exec_update bad) (updBegin_of_not_due hidle),
      exec_begin_idle hup (exec_fstat bad) (updBegin_of_not_due hidle),
      exec_begin_idle hup (exec_gacc bad) (updBegin_of_not_due hidle)⟩
  · refine exec_begin_idle hup (exec_update _) (updBegin_of_not_mine ?_)
    rcases hop with hop | hop <;> simp [hop]
  · exact ⟨fun h2 h3 => runs_badCommand hup (exec_update _) hdue (by simp [h2, h3]) hbad,
      fun h2 => runs_badCommand hup (exec_fstat _) hdue (by simp [h2]) hbad,
      fun h3 => runs_badCommand hup (exec_gacc _) hdue (by simp [h3]) hbad⟩
  · exact ⟨runs_update_held hup hdue hg, runs_update_wrongStep hup hdue hg,
      fun hop hfree hnz hnext hrule hown hsound hapart =>
        runs_update_param hup hdue hfree ⟨hg, hop, hnz, hnext, hrule, hown, hsound, hapart⟩,
      runs_fstat_param hup hdue hg, runs_gacc_param hup hdue hg⟩
  · obtain ⟨hfree, hstatus, hmem, hline, hhead, hbusy, hdone, hfaulted, hregs, hpending⟩ := updComplete_spec c.isLt hcur
    exact runs_row hup (f := fun s => updComplete s c) rfl hpending
      ⟨hfree, hstatus, hmem, hline, hhead, hbusy, hdone, hfaulted, hregs⟩
  · refine ⟨fun hheld => exec_release_idle hup fun q' t0' x' h => ?_,
      fun g i hfree hg hop hnz hnext hrule hown hsound hapart =>
        runs_release_param hup hcur hfree ⟨hg, hop, hnz, hnext, hrule, hown, hsound, hapart⟩⟩
    obtain rfl : q = q' := by
      rw [hcur] at h
      injection h with h
      injection h
    exact hheld
  · exact exec_release_idle hup fun q t0 x h => absurd h (hnone q t0 x)

end

section
/-! SUPPORT. The one operation in flight that is due has its effect: the state in which it takes place, and what a row leaves that
lets time pass until then (R111, R113). -/

namespace Sys2Proof.Machine

/-! ### The clock alone -/

/-- The counters of a port over some cycles change its two cycle counters and nothing else (Table 15.19). -/
theorem portCycles_eq (k : Nat) (s : State) (p : Nat × Port) :
    ∃ c, portCycles k s p = { s with csr := c } ∧ ∀ a, ¬ clockCounter a → look regReset c a = s.reg a := by
  have hhold : ∃ c, (if p.2.held.isEmpty || decide (24 ≤ p.1) then s else s.incFld (F.RADD_HOLD_COUNT p.1) k) =
      { s with csr := c } ∧ ∀ a, ¬ clockCounter a → look regReset c a = s.reg a := by
    split
    · exact ⟨s.csr, rfl, fun _ _ => rfl⟩
    · exact ⟨_, rfl, fun a ha => State.reg_incFld_ne s (F.RADD_HOLD_COUNT p.1) k fun h => ha ⟨p.1, .inl h⟩⟩
  obtain ⟨c, hc, hregs⟩ := hhold
  unfold portCycles
  dsimp only
  rw [hc]
  split
  · exact ⟨_, rfl, fun a ha => (State.reg_incFld_ne _ (F.TRK_FULL_COUNT p.1) k fun h => ha ⟨p.1, .inr h⟩).trans (hregs a ha)⟩
  · exact ⟨c, rfl, hregs⟩

/-- The clock moved on changes the present cycle and the cycle counters of ports, and nothing else. -/
theorem State.clock_eq (s : State) (t : Nat) :
    ∃ c, s.clock t = { s with csr := c, now := max s.now t } ∧ ∀ a, ¬ clockCounter a → look regReset c a = s.reg a := by
  have hports : ∀ (k : Nat) (ps : List (Nat × Port)) (s : State), ∃ c, ps.foldl (portCycles k) s = { s with csr := c } ∧
      ∀ a, ¬ clockCounter a → look regReset c a = s.reg a := by
    intro k ps
    induction ps with
    | nil => exact fun s => ⟨s.csr, rfl, fun _ _ => rfl⟩
    | cons p ps ih =>
      intro s
      obtain ⟨c, hc, hregs⟩ := portCycles_eq k s p
      obtain ⟨c', hc', hregs'⟩ := ih (portCycles k s p)
      rw [hc] at hc' hregs'
      exact ⟨c', by rw [List.foldl_cons, hc, hc'], fun a ha => (hregs' a ha).trans (hregs a ha)⟩
  unfold State.clock
  split
  · next h => exact ⟨s.csr, by rw [Nat.max_eq_left h], fun _ _ => rfl⟩
  · next h =>
    obtain ⟨c, hc, hregs⟩ := hports (t - s.now) s.fab.ports s
    exact ⟨c, by rw [hc, Nat.max_eq_right (by omega)], hregs⟩

section
variable (s : State) (t : Nat)

@[simp] theorem State.clock_late : (s.clock t).late = s.late := by obtain ⟨_, h, _⟩ := s.clock_eq t; rw [h]
@[simp] theorem State.clock_mem : (s.clock t).mem = s.mem := by obtain ⟨_, h, _⟩ := s.clock_eq t; rw [h]
@[simp] theorem State.clock_cores : (s.clock t).cores = s.cores := by obtain ⟨_, h, _⟩ := s.clock_eq t; rw [h]
@[simp] theorem State.clock_bcast : (s.clock t).bcast = s.bcast := by obtain ⟨_, h, _⟩ := s.clock_eq t; rw [h]
@[simp] theorem State.clock_pending : (s.clock t).pending = s.pending := by obtain ⟨_, h, _⟩ := s.clock_eq t; rw [h]

/-- Every register but the cycle counters of ports is as before. -/
theorem State.reg_clock {a : Nat} (ha : ¬ clockCounter a) : (s.clock t).reg a = s.reg a := by
  obtain ⟨c, h, hregs⟩ := s.clock_eq t
  rw [h]
  exact hregs a ha

end

/-! ### The state in which an operation has its effect -/

/-- The cycle of l has come: l, no longer in flight, is about to have its effect in its core's name. -/
def landing (s : State) (l : Late) (rest : List Late) : State :=
  setCur (({ s with late := rest } : State).clock l.due) l.n l.syl

section
variable (s : State) (l : Late) (rest : List Late)

@[simp] theorem landing_late : (landing s l rest).late = rest := State.clock_late _ _
@[simp] theorem landing_mem : (landing s l rest).mem = s.mem := State.clock_mem _ _
@[simp] theorem landing_bcast : (landing s l rest).bcast = s.bcast := State.clock_bcast _ _
@[simp] theorem landing_pending : (landing s l rest).pending = s.pending := State.clock_pending _ _
theorem landing_now : (landing s l rest).now = max s.now l.due := State.clock_now _ _
theorem landing_reg {a : Nat} (ha : ¬ clockCounter a) : (landing s l rest).reg a = s.reg a :=
  State.reg_clock ({ s with late := rest } : State) l.due ha
@[simp] theorem landing_core : (landing s l rest).core l.n = { s.core l.n with cur := l.syl } := by
  rw [landing, setCur_core, State.core_of_cores (State.clock_cores _ _)]
  rfl
theorem landing_core_ne {m : Nat} (h : m ≠ l.n) : (landing s l rest).core m = s.core m := by
  rw [landing, setCur, State.core_setCore_ne _ _ h, State.core_of_cores (State.clock_cores _ _)]
  rfl

end

section
variable {s : State} {l : Late} {rest : List Late}

theorem applyLate_bcastClose {q us : Nat} (hop : l.op = .bcastClose q us) :
    applyLate (({ s with late := rest } : State).clock l.due) l = bcastCloseStep (landing s l rest) q us := by
  simp only [applyLate, hop, landing, setCur]

theorem applyLate_raddDone {i : Nat} (hop : l.op = .raddDone i) :
    applyLate (({ s with late := rest } : State).clock l.due) l = landing s l rest := by
  simp only [applyLate, hop, landing, setCur]

theorem applyLate_mmRow {m : MMDesc} {row col : Nat} {vecs : List (List Byte)} {flip : L96}
    (hop : l.op = .mmRow m row vecs col flip) :
    applyLate (({ s with late := rest } : State).clock l.due) l = mmRowStep (landing s l rest) l.n m row vecs col flip := by
  simp only [applyLate, hop, landing, setCur]

theorem applyLate_drainDone {slot origin ord skips : Nat} {fails : List (Nat × Nat)}
    (hop : l.op = .drainDone slot origin ord fails skips) :
    applyLate (({ s with late := rest } : State).clock l.due) l =
      drainDoneStep (landing s l rest) l.n slot origin ord fails skips := by
  simp only [applyLate, hop, landing, setCur]

end

/-! ### Time passes until it has had its effect -/

/-- One operation is due by cycle t, and after its effect none: it alone has its effect. -/
theorem runLate_one {t : Nat} {s : State} (hdue : lateDue t s = true) (hquiet : ∀ l ∈ (lateStep t s).late, t < l.due)
    (k : Nat) : runLate t k s = lateStep t s := by
  induction k with
  | zero => rfl
  | succ k ih => rw [runLate, hdue, if_pos rfl, ih, runLate_quiet t k _ hquiet]

section
variable {s : State} {n : Nat} {l : Late} {rest : List Late} (h : DueNext s n l rest)
include h

/-- The clock moved to the cycle of the one operation that is due: its effect e, where that leaves nothing due by then. -/
theorem tickTo_landing {e : State} (heff : applyLate (({ s with late := rest } : State).clock l.due) l = e)
    (hnow : e.now = l.due) (hquiet : ∀ l' ∈ e.late, l.due < l'.due) : tickTo s l.due = e := by
  have hstep : lateStep l.due s = e := by
    unfold lateStep
    rw [h.head]
    exact (if_pos (Nat.le_refl _)).trans heff
  have hdue : lateDue l.due s = true := by
    unfold lateDue
    rw [h.head]
    exact decide_eq_true (Nat.le_refl _)
  rw [tickTo, runLate_one hdue (by rwa [hstep]), hstep, State.clock, if_pos (Nat.le_of_eq hnow.symm)]

/-- The next operation in flight of its kind is the one that is due. -/
theorem untilLate_landing {sel : LateOp → Bool} (hsel : sel l.op = true) : untilLate s n sel = tickTo s l.due := by
  rw [untilLate, h.head, List.find?_cons_of_pos (by simp [h.own, hsel])]

theorem landing_now_due : (landing s l rest).now = l.due := (landing_now s l rest).trans (Nat.max_eq_right h.ahead)

/-- What a step leaves of the other cores, of registers and of what is in flight, seen from before the landing. -/
theorem landed_of {e : State} {as : List Nat} (hnow : e.now = (landing s l rest).now)
    (hlate : e.late = (landing s l rest).late) (hregs : RegsExcept as (landing s l rest) e)
    (hcores : CoresExcept [n] (landing s l rest) e) : Landed as s e n l rest where
  now := hnow.trans (landing_now_due h)
  late := hlate.trans (landing_late s l rest)
  regs := fun a ha hcount => (hregs a ha).trans (landing_reg s l rest hcount)
  cores := fun m hm => (hcores m hm).trans (landing_core_ne s l rest (by simpa [h.own] using hm))

/-- A row that lets time pass to the one operation that is due, whose effect e leaves nothing due by then and the queue alone. -/
theorem runs_landing_of_quiet {i : Instr} {f : State → State} {e : State} {P : State → Prop} (hrow : exec i s = ifUp f s)
    (hf : f s = tickTo s l.due) (heff : applyLate (({ s with late := rest } : State).clock l.due) l = e)
    (hnow : e.now = (landing s l rest).now) (hquiet : ∀ l' ∈ e.late, l.due < l'.due)
    (hpending : e.pending = (landing s l rest).pending) (hP : P e) : Runs i s P := by
  have htick : f s = e := hf.trans (tickTo_landing h heff (hnow.trans (landing_now_due h)) hquiet)
  refine runs_row h.up hrow ?_ ?_ <;> rw [htick]
  · exact hpending.trans (landing_pending s l rest)
  · exact hP

/-- The same for an effect that puts nothing in flight. -/
theorem runs_landing {i : Instr} {f : State → State} {e : State} {P : State → Prop} (hrow : exec i s = ifUp f s)
    (hf : f s = tickTo s l.due) (heff : applyLate (({ s with late := rest } : State).clock l.due) l = e)
    (hnow : e.now = (landing s l rest).now) (hlate : e.late = (landing s l rest).late)
    (hpending : e.pending = (landing s l rest).pending) (hP : P e) : Runs i s P :=
  runs_landing_of_quiet h hrow hf heff hnow (by rw [hlate, landing_late]; exact h.later) hpending hP

end

end Sys2Proof.Machine
end

section
/-! SUPPORT. The rows that end a quartet's stream, an addition and a suppression (R37, R87, R340). -/

namespace Sys2Proof.Machine

/-! ### Broadcast streams -/

/-- The streams of the quartets, one of them set. -/
theorem bcastOf_put (s : State) (q k : Nat) (b : Bcast) :
    ({ s with bcast := put (fun _ => Bcast.reset) s.bcast q b } : State).bcastOf k = if k = q then b else s.bcastOf k :=
  look_put _ _ _ _

/-- The close of a stream changes the quartets' streams alone. -/
theorem bcastCloseStep_eq (s : State) (q us : Nat) : ∃ b, bcastCloseStep s q us = { s with bcast := b } := by
  unfold bcastCloseStep
  dsimp only
  split
  · exact ⟨_, rfl⟩
  · exact ⟨s.bcast, rfl⟩

/-- The stream of the quartet is closed where it is the one that the operation belongs to; every other stream stays. -/
theorem bcastCloseStep_bcastOf (s : State) (q us k : Nat) : (bcastCloseStep s q us).bcastOf k =
    if k = q ∧ (s.bcastOf q).us = us then { s.bcastOf q with v := 0 } else s.bcastOf k := by
  unfold bcastCloseStep
  dsimp only
  split
  · next hus => simp only [bcastOf_put, hus, and_true]
  · next hus => simp only [hus, and_false, if_false]

section
variable {s : State} {n : Nat} {l : Late} {rest : List Late} (h : DueNext s n l rest)
include h

theorem bcastClose_landing {q us : Nat} (hop : l.op = .bcastClose q us) : bcastClose s q = tickTo s l.due := by
  rw [bcastClose, h.head, List.find?_cons_of_pos (by simp [hop])]

theorem runs_bcastStreamClose {q : Fin 16} {us : Nat} (hop : l.op = .bcastClose q us) :
    Runs (.bcastStreamClose q) s (fun t =>
      t.bcastOf q = (if (s.bcastOf q).us = us then { s.bcastOf q with v := 0 } else s.bcastOf q) ∧
      (∀ k, k ≠ q.val → t.bcastOf k = s.bcastOf k) ∧ Landed [] s t n l rest ∧ MemSame s t) := by
  obtain ⟨b, hb⟩ := bcastCloseStep_eq (landing s l rest) q us
  have hbefore : ∀ k, (landing s l rest).bcastOf k = s.bcastOf k := fun k => by
    rw [State.bcastOf, landing_bcast, State.bcastOf]
  have hstreams := bcastCloseStep_bcastOf (landing s l rest) q us
  simp only [hbefore] at hstreams
  refine runs_landing h (f := fun s => bcastClose s q) rfl (bcastClose_landing h hop) (applyLate_bcastClose hop)
    (by rw [hb]) (by rw [hb]) (by rw [hb]) ⟨by simp [hstreams], fun k hk => by simp [hstreams, hk], ?_, fun a => ?_⟩
  · exact landed_of h (by rw [hb]) (by rw [hb]) (fun _ _ => by rw [hb]; rfl) (fun _ _ => by rw [hb]; rfl)
  · exact State.byte_of_mem (by rw [hb]; exact landing_mem s l rest) a

end

theorem runs_raddAddComplete {s : State} {n : Fin 64} {l : Late} {rest : List Late} (h : DueNext s n l rest) {i : Nat}
    (hop : l.op = .raddDone i) : Runs (.raddAddComplete n) s (fun t => Landed [] s t n l rest ∧ MemSame s t) :=
  runs_landing h (f := fun s => raddAddDone s n) rfl (untilLate_landing h (by simp [hop])) (applyLate_raddDone hop) rfl rfl rfl
    ⟨landed_of h rfl rfl (RegsExcept.refl [] _) (fun _ _ => rfl), fun a => State.byte_of_mem (landing_mem s l rest) a⟩

theorem runs_nmsComplete {s : State} {n : Fin 64} (hup : s.up = true) (hquiet : ∀ l ∈ s.late, (s.core n).nmsDone < l.due)
    (hahead : s.now ≤ (s.core n).nmsDone) : Runs (.nmsComplete n) s (fun t => t.now = (s.core n).nmsDone ∧ t.late = s.late ∧
      (∀ a, ¬ clockCounter a → t.reg a = s.reg a) ∧ CoresExcept [] s t ∧ MemSame s t) := by
  have htick : nmsComplete s n = s.clock (s.core n).nmsDone := tickTo_quiet s _ hquiet
  refine runs_row hup (f := fun s => nmsComplete s n) rfl ?_ ?_ <;> rw [htick]
  · exact State.clock_pending s _
  · exact ⟨(State.clock_now s _).trans (Nat.max_eq_right hahead), State.clock_late s _, fun a => State.reg_clock s _,
      fun m _ => State.core_of_cores (State.clock_cores s _) m, fun a => State.byte_of_mem (State.clock_mem s _) a⟩

end Sys2Proof.Machine
end

section
open Sys2Proof Sys2Proof.Machine

/-- Settles O30: each of the three rows lets time pass to the cycle of its operation, whose effect, if any, is on the streams. -/
theorem streamsAdditionsAndSuppressionEnd : Obligations.StreamsAdditionsAndSuppressionEnd := by
  unfold Obligations.StreamsAdditionsAndSuppressionEnd
  intro n s hup
  exact ⟨fun q l rest us hdue hop => runs_bcastStreamClose hdue hop,
    fun l rest i hdue hop => runs_raddAddComplete hdue hop, runs_nmsComplete hup⟩

end

section
/-! SUPPORT. The entries of the output slots, steps that change one core alone, and an output row written by a product (R32, R34,
R46, R48). -/

namespace Sys2Proof.Machine

/-! ### Entries of a core -/

/-- The key of an entry names its slot, row and column. -/
theorem entryKey_inj {slot row col slot' row' col' : Nat} (hr : row < 256) (hr' : row' < 256) (hc : col < 258)
    (hc' : col' < 258) : entryKey slot row col = entryKey slot' row' col' ↔ slot = slot' ∧ row = row' ∧ col = col' := by
  unfold entryKey slotCols
  omega

/-- An entry after one was written: the written value at its key, every other as before. -/
theorem Core.entry_setEntry (c : Core) (slot row col : Nat) (v : L96) (slot' row' col' : Nat) :
    (c.setEntry slot row col v).entry slot' row' col' =
      if entryKey slot' row' col' = entryKey slot row col then v else c.entry slot' row' col' := by
  unfold Core.setEntry Core.entry
  dsimp only
  split <;> exact look_put _ _ _ _

/-- d differs from c in the entries of its slots and their storage signatures alone. -/
def OnlySlots (c d : Core) : Prop := ∃ slots sigs, d = { c with slots := slots, sigs := sigs }

theorem OnlySlots.refl (c : Core) : OnlySlots c c := ⟨c.slots, c.sigs, rfl⟩

theorem OnlySlots.trans {c d e : Core} (h : OnlySlots c d) (h' : OnlySlots d e) : OnlySlots c e := by
  obtain ⟨_, _, rfl⟩ := h
  obtain ⟨slots, sigs, rfl⟩ := h'
  exact ⟨slots, sigs, rfl⟩

section
variable {c d : Core} (h : OnlySlots c d)
include h

theorem OnlySlots.accErr : d.accErr = c.accErr := by obtain ⟨_, _, rfl⟩ := h; rfl
theorem OnlySlots.vregs : d.vregs = c.vregs := by obtain ⟨_, _, rfl⟩ := h; rfl
theorem OnlySlots.imem : d.imem = c.imem := by obtain ⟨_, _, rfl⟩ := h; rfl
theorem OnlySlots.ctl : d.ctl = c.ctl := by obtain ⟨_, _, rfl⟩ := h; rfl
theorem OnlySlots.branch : d.branch = c.branch := by obtain ⟨_, _, rfl⟩ := h; rfl

end

/-- An entry written in a core without errors of nature. -/
theorem Core.setEntry_onlySlots {c : Core} (herr : c.accErr = []) (slot row col : Nat) (v : L96) :
    OnlySlots c (c.setEntry slot row col v) := by
  have hclear : put (fun _ => 0) c.accErr (entryKey slot row col) 0 = c.accErr := by rw [herr]; rfl
  unfold Core.setEntry
  dsimp only
  rw [hclear]
  split
  · exact ⟨_, _, rfl⟩
  · exact ⟨_, c.sigs, rfl⟩

/-- A core without errors of nature is read without an effect (R85). -/
theorem readEntry_noErr {s : State} {n : Nat} (herr : (s.core n).accErr = []) (slot row col src : Nat) (origin : Option Nat)
    (ord last : Nat) : readEntry s n slot row col src origin ord last = ((s.core n).entry slot row col, s) := by
  unfold readEntry
  dsimp only
  rw [herr]
  rfl

/-! ### Steps that change one core alone -/

/-- In t core n is c, and everything else is as in s. -/
structure CoreSet (n : Nat) (c : Core) (s t : State) : Prop where
  rest : t = { s with cores := t.cores }
  own : t.core n = c
  others : ∀ m, m ≠ n → t.core m = s.core m

theorem CoreSet.refl (n : Nat) (s : State) : CoreSet n (s.core n) s s := ⟨rfl, rfl, fun _ _ => rfl⟩

theorem coreSet_setCore (s : State) (n : Nat) (c : Core) : CoreSet n c s (s.setCore n c) :=
  ⟨rfl, State.core_setCore_same s n c, fun _ h => State.core_setCore_ne s c h⟩

section
variable {n : Nat} {c d : Core} {s t u : State} (h : CoreSet n c s t)
include h

theorem CoreSet.trans (h' : CoreSet n d t u) : CoreSet n d s u := by
  refine ⟨?_, h'.own, fun m hm => (h'.others m hm).trans (h.others m hm)⟩
  have hrest := h.rest
  generalize t.cores = cs at hrest
  subst hrest
  exact h'.rest

theorem CoreSet.now : t.now = s.now := by rw [h.rest]
theorem CoreSet.late : t.late = s.late := by rw [h.rest]
theorem CoreSet.pending : t.pending = s.pending := by rw [h.rest]
theorem CoreSet.mem : t.mem = s.mem := by rw [h.rest]
theorem CoreSet.csr : t.csr = s.csr := by rw [h.rest]
theorem CoreSet.bcast : t.bcast = s.bcast := by rw [h.rest]
theorem CoreSet.coresExcept : CoresExcept [n] s t := fun m hm => h.others m (by simpa using hm)

end

/-- Steps taken one after the other on a part of a value, each of which changes core n alone, as g says, while the core has I. -/
theorem foldl_coreSet {σ β : Type} {n : Nat} {π : σ → State} {f : σ → β → σ} {g : Core → β → Core} {I : Core → Prop}
    (hstep : ∀ a x, I ((π a).core n) → CoreSet n (g ((π a).core n) x) (π a) (π (f a x))) (hkeep : ∀ c x, I c → I (g c x))
    (xs : List β) (a : σ) (ha : I ((π a).core n)) :
    CoreSet n (xs.foldl g ((π a).core n)) (π a) (π (xs.foldl f a)) := by
  induction xs generalizing a with
  | nil => exact CoreSet.refl n (π a)
  | cons x xs ih =>
    have hone := hstep a x ha
    have hrest := ih (f a x) (by rw [hone.own]; exact hkeep _ x ha)
    rw [hone.own] at hrest
    exact hone.trans hrest

/-- Changes of slots alone, one after the other, are a change of slots alone. -/
theorem foldl_onlySlots {β : Type} {g : Core → β → Core} (hstep : ∀ c x, c.accErr = [] → OnlySlots c (g c x)) (xs : List β)
    (c : Core) (herr : c.accErr = []) : OnlySlots c (xs.foldl g c) := by
  induction xs generalizing c with
  | nil => exact OnlySlots.refl c
  | cons x xs ih => exact (hstep c x herr).trans (ih (g c x) ((hstep c x herr).accErr.trans herr))

/-! ### One entry of an output row -/

/-- The core after one entry of an output row was written: the total of the column's chunks, promoted after the old entry where
the operation accumulates (R34). -/
def mmWrite (m : MMDesc) (row col : Nat) (cs : List Part) (flip : L96) (c : Core) : Core :=
  c.setEntry m.slot row col (promote m.ac (if m.ac then c.entry m.slot row col else 0#96) cs ^^^ flip)

theorem mmWrite_onlySlots (m : MMDesc) (row col : Nat) (cs : List Part) (flip : L96) {c : Core} (herr : c.accErr = []) :
    OnlySlots c (mmWrite m row col cs flip c) := Core.setEntry_onlySlots herr _ _ _ _

theorem mmEntry_coreSet {s : State} {n : Nat} (herr : (s.core n).accErr = []) (m : MMDesc) (row col : Nat) (cs : List Part)
    (flip : L96) : CoreSet n (mmWrite m row col cs flip (s.core n)) s (mmEntry s n m row col cs flip) := by
  unfold mmEntry mmWrite
  dsimp only
  rw [readEntry_noErr herr]
  cases m.ac <;> exact coreSet_setCore s n _

/-- The core after the column of a product was written: past the tile it becomes zero, or stays where the operation
accumulates (R32). -/
def mmColumn (m : MMDesc) (row : Nat) (vecs : List (List Byte)) (fl : Nat → L96) (c : Core) (col : Nat) : Core :=
  if col < m.tile.nt then mmWrite m row col (chunksOfProducts m.g m.k (colProducts m vecs col)) (fl col) c
  else if m.ac then c
  else c.setEntry m.slot row col (Tot.zero.enc ^^^ fl col)

/-- What the column's entry becomes, from what it was. -/
def mmValue (m : MMDesc) (vecs : List (List Byte)) (fl : Nat → L96) (old : L96) (col : Nat) : L96 :=
  if col < m.tile.nt then
    promote m.ac (if m.ac then old else 0#96) (chunksOfProducts m.g m.k (colProducts m vecs col)) ^^^ fl col
  else if m.ac then old
  else Tot.zero.enc ^^^ fl col

section
variable (m : MMDesc) (row : Nat) (vecs : List (List Byte)) (fl : Nat → L96)

theorem mmColumn_onlySlots {c : Core} (herr : c.accErr = []) (col : Nat) : OnlySlots c (mmColumn m row vecs fl c col) := by
  unfold mmColumn
  split
  · exact mmWrite_onlySlots m row col _ _ herr
  · split
    · exact OnlySlots.refl c
    · exact Core.setEntry_onlySlots herr _ _ _ _

theorem mmColumn_entry (c : Core) (col slot r k : Nat) :
    (mmColumn m row vecs fl c col).entry slot r k = if entryKey slot r k = entryKey m.slot row col then
      mmValue m vecs fl (c.entry slot r k) col else c.entry slot r k := by
  have hkey : entryKey slot r k = entryKey m.slot row col → c.entry m.slot row col = c.entry slot r k := fun h => by
    rw [Core.entry, Core.entry, h]
  unfold mmColumn mmValue mmWrite
  by_cases hin : col < m.tile.nt
  · simp only [if_pos hin, Core.entry_setEntry]
    split
    · next h => rw [hkey h]
    · rfl
  · simp only [if_neg hin]
    cases m.ac
    · simp only [Bool.false_eq_true, if_false, Core.entry_setEntry]
    · simp only [if_true, ite_self]

/-- The first k columns of a product written: their entries, and every entry of another row or column as before. -/
theorem mmColumns_entry (hrow : row < 256) (c : Core) {k : Nat} (hk : k ≤ 258) {slot r col : Nat} (hr : r < 256)
    (hcol : col < 258) : ((List.range k).foldl (mmColumn m row vecs fl) c).entry slot r col =
      if slot = m.slot ∧ r = row ∧ col < k then mmValue m vecs fl (c.entry slot r col) col else c.entry slot r col := by
  induction k with
  | zero => simp
  | succ k ih =>
    rw [List.range_succ, List.foldl_append, List.foldl_cons, List.foldl_nil, mmColumn_entry, ih (by omega)]
    simp only [entryKey_inj hr hrow hcol (by omega : k < 258)]
    by_cases hcell : slot = m.slot ∧ r = row
    · rcases Nat.lt_trichotomy col k with hlt | rfl | hgt
      · simp [hcell, hlt, Nat.lt_succ_of_lt hlt, Nat.ne_of_lt hlt]
      · simp [hcell]
      · simp [hcell, Nat.not_lt.mpr (Nat.le_of_lt hgt), Nat.not_lt.mpr hgt, Nat.ne_of_gt hgt]
    · have hout : ∀ p : Prop, ¬ (slot = m.slot ∧ r = row ∧ p) := fun p hp => hcell ⟨hp.1, hp.2.1⟩
      rw [if_neg (hout _), if_neg (hout _), if_neg (hout _)]

/-! ### The output row -/

/-- The core after a row was written, its two checksum columns included (R46). -/
def mmRowCore (c : Core) : Core :=
  mmWrite m row 257 (chunksOfProducts m.g m.k (chkProducts m vecs true)) (fl 257)
    (mmWrite m row 256 (chunksOfProducts m.g m.k (chkProducts m vecs false)) (fl 256)
      ((List.range 256).foldl (mmColumn m row vecs fl) c))

theorem mmRowCore_onlySlots {c : Core} (herr : c.accErr = []) : OnlySlots c (mmRowCore m row vecs fl c) := by
  have hcols := foldl_onlySlots (fun _ x h => mmColumn_onlySlots m row vecs fl h x) (List.range 256) c herr
  have hsum := hcols.trans (mmWrite_onlySlots m row 256 (chunksOfProducts m.g m.k (chkProducts m vecs false)) (fl 256)
    (hcols.accErr.trans herr))
  exact hsum.trans (mmWrite_onlySlots m row 257 _ _ (hsum.accErr.trans herr))

/-- A row written: its 256 entries, and every entry of another row as before. -/
theorem mmRowCore_entry (hrow : row < 256) (c : Core) {slot r col : Nat} (hr : r < 256) (hcol : col < 258)
    (hplain : slot = m.slot → r = row → col < 256) : (mmRowCore m row vecs fl c).entry slot r col =
      if slot = m.slot ∧ r = row then mmValue m vecs fl (c.entry slot r col) col else c.entry slot r col := by
  have hcheck : ∀ k, 256 ≤ k → k < 258 → entryKey slot r col ≠ entryKey m.slot row k := fun k hk hk' heq => by
    obtain ⟨hslot, hsame, hcolk⟩ := (entryKey_inj hr hrow hcol hk').mp heq
    have := hplain hslot hsame
    omega
  rw [mmRowCore, mmWrite, Core.entry_setEntry, if_neg (hcheck 257 (by omega) (by omega)), mmWrite, Core.entry_setEntry,
    if_neg (hcheck 256 (by omega) (by omega)), mmColumns_entry m row vecs fl hrow c (by omega) hr hcol]
  by_cases hcell : slot = m.slot ∧ r = row
  · rw [if_pos hcell, if_pos ⟨hcell.1, hcell.2, hplain hcell.1 hcell.2⟩]
  · rw [if_neg hcell, if_neg fun h => hcell ⟨h.1, h.2.1⟩]

end

/-- An upset of nature flips bits of one column's total. -/
def flipOf (col : Nat) (flip : L96) (c : Nat) : L96 := if c = col then flip else 0#96

section
variable (n : Nat) (m : MMDesc) (row : Nat) (vecs : List (List Byte)) (fl : Nat → L96)

/-- The step of an output row at one column. -/
def mmColumnStep (st : State) (c : Nat) : State :=
  if c < m.tile.nt then mmEntry st n m row c (chunksOfProducts m.g m.k (colProducts m vecs c)) (fl c)
  else if m.ac then st
  else st.setCore n ((st.core n).setEntry m.slot row c (Tot.zero.enc ^^^ fl c))

/-- The steps of an output row at all its columns. -/
def mmRowEntries (s : State) : State :=
  mmEntry (mmEntry ((List.range 256).foldl (mmColumnStep n m row vecs fl) s) n m row 256
    (chunksOfProducts m.g m.k (chkProducts m vecs false)) (fl 256)) n m row 257
    (chunksOfProducts m.g m.k (chkProducts m vecs true)) (fl 257)

variable {n m row vecs fl}

theorem mmColumnStep_coreSet {st : State} (herr : (st.core n).accErr = []) (c : Nat) :
    CoreSet n (mmColumn m row vecs fl (st.core n) c) st (mmColumnStep n m row vecs fl st c) := by
  unfold mmColumn mmColumnStep
  split
  · exact mmEntry_coreSet herr m row c _ _
  · split
    · exact CoreSet.refl n st
    · exact coreSet_setCore st n _

theorem mmRowEntries_coreSet {s : State} (herr : (s.core n).accErr = []) :
    CoreSet n (mmRowCore m row vecs fl (s.core n)) s (mmRowEntries n m row vecs fl s) := by
  have hcols := foldl_coreSet (π := id) (I := fun c => c.accErr = []) (fun _ c h => mmColumnStep_coreSet h c)
    (fun _ x h => (mmColumn_onlySlots m row vecs fl h x).accErr.trans h) (List.range 256) s herr
  have hcolsErr := (foldl_onlySlots (fun _ x h => mmColumn_onlySlots m row vecs fl h x) (List.range 256) _ herr).accErr.trans herr
  have hsum := mmEntry_coreSet (by rw [hcols.own]; exact hcolsErr) m row 256
    (chunksOfProducts m.g m.k (chkProducts m vecs false)) (fl 256)
  rw [hcols.own] at hsum
  have hmag := mmEntry_coreSet (by
    rw [hsum.own]
    exact (mmWrite_onlySlots m row 256 _ _ hcolsErr).accErr.trans hcolsErr) m row 257
    (chunksOfProducts m.g m.k (chkProducts m vecs true)) (fl 257)
  rw [hsum.own] at hmag
  exact (hcols.trans hsum).trans hmag

end

/-- An output row is written, and unless GATE_DIS its gated products are counted (R43). -/
theorem mmRowStep_eq (s : State) (n : Nat) (m : MMDesc) (row : Nat) (vecs : List (List Byte)) (col : Nat) (flip : L96) :
    mmRowStep s n m row vecs col flip =
      if (mmRowEntries n m row vecs (flipOf col flip) s).flag (F.ARRAY_CONF_GATE_DIS n) then
        mmRowEntries n m row vecs (flipOf col flip) s
      else (mmRowEntries n m row vecs (flipOf col flip) s).incFld (F.GATED_MAC_COUNT_COUNT n) (gatedCount m vecs) := rfl

/-- An output row written changes its core as mmRowCore says, and of the registers its core's GATED_MAC_COUNT alone. -/
theorem mmRowStep_spec {s : State} {n : Nat} (herr : (s.core n).accErr = []) (m : MMDesc) (row : Nat)
    (vecs : List (List Byte)) (col : Nat) (flip : L96) :
    let t := mmRowStep s n m row vecs col flip
    t.core n = mmRowCore m row vecs (flipOf col flip) (s.core n) ∧ CoresExcept [n] s t ∧
      RegsExcept [R.GATED_MAC_COUNT n] s t ∧ t.mem = s.mem ∧ t.now = s.now ∧ t.late = s.late ∧ t.pending = s.pending := by
  have hset := mmRowEntries_coreSet (m := m) (row := row) (vecs := vecs) (fl := flipOf col flip) herr
  have hregs := (RegsExcept.refl [R.GATED_MAC_COUNT n] s).of_csr hset.csr
  dsimp only
  rw [mmRowStep_eq]
  split
  · exact ⟨hset.own, hset.coresExcept, hregs, hset.mem, hset.now, hset.late, hset.pending⟩
  · exact ⟨hset.own, hset.coresExcept, hregs.incFld _ (by simp), hset.mem, hset.now, hset.late, hset.pending⟩

/-! ### The row as the statement takes it apart -/

theorem flipOf_plain {col : Nat} {flip : L96} {c : Nat} (h : flip = 0#96 ∨ c ≠ col) : flipOf col flip c = 0#96 := by
  unfold flipOf
  rcases h with rfl | hc
  · exact ite_self _
  · exact if_neg hc

section
variable {m : MMDesc} {row : Nat} (vecs : List (List Byte)) {fl : Nat → L96} (hrow : row < 256) (k : Core)
include hrow

/-- A column of the tile: its products' total. -/
theorem mmRowCore_inTile {c : Nat} (hc : c < m.tile.nt) (hnt : m.tile.nt ≤ 256) (hfl : fl c = 0#96) :
    (mmRowCore m row vecs fl k).entry m.slot row c =
      promote m.ac (if m.ac then k.entry m.slot row c else 0#96) (chunksOfProducts m.g m.k (colProducts m vecs c)) := by
  rw [mmRowCore_entry m row vecs fl hrow k hrow (by omega) (fun _ _ => by omega), if_pos ⟨rfl, rfl⟩, mmValue, if_pos hc, hfl,
    BitVec.xor_zero]

/-- A column past the tile. -/
theorem mmRowCore_pastTile {c : Nat} (hc : m.tile.nt ≤ c) (hin : c < 256) (hfl : fl c = 0#96) :
    (mmRowCore m row vecs fl k).entry m.slot row c = if m.ac then k.entry m.slot row c else Tot.zero.enc := by
  rw [mmRowCore_entry m row vecs fl hrow k hrow (by omega) (fun _ _ => hin), if_pos ⟨rfl, rfl⟩, mmValue,
    if_neg (Nat.not_lt.mpr hc), hfl, BitVec.xor_zero]

theorem mmRowCore_otherRow {slot r c : Nat} (hr : r < 256) (hc : c < 258) (hother : ¬ (slot = m.slot ∧ r = row)) :
    (mmRowCore m row vecs fl k).entry slot r c = k.entry slot r c := by
  rw [mmRowCore_entry m row vecs fl hrow k hr hc (fun hs hr' => absurd ⟨hs, hr'⟩ hother), if_neg hother]

end

theorem mmRowWrite_landing {s : State} {n : Nat} {l : Late} {rest : List Late} (h : DueNext s n l rest) {m : MMDesc}
    {row col : Nat} {vecs : List (List Byte)} {flip : L96} (hop : l.op = .mmRow m row vecs col flip) :
    mmRowWrite s n .none = tickTo s l.due := by
  unfold mmRowWrite
  exact untilLate_landing h (by rw [hop])

end Sys2Proof.Machine
end

section
open Sys2Proof Sys2Proof.Machine

/-- Settles O29: each column of the row is written once, and the writes of the two checksum columns leave it alone. -/
theorem outputRowWritten : Obligations.OutputRowWritten := by
  unfold Obligations.OutputRowWritten
  intro n s l rest m row col vecs flip hdue hop _ hrow hnt herr
  have hcore : (landing s l rest).core n = { s.core n with cur := l.syl } := hdue.own ▸ landing_core s l rest
  obtain ⟨hown, hcores, hregs, hmem, hnow, hlate, hpending⟩ :=
    mmRowStep_spec (s := landing s l rest) (n := n) (by rw [hcore]; exact herr) m row vecs col flip
  rw [hcore] at hown
  have hslots := mmRowCore_onlySlots m row vecs (flipOf col flip) (c := { s.core n with cur := l.syl }) herr
  have heff := applyLate_mmRow (s := s) (rest := rest) hop
  rw [hdue.own] at heff
  refine runs_landing hdue (f := fun s => mmRowWrite s n .none) rfl (mmRowWrite_landing hdue hop) heff hnow hlate hpending ?_
  rw [hown]
  exact ⟨fun c hc hflip => mmRowCore_inTile vecs hrow _ hc hnt (flipOf_plain hflip),
    fun c hc hin hflip => mmRowCore_pastTile vecs hrow _ hc hin (flipOf_plain hflip),
    fun slot r c _ hr hc hother => mmRowCore_otherRow vecs hrow _ hr hc hother, hslots.vregs, hslots.imem,
    landed_of hdue hnow hlate hregs hcores, fun a => State.byte_of_mem (hmem.trans (landing_mem s l rest)) a⟩

end

section
/-! SUPPORT. A lone syllable that issues, from its effect on its own core, the registers and what is in flight (R110, R111). -/

namespace Sys2Proof.Machine

/-! ### The effect of a lone syllable -/

/-- The state to which the effect of a lone syllable of core n is added. -/
def atEffect (s : State) (n : Nat) (slot : SlotL) : State := beforeEffect (s.gathered n) n slot

/-- Of the state s the effect d of a lone syllable of core n changes no other core, no register but those named, neither memory nor
clock, and asks nothing of the sequencer. -/
structure LoneEffect (n : Nat) (as : List Nat) (s d : State) : Prop where
  now : d.now = s.now
  mem : d.mem = s.mem
  regs : RegsExcept as s d
  cores : CoresExcept [n] s d
  branch : (d.core n).branch = (s.core n).branch
  ctl : (d.core n).ctl = ⟨none, none, false⟩

theorem atEffect_core (s : State) (n : Nat) (slot : SlotL) : (atEffect s n slot).core n =
    { s.core n with latch := [], ctl := ⟨none, none, false⟩, cur := nextOrd s n slot } := by
  rw [atEffect, beforeEffect_core, State.gathered_core, nextOrd]

/-- Before the effect only the core's own record differs. -/
theorem atEffect_eq (s : State) (n : Nat) (slot : SlotL) : ∃ cs, atEffect s n slot = { s with cores := cs } := by
  unfold atEffect beforeEffect setCur clearCtl State.gathered State.setCore
  exact ⟨_, rfl⟩

@[simp] theorem atEffect_late (s : State) (n : Nat) (slot : SlotL) : (atEffect s n slot).late = s.late := by
  obtain ⟨_, h⟩ := atEffect_eq s n slot; rw [h]
@[simp] theorem atEffect_bcast (s : State) (n : Nat) (slot : SlotL) : (atEffect s n slot).bcast = s.bcast := by
  obtain ⟨_, h⟩ := atEffect_eq s n slot; rw [h]
@[simp] theorem atEffect_csr (s : State) (n : Nat) (slot : SlotL) : (atEffect s n slot).csr = s.csr := by
  obtain ⟨_, h⟩ := atEffect_eq s n slot; rw [h]
@[simp] theorem atEffect_reg (s : State) (n : Nat) (slot : SlotL) (a : Nat) : (atEffect s n slot).reg a = s.reg a :=
  State.reg_of_csr (atEffect_csr s n slot) a

theorem atEffect_lone (s : State) (n : Nat) (slot : SlotL) (as : List Nat) : LoneEffect n as s (atEffect s n slot) where
  now := by obtain ⟨_, h⟩ := atEffect_eq s n slot; rw [h]
  mem := by obtain ⟨_, h⟩ := atEffect_eq s n slot; rw [h]
  regs := fun a _ => atEffect_reg s n slot a
  cores := fun m hm => by
    have hne : m ≠ n := by simpa using hm
    exact (beforeEffect_core_ne (s.gathered n) slot hne).trans (State.gathered_core_ne hne)
  branch := by rw [atEffect_core]
  ctl := by rw [atEffect_core]

/-- A change of a core that asks nothing of its sequencer. -/
def KeepsControl (g : Core → Core) : Prop := ∀ c, (g c).branch = c.branch ∧ (g c).ctl = c.ctl

/-- t differs from d in what is in flight alone. -/
def OnlyPushed (d t : State) : Prop := ∃ late, t = { d with late := late }

theorem OnlyPushed.refl (d : State) : OnlyPushed d d := ⟨d.late, rfl⟩

theorem OnlyPushed.pushLate {d t : State} (h : OnlyPushed d t) (n due phase : Nat) (op : LateOp) :
    OnlyPushed d (t.pushLate n due phase op) := by
  obtain ⟨_, rfl⟩ := h
  exact ⟨_, rfl⟩

/-- Operations put in flight one after the other. -/
theorem OnlyPushed.foldl {β : Type} {f : State → β → State} (hstep : ∀ t x, OnlyPushed t (f t x)) {d : State} (xs : List β)
    {t : State} (h : OnlyPushed d t) : OnlyPushed d (xs.foldl f t) := by
  induction xs generalizing t with
  | nil => exact h
  | cons x xs ih =>
    obtain ⟨_, hlate⟩ := hstep t x
    obtain ⟨_, rfl⟩ := h
    exact ih ⟨_, hlate⟩

section
variable {n : Nat} {as : List Nat} {s d : State} (h : LoneEffect n as s d)
include h

theorem LoneEffect.setCore {g : Core → Core} (hg : KeepsControl g) : LoneEffect n as s (d.setCore n (g (d.core n))) where
  now := h.now
  mem := h.mem
  regs := h.regs
  cores := fun m hm => (State.core_setCore_ne d _ (by simpa using hm)).trans (h.cores m hm)
  branch := by rw [State.core_setCore_same, (hg _).1, h.branch]
  ctl := by rw [State.core_setCore_same, (hg _).2, h.ctl]

theorem LoneEffect.coreSet {c : Core} {t : State} (ht : CoreSet n c d t) (hbranch : c.branch = (d.core n).branch)
    (hctl : c.ctl = (d.core n).ctl) : LoneEffect n as s t where
  now := ht.now.trans h.now
  mem := ht.mem.trans h.mem
  regs := h.regs.of_csr ht.csr
  cores := fun m hm => (ht.coresExcept m hm).trans (h.cores m hm)
  branch := by rw [ht.own, hbranch, h.branch]
  ctl := by rw [ht.own, hctl, h.ctl]

theorem LoneEffect.setReg {a : Nat} (v : Word) (ha : a ∈ as) : LoneEffect n as s (d.setReg a v) :=
  ⟨h.now, h.mem, h.regs.setReg v ha, h.cores, h.branch, h.ctl⟩

theorem LoneEffect.setBcast (b : List (Nat × Bcast)) : LoneEffect n as s { d with bcast := b } :=
  ⟨h.now, h.mem, h.regs, h.cores, h.branch, h.ctl⟩

theorem LoneEffect.pushed {t : State} (ht : OnlyPushed d t) : LoneEffect n as s t := by
  obtain ⟨_, rfl⟩ := ht
  exact ⟨h.now, h.mem, h.regs, h.cores, h.branch, h.ctl⟩

theorem LoneEffect.pushLate (m due phase : Nat) (op : LateOp) : LoneEffect n as s (d.pushLate m due phase op) :=
  h.pushed ((OnlyPushed.refl d).pushLate m due phase op)

/-- Where the sequencer's own registers are not touched, it goes straight on as before. -/
theorem LoneEffect.straight (hs : Straight s n) (hstatus : R.SEQ_STATUS n ∉ as) (hfetch : R.CFS_FETCH n ∉ as) : Straight d n where
  loops := (h.regs.fld hstatus).trans hs.loops
  branch := h.branch.trans hs.branch
  window := by rw [h.regs.fld hfetch]; exact hs.window
  next := by
    have hpc : pcOf d n = pcOf s n := h.regs.fld hstatus
    rw [hpc]
    exact hs.next

end

/-! ### The sequencer after it -/

/-- The state b that the sequencer of core n leaves after the effect d of a lone syllable. -/
structure Sequenced (n : Nat) (d b : State) : Prop where
  late : b.late = d.late
  bcast : b.bcast = d.bcast
  regs : RegsExcept (issueRegs n) d b
  core : ∃ k o u, b.core n = { d.core n with issued := k, cur := o, nextIssue := u, pastEnd := false }

theorem cfsIssue_bcast (s : State) (n u pc : Nat) (halt : Bool) : (cfsIssue s n u pc halt).bcast = s.bcast := by
  unfold cfsIssue
  dsimp only
  split
  · rw [State.pushLate_bcast, State.setFld_bcast, State.setFld_bcast, State.setFld_bcast, State.setFld_bcast]
  · rw [State.setFld_bcast, State.setFld_bcast, State.setFld_bcast, State.setFld_bcast]

theorem setPc_bcast (s : State) (n a : Nat) : (setPc s n a).bcast = s.bcast := by
  rw [setPc, State.setCore_bcast, State.setFld_bcast]

theorem countIssue_bcast (s : State) (n u k ord : Nat) : (countIssue s n u k ord).bcast = s.bcast := by
  rw [countIssue, State.incFld_bcast, State.setCore_bcast]

theorem sequence_sequenced {d : State} {n : Nat} (u k pc : Nat) (hctl : (d.core n).ctl = ⟨none, none, false⟩)
    (hs : Straight d n) (hpc : pc + 1 < 16384) : Sequenced n d (sequence d n u k pc) := by
  obtain ⟨hlate, -, -, -, hregs, -, hcore⟩ := sequence_spec u k pc hctl hs hpc
  refine ⟨hlate, ?_, hregs, _, _, _, hcore⟩
  rw [sequence_straight u k pc hctl hs, setPc_bcast, cfsIssue_bcast, countIssue_bcast]

/-- A lone syllable y that nothing holds or faults issues with its effect, and the sequencer goes straight on. -/
theorem Issues.issuesWith {i : Instr} {x : SylInfo} {s : State} {as : List Nat} {P : State → Prop} {y : Syl} {slot : SlotL}
    {app : Nat → Syl → State → State} (h : Issues i x s) (hy : x.y = y) (hslot : x.slot = slot) (happ : x.apply = app)
    (hs : Straight s y.n) (heff : LoneEffect y.n as s (app s.now y (atEffect s y.n slot))) (hstatus : R.SEQ_STATUS y.n ∉ as)
    (hfetch : R.CFS_FETCH y.n ∉ as) (hP : ∀ b, Sequenced y.n (app s.now y (atEffect s y.n slot)) b → P b) :
    IssuesWith i y.n s P := by
  subst hy hslot happ
  have hexecutes : execSyls (s.gathered x.y.n) [i] = [x] := by
    have hpred : (s.gathered x.y.n).pr x.y.n x.y.pred.toNat = true := h.clear.pred
    rw [execSyls_one h.syl, h.clear.legal, hpred]
    rfl
  have hissue : s.atIssue i x.y.n = sequence (x.apply s.now x.y (atEffect s x.y.n x.slot)) x.y.n s.now
      ((s.core x.y.n).issued + 1) (pcOf s x.y.n) := by
    rw [State.atIssue, applyBundle_one s.now hexecutes, State.gathered_core, atEffect, pcOf, State.gathered_fld, pcOf]
  have hstraight := heff.straight hs hstatus hfetch
  obtain ⟨-, hnow, hmem, hpc, -, hcores, -⟩ :=
    sequence_spec s.now ((s.core x.y.n).issued + 1) (pcOf s x.y.n) heff.ctl hstraight hs.next
  have hseq := sequence_sequenced s.now ((s.core x.y.n).issued + 1) (pcOf s x.y.n) heff.ctl hstraight hs.next
  rw [← hissue] at hnow hmem hpc hcores hseq
  refine ⟨?_, hpc, hnow.trans heff.now, fun m hm => ?_, fun a => State.byte_of_mem (hmem.trans heff.mem) a, hP _ hseq⟩
  · rw [exec_syl h.syl, ifUp_up _ h.ready.up, addSyl_issues h, State.after, State.atIssue]
  · exact (hcores m (by simpa using hm)).trans (heff.cores m hm)

end Sys2Proof.Machine
end

section
/-! SUPPORT. The syllables of the A slot at issue: weight loads, streamed products, segment additions (R29 to R37, R88, R89). -/

namespace Sys2Proof.Machine

/-! ### The weight slots of a core (R29) -/

@[simp] theorem Core.shadowValid_setShadowValid (c : Core) (v : Bool) : (c.setShadowValid v).shadowValid = v := by
  unfold Core.shadowValid Core.setShadowValid
  cases c.activeSlot <;> rfl

@[simp] theorem Core.activeValid_setShadowValid (c : Core) (v : Bool) : (c.setShadowValid v).activeValid = c.activeValid := by
  unfold Core.activeValid Core.setShadowValid
  cases c.activeSlot <;> rfl

@[simp] theorem Core.shadowValid_swap (c : Core) : c.swap.shadowValid = false := Core.shadowValid_setShadowValid _ _

@[simp] theorem Core.activeTile_swap (c : Core) : c.swap.activeTile = c.shadowTile := by
  unfold Core.swap Core.setShadowValid Core.activeTile Core.shadowTile
  cases c.activeSlot <;> rfl

/-! ### What an issue leaves of the array's part of a core -/

/-- The weight slots, the output slots and the occupancy of the array are the same in both. -/
structure SameArray (c d : Core) : Prop where
  activeSlot : d.activeSlot = c.activeSlot
  wtiles : d.wtiles = c.wtiles
  wvalid : d.wvalid = c.wvalid
  loadFree : d.loadFree = c.loadFree
  mmFree : d.mmFree = c.mmFree
  portFree : d.portFree = c.portFree
  slots : d.slots = c.slots
  accErr : d.accErr = c.accErr

section
variable {c d : Core} (h : SameArray c d)
include h

theorem SameArray.shadowValid : d.shadowValid = c.shadowValid := by
  rw [Core.shadowValid, h.activeSlot, h.wvalid, Core.shadowValid]
theorem SameArray.activeValid : d.activeValid = c.activeValid := by
  rw [Core.activeValid, h.activeSlot, h.wvalid, Core.activeValid]
theorem SameArray.activeTile : d.activeTile = c.activeTile := by
  rw [Core.activeTile, h.activeSlot, h.wtiles, Core.activeTile]
theorem SameArray.shadowTile : d.shadowTile = c.shadowTile := by
  rw [Core.shadowTile, h.activeSlot, h.wtiles, Core.shadowTile]
theorem SameArray.entry (slot row col : Nat) : d.entry slot row col = c.entry slot row col := by
  rw [Core.entry, h.slots, Core.entry]

end

theorem atEffect_sameArray (s : State) (n : Nat) (slot : SlotL) : SameArray (s.core n) ((atEffect s n slot).core n) := by
  rw [atEffect_core]
  constructor <;> rfl

theorem atEffect_cur (s : State) (n : Nat) (slot : SlotL) : ((atEffect s n slot).core n).cur = nextOrd s n slot := by
  rw [atEffect_core]

theorem Sequenced.sameArray {n : Nat} {d b : State} (h : Sequenced n d b) : SameArray (d.core n) (b.core n) := by
  obtain ⟨k, o, u, hcore⟩ := h.core
  rw [hcore]
  constructor <;> rfl

/-! ### The operands of a syllable are those of the state before -/

section
variable (y : Syl) (s : State) (n : Nat) (slot : SlotL)

@[simp] theorem sr_atEffect (m i : Nat) : (atEffect s n slot).sr m i = s.sr m i := atEffect_reg s n slot _
@[simp] theorem srF_atEffect (hi lo : Nat) : srF y (atEffect s n slot) hi lo = srF y s hi lo := sr_atEffect s n slot _ _
@[simp] theorem wldKt_atEffect : wldKt y (atEffect s n slot) = wldKt y s := by rw [wldKt, srF_atEffect, wldKt]
@[simp] theorem wldNt_atEffect : wldNt y (atEffect s n slot) = wldNt y s := by rw [wldNt, srF_atEffect, wldNt]
@[simp] theorem mmCw_atEffect : mmCw y (atEffect s n slot) = mmCw y s := srF_atEffect y s n slot 11 6
@[simp] theorem mmSlot_atEffect : mmSlot y (atEffect s n slot) = mmSlot y s := by rw [mmSlot, mmIdx, sr_atEffect, mmSlot, mmIdx]
@[simp] theorem saSlot_atEffect : saSlot y (atEffect s n slot) = saSlot y s := by rw [saSlot, sr_atEffect, saSlot]
@[simp] theorem saBase_atEffect : saBase y (atEffect s n slot) = saBase y s := by rw [saBase, srF_atEffect, saBase]
@[simp] theorem saV_atEffect : saV y (atEffect s n slot) = saV y s := by rw [saV, srF_atEffect, saV]
@[simp] theorem saStride_atEffect : saStride y (atEffect s n slot) = saStride y s := by rw [saStride, srF_atEffect, saStride]
@[simp] theorem drSlot_atEffect : drSlot y (atEffect s n slot) = drSlot y s := by rw [drSlot, drIdx, sr_atEffect, drSlot, drIdx]
@[simp] theorem drV_atEffect : drV y (atEffect s n slot) = drV y s := by rw [drV, drCtl, sr_atEffect, drV, drCtl]
@[simp] theorem fld_atEffect (f : Fld) : (atEffect s n slot).fld f = s.fld f := State.fld_of_csr (atEffect_csr s n slot) f

end

theorem pushLate_late (s : State) (n due phase : Nat) (op : LateOp) :
    (s.pushLate n due phase op).late = insertLate ⟨n, (s.core n).cur, due, phase, op⟩ s.late := rfl

theorem SameArray.trans {c d e : Core} (h : SameArray c d) (h' : SameArray d e) : SameArray c e :=
  ⟨h'.activeSlot.trans h.activeSlot, h'.wtiles.trans h.wtiles, h'.wvalid.trans h.wvalid, h'.loadFree.trans h.loadFree,
    h'.mmFree.trans h.mmFree, h'.portFree.trans h.portFree, h'.slots.trans h.slots, h'.accErr.trans h.accErr⟩

/-- An operation of an output slot noted (R94). -/
theorem addSlotOp_sameArray (s : State) (n : Nat) (o : SlotOp) : SameArray (s.core n) ((addSlotOp s n o).core n) := by
  rw [addSlotOp, State.core_setCore_same]
  constructor <;> rfl

theorem addSlotOp_cur (s : State) (n : Nat) (o : SlotOp) : ((addSlotOp s n o).core n).cur = (s.core n).cur := by
  rw [addSlotOp, State.core_setCore_same]

theorem addSlotOp_bcast (s : State) (n : Nat) (o : SlotOp) : (addSlotOp s n o).bcast = s.bcast := rfl
theorem addSlotOp_late (s : State) (n : Nat) (o : SlotOp) : (addSlotOp s n o).late = s.late := rfl

theorem LoneEffect.addSlotOp {n : Nat} {as : List Nat} {s d : State} (h : LoneEffect n as s d) (o : SlotOp) :
    LoneEffect n as s (addSlotOp d n o) :=
  h.setCore (g := fun c => { c with slotOps := (c.slotOps.filter fun x => decide (d.now ≤ x.last)) ++ [o] })
    fun _ => ⟨rfl, rfl⟩

/-! ### A.WLD (R29, R31) -/

/-- The core of an A.WLD issued in cycle u. -/
def wldCore (u : Nat) (c : Core) : Core := { c.setShadowValid false with loadFree := u + 256 }

theorem wldCore_keepsControl (u : Nat) : KeepsControl (wldCore u) := fun _ => ⟨rfl, rfl⟩
theorem wldCore_shadowValid (u : Nat) (c : Core) : (wldCore u c).shadowValid = false := Core.shadowValid_setShadowValid c false
theorem wldCore_activeValid (u : Nat) (c : Core) : (wldCore u c).activeValid = c.activeValid :=
  Core.activeValid_setShadowValid c false
theorem wldCore_activeTile (u : Nat) (c : Core) : (wldCore u c).activeTile = c.activeTile := rfl
theorem wldCore_cur (u : Nat) (c : Core) : (wldCore u c).cur = c.cur := rfl

theorem aWldApply_eq (u : Nat) (y : Syl) (s : State) : aWldApply u y s =
    (s.setCore y.n (wldCore u (s.core y.n))).pushLate y.n u 1 (.wldLine u 0 (wldFmt y) (wldKt y s) (wldNt y s)
      (fb y 13 13 == 1) (fb y 12 12 == 1) (coreOff (srF y s 5 0)) [] []) := rfl

section
variable {y : Syl} {s : State}

theorem aWld_issues {x : SylInfo} (h : Issues (.aWld y) x s) (hs : Straight s y.n) :
    IssuesWith (.aWld y) y.n s fun b => (b.core y.n).loadFree = s.now + 256 ∧
      (b.core y.n).shadowValid = false ∧ (b.core y.n).activeValid = (s.core y.n).activeValid ∧
      (b.core y.n).activeTile = (s.core y.n).activeTile ∧
      b.late = insertLate ⟨y.n, nextOrd s y.n .a, s.now, 1, .wldLine s.now 0 (wldFmt y) (wldKt y s) (wldNt y s)
        (fb y 13 13 == 1) (fb y 12 12 == 1) (coreOff (srF y s 5 0)) [] []⟩ s.late ∧ RegsExcept (issueRegs y.n) s b := by
  obtain rfl := Option.some.inj h.syl
  have hbefore := atEffect_sameArray s y.n .a
  have heff : LoneEffect y.n [] s (aWldApply s.now y (atEffect s y.n .a)) := by
    rw [aWldApply_eq]
    exact ((atEffect_lone s y.n .a []).setCore (wldCore_keepsControl s.now)).pushLate _ _ _ _
  refine h.issuesWith (slot := .a) (app := aWldApply) rfl rfl rfl hs heff List.not_mem_nil List.not_mem_nil fun b hb => ?_
  have hsame := hb.sameArray
  have hlate := hb.late
  rw [aWldApply_eq, State.pushLate_core, State.core_setCore_same] at hsame
  rw [aWldApply_eq, pushLate_late, State.core_setCore_same, wldCore_cur, atEffect_cur, State.setCore_late, atEffect_late,
    wldKt_atEffect, wldNt_atEffect, srF_atEffect] at hlate
  exact ⟨hsame.loadFree, hsame.shadowValid.trans (wldCore_shadowValid _ _),
    hsame.activeValid.trans ((wldCore_activeValid _ _).trans hbefore.activeValid),
    hsame.activeTile.trans ((wldCore_activeTile _ _).trans hbefore.activeTile), hlate, heff.regs.trans hb.regs⟩

end

/-! ### A.MM (R34, R37) -/

/-- The core of an A.MM of V cycles issued in cycle u: it swaps its weight slots where the syllable says so. -/
def mmCore (u v : Nat) (y : Syl) (c : Core) : Core := { (if fb y 19 19 = 1 then c.swap else c) with mmFree := u + v }

section
variable (u v : Nat) (y : Syl) (c : Core)

theorem mmCore_keepsControl : KeepsControl (mmCore u v y) := fun c => by
  unfold mmCore
  split <;> exact ⟨rfl, rfl⟩

theorem mmCore_of_swap (h : fb y 19 19 = 1) : (mmCore u v y c).activeSlot = !c.activeSlot ∧
    (mmCore u v y c).shadowValid = false ∧ (mmCore u v y c).activeTile = c.shadowTile := by
  unfold mmCore
  rw [if_pos h]
  exact ⟨rfl, Core.shadowValid_swap c, Core.activeTile_swap c⟩

theorem mmCore_of_stay (h : fb y 19 19 = 0) : (mmCore u v y c).activeSlot = c.activeSlot ∧
    (mmCore u v y c).wvalid = c.wvalid := by
  unfold mmCore
  rw [if_neg (by omega)]
  exact ⟨rfl, rfl⟩

end

/-- A sender of a broadcast opens its quartet's stream, which closes V cycles later; any other A.MM opens none (R37). -/
def mmOpen (u : Nat) (y : Syl) (v : Nat) (s : State) : State :=
  if mmBc y = 1 then
    ({ s with bcast := put (fun _ => Bcast.reset) s.bcast (y.n.val / 4) ⟨y.n, u, v, (s.bcastOf (y.n.val / 4)).buf⟩ } :
      State).pushLate y.n (u + v) 0 (.bcastClose (y.n.val / 4) u)
  else s

theorem mmOpen_lone {u v n : Nat} {y : Syl} {as : List Nat} {s d : State} (h : LoneEffect n as s d) :
    LoneEffect n as s (mmOpen u y v d) := by
  unfold mmOpen
  split
  · exact (h.setBcast _).pushLate _ _ _ _
  · exact h

theorem mmOpen_core (u : Nat) (y : Syl) (v : Nat) (s : State) (n : Nat) : (mmOpen u y v s).core n = s.core n := by
  unfold mmOpen
  split
  · exact State.pushLate_core _ _ _ _ _ _
  · rfl

theorem mmOpen_sender {u v : Nat} {y : Syl} (h : mmBc y = 1) (s : State) :
    (mmOpen u y v s).bcastOf (y.n.val / 4) = ⟨y.n, u, v, (s.bcastOf (y.n.val / 4)).buf⟩ := by
  unfold mmOpen
  rw [if_pos h]
  exact (bcastOf_put s _ _ _).trans (if_pos rfl)

theorem mmOpen_other {u v : Nat} {y : Syl} (h : mmBc y ≠ 1) (s : State) : mmOpen u y v s = s := if_neg h

/-- The operation put in flight last is among those in flight. -/
theorem mem_pushLate (s : State) (n due phase : Nat) (op : LateOp) :
    ⟨n, (s.core n).cur, due, phase, op⟩ ∈ (s.pushLate n due phase op).late := (mem_insertLate _ _ _).mpr (.inl rfl)

/-- What an A.MM takes with it into the array. -/
def mmDesc (u : Nat) (y : Syl) (s : State) (slot : Nat) : MMDesc :=
  let w := mmCw y s
  { u := u, origin := s.fld (F.SEQ_STATUS_PC y.n), slot := slot, ac := fb y 18 18 == 1, g := mmG w,
    k := getBits w 15 8 + 1, v := mmV w, pass := mmPass w, afmt := mmAfmt w, conv := mmConv w, taps := mmTaps w,
    dly := mmDly w, ch := mmCh w, bc := mmBc y, skew := u - (s.bcastOf (y.n / 4)).us, base := coreOff (srF y s 5 0),
    rs := getBits w 47 36, ps := getBits w 59 48, tile := (if fb y 19 19 = 1 then (s.core y.n).swap else s.core y.n).activeTile }

/-- The fill of an output slot by an A.MM (R94). -/
def mmFill (u : Nat) (y : Syl) (s : State) (slot : Nat) : SlotOp :=
  ⟨slot, false, 272 + mmPrime (mmCw y s), u, u + 271 + mmV (mmCw y s)⟩

end Sys2Proof.Machine
end

section
/-! SUPPORT. A.MM at issue: the fill that it opens, and the stream of its quartet (R31, R34, R37). -/

namespace Sys2Proof.Machine

theorem aMmApply_eq {u : Nat} {y : Syl} {s : State} {slot : Nat} (h : mmSlot y s = some slot) : aMmApply u y s =
    (mmOpen u y (mmV (mmCw y s)) (addSlotOp (s.setCore y.n (mmCore u (mmV (mmCw y s)) y (s.core y.n))) y.n
      (mmFill u y s slot))).pushLate y.n u (if mmBc y = 2 then 2 else 1) (.mmVec (mmDesc u y s slot) 0 []) := by
  unfold aMmApply mmOpen mmDesc mmFill mmCore
  dsimp only
  rw [h]
  rfl

theorem aMm_issues {y : Syl} {s : State} {x : SylInfo} {slot : Nat} (hslot : mmSlot y s = some slot) (h : Issues (.aMm y) x s)
    (hs : Straight s y.n) : IssuesWith (.aMm y) y.n s fun b =>
      (b.core y.n).mmFree = s.now + mmV (mmCw y s) ∧
      (fb y 19 19 = 1 → (b.core y.n).activeSlot = !(s.core y.n).activeSlot ∧ (b.core y.n).shadowValid = false ∧
        (b.core y.n).activeTile = (s.core y.n).shadowTile) ∧
      (fb y 19 19 = 0 → (b.core y.n).activeSlot = (s.core y.n).activeSlot ∧ (b.core y.n).wvalid = (s.core y.n).wvalid) ∧
      (∃ l ∈ b.late, l.n = y.n.val ∧ l.due = s.now ∧ ∃ m, l.op = .mmVec m 0 [] ∧ m.slot = slot ∧ m.u = s.now ∧
        m.v = mmV (mmCw y s) ∧ m.ac = (fb y 18 18 == 1) ∧ m.origin = pcOf s y.n ∧ m.tile = (b.core y.n).activeTile) ∧
      (mmBc y = 1 → (b.bcastOf (y.n.val / 4)).sender = y.n.val ∧ (b.bcastOf (y.n.val / 4)).us = s.now ∧
        (b.bcastOf (y.n.val / 4)).v = mmV (mmCw y s)) ∧
      (mmBc y ≠ 1 → b.bcast = s.bcast) ∧ RegsExcept (issueRegs y.n) s b := by
  obtain rfl := Option.some.inj h.syl
  have hbefore := atEffect_sameArray s y.n .a
  have happly := aMmApply_eq (u := s.now) ((mmSlot_atEffect y s y.n .a).trans hslot)
  rw [mmCw_atEffect] at happly
  have heff : LoneEffect y.n [] s (aMmApply s.now y (atEffect s y.n .a)) := by
    rw [happly]
    exact (mmOpen_lone (((atEffect_lone s y.n .a []).setCore (mmCore_keepsControl _ _ y)).addSlotOp _)).pushLate _ _ _ _
  refine h.issuesWith (slot := .a) (app := aMmApply) rfl rfl rfl hs heff List.not_mem_nil List.not_mem_nil fun b hb => ?_
  have hregs := heff.regs.trans hb.regs
  rw [happly] at hb
  have hfill := addSlotOp_sameArray ((atEffect s y.n .a).setCore y.n
    (mmCore s.now (mmV (mmCw y s)) y ((atEffect s y.n .a).core y.n))) y.n (mmFill s.now y (atEffect s y.n .a) slot)
  rw [State.core_setCore_same] at hfill
  have hsame := hb.sameArray
  rw [State.pushLate_core, mmOpen_core] at hsame
  replace hsame := hfill.trans hsame
  have hstreams := hb.bcast
  rw [State.pushLate_bcast] at hstreams
  refine ⟨hsame.mmFree, fun hswap => ?_, fun hstay => ?_, ?_, fun hsend => ?_, fun hsend => ?_, hregs⟩
  · obtain ⟨hslotOf, hvalid, htile⟩ := mmCore_of_swap s.now (mmV (mmCw y s)) y ((atEffect s y.n .a).core y.n) hswap
    exact ⟨hsame.activeSlot.trans (hslotOf.trans (by rw [hbefore.activeSlot])), hsame.shadowValid.trans hvalid,
      hsame.activeTile.trans (htile.trans hbefore.shadowTile)⟩
  · obtain ⟨hslotOf, hvalid⟩ := mmCore_of_stay s.now (mmV (mmCw y s)) y ((atEffect s y.n .a).core y.n) hstay
    exact ⟨hsame.activeSlot.trans (hslotOf.trans hbefore.activeSlot), hsame.wvalid.trans (hvalid.trans hbefore.wvalid)⟩
  · refine ⟨_, hb.late ▸ mem_pushLate _ _ _ _ _, rfl, rfl, _, rfl, rfl, rfl, ?_, rfl, fld_atEffect s y.n .a _,
      hsame.activeTile.symm⟩
    rw [mmDesc, mmCw_atEffect]
  · have hopen : b.bcastOf (y.n.val / 4) = ⟨y.n, s.now, mmV (mmCw y s), (s.bcastOf (y.n.val / 4)).buf⟩ := by
      rw [State.bcastOf, hstreams]
      exact (mmOpen_sender hsend _).trans (by rw [State.bcastOf, addSlotOp_bcast, State.setCore_bcast, atEffect_bcast]; rfl)
    rw [hopen]
    exact ⟨rfl, rfl, rfl⟩
  · rw [hstreams, mmOpen_other hsend, addSlotOp_bcast, State.setCore_bcast, atEffect_bcast]

end Sys2Proof.Machine
end

section
/-! SUPPORT. A.SADD and A.DRAIN at issue: what they take and leave (R88 to R90, R49). -/

namespace Sys2Proof.Machine

/-! ### A.SADD (R88, R89) -/

/-- The core of a syllable that occupies the slot port until a cycle (R88). -/
def portCore (free : Nat) (c : Core) : Core := { c with portFree := free }

theorem portCore_keepsControl (free : Nat) : KeepsControl (portCore free) := fun _ => ⟨rfl, rfl⟩
theorem portCore_slots (free : Nat) (c : Core) : (portCore free c).slots = c.slots := rfl

theorem aSaddApply_eq {u : Nat} {y : Syl} {s : State} {slot : Nat} (h : saSlot y s = some slot) : aSaddApply u y s =
    (addSlotOp (s.setCore y.n (portCore (u + saV y s) (s.core y.n))) y.n ⟨slot, false, 8, u, u + 7 + saV y s⟩).pushLate y.n u 1
      (.saddRow slot (s.fld (F.SEQ_STATUS_PC y.n)) u (saV y s) 0 (saBase y s) (saStride y s)) := by
  unfold aSaddApply
  rw [h]
  rfl

theorem aSadd_issues {y : Syl} {s : State} {x : SylInfo} {slot : Nat} (hslot : saSlot y s = some slot)
    (h : Issues (.aSadd y) x s) (hs : Straight s y.n) : IssuesWith (.aSadd y) y.n s fun b =>
      (b.core y.n).portFree = s.now + saV y s ∧
      b.late = insertLate ⟨y.n, nextOrd s y.n .a, s.now, 1,
        .saddRow slot (pcOf s y.n) s.now (saV y s) 0 (saBase y s) (saStride y s)⟩ s.late ∧ RegsExcept (issueRegs y.n) s b := by
  obtain rfl := Option.some.inj h.syl
  have happly := aSaddApply_eq (u := s.now) ((saSlot_atEffect y s y.n .a).trans hslot)
  rw [saV_atEffect, saBase_atEffect, saStride_atEffect, fld_atEffect] at happly
  have heff : LoneEffect y.n [] s (aSaddApply s.now y (atEffect s y.n .a)) := by
    rw [happly]
    exact (((atEffect_lone s y.n .a []).setCore (portCore_keepsControl _)).addSlotOp _).pushLate _ _ _ _
  refine h.issuesWith (slot := .a) (app := aSaddApply) rfl rfl rfl hs heff List.not_mem_nil List.not_mem_nil fun b hb => ?_
  have hregs := heff.regs.trans hb.regs
  rw [happly] at hb
  have hsame := hb.sameArray
  have hfill := addSlotOp_sameArray ((atEffect s y.n .a).setCore y.n
    (portCore (s.now + saV y s) ((atEffect s y.n .a).core y.n))) y.n ⟨slot, false, 8, s.now, s.now + 7 + saV y s⟩
  rw [State.core_setCore_same] at hfill
  rw [State.pushLate_core] at hsame
  refine ⟨(hfill.trans hsame).portFree, ?_, hregs⟩
  rw [hb.late, pushLate_late, addSlotOp_cur, State.core_setCore_same, addSlotOp_late, State.setCore_late, atEffect_late, portCore,
    atEffect_cur, pcOf]

/-! ### A.DRAIN (R77, R88, R90) -/

/-- The core after the row of a slot was reset (R79). -/
def zeroRow (slot : Nat) (c : Core) (row : Nat) : Core :=
  (List.range 258).foldl (fun c col => c.setEntry slot row col 0#96) c

theorem zeroRow_onlySlots {c : Core} (herr : c.accErr = []) (slot row : Nat) : OnlySlots c (zeroRow slot c row) :=
  foldl_onlySlots (fun _ _ h => Core.setEntry_onlySlots h _ _ _ _) _ c herr

/-- Entries set to zero one after the other: those named, and those that were zero. -/
theorem entry_foldl_zero (slot row : Nat) (cols : List Nat) (c : Core) {slot' r k : Nat}
    (h : c.entry slot' r k = 0#96 ∨ (slot' = slot ∧ r = row ∧ k ∈ cols)) :
    (cols.foldl (fun c col => c.setEntry slot row col 0#96) c).entry slot' r k = 0#96 := by
  induction cols generalizing c with
  | nil =>
    rcases h with h | ⟨-, -, h⟩
    · exact h
    · exact absurd h List.not_mem_nil
  | cons col cols ih =>
    refine ih _ ?_
    rw [Core.entry_setEntry]
    rcases h with h | ⟨rfl, rfl, h⟩
    · exact .inl (by rw [h, ite_self])
    · rcases List.mem_cons.mp h with rfl | h
      · exact .inl (if_pos rfl)
      · exact .inr ⟨rfl, rfl, h⟩

/-- The rows of a slot reset one after the other read as zero. -/
theorem entry_foldl_zeroRow (slot : Nat) (rows : List Nat) (c : Core) {r k : Nat} (hk : k < 258)
    (h : c.entry slot r k = 0#96 ∨ r ∈ rows) : (rows.foldl (zeroRow slot) c).entry slot r k = 0#96 := by
  induction rows generalizing c with
  | nil => exact h.resolve_right List.not_mem_nil
  | cons row rows ih =>
    refine ih _ ?_
    rcases h with h | h
    · exact .inl (entry_foldl_zero slot row _ c (.inl h))
    · rcases List.mem_cons.mp h with rfl | h
      · exact .inl (entry_foldl_zero slot r _ c (.inr ⟨rfl, rfl, List.mem_range.mpr hk⟩))
      · exact .inr h

/-- The core after a row of a slot was drained. -/
def drainedRow (slot : Nat) (zero : Bool) (c : Core) (row : Nat) : Core := if zero then zeroRow slot c row else c

theorem drainedRow_onlySlots {c : Core} (herr : c.accErr = []) (slot : Nat) (zero : Bool) (row : Nat) :
    OnlySlots c (drainedRow slot zero c row) := by
  unfold drainedRow
  split
  · exact zeroRow_onlySlots herr slot row
  · exact OnlySlots.refl c

/-- The entries of a row are read without an effect where the core has no errors of nature. -/
theorem readRow_state {n slot row src ord last : Nat} {origin : Option Nat} (cols : List Nat) (p : State × List L96)
    (herr : (p.1.core n).accErr = []) : (cols.foldl (fun (p : State × List L96) col =>
      let r := readEntry p.1 n slot row col src origin ord last
      (r.2, p.2 ++ [r.1])) p).1 = p.1 := by
  induction cols generalizing p with
  | nil => rfl
  | cons col cols ih =>
    rw [List.foldl_cons, readEntry_noErr herr]
    exact ih _ herr

theorem drainRow_coreSet {n slot f rm sr w tol origin ord last : Nat} {zero : Bool} {a : DrainAcc}
    (herr : (a.st.core n).accErr = []) (row : Nat) : CoreSet n (drainedRow slot zero (a.st.core n) row) a.st
      (drainRow n slot f rm sr w tol origin ord last zero a row).st := by
  have hread := readRow_state (n := n) (slot := slot) (row := row) (src := 2) (ord := ord) (last := last)
    (origin := some origin) (List.range 258) (a.st, []) herr
  unfold drainRow drainedRow
  dsimp only at hread ⊢
  rw [hread]
  cases zero
  · exact CoreSet.refl n a.st
  · exact coreSet_setCore a.st n _

/-- What a drain of a slot that issues in cycle u takes from it, row by row. -/
def drainTaken (u : Nat) (y : Syl) (s : State) (slot : Nat) : DrainAcc :=
  (List.range (drV y s)).foldl
    (drainRow y.n slot (drFmt y) (drRm y) (s.reg (R.SR_STATE y.n)).toNat (drW y s) (s.fld (F.ARRAY_CONF_CHK_TOL y.n))
      (s.fld (F.SEQ_STATUS_PC y.n)) (s.core y.n).cur (u + drV y s + 16) (drZero y))
    ⟨s, [], [], CvtFlags.none, 0, [], 0⟩

/-- The core after a drain has taken its rows. -/
def drainedCore (y : Syl) (s : State) (slot : Nat) : Core :=
  (List.range (drV y s)).foldl (drainedRow slot (drZero y)) (s.core y.n)

section
variable {u : Nat} {y : Syl} {s : State} {slot : Nat}

theorem drainTaken_coreSet (herr : (s.core y.n).accErr = []) :
    CoreSet y.n (drainedCore y s slot) s (drainTaken u y s slot).st :=
  foldl_coreSet (n := y.n) (π := DrainAcc.st) (g := drainedRow slot (drZero y)) (I := fun c => c.accErr = [])
    (fun _ x h => drainRow_coreSet h x) (fun _ x h => (drainedRow_onlySlots h slot _ x).accErr.trans h)
    (List.range (drV y s)) ⟨s, [], [], CvtFlags.none, 0, [], 0⟩ herr

theorem drainedCore_onlySlots (herr : (s.core y.n).accErr = []) : OnlySlots (s.core y.n) (drainedCore y s slot) :=
  foldl_onlySlots (fun _ _ h => drainedRow_onlySlots h slot _ _) _ _ herr

/-- A drain without ZERO leaves the slots. -/
theorem drainedCore_of_keep (h : drZero y = false) : drainedCore y s slot = s.core y.n := by
  have hkeep : ∀ (rows : List Nat) (c : Core), rows.foldl (drainedRow slot false) c = c := fun rows => by
    induction rows with
    | nil => exact fun _ => rfl
    | cons _ _ ih => exact ih
  rw [drainedCore, h]
  exact hkeep _ _

/-- A drain with ZERO resets the rows that it drains. -/
theorem drainedCore_of_zero (h : drZero y = true) {r c : Nat} (hr : r < drV y s) (hc : c < 258) :
    (drainedCore y s slot).entry slot r c = 0#96 := by
  rw [drainedCore, h]
  exact entry_foldl_zeroRow slot _ _ hc (.inr (List.mem_range.mpr hr))

/-- In stochastic mode a drain of V rows takes V times 256 draws (R77, R78). -/
def drainRounded (u : Nat) (y : Syl) (s : State) (slot : Nat) : State :=
  if drRm y = 2 then (drainTaken u y s slot).st.setReg (R.SR_STATE y.n)
    (BitVec.ofNat 64 ((s.reg (R.SR_STATE y.n)).toNat + drV y s * 256))
  else (drainTaken u y s slot).st

/-- The writes, the records and the status of a drain put in flight (R90, R97). -/
def drainFlight (u : Nat) (y : Syl) (s : State) (slot : Nat) (t : State) : State :=
  let a := drainTaken u y s slot
  let writes := (drainBytes (drFmt y) (drBase y s) (drStride y s) (drV y s) a).foldl
    (fun st p => st.pushLate y.n (u + drV y s + 17) 0 (.mem (.flat p.1) p.2)) t
  let records := if drOn y then
      a.rows.zipIdx.foldl (fun st r => st.pushLate y.n (u + 1 + r.2) 1 (.drainRec u r.2 (drStat y s) (drWs y s) (drAcc y)
        (drFin y) ((r.1.take (drWs y s)).map (drainVal (drFmt y))))) writes
    else writes
  if drFmt y = 7 then records else records.pushLate y.n (u + drV y s + 16) 1
    (.drainStat (a.tot + 4 * b2n a.flags.ovf + 2 * b2n a.flags.inv + b2n a.flags.inx))

theorem drainFlight_onlyPushed (u : Nat) (y : Syl) (s : State) (slot : Nat) (t : State) :
    OnlyPushed t (drainFlight u y s slot t) := by
  have hwrites := OnlyPushed.foldl
    (f := fun st (p : Nat × List Byte) => st.pushLate y.n (u + drV y s + 17) 0 (.mem (.flat p.1) p.2))
    (fun st p => (OnlyPushed.refl st).pushLate _ _ _ _)
    (drainBytes (drFmt y) (drBase y s) (drStride y s) (drV y s) (drainTaken u y s slot)) (OnlyPushed.refl t)
  have hrecords := OnlyPushed.foldl
    (f := fun st (r : List Nat × Nat) => st.pushLate y.n (u + 1 + r.2) 1 (.drainRec u r.2 (drStat y s) (drWs y s) (drAcc y)
      (drFin y) ((r.1.take (drWs y s)).map (drainVal (drFmt y)))))
    (fun st p => (OnlyPushed.refl st).pushLate _ _ _ _) (drainTaken u y s slot).rows.zipIdx hwrites
  unfold drainFlight
  cases drOn y <;> dsimp only <;> split
  · exact hwrites
  · exact hwrites.pushLate _ _ _ _
  · exact hrecords
  · exact hrecords.pushLate _ _ _ _

/-- A drain at issue: its rows are taken, the rounding state moved on, the port occupied, and the verdict put in flight last. -/
theorem aDrainApply_eq (h : drSlot y s = some slot) : aDrainApply u y s =
    (drainFlight u y s slot (drainOccupy (drainRounded u y s slot) y.n slot u (drV y s))).pushLate y.n (u + drV y s + 16) 1
      (.drainDone slot (s.fld (F.SEQ_STATUS_PC y.n)) (s.core y.n).cur
        ((drainTaken u y s slot).fails ++ sigFails (s.core y.n) slot) (drainTaken u y s slot).skips) := by
  unfold aDrainApply
  rw [h]
  rfl

end

end Sys2Proof.Machine
end

section
/-! SUPPORT. What A.DRAIN leaves after its issue (R89, R90, R77, R78). -/

namespace Sys2Proof.Machine

section
variable {u : Nat} {y : Syl} {s : State} {slot : Nat} (herr : (s.core y.n).accErr = [])
include herr

theorem drainRounded_core : (drainRounded u y s slot).core y.n = drainedCore y s slot := by
  unfold drainRounded
  split
  · rw [State.setReg_core, (drainTaken_coreSet herr).own]
  · exact (drainTaken_coreSet herr).own

theorem drainRounded_srState : (drainRounded u y s slot).reg (R.SR_STATE y.n) =
    if drRm y = 2 then BitVec.ofNat 64 ((s.reg (R.SR_STATE y.n)).toNat + drV y s * 256) else s.reg (R.SR_STATE y.n) := by
  unfold drainRounded
  split
  · exact State.reg_setReg_same _ _ _
  · exact State.reg_of_csr (drainTaken_coreSet herr).csr _

theorem drainRounded_lone {s0 : State} (h : LoneEffect y.n [R.SR_STATE y.n] s0 s) :
    LoneEffect y.n [R.SR_STATE y.n] s0 (drainRounded u y s slot) := by
  have honly := drainedCore_onlySlots (slot := slot) herr
  have htaken := h.coreSet (drainTaken_coreSet (u := u) (slot := slot) herr) honly.branch honly.ctl
  unfold drainRounded
  split
  · exact htaken.setReg _ (List.mem_singleton.mpr rfl)
  · exact htaken

end

theorem drainOccupy_eq (s : State) (n slot u v : Nat) : drainOccupy s n slot u v =
    addSlotOp (s.setCore n (portCore (u + v + 17) (s.core n))) n ⟨slot, true, 0, u, u + v + 16⟩ := rfl

theorem drainOccupy_lone {n slot u v : Nat} {as : List Nat} {s d : State} (h : LoneEffect n as s d) :
    LoneEffect n as s (drainOccupy d n slot u v) := by
  rw [drainOccupy_eq]
  exact (h.setCore (portCore_keepsControl (u + v + 17))).addSlotOp _

theorem drainOccupy_sameArray (s : State) (n slot u v : Nat) :
    SameArray (portCore (u + v + 17) (s.core n)) ((drainOccupy s n slot u v).core n) := by
  have h := addSlotOp_sameArray (s.setCore n (portCore (u + v + 17) (s.core n))) n ⟨slot, true, 0, u, u + v + 16⟩
  rwa [State.core_setCore_same, ← drainOccupy_eq] at h

theorem drainOccupy_reg (s : State) (n slot u v a : Nat) : (drainOccupy s n slot u v).reg a = s.reg a := rfl

theorem OnlyPushed.core {d t : State} (h : OnlyPushed d t) (n : Nat) : t.core n = d.core n := by
  obtain ⟨_, rfl⟩ := h
  rfl

theorem OnlyPushed.reg {d t : State} (h : OnlyPushed d t) (a : Nat) : t.reg a = d.reg a := by
  obtain ⟨_, rfl⟩ := h
  rfl

theorem aDrain_issues {y : Syl} {s : State} {x : SylInfo} {slot : Nat} (hslot : drSlot y s = some slot)
    (h : Issues (.aDrain y) x s) (hs : Straight s y.n) (herr : (s.core y.n).accErr = []) :
    IssuesWith (.aDrain y) y.n s fun b =>
      (b.core y.n).portFree = s.now + drV y s + 17 ∧
      b.reg (R.SR_STATE y.n) = (if drRm y = 2 then BitVec.ofNat 64 ((s.reg (R.SR_STATE y.n)).toNat + drV y s * 256)
        else s.reg (R.SR_STATE y.n)) ∧
      (drZero y = false → (b.core y.n).slots = (s.core y.n).slots) ∧
      (drZero y = true → slot < 18 → ∀ r c, r < drV y s → c < 258 → (b.core y.n).entry slot r c = 0#96) ∧
      (∃ l ∈ b.late, l.due = s.now + drV y s + 16 ∧
        ∃ fails skips, l.op = .drainDone slot (pcOf s y.n) (nextOrd s y.n .a) fails skips) ∧
      RegsExcept (R.SR_STATE y.n :: issueRegs y.n) s b := by
  obtain rfl := Option.some.inj h.syl
  have hbefore := atEffect_sameArray s y.n .a
  have herr' : ((atEffect s y.n .a).core y.n).accErr = [] := hbefore.accErr.trans herr
  have happly := aDrainApply_eq (u := s.now) ((drSlot_atEffect y s y.n .a).trans hslot)
  rw [atEffect_cur, fld_atEffect, drV_atEffect] at happly
  have hpushed := drainFlight_onlyPushed s.now y (atEffect s y.n .a) slot
    (drainOccupy (drainRounded s.now y (atEffect s y.n .a) slot) y.n slot s.now (drV y s))
  have heff : LoneEffect y.n [R.SR_STATE y.n] s (aDrainApply s.now y (atEffect s y.n .a)) := by
    rw [happly]
    exact ((drainOccupy_lone (drainRounded_lone herr' (atEffect_lone s y.n .a _))).pushed hpushed).pushLate _ _ _ _
  refine h.issuesWith (slot := .a) (app := aDrainApply) rfl rfl rfl hs heff (by simp) (by simp) fun b hb => ?_
  have hregs := heff.regs.trans hb.regs
  rw [happly] at hb
  have hport := drainOccupy_sameArray (drainRounded s.now y (atEffect s y.n .a) slot) y.n slot s.now (drV y s)
  have hsame := hb.sameArray
  rw [State.pushLate_core, hpushed.core] at hsame
  replace hsame := hport.trans hsame
  rw [drainRounded_core herr'] at hsame
  refine ⟨hsame.portFree, ?_, fun hkeep => ?_, fun hzero _ r c hr hc => ?_,
    ⟨_, hb.late ▸ mem_pushLate _ _ _ _ _, rfl, _, _, rfl⟩, hregs⟩
  · rw [hb.regs _ (by simp [issueRegs]), State.pushLate_reg, hpushed.reg, drainOccupy_reg, drainRounded_srState herr', atEffect_reg,
      drV_atEffect]
  · rw [hsame.slots, portCore_slots, drainedCore_of_keep hkeep, hbefore.slots]
  · rw [hsame.entry]
    exact drainedCore_of_zero hzero (by rwa [drV_atEffect]) hc

end Sys2Proof.Machine
end

section
open Sys2Proof Sys2Proof.Machine

/-- Settles O34: the effect of each syllable of the A slot is on its core's array, on what is in flight, and, for the sender of a
broadcast and a stochastic drain, on the quartet's stream and on SR_STATE; the sequencer then goes straight on. -/
theorem arraySyllables : Obligations.ArraySyllables := by
  unfold Obligations.ArraySyllables
  intro y x s hs
  exact ⟨fun h => aWld_issues h hs, fun slot hslot h => aMm_issues hslot h hs, fun slot hslot h => aSadd_issues hslot h hs,
    fun slot hslot h herr => aDrain_issues hslot h hs herr⟩

end

section
/-! SUPPORT. An event source raised (R435, R436), and the verdict of a drain's check (R49). -/

namespace Sys2Proof.Machine

/-! ### An event source raised -/

/-- The assignment of a source to a target changes the event controller alone. -/
theorem assignSource_eq (s : State) (i : Nat) : ∃ e, s.assignSource i = { s with evc := e } := by
  unfold State.assignSource
  dsimp only
  split
  · exact ⟨_, rfl⟩
  · split
    · exact ⟨s.evc, rfl⟩
    · split <;> exact ⟨_, rfl⟩

/-- t differs from s in the event controller and in these registers alone. -/
def OnlyEvents (as : List Nat) (s t : State) : Prop :=
  ∃ c e, t = { s with csr := c, evc := e } ∧ ∀ a, a ∉ as → look regReset c a = s.reg a

section
variable {as : List Nat} {s t : State}

theorem OnlyEvents.refl (as : List Nat) (s : State) : OnlyEvents as s s := ⟨s.csr, s.evc, rfl, fun _ _ => rfl⟩

variable (h : OnlyEvents as s t)
include h

theorem OnlyEvents.setReg {a : Nat} (v : Word) (ha : a ∈ as) : OnlyEvents as s (t.setReg a v) := by
  obtain ⟨c, e, rfl, hregs⟩ := h
  exact ⟨_, e, rfl, fun b hb => (State.reg_setReg_ne _ v fun heq : b = a => hb (heq ▸ ha)).trans (hregs b hb)⟩

theorem OnlyEvents.assignSource (i : Nat) : OnlyEvents as s (t.assignSource i) := by
  obtain ⟨e', he⟩ := assignSource_eq t i
  obtain ⟨c, e, rfl, hregs⟩ := h
  exact ⟨c, e', he, hregs⟩

theorem OnlyEvents.regs : RegsExcept as s t := by obtain ⟨_, _, rfl, hregs⟩ := h; exact hregs
theorem OnlyEvents.now : t.now = s.now := by obtain ⟨_, _, rfl, _⟩ := h; rfl
theorem OnlyEvents.late : t.late = s.late := by obtain ⟨_, _, rfl, _⟩ := h; rfl
theorem OnlyEvents.mem : t.mem = s.mem := by obtain ⟨_, _, rfl, _⟩ := h; rfl
theorem OnlyEvents.cores : t.cores = s.cores := by obtain ⟨_, _, rfl, _⟩ := h; rfl
theorem OnlyEvents.pending : t.pending = s.pending := by obtain ⟨_, _, rfl, _⟩ := h; rfl

end

/-- After RAW of a raised source is set, its other effects are on PEND, the merge counter and the event controller. -/
theorem raise_onlyEvents (s : State) (i : Nat) :
    OnlyEvents [R.PEND (i / 64), R.EVC_MERGED] (s.setFld (rawFld i) 1) (s.raise i) := by
  unfold State.raise
  dsimp only
  generalize s.setFld (rawFld i) 1 = t
  have hpend : ∀ v, OnlyEvents [R.PEND (i / 64), R.EVC_MERGED] t ((t.setFld (pendFld i) v).assignSource i) := fun v =>
    ((OnlyEvents.refl _ t).setReg _ (by simp [pendFld])).assignSource i
  split
  · unfold State.levelSync
    split
    · exact hpend _
    · exact OnlyEvents.refl _ t
  · split
    · exact (OnlyEvents.refl _ t).setReg _ (by simp)
    · exact hpend 1

/-- A raised source is RAW. -/
theorem raise_raw (s : State) (i : Nat) : (s.raise i).fld (rawFld i) = 1 := by
  rw [(raise_onlyEvents s i).regs.fld (by simp [rawFld, R.RAW, R.PEND, R.EVC_MERGED]; omega),
    State.fld_setFld_same _ _ _ (by simp only [rawFld]; omega)]
  simp [rawFld]

/-- The registers that a raised source may change. -/
theorem raise_regs (s : State) (i : Nat) : RegsExcept [R.RAW (i / 64), R.PEND (i / 64), R.EVC_MERGED] s (s.raise i) :=
  ((RegsExcept.refl [R.RAW (i / 64)] s).setFld 1 (by simp [rawFld])).trans (raise_onlyEvents s i).regs

/-! ### The verdict -/

/-- CHK_LAST of a failed check (Table 2.9). -/
def chkRecord (slot origin : Nat) (f : Nat × Nat) : Word :=
  BitVec.ofNat 64 (2 ^ 63 + 2 ^ 60 * f.1 + 2 ^ 48 * chkSlotCode slot + 2 ^ 16 * (origin % 2 ^ 14) + f.2)

/-- The fields of the record of a slot that a core has. -/
theorem chkRecord_fields {slot origin : Nat} {f : Nat × Nat} (hslot : slot < 18) (hkind : f.1 < 8) (hindex : f.2 < 512) :
    getBits (chkRecord slot origin f) 63 63 = 1 ∧ getBits (chkRecord slot origin f) 62 60 = f.1 ∧
      getBits (chkRecord slot origin f) 52 48 = chkSlotCode slot ∧
      getBits (chkRecord slot origin f) 8 0 = f.2 ∧ getBits (chkRecord slot origin f) 29 16 = origin % 2 ^ 14 := by
  have hcode : chkSlotCode slot < 32 := by
    unfold chkSlotCode
    split <;> omega
  simp only [chkRecord, getBits, bitsOf, BitVec.toNat_ofNat, Nat.shiftRight_eq_div_pow]
  norm_num
  omega

/-- The counters and the record of a failed check (R49). -/
def verdictNoted (s : State) (n slot origin fails skips : Nat) (f : Nat × Nat) : State :=
  let t := (s.incFld (F.CHK_SKIP_COUNT_COUNT n) skips).incFld (F.CHK_FAIL_COUNT_COUNT n) fails
  if t.flag (F.CHK_LAST_VALID n) then t else t.setReg (R.CHK_LAST n) (chkRecord slot origin f)

section
variable (s : State) (n slot origin fails skips : Nat) (f : Nat × Nat)

theorem verdictNoted_onlyEvents : OnlyEvents [R.CHK_SKIP_COUNT n, R.CHK_FAIL_COUNT n, R.CHK_LAST n] s
    (verdictNoted s n slot origin fails skips f) := by
  have hcounts : OnlyEvents [R.CHK_SKIP_COUNT n, R.CHK_FAIL_COUNT n, R.CHK_LAST n] s
      ((s.incFld (F.CHK_SKIP_COUNT_COUNT n) skips).incFld (F.CHK_FAIL_COUNT_COUNT n) fails) :=
    ((OnlyEvents.refl _ s).setReg _ (by simp)).setReg _ (by simp)
  unfold verdictNoted
  dsimp only
  split
  · exact hcounts
  · exact hcounts.setReg _ (by simp)

theorem verdictNoted_counts : (verdictNoted s n slot origin fails skips f).fld (F.CHK_SKIP_COUNT_COUNT n) =
      s.sat (F.CHK_SKIP_COUNT_COUNT n) skips ∧
    (verdictNoted s n slot origin fails skips f).fld (F.CHK_FAIL_COUNT_COUNT n) = s.sat (F.CHK_FAIL_COUNT_COUNT n) fails := by
  have hskip : ((s.incFld (F.CHK_SKIP_COUNT_COUNT n) skips).incFld (F.CHK_FAIL_COUNT_COUNT n) fails).fld
      (F.CHK_SKIP_COUNT_COUNT n) = s.sat (F.CHK_SKIP_COUNT_COUNT n) skips := by
    rw [State.fld_incFld_ne _ _ _ _ (by simp), State.fld_incFld_same _ _ _ (by simp)]
    rfl
  have hfail : ((s.incFld (F.CHK_SKIP_COUNT_COUNT n) skips).incFld (F.CHK_FAIL_COUNT_COUNT n) fails).fld
      (F.CHK_FAIL_COUNT_COUNT n) = s.sat (F.CHK_FAIL_COUNT_COUNT n) fails := by
    rw [State.fld_incFld_same _ _ _ (by simp), State.fld_incFld_ne _ _ _ _ (by simp)]
    rfl
  unfold verdictNoted
  dsimp only
  split
  · exact ⟨hskip, hfail⟩
  · exact ⟨(State.fld_setReg_ne _ (F.CHK_SKIP_COUNT_COUNT n) _ (by simp)).trans hskip,
      (State.fld_setReg_ne _ (F.CHK_FAIL_COUNT_COUNT n) _ (by simp)).trans hfail⟩

/-- The first failure is recorded, unless a record stands. -/
theorem verdictNoted_last : (verdictNoted s n slot origin fails skips f).reg (R.CHK_LAST n) =
    if s.fld (F.CHK_LAST_VALID n) = 0 then chkRecord slot origin f else s.reg (R.CHK_LAST n) := by
  have hcounts : RegsExcept [R.CHK_SKIP_COUNT n, R.CHK_FAIL_COUNT n] s
      ((s.incFld (F.CHK_SKIP_COUNT_COUNT n) skips).incFld (F.CHK_FAIL_COUNT_COUNT n) fails) :=
    ((RegsExcept.refl _ s).incFld _ (by simp)).incFld _ (by simp)
  unfold verdictNoted State.flag
  dsimp only
  rw [hcounts.fld (by simp)]
  by_cases hvalid : s.fld (F.CHK_LAST_VALID n) = 0
  · rw [if_neg (by simp [hvalid]), if_pos hvalid, State.reg_setReg_same]
  · rw [if_pos (by simp [hvalid]), if_neg hvalid, hcounts _ (by simp)]

end

theorem drainDoneStep_nil (s : State) (n slot origin ord skips : Nat) :
    drainDoneStep s n slot origin ord [] skips = s.incFld (F.CHK_SKIP_COUNT_COUNT n) skips := rfl

theorem drainDoneStep_cons (s : State) (n slot origin ord skips : Nat) (f : Nat × Nat) (fs : List (Nat × Nat)) :
    drainDoneStep s n slot origin ord (f :: fs) skips =
      ((verdictNoted s n slot origin (f :: fs).length skips f).raise n).pushLate n (s.now + 1) 0 (.deferred ⟨cARRAY_CHECK, 2,
        some origin, ((verdictNoted s n slot origin (f :: fs).length skips f).reg (R.CHK_LAST n)).toNat, ord⟩) := rfl

/-! ### The row -/

/-- What the statement on the verdict (O27) says of the state t that the row leaves. -/
structure Verdict (s t : State) (n : Nat) (l : Late) (rest : List Late) (origin skips : Nat) (fails : List (Nat × Nat)) :
    Prop where
  skips : t.fld (F.CHK_SKIP_COUNT_COUNT n) = min (s.fld (F.CHK_SKIP_COUNT_COUNT n) + skips) (2 ^ 32 - 1)
  passed : fails = [] → Landed [R.CHK_SKIP_COUNT n] s t n l rest
  failed : ∀ f fs, fails = f :: fs →
    t.fld (F.CHK_FAIL_COUNT_COUNT n) = min (s.fld (F.CHK_FAIL_COUNT_COUNT n) + fails.length) (2 ^ 32 - 1) ∧
    (s.fld (F.CHK_LAST_VALID n) = 1 → t.reg (R.CHK_LAST n) = s.reg (R.CHK_LAST n)) ∧
    (s.fld (F.CHK_LAST_VALID n) = 0 → f.1 < 8 → f.2 < 512 → t.fld (F.CHK_LAST_VALID n) = 1 ∧ t.fld (F.CHK_LAST_KIND n) = f.1 ∧
      t.fld (F.CHK_LAST_INDEX n) = f.2 ∧ t.fld (F.CHK_LAST_BUNDLE n) = origin % 2 ^ 14) ∧
    t.fld (rawFld n) = 1 ∧ t.now = l.due ∧
    (∃ l' ∈ t.late, l'.n = n ∧ l'.due = l.due + 1 ∧ ∃ d, l'.op = .deferred d ∧ d.code = 0x15 ∧ d.origin = some origin)
  mem : MemSame s t

/-- The time that passes leaves the registers of a core's checks, which are no counters of a port. -/
theorem landing_check (s : State) (l : Late) (rest : List Late) (n : Nat) {a : Nat}
    (ha : a ∈ [R.CHK_SKIP_COUNT n, R.CHK_FAIL_COUNT n, R.CHK_LAST n]) : (landing s l rest).reg a = s.reg a := by
  refine landing_reg s l rest ?_
  simp only [List.mem_cons, List.not_mem_nil, or_false] at ha
  rintro ⟨p, hp | hp⟩ <;> rcases ha with rfl | rfl | rfl <;>
    simp only [R.CHK_SKIP_COUNT, R.CHK_FAIL_COUNT, R.CHK_LAST, R.RADD_HOLD, R.TRK_FULL] at hp <;> omega

theorem landing_checkFld (s : State) (l : Late) (rest : List Late) (n : Nat) {f : Fld}
    (hf : f.addr ∈ [R.CHK_SKIP_COUNT n, R.CHK_FAIL_COUNT n, R.CHK_LAST n]) : (landing s l rest).fld f = s.fld f := by
  rw [State.fld, landing_check s l rest n hf, State.fld]

section
variable {s : State} {n : Fin 64} {l : Late} {rest : List Late} {slot origin ord skips : Nat}
  (h : DueNext s n l rest)
include h

/-- The verdict of a check without a failure. -/
theorem runs_drainVerdict_passed (hop : l.op = .drainDone slot origin ord [] skips) :
    Runs (.drainCheckVerdict n) s fun t => Verdict s t n l rest origin skips [] := by
  have heff := applyLate_drainDone (s := s) (rest := rest) hop
  rw [drainDoneStep_nil, h.own] at heff
  refine runs_landing h (f := fun s => drainVerdict s n) rfl (untilLate_landing h (by rw [hop])) heff rfl rfl rfl
    ⟨?_, fun _ => landed_of h rfl rfl ((RegsExcept.refl _ _).incFld _ (by simp)) fun _ _ => rfl,
      fun _ _ heq => (List.cons_ne_nil _ _ heq.symm).elim, fun a => State.byte_of_mem (landing_mem s l rest) a⟩
  rw [State.fld_incFld_same _ _ _ (by simp), landing_checkFld s l rest n (by simp)]
  rfl

/-- The verdict of a check with failures, of a slot that a core has. -/
theorem runs_drainVerdict_failed {f : Nat × Nat} {fs : List (Nat × Nat)} (hslot : slot < 18)
    (hop : l.op = .drainDone slot origin ord (f :: fs) skips) :
    Runs (.drainCheckVerdict n) s fun t => Verdict s t n l rest origin skips (f :: fs) := by
  have heff := applyLate_drainDone (s := s) (rest := rest) hop
  rw [drainDoneStep_cons, h.own, landing_now_due h] at heff
  have hnoted := verdictNoted_onlyEvents (landing s l rest) n slot origin (f :: fs).length skips f
  obtain ⟨hskip, hfail⟩ := verdictNoted_counts (landing s l rest) n slot origin (f :: fs).length skips f
  have hlast := verdictNoted_last (landing s l rest) n slot origin (f :: fs).length skips f
  generalize verdictNoted (landing s l rest) n slot origin (f :: fs).length skips f = d at heff hnoted hskip hfail hlast
  have hraised := raise_onlyEvents d n
  have hregs := raise_regs d n
  have hraw := raise_raw d n
  have hlate : (d.raise n).late = rest := (hraised.late.trans hnoted.late).trans (landing_late s l rest)
  rw [State.sat, landing_checkFld s l rest n (by simp)] at hskip hfail
  rw [landing_checkFld s l rest n (by simp), landing_check s l rest n (by simp)] at hlast
  have hnow : (d.raise n).now = (landing s l rest).now := hraised.now.trans hnoted.now
  have hcheck : ∀ a, a ∈ [R.CHK_SKIP_COUNT n, R.CHK_FAIL_COUNT n, R.CHK_LAST n] → (d.raise n).reg a = d.reg a := fun a ha =>
    hregs a (by
      simp only [List.mem_cons, List.not_mem_nil, or_false] at ha ⊢
      have hn := n.isLt
      rcases ha with rfl | rfl | rfl <;>
        simp only [R.CHK_SKIP_COUNT, R.CHK_FAIL_COUNT, R.CHK_LAST, R.RAW, R.PEND, R.EVC_MERGED] <;> omega)
  have hcheckFld : ∀ g : Fld, g.addr ∈ [R.CHK_SKIP_COUNT n, R.CHK_FAIL_COUNT n, R.CHK_LAST n] → (d.raise n).fld g = d.fld g :=
    fun g hg => by rw [State.fld, hcheck _ hg, State.fld]
  refine runs_landing_of_quiet h (f := fun s => drainVerdict s n) rfl (untilLate_landing h (by rw [hop])) heff hnow
    (fun l' hl' => ?_) (hraised.pending.trans hnoted.pending) ⟨?_, fun hnil => (List.cons_ne_nil _ _ hnil).elim, ?_,
      fun a => State.byte_of_mem ((hraised.mem.trans hnoted.mem).trans (landing_mem s l rest)) a⟩
  · rcases (mem_insertLate _ _ _).mp hl' with rfl | hl'
    · exact Nat.lt_succ_self _
    · exact h.later l' (hlate ▸ hl')
  · rw [State.pushLate_fld, hcheckFld _ (by simp)]
    exact hskip
  · rintro f' fs' heq
    obtain ⟨rfl, rfl⟩ := List.cons.inj heq
    refine ⟨?_, fun hvalid => ?_, fun hfree hkind hindex => ?_, hraw, hnow.trans (landing_now_due h),
      ⟨_, (mem_insertLate _ _ _).mpr (.inl rfl), rfl, rfl, _, rfl, rfl, rfl⟩⟩
    · rw [State.pushLate_fld, hcheckFld _ (by simp)]
      exact hfail
    · rw [State.pushLate_reg, hcheck _ (by simp), hlast, if_neg (by omega)]
    · rw [if_pos hfree] at hlast
      obtain ⟨hv, hk, -, hi, hb⟩ := chkRecord_fields (origin := origin) hslot hkind hindex
      simp only [State.pushLate_fld]
      rw [hcheckFld _ (by simp), hcheckFld _ (by simp), hcheckFld _ (by simp), hcheckFld _ (by simp)]
      simp only [State.fld, hlast]
      exact ⟨hv, hk, hi, hb⟩

end

/-- What the statement on the verdict says holds of every slot that a core has. -/
theorem drainVerdict_of_slot {s : State} {n : Fin 64} {l : Late} {rest : List Late} {slot origin ord skips : Nat}
    {fails : List (Nat × Nat)} (h : DueNext s n l rest) (hslot : slot < 18)
    (hop : l.op = .drainDone slot origin ord fails skips) :
    Runs (.drainCheckVerdict n) s fun t => Verdict s t n l rest origin skips fails := by
  cases fails with
  | nil => exact runs_drainVerdict_passed h hop
  | cons f fs => exact runs_drainVerdict_failed h hslot hop

end Sys2Proof.Machine
end

section
/-! SUPPORT. A drain's verdict for a slot number that no slot code can hold (R49, Table 2.9). -/

namespace Sys2Proof.Machine

/-- What holds of every next state of a row holds of the state that its meaning gives. -/
theorem Runs.of_row {s : State} {i : Instr} {f : State → State} {P : State → Prop} (hup : s.up = true)
    (hrow : exec i s = ifUp f s) (h : Runs i s P) : P { f s with pending := s.pending } := by
  obtain ⟨t, hexec, hP⟩ := h
  rw [hrow, ifUp_up f hup] at hexec
  exact Host.Outcome.next.inj hexec ▸ hP

/-- The queue plays no role in a field of a register. -/
theorem State.fld_pending (s : State) (q : List Instr) (f : Fld) : ({ s with pending := q } : State).fld f = s.fld f := rfl

/-- A failed drain of core 0 comes to its verdict in cycle 0; its slot number is far beyond the 18 slots. -/
def verdictOfNoSlot : State :=
  { State.reset with late := [⟨0, 0, 0, 0, .drainDone (2 ^ 15 - 14) 0 0 [(0, 0)] 0⟩] }

theorem verdictOfNoSlot_due :
    DueNext verdictOfNoSlot (0 : Fin 64) ⟨0, 0, 0, 0, .drainDone (2 ^ 15 - 14) 0 0 [(0, 0)] 0⟩ [] :=
  ⟨rfl, rfl, rfl, Nat.le_refl 0, fun _ h => absurd h List.not_mem_nil⟩

/-- The record is not valid: bit 15 of the slot code, which stands from bit 48 on, carries out of VALID. -/
theorem verdictOfNoSlot_record : verdictOfNoSlot.fld (F.CHK_LAST_VALID (0 : Fin 64)) = 0 ∧
    (drainVerdict verdictOfNoSlot (0 : Fin 64)).fld (F.CHK_LAST_VALID (0 : Fin 64)) = 0 := by decide +kernel

end Sys2Proof.Machine
end

section
open Sys2Proof Sys2Proof.Machine

/-- Refutes O27: the statement takes every slot number, and one of 32,754 has a slot code that clears VALID of CHK_LAST.
For the 18 slots that a core has it holds (`drainVerdict_of_slot`). -/
theorem not_drainVerdict : ¬ Obligations.DrainVerdict := by
  unfold Obligations.DrainVerdict
  intro h
  obtain ⟨hbefore, hafter⟩ := verdictOfNoSlot_record
  obtain ⟨-, -, hfail, -⟩ := Runs.of_row (f := fun s => drainVerdict s (0 : Fin 64)) verdictOfNoSlot_due.up rfl
    (h 0 verdictOfNoSlot _ [] (2 ^ 15 - 14) 0 0 0 [(0, 0)] verdictOfNoSlot_due (fun _ h => absurd h List.not_mem_nil) rfl)
  obtain ⟨-, -, hrecord, -⟩ := hfail (0, 0) [] rfl
  have hvalid := (hrecord hbefore (by decide) (by decide)).1
  rw [State.fld_pending, hafter] at hvalid
  exact absurd hvalid (by decide)

end

section
/-! SUPPORT. A bundle gathered, and a lone syllable that issues or is suppressed (R107 to R110). -/

namespace Sys2Proof.Machine

variable {i : Instr} {x : SylInfo} {s : State}

/-- A syllable that is not its bundle's last joins the bundle of a core that issues; any other core takes none. -/
theorem addSyl_gathers (h : sylInfo i = some x) (hlast : x.y.last = false) : addSyl i s =
    if coreIssues s x.y.n = true then s.setCore x.y.n { s.core x.y.n with
      latch := (s.core x.y.n).latch.filter (fun j => slotOfSyl j != some x.slot) ++ [i] } else s := by
  unfold addSyl
  rw [h]
  cases hcore : coreIssues s x.y.n <;> simp [hlast, hcore]

/-- Nothing of a bundle whose one syllable has predicate 0 executes. -/
theorem execSyls_suppressed (h : sylInfo i = some x) (hpred : s.pr x.y.n x.y.pred.toNat = false) : execSyls s [i] = [] := by
  rw [execSyls_one h, hpred, Bool.and_false]
  rfl

/-- Nothing holds a bundle of which nothing executes. -/
theorem bundleStalls_of_none {n u : Nat} {b : List Instr} (h : execSyls s b = []) :
    bundleStalls s n u b = ⟨false, none, false⟩ := by
  unfold bundleStalls accHeldBy
  rw [h]
  rfl

/-- A suppressed syllable issues with its bundle (R109). -/
theorem addSyl_suppressed (h : sylInfo i = some x) (hlast : x.y.last = true) (hready : Ready s x.y.n) (hlegal : x.legal = true)
    (hpred : s.pr x.y.n x.y.pred.toNat = false) (hclean : ∀ y sl op e, i = .nop y sl op e → e = .clean) :
    addSyl i s = tickTo (applyBundle (s.gathered x.y.n) x.y.n s.now [i]) s.now := by
  have hnone : bundleStalls (s.gathered x.y.n) x.y.n s.now [i] = ⟨false, none, false⟩ :=
    bundleStalls_of_none (execSyls_suppressed h hpred)
  have hfaults : bundleFaults (s.gathered x.y.n) x.y.n s.now [i] = [] := by
    have hp : (s.gathered x.y.n).pr x.y.n x.y.pred.toNat = false := hpred
    rw [bundleFaults_one h hready, sylFaults, hlegal, hp]
    rfl
  rw [addSyl_last h hlast hready, reachIssue_ready hready hclean, hnone, if_neg (by decide),
    releaseAt_one h (.inr (.inr hpred)) hready.held, issueBundle, hfaults]

end Sys2Proof.Machine
end

section
open Sys2Proof Sys2Proof.Machine

/-- Settles O16: the command is handed to its core, which gathers it or, where it does not issue, takes none. -/
theorem syllableJoinsItsBundle : Obligations.SyllableJoinsItsBundle := by
  unfold Obligations.SyllableJoinsItsBundle
  intro i x s hup hsyl hlast
  rw [exec_syl hsyl, ifUp_up _ hup, addSyl_gathers hsyl hlast]
  exact ⟨fun h => by rw [if_pos h]; rfl, fun h => by rw [if_neg (by simp [h])]⟩

/-- Settles O17: a lone syllable that nothing holds or faults, or that is suppressed, goes from gathering to issue in the present
cycle. -/
theorem syllableIssues : Obligations.SyllableIssues := by
  unfold Obligations.SyllableIssues
  intro i x s
  refine ⟨fun h => ?_, fun hsyl hlast hready hlegal hpred hclean => ?_⟩
  · rw [exec_syl h.syl, ifUp_up _ h.ready.up, addSyl_issues h]
    rfl
  · rw [exec_syl hsyl, ifUp_up _ hready.up, addSyl_suppressed hsyl hlast hready hlegal hpred hclean]
    rfl

end

section
/-! SUPPORT. Results that land: scalar registers, predicates, masks, COMP counters, stored bytes, tiles, weight tiles (R29, R111,
R143, R187). -/

namespace Sys2Proof.Machine

/-! ### Registers that the clock leaves alone -/

/-- The offset of a port's cycle counters in its block. -/
theorem not_clockCounter {a : Nat} (hhold : a % 0x10000 ≠ 0x68) (htrk : a % 0x10000 ≠ 0x70) : ¬ clockCounter a := by
  rintro ⟨p, hp | hp⟩
  · exact hhold (by rw [hp, R.RADD_HOLD]; omega)
  · exact htrk (by rw [hp, R.TRK_FULL]; omega)

/-- A field that is not of a port's cycle counters is as before the landing. -/
theorem landing_fld (s : State) (l : Late) (rest : List Late) {f : Fld} (hhold : f.addr % 0x10000 ≠ 0x68)
    (htrk : f.addr % 0x10000 ≠ 0x70) : (landing s l rest).fld f = s.fld f := by
  rw [State.fld, landing_reg s l rest (not_clockCounter hhold htrk), State.fld]

/-! ### Predicates and masks -/

section
variable (s : State) (n : Nat)

theorem pr_zero : s.pr n 0 = true := rfl

/-- A predicate as its bit of PRED. -/
theorem pr_of_ne_zero {q : Nat} (hq : q ≠ 0) : s.pr n q = (s.reg (R.PRED n)).getLsbD q := by
  rw [State.pr, show (q == 0) = false by simpa using hq, Bool.false_or]

theorem pr_congr {s t : State} {n : Nat} (h : t.reg (R.PRED n) = s.reg (R.PRED n)) (q : Nat) : t.pr n q = s.pr n q := by
  rw [State.pr, h, State.pr]

theorem pr_setPr_same {p : Nat} (v : Bool) (hp : p ≠ 0) (hlt : p < 64) : (s.setPr n p v).pr n p = v := by
  rw [State.setPr, if_neg hp, pr_of_ne_zero _ _ hp, State.setFld, State.reg_setReg_same, setBits_getLsbD]
  cases v <;> simp [b2n, hlt]

theorem pr_setPr_ne {p q : Nat} (v : Bool) (hq : q ≠ p) : (s.setPr n p v).pr n q = s.pr n q := by
  unfold State.setPr
  split
  · rfl
  · by_cases h0 : q = 0
    · rw [h0, pr_zero, pr_zero]
    · have hout : ¬ (p ≤ q ∧ q ≤ p) := by omega
      rw [pr_of_ne_zero _ _ h0, pr_of_ne_zero _ _ h0, State.setFld, State.reg_setReg_same, setBits_getLsbD, if_neg hout]
      by_cases hlt : q < 64
      · simp [hlt]
      · simp [hlt, BitVec.getLsbD_of_ge _ q (Nat.not_lt.mp hlt)]

/-- A predicate written changes PRED alone. -/
theorem setPr_onlyEvents (p : Nat) (v : Bool) : OnlyEvents [R.PRED n] s (s.setPr n p v) := by
  unfold State.setPr
  split
  · exact OnlyEvents.refl _ s
  · exact (OnlyEvents.refl _ s).setReg _ (by simp)

/-- A mask written reads as written, m0 as all ones. -/
theorem mask_setMask (i : Nat) (v : BitVec 256) :
    (s.setMask n i v).mask n i = if i = 0 then BitVec.allOnes 256 else v := by
  unfold State.mask State.setMask
  by_cases h0 : i = 0
  · rw [if_pos h0, if_pos h0]
  · simp only [if_neg h0, State.reg_setReg, R.MREG]
    rw [if_pos trivial, if_neg (by omega), if_pos trivial, if_neg (by omega), if_neg (by omega), if_pos trivial,
      if_neg (by omega), if_neg (by omega), if_neg (by omega), if_pos trivial]
    apply BitVec.eq_of_getLsbD_eq
    intro k hk
    simp only [BitVec.getLsbD_append, BitVec.getLsbD_extractLsb']
    by_cases h1 : k < 64
    · simp [h1]
    · by_cases h2 : k - 64 < 64
      · simp [h1, h2, show 64 + (k - 64) = k by omega]
      · by_cases h3 : k - 64 - 64 < 64
        · simp [h1, h2, h3, show 128 + (k - 64 - 64) = k by omega]
        · simp [h1, h2, h3, show 192 + (k - 64 - 64 - 64) = k by omega, show k - 64 - 64 - 64 < 64 by omega]

/-- A mask written changes its own four registers alone. -/
theorem setMask_onlyEvents (i : Nat) (v : BitVec 256) :
    OnlyEvents [R.MREG n i 0, R.MREG n i 1, R.MREG n i 2, R.MREG n i 3] s (s.setMask n i v) := by
  unfold State.setMask
  split
  · exact OnlyEvents.refl _ s
  · exact ((((OnlyEvents.refl _ s).setReg _ (by simp)).setReg _ (by simp)).setReg _ (by simp)).setReg _ (by simp)

/-- An increment of a COMP counter changes that counter and its core's own record. -/
theorem compAdd_spec (c k : Nat) : (compAdd s n c k).now = s.now ∧ (compAdd s n c k).late = s.late ∧
    (compAdd s n c k).pending = s.pending ∧ (compAdd s n c k).mem = s.mem ∧ RegsExcept [R.COMP n c] s (compAdd s n c k) ∧
    CoresExcept [n] s (compAdd s n c k) ∧
    (compAdd s n c k).fld (F.COMP_COUNT n c) = (s.fld (F.COMP_COUNT n c) + k) % 2 ^ 32 := by
  unfold compAdd
  dsimp only
  have hset := coreSet_setCore (s.setFld (F.COMP_COUNT n c) ((s.fld (F.COMP_COUNT n c) + k) % 2 ^ 32)) n
  refine ⟨(hset _).now.trans (State.setFld_now s _ _), (hset _).late.trans (State.setFld_late s _ _),
    (hset _).pending.trans (State.setFld_pending s _ _), (hset _).mem.trans (State.setFld_mem s _ _),
    ((RegsExcept.refl _ s).setFld _ (by simp)).of_csr (hset _).csr,
    fun m hm => ((hset _).coresExcept m hm).trans (State.setFld_core s _ _ m), ?_⟩
  rw [State.setCore_fld, State.fld_setFld_same _ _ _ (by simp)]
  exact Nat.mod_mod _ _

/-- The predicates of S.WRP in PRED (R142). -/
theorem pr_setPreds (v : Nat) {q : Nat} (h1 : 1 ≤ q) (h15 : q < 16) :
    (s.setReg (R.PRED n) (setBits (s.reg (R.PRED n)) 15 1 (v / 2))).pr n q = v.testBit q := by
  rw [pr_of_ne_zero _ _ (by omega), State.reg_setReg_same, setBits_getLsbD, if_pos (by omega), Nat.testBit_div_two,
    Nat.sub_add_cancel h1, decide_eq_true (by omega), Bool.true_and]

end

/-! ### The effect of each kind of result -/

section
variable {s : State} {l : Late} {rest : List Late}

theorem applyLate_sreg {r : Nat} {v : Word} (hop : l.op = .sreg r v) :
    applyLate (({ s with late := rest } : State).clock l.due) l = (landing s l rest).setReg (R.SREG l.n r) v := by
  simp only [applyLate, hop, landing, setCur, State.setSr]

theorem applyLate_pred {p : Nat} {v : Bool} (hop : l.op = .pred p v) :
    applyLate (({ s with late := rest } : State).clock l.due) l = (landing s l rest).setPr l.n p v := by
  simp only [applyLate, hop, landing, setCur]

theorem applyLate_preds {v : Nat} (hop : l.op = .preds v) :
    applyLate (({ s with late := rest } : State).clock l.due) l =
      (landing s l rest).setReg (R.PRED l.n) (setBits ((landing s l rest).reg (R.PRED l.n)) 15 1 (v / 2)) := by
  simp only [applyLate, hop, landing, setCur]

theorem applyLate_mregs {i : Nat} {v : BitVec 256} (hop : l.op = .mregs i v) :
    applyLate (({ s with late := rest } : State).clock l.due) l = (landing s l rest).setMask l.n i v := by
  simp only [applyLate, hop, landing, setCur]

theorem applyLate_compInc {c k : Nat} (hop : l.op = .compInc c k) :
    applyLate (({ s with late := rest } : State).clock l.due) l = compAdd (landing s l rest) l.n c k := by
  simp only [applyLate, hop, landing, setCur]

theorem applyLate_mem {p : Place} {bs : List Byte} (hop : l.op = .mem p bs) :
    applyLate (({ s with late := rest } : State).clock l.due) l = memStep (landing s l rest) p bs := by
  simp only [applyLate, hop, landing, setCur]

theorem applyLate_vwrite {vd stat : Nat} {u : Tile} (hop : l.op = .vwrite vd u stat) :
    applyLate (({ s with late := rest } : State).clock l.due) l = vwriteStep (landing s l rest) l.n vd u stat := by
  simp only [applyLate, hop, landing, setCur]

theorem applyLate_wldLine {u i fmt kt nt base : Nat} {tr diag : Bool} {lines exps : List (List Byte)}
    (hop : l.op = .wldLine u i fmt kt nt tr diag base lines exps) :
    applyLate (({ s with late := rest } : State).clock l.due) l =
      wldStep (landing s l rest) l.n u i fmt kt nt tr diag base lines exps := by
  simp only [applyLate, hop, landing, setCur]

end

theorem landing_pr (s : State) (l : Late) (rest : List Late) (n q : Nat) : (landing s l rest).pr n q = s.pr n q :=
  pr_congr (landing_reg s l rest (not_clockCounter (by simp only [R.PRED]; omega) (by simp only [R.PRED]; omega))) q

/-! ### DELAYED_RESULT_WRITE -/

section
variable {s : State} {n : Fin 64} {l : Late} {rest : List Late} (h : DueNext s n l rest)
include h

/-- What a result that lands changes among the registers: the state e differs from the landing in registers alone. -/
theorem runs_delayedResult_regs {e : State} {as : List Nat} {P : State → Prop}
    (hf : delayedResult s n = tickTo s l.due)
    (heff : applyLate (({ s with late := rest } : State).clock l.due) l = e)
    (hregs : OnlyEvents as (landing s l rest) e) (hP : P e) :
    Runs (.delayedResultWrite n) s fun t => P t ∧ Landed as s t n l rest ∧ MemSame s t :=
  runs_landing h (f := fun s => delayedResult s n) rfl hf heff hregs.now hregs.late hregs.pending
    ⟨hP, landed_of h hregs.now hregs.late hregs.regs (fun m _ => State.core_of_cores hregs.cores m),
      fun a => State.byte_of_mem (hregs.mem.trans (landing_mem s l rest)) a⟩

theorem runs_sregLands {r : Nat} {v : Word} (hop : l.op = .sreg r v) :
    Runs (.delayedResultWrite n) s fun t => t.sr n r = v ∧ Landed [R.SREG n r] s t n l rest ∧ MemSame s t := by
  have heff := applyLate_sreg (s := s) (rest := rest) hop
  rw [h.own] at heff
  exact runs_delayedResult_regs h (untilLate_landing h (by rw [hop])) heff
    ((OnlyEvents.refl _ _).setReg v (by simp)) (State.reg_setReg_same _ _ _)

theorem runs_predLands {p : Nat} {v : Bool} (hop : l.op = .pred p v) (hp : p < 16) :
    Runs (.delayedResultWrite n) s fun t => ((p ≠ 0 → t.pr n p = v) ∧ t.pr n 0 = true ∧ ∀ q, q ≠ p → t.pr n q = s.pr n q) ∧
      Landed [R.PRED n] s t n l rest ∧ MemSame s t := by
  have heff := applyLate_pred (s := s) (rest := rest) hop
  rw [h.own] at heff
  refine runs_delayedResult_regs h (untilLate_landing h (by rw [hop])) heff (setPr_onlyEvents _ _ p v)
    ⟨fun h0 => pr_setPr_same _ _ v h0 (by omega), pr_zero _ _, fun q hq => ?_⟩
  rw [pr_setPr_ne _ _ v hq, landing_pr]

theorem runs_predsLand {v : Nat} (hop : l.op = .preds v) :
    Runs (.delayedResultWrite n) s fun t => (∀ q, 1 ≤ q → q < 16 → t.pr n q = v.testBit q) ∧
      Landed [R.PRED n] s t n l rest ∧ MemSame s t := by
  have heff := applyLate_preds (s := s) (rest := rest) hop
  rw [h.own] at heff
  exact runs_delayedResult_regs h (untilLate_landing h (by rw [hop])) heff
    ((OnlyEvents.refl _ _).setReg _ (by simp)) fun q h1 h15 => pr_setPreds _ _ v h1 h15

theorem runs_maskLands {i : Nat} {v : BitVec 256} (hop : l.op = .mregs i v) :
    Runs (.delayedResultWrite n) s fun t => t.mask n i = (if i = 0 then BitVec.allOnes 256 else v) ∧
      Landed [R.MREG n i 0, R.MREG n i 1, R.MREG n i 2, R.MREG n i 3] s t n l rest ∧ MemSame s t := by
  have heff := applyLate_mregs (s := s) (rest := rest) hop
  rw [h.own] at heff
  exact runs_delayedResult_regs h (untilLate_landing h (by rw [hop])) heff (setMask_onlyEvents _ _ i v)
    (mask_setMask _ _ i v)

theorem runs_compIncLands {c k : Nat} (hop : l.op = .compInc c k) (hc : c < 16) :
    Runs (.delayedResultWrite n) s fun t => t.fld (F.COMP_COUNT n c) = (s.fld (F.COMP_COUNT n c) + k) % 2 ^ 32 ∧
      Landed [R.COMP n c] s t n l rest ∧ MemSame s t := by
  have heff := applyLate_compInc (s := s) (rest := rest) hop
  rw [h.own] at heff
  have hcount : (landing s l rest).fld (F.COMP_COUNT n c) = s.fld (F.COMP_COUNT n c) :=
    landing_fld s l rest (by simp only [R.COMP]; omega) (by simp only [R.COMP]; omega)
  obtain ⟨hnow, hlate, hpending, hmem, hregs, hcores, hfld⟩ := compAdd_spec (landing s l rest) n c k
  rw [hcount] at hfld
  exact runs_landing h (f := fun s => delayedResult s n) rfl (untilLate_landing h (by rw [hop])) heff hnow hlate hpending
    ⟨hfld, landed_of h hnow hlate hregs hcores, fun a => State.byte_of_mem (hmem.trans (landing_mem s l rest)) a⟩

end

end Sys2Proof.Machine
end

section
open Sys2Proof Sys2Proof.Machine

/-- Settles O25: each kind of result changes the registers that it names, in the state in which it lands. -/
theorem resultsLand : Obligations.ResultsLand := by
  unfold Obligations.ResultsLand
  intro n s l rest h
  refine ⟨fun r v hop _ => runs_sregLands h hop, fun p v hop hp => ?_, fun v hop => runs_predsLand h hop,
    fun i v hop _ => runs_maskLands h hop, fun c k hop hc => runs_compIncLands h hop hc⟩
  simpa only [and_assoc] using runs_predLands h hop hp

end

section
/-! SUPPORT. Stored bytes, tile results and weight tiles that land (R29, R111, R143, R187). -/

namespace Sys2Proof.Machine

/-- No two of at most 16 MiB bytes of a place fall on one address. -/
theorem Place.addr_inj (p : Place) {len x y : Nat} (hlen : ∀ m off, p = .core m off → len ≤ coreMemSize) (hxy : x < y)
    (hy : y < len) : p.addr x ≠ p.addr y := by
  cases p with
  | flat a => simp only [Place.addr]; omega
  | core m off =>
    have h := hlen m off rfl
    simp only [Place.addr, coreMemSize] at h ⊢
    omega

/-- Bytes written at a place stand there. -/
theorem State.byte_writeBytes_place (s : State) (p : Place) (bs : List Byte)
    (hlen : ∀ m off, p = .core m off → bs.length ≤ coreMemSize) {i : Nat} (hi : i < bs.length) :
    (s.writeBytes p bs).byte (p.addr i) = bs.getD i 0 := by
  have h := State.byte_writeAt_same p bs s 0 i hi fun x y _ hxy hy => p.addr_inj hlen hxy (by simpa using hy)
  rw [Nat.zero_add] at h
  rw [State.writeBytes, h, List.getD_eq_getElem _ _ hi]

/-- Outside stack memory stored bytes are written as they are (R247 guards stack memory). -/
theorem memStep_outside (s : State) {a : Nat} {bs : List Byte} (hout : a + bs.length ≤ stackBase ∨ stackEnd ≤ a) :
    memStep s (.flat a) bs = s.writeBytes (.flat a) bs := by
  unfold memStep
  dsimp only
  split
  · next hin =>
    obtain rfl : bs = [] := List.eq_nil_of_length_eq_zero (by omega)
    have hlpddr : lpddrEnd ≤ a := Nat.le_trans (by decide) hin.1
    exact if_pos hlpddr
  · rfl

@[simp] theorem Core.activeTile_setShadowTile (c : Core) (t : WTile) : (c.setShadowTile t).activeTile = c.activeTile := by
  unfold Core.activeTile Core.setShadowTile
  split <;> rfl

/-- A tile result that lands changes its tile register and VEC_STATUS. -/
theorem vwriteStep_spec (s : State) (n vd : Nat) (u : Tile) (stat : Nat) : (vwriteStep s n vd u stat).now = s.now ∧
    (vwriteStep s n vd u stat).late = s.late ∧ (vwriteStep s n vd u stat).pending = s.pending ∧
    (vwriteStep s n vd u stat).mem = s.mem ∧ RegsExcept [R.VEC_STATUS n] s (vwriteStep s n vd u stat) ∧
    CoresExcept [n] s (vwriteStep s n vd u stat) ∧ (vwriteStep s n vd u stat).core n = (s.core n).setTile vd u ∧
    (vwriteStep s n vd u stat).reg (R.VEC_STATUS n) = s.reg (R.VEC_STATUS n) ||| BitVec.ofNat 64 stat := by
  have hset := coreSet_setCore s n ((s.core n).setTile vd u)
  unfold vwriteStep
  dsimp only
  refine ⟨(State.setReg_now _ _ _).trans hset.now, (State.setReg_late _ _ _).trans hset.late,
    (State.setReg_pending _ _ _).trans hset.pending, (State.setReg_mem _ _ _).trans hset.mem,
    ((RegsExcept.refl _ s).of_csr hset.csr).setReg _ (by simp),
    fun m hm => (State.setReg_core _ _ _ m).trans (hset.coresExcept m hm), (State.setReg_core _ _ _ n).trans hset.own, ?_⟩
  rw [State.reg_setReg_same, State.setCore_reg]

section
variable {s : State} {n : Fin 64} {l : Late} {rest : List Late} (h : DueNext s n l rest)
include h

/-- Bytes that land at a place outside stack memory change these bytes of memory and nothing else. -/
theorem runs_storeLands {p : Place} {bs : List Byte} (hop : l.op = .mem p bs)
    (hstep : ∀ u, memStep u p bs = u.writeBytes p bs) (hlen : ∀ m off, p = .core m off → bs.length ≤ coreMemSize) :
    Runs (.delayedResultWrite n) s fun t => (∀ i, i < bs.length → t.byte (p.addr i) = bs.getD i 0) ∧
      (∀ a, (∀ i, i < bs.length → a ≠ p.addr i) → t.byte a = s.byte a) ∧ Landed [] s t n l rest := by
  have heff := (applyLate_mem (s := s) (rest := rest) hop).trans (hstep _)
  obtain ⟨m, hm⟩ := (landing s l rest).writeAt_eq bs p 0
  have hwrite : (landing s l rest).writeBytes p bs = { landing s l rest with mem := m } := hm
  refine runs_landing h (f := fun s => delayedResult s n) rfl (untilLate_landing h (by rw [hop])) heff (by rw [hwrite])
    (by rw [hwrite]) (by rw [hwrite]) ⟨fun i hi => State.byte_writeBytes_place _ p bs hlen hi, fun a ha => ?_, ?_⟩
  · rw [State.byte_writeBytes_ne _ p bs a ha, State.byte_of_mem (landing_mem s l rest)]
  · exact landed_of h (by rw [hwrite]) (by rw [hwrite]) (fun _ _ => by rw [hwrite]; rfl) fun _ _ => by rw [hwrite]; rfl

theorem runs_tileLands {vd stat : Nat} {u : Tile} (hop : l.op = .vwrite vd u stat) :
    Runs (.delayedResultWrite n) s fun t => t.core n = { (s.core n).setTile vd u with cur := l.syl } ∧
      t.reg (R.VEC_STATUS n) = s.reg (R.VEC_STATUS n) ||| BitVec.ofNat 64 stat ∧
      Landed [R.VEC_STATUS n] s t n l rest ∧ MemSame s t := by
  have heff := applyLate_vwrite (s := s) (rest := rest) hop
  have hcore := landing_core s l rest
  rw [h.own] at heff hcore
  have hstatus : (landing s l rest).reg (R.VEC_STATUS n) = s.reg (R.VEC_STATUS n) :=
    landing_reg s l rest (not_clockCounter (by simp only [R.VEC_STATUS]; omega) (by simp only [R.VEC_STATUS]; omega))
  obtain ⟨hnow, hlate, hpending, hmem, hregs, hcores, hown, hstat⟩ := vwriteStep_spec (landing s l rest) n vd u stat
  rw [hcore] at hown
  rw [hstatus] at hstat
  exact runs_landing h (f := fun s => delayedResult s n) rfl (untilLate_landing h (by rw [hop])) heff hnow hlate hpending
    ⟨hown, hstat, landed_of h hnow hlate hregs hcores, fun a => State.byte_of_mem (hmem.trans (landing_mem s l rest)) a⟩

/-- A weight tile stands whole 256 cycles after its load's issue. -/
theorem runs_weightTileLands {u fmt kt nt base : Nat} {tr diag : Bool} {lines exps : List (List Byte)}
    (hdue : l.due = u + 256) (hop : l.op = .wldLine u 256 fmt kt nt tr diag base lines exps) :
    Runs (.weightLoadComplete n) s fun t => t.core n =
        { ((s.core n).setShadowTile (buildTile fmt kt nt tr diag lines exps)).setShadowValid true with cur := l.syl } ∧
      (t.core n).activeTile = (s.core n).activeTile ∧ Landed [] s t n l rest ∧ MemSame s t := by
  have heff := applyLate_wldLine (s := s) (rest := rest) hop
  have hcore := landing_core s l rest
  rw [h.own] at heff hcore
  have htick : weightLoadDone s n = tickTo s l.due := by
    rw [weightLoadDone, h.head, List.findSome?_cons, hop, h.own, hdue]
    simp
  have hset := coreSet_setCore (landing s l rest) n
    ((((landing s l rest).core n).setShadowTile (buildTile fmt kt nt tr diag lines exps)).setShadowValid true)
  have hown : ((landing s l rest).setCore n
      ((((landing s l rest).core n).setShadowTile (buildTile fmt kt nt tr diag lines exps)).setShadowValid true)).core n =
      { ((s.core n).setShadowTile (buildTile fmt kt nt tr diag lines exps)).setShadowValid true with cur := l.syl } := by
    rw [hset.own, hcore]
    rfl
  rw [wldStep, if_pos (Nat.le_refl _)] at heff
  refine runs_landing h (f := fun s => weightLoadDone s n) rfl htick heff hset.now hset.late hset.pending
    ⟨hown, ?_, landed_of h hset.now hset.late ((RegsExcept.refl _ _).of_csr hset.csr) hset.coresExcept,
      fun a => State.byte_of_mem (hset.mem.trans (landing_mem s l rest)) a⟩
  rw [hown]
  exact Core.activeTile_setShadowTile (s.core n) (buildTile fmt kt nt tr diag lines exps)

end

end Sys2Proof.Machine
end

section
open Sys2Proof Sys2Proof.Machine

/-- Settles O26: each row lets time pass to its operation, which changes the named bytes, tile register or shadow slot alone. -/
theorem storesTilesAndWeightsLand : Obligations.StoresTilesAndWeightsLand := by
  unfold Obligations.StoresTilesAndWeightsLand
  refine ⟨fun n s l rest h => ⟨fun m off bs hop hlen => ?_, fun a bs hop hout => ?_, fun vd u stat hop _ => runs_tileLands h hop⟩,
    fun n s l rest u fmt kt nt base tr diag lines exps h hdue hop => runs_weightTileLands h hdue hop⟩
  · refine runs_storeLands h hop (fun _ => rfl) fun m' off' heq => hlen
  · obtain ⟨t, hexec, hbytes, hothers, hlanded⟩ := runs_storeLands h hop (fun u => memStep_outside u hout) (by simp)
    exact ⟨t, hexec, hbytes, fun b hb => hothers b fun i hi => by simp only [Place.addr]; omega, hlanded⟩

end

section
/-! SUPPORT. The start of a sequencer (R128), the register windows and instruction memory through its window (R105, R133). -/

namespace Sys2Proof.Machine

/-! ### Events -/

theorem OnlyEvents.setFld {as : List Nat} {s t : State} (h : OnlyEvents as s t) {f : Fld} (v : Nat) (hf : f.addr ∈ as) :
    OnlyEvents as s (t.setFld f v) := h.setReg _ hf

theorem OnlyEvents.trans {as : List Nat} {s t u : State} (h : OnlyEvents as s t) (h' : OnlyEvents as t u) : OnlyEvents as s u := by
  obtain ⟨c, e, rfl, hregs⟩ := h
  obtain ⟨c', e', rfl, hregs'⟩ := h'
  exact ⟨c', e', rfl, fun a ha => (hregs' a ha).trans (hregs a ha)⟩

theorem OnlyEvents.mono {as bs : List Nat} {s t : State} (h : OnlyEvents as s t) (hsub : as ⊆ bs) : OnlyEvents bs s t := by
  obtain ⟨c, e, rfl, hregs⟩ := h
  exact ⟨c, e, rfl, fun a ha => hregs a fun hin => ha (hsub hin)⟩

/-- A source that is raised changes its RAW and PEND, the merge counter and the event controller. -/
theorem raise_events (s : State) (i : Nat) : OnlyEvents [R.RAW (i / 64), R.PEND (i / 64), R.EVC_MERGED] s (s.raise i) :=
  ((OnlyEvents.refl _ s).setFld (f := rawFld i) 1 List.mem_cons_self).trans ((raise_onlyEvents s i).mono (List.subset_cons_self _ _))

/-! ### Fields written whole -/

@[simp] theorem AccSz.merge_w64 (old v : Word) : AccSz.w64.merge old v = v := by
  rw [AccSz.merge, AccSz.mask, AccSz.place, BitVec.not_allOnes, BitVec.and_zero, BitVec.zero_or, BitVec.and_allOnes]

section
variable {d : RegDesc} {f : FieldDesc} (old v : Word) (hhi : ∀ g ∈ d.fields, g.hi < 64)
  (hdisj : d.fields.Pairwise fun g h => g.hi < h.lo ∨ h.hi < g.lo) (hf : f ∈ d.fields)
include hhi hdisj hf

/-- A bit of a field after a write of 64 bits. -/
theorem RegDesc.write_getLsbD {i : Nat} (hlo : f.lo ≤ i) (hi : i ≤ f.hi) :
    (d.write .w64 old v).getLsbD i = f.acc.writeBit (old.getLsbD i) (v.getLsbD i) :=
  foldl_write_getLsbD_inside _ _ (by
    have hlt := hhi f hf
    rw [AccSz.mask, BitVec.getLsbD_allOnes]
    exact decide_eq_true (by omega)) d.fields old hhi hdisj hf hlo hi

/-- An RW field after a write of 64 bits holds the written bits. -/
theorem RegDesc.getBits_write_rw (hacc : f.acc = .rw) : getBits (d.write .w64 old v) f.hi f.lo = getBits v f.hi f.lo :=
  Nat.eq_of_testBit_eq fun i => by
    rw [getBits_testBit, getBits_testBit]
    by_cases hi : i < f.hi + 1 - f.lo
    · rw [RegDesc.write_getLsbD old v hhi hdisj hf (Nat.le_add_right _ _) (by omega), hacc]
      rfl
    · simp [hi]

/-- A W1S field after a write of 64 bits holds the written ones as well. -/
theorem RegDesc.getBits_write_w1s (hacc : f.acc = .w1s) :
    getBits (d.write .w64 old v) f.hi f.lo = getBits old f.hi f.lo ||| getBits v f.hi f.lo :=
  Nat.eq_of_testBit_eq fun i => by
    rw [Nat.testBit_or, getBits_testBit, getBits_testBit, getBits_testBit]
    by_cases hi : i < f.hi + 1 - f.lo
    · rw [RegDesc.write_getLsbD old v hhi hdisj hf (Nat.le_add_right _ _) (by omega), hacc]
      simp [hi, Acc.writeBit]
    · simp [hi]

end

/-- A bit is 0 or 1. -/
theorem getBits_bit (w : Word) (k : Nat) : getBits w k k = 0 ∨ getBits w k k = 1 := by
  have h := getBits_lt w k k
  rw [Nat.add_sub_cancel_left] at h
  omega

/-! ### GO -/

theorem regAt_SEQ_START {n : Nat} (hn : n < 64) : regAt (R.SEQ_START n) =
    some ⟨0x7f0001001008, 64, 0x10000, 1, 0x0, 1, 0x0, 0x0#64, [⟨29, 16, .rw⟩, ⟨0, 0, .w1s⟩]⟩ := by
  rw [show R.SEQ_START n = 0x7F0001000000 + n * 0x10000 + 0x1008 by unfold R.SEQ_START; omega]
  exact regAt_coreOff hn _ (by decide) _ (by decide +kernel)

/-- A write of SEQ_START with GO: ADDR and GO hold what was written. -/
theorem writeByType_SEQ_START (s : State) {n : Nat} (hn : n < 64) {v : Word} (hgo : getBits v 0 0 = 1) :
    ∃ w, s.writeByType (R.SEQ_START n) .w64 v = s.setReg (R.SEQ_START n) w ∧ getBits w 29 16 = getBits v 29 16 ∧
      getBits w 0 0 = 1 := by
  refine ⟨_, by rw [State.writeByType, regAt_SEQ_START hn], ?_, ?_⟩
  · exact RegDesc.getBits_write_rw (f := ⟨29, 16, .rw⟩) _ v (by simp) (by simp) (by simp) rfl
  · have h := RegDesc.getBits_write_w1s (d := ⟨0x7f0001001008, 64, 0x10000, 1, 0x0, 1, 0x0, 0x0#64, [⟨29, 16, .rw⟩, ⟨0, 0, .w1s⟩]⟩)
      (f := ⟨0, 0, .w1s⟩) (s.reg (R.SEQ_START n)) v (by simp) (by simp) (by simp) rfl
    rw [h, hgo]
    rcases getBits_bit (s.reg (R.SEQ_START n)) 0 with h0 | h0 <;> rw [h0] <;> rfl

/-- GO taken: SEQ_START holds w, with GO cleared. -/
def goTaken (s : State) (n : Nat) (w : Word) : State := (s.setReg (R.SEQ_START n) w).setFld (F.SEQ_START_GO n) 0

/-- The registers of a sequencer that starts at addr. -/
def startRegs (s : State) (n addr : Nat) : State :=
  ((((((s.setFld (F.SEQ_STATUS_PC n) addr).setFld (F.SEQ_STATUS_KDEPTH n) 0).setFld (F.SEQ_STATUS_STALL n) 0).setFld
    (F.SEQ_STATUS_RUN n) runRUNNING).setReg (R.CFS_FETCH n) 0xFFFFFFFF#64).setReg (R.CFS_CHECK n) 0xFFFFFFFF#64).setFld
    (F.CLAIM_CUR_VALID n) 0

theorem goTaken_events {s : State} {n : Nat} (w : Word) : OnlyEvents [R.SEQ_START n] s (goTaken s n w) :=
  ((OnlyEvents.refl _ s).setReg w (by simp)).setFld 0 (by simp)

theorem startRegs_events {s : State} {n : Nat} (addr : Nat) :
    OnlyEvents [R.SEQ_STATUS n, R.CFS_FETCH n, R.CFS_CHECK n, R.CLAIM_CUR n] s (startRegs s n addr) :=
  (((((((OnlyEvents.refl _ s).setFld _ (by simp)).setFld _ (by simp)).setFld _ (by simp)).setFld _ (by simp)).setReg _
    (by simp)).setReg _ (by simp)).setFld _ (by simp)

/-- The core's own record at a start. -/
def Core.start (c : Core) (now : Nat) : Core :=
  { c with branch := none, pastEnd := false, held := none, latch := [], nextIssue := max c.nextIssue (now + 1) }

/-- The conditions under which GO starts a sequencer (R128). -/
def goHolds (s : State) (n : Nat) : Prop := coreState s n = 1 ∧ coreIdle s n = true ∧ s.fld (F.FAULT_REC_VALID n) = 0

section
variable {s : State} {n : Nat} (hn : n < 64) {v : Word} (hgo : getBits v 0 0 = 1)

include hn hgo in
/-- What GO does: the start, or START_IGN. -/
theorem seqStartWrite_go : ∃ w, getBits w 29 16 = getBits v 29 16 ∧
    (goHolds s n → seqStartWrite s n .w64 v = (startRegs (goTaken s n w) n (getBits v 29 16)).setCore n ((s.core n).start s.now)) ∧
    (¬ goHolds s n → seqStartWrite s n .w64 v = (goTaken s n w).setFld (F.SEQ_STATUS_START_IGN n) 1) := by
  obtain ⟨w, hw, haddr, hset⟩ := writeByType_SEQ_START s hn hgo
  have hflag : (s.setReg (R.SEQ_START n) w).flag (F.SEQ_START_GO n) = true := by
    rw [State.flag, State.fld_setReg_same s (F.SEQ_START_GO n) (R.SEQ_START n) w rfl, hset]
    rfl
  have hstart : ((s.setReg (R.SEQ_START n) w).setFld (F.SEQ_START_GO n) 0).fld (F.SEQ_START_ADDR n) = getBits v 29 16 := by
    rw [State.fld_setFld_ne _ _ _ _ (by simp), State.fld_setReg_same s (F.SEQ_START_ADDR n) (R.SEQ_START n) w rfl,
      haddr]
  have hvalid : s.flag (F.FAULT_REC_VALID n) = false ↔ s.fld (F.FAULT_REC_VALID n) = 0 := by simp [State.flag]
  have hcore : (startRegs (goTaken s n w) n (getBits v 29 16)).core n = s.core n :=
    (State.core_of_cores (startRegs_events (getBits v 29 16)).cores n).trans (State.core_of_cores (goTaken_events w).cores n)
  refine ⟨w, haddr, fun h => ?_, fun h => ?_⟩
  · rw [seqStartWrite, hw, hflag, Bool.not_true, if_neg Bool.false_ne_true, if_pos (by rwa [hvalid]), hstart, Core.start, ← hcore]
    rfl
  · rw [seqStartWrite, hw, hflag, Bool.not_true, if_neg Bool.false_ne_true, if_neg (by rwa [hvalid])]
    rfl

theorem startRegs_fields (addr : Nat) : coreRun (startRegs s n addr) n = runRUNNING ∧
    (startRegs s n addr).fld (F.SEQ_STATUS_PC n) = addr % 2 ^ 14 ∧ (startRegs s n addr).fld (F.SEQ_STATUS_KDEPTH n) = 0 ∧
    (startRegs s n addr).fld (F.SEQ_STATUS_STALL n) = 0 ∧ (startRegs s n addr).reg (R.CFS_FETCH n) = 0xFFFFFFFF#64 ∧
    (startRegs s n addr).reg (R.CFS_CHECK n) = 0xFFFFFFFF#64 ∧ (startRegs s n addr).fld (F.CLAIM_CUR_VALID n) = 0 := by
  simp [coreRun, startRegs, State.fld_setFld_ne, State.fld_setReg_ne, State.reg_setFld_ne, State.reg_setReg_ne, runRUNNING]

end

/-- SEQ_START_GO as its row performs it. -/
theorem runs_seqStartGo {s : State} {n : Fin 64} {v : Word} (hup : s.up = true) {e : State} {P : State → Prop}
    (he : seqStartWrite (okReply s) n .w64 v = e) (hpending : e.pending = s.pending) (hP : P e) :
    Runs (.seqStartGo n .w64 v) s P :=
  ⟨e, exec_row hup (f := fun s => seqStartWrite (okReply s) n .w64 v) rfl he hpending, hP⟩

/-- A start that is accepted. -/
theorem runs_seqStartGo_started {s : State} {n : Fin 64} {v : Word} (hup : s.up = true) (hgo : getBits v 0 0 = 1)
    (h : goHolds s n) : Runs (.seqStartGo n .w64 v) s fun t => coreRun t n = runRUNNING ∧
      t.fld (F.SEQ_STATUS_PC n) = getBits v 29 16 ∧
      t.fld (F.SEQ_STATUS_KDEPTH n) = 0 ∧ t.fld (F.SEQ_STATUS_STALL n) = 0 ∧ t.fld (F.SEQ_START_GO n) = 0 ∧
      t.reg (R.CFS_FETCH n) = 0xFFFFFFFF#64 ∧ t.reg (R.CFS_CHECK n) = 0xFFFFFFFF#64 ∧ t.fld (F.CLAIM_CUR_VALID n) = 0 ∧
      t.core n = (s.core n).start s.now ∧
      RegsExcept [R.SEQ_START n, R.SEQ_STATUS n, R.CFS_FETCH n, R.CFS_CHECK n, R.CLAIM_CUR n] s t ∧
      CoresExcept [n.val] s t ∧ MemSame s t := by
  obtain ⟨w, haddr, hstart, -⟩ := seqStartWrite_go (s := okReply s) n.isLt hgo
  obtain ⟨hrun, hpc, hdepth, hstall, hfetch, hcheck, hclaim⟩ :=
    startRegs_fields (s := goTaken (okReply s) n w) (n := n) (getBits v 29 16)
  have hgo := goTaken_events (s := okReply s) (n := n.val) w
  have hgo0 : (goTaken (okReply s) n w).fld (F.SEQ_START_GO n) = 0 := State.fld_setFld_same _ _ _ (by simp)
  generalize goTaken (okReply s) n w = g at *
  have hframe := startRegs_events (s := g) (n := n.val) (getBits v 29 16)
  have hset := coreSet_setCore (startRegs g n (getBits v 29 16)) n ((s.core n).start s.now)
  have hregs : RegsExcept [R.SEQ_START n, R.SEQ_STATUS n, R.CFS_FETCH n, R.CFS_CHECK n, R.CLAIM_CUR n] s
      (startRegs g n (getBits v 29 16)) := hgo.regs.trans hframe.regs
  have hgo1 : (startRegs g n (getBits v 29 16)).fld (F.SEQ_START_GO n) = 0 := (hframe.regs.fld (by simp)).trans hgo0
  have hmem : (startRegs g n (getBits v 29 16)).mem = s.mem := hframe.mem.trans hgo.mem
  have hcores : (startRegs g n (getBits v 29 16)).cores = s.cores := hframe.cores.trans hgo.cores
  have hpending : (startRegs g n (getBits v 29 16)).pending = s.pending := hframe.pending.trans hgo.pending
  generalize startRegs g n (getBits v 29 16) = d at *
  refine runs_seqStartGo hup (hstart h) (hset.pending.trans hpending) ?_
  have hcsr := hset.csr
  rw [Nat.mod_eq_of_lt (getBits_lt v 29 16)] at hpc
  exact ⟨(State.fld_of_csr hcsr _).trans hrun, (State.fld_of_csr hcsr _).trans hpc, (State.fld_of_csr hcsr _).trans hdepth,
    (State.fld_of_csr hcsr _).trans hstall, (State.fld_of_csr hcsr _).trans hgo1, (State.reg_of_csr hcsr _).trans hfetch,
    (State.reg_of_csr hcsr _).trans hcheck, (State.fld_of_csr hcsr _).trans hclaim, hset.own, hregs.of_csr hcsr,
    fun m hm => (hset.coresExcept m hm).trans (State.core_of_cores hcores m), fun a => State.byte_of_mem (hset.mem.trans hmem) a⟩

/-- A start that is ignored. -/
theorem runs_seqStartGo_ignored {s : State} {n : Fin 64} {v : Word} (hup : s.up = true) (hgo : getBits v 0 0 = 1)
    (h : ¬ goHolds s n) : Runs (.seqStartGo n .w64 v) s fun t => t.fld (F.SEQ_STATUS_START_IGN n) = 1 ∧
      coreRun t n = coreRun s n ∧ t.fld (F.SEQ_STATUS_PC n) = s.fld (F.SEQ_STATUS_PC n) ∧
      RegsExcept [R.SEQ_START n, R.SEQ_STATUS n] s t ∧ CoresExcept [] s t ∧ MemSame s t := by
  obtain ⟨w, -, -, hign⟩ := seqStartWrite_go (s := okReply s) n.isLt hgo
  have hframe := goTaken_events (s := okReply s) (n := n.val) w
  generalize goTaken (okReply s) n w = d at *
  have hstatus : ∀ f : Fld, f.addr = R.SEQ_STATUS n → d.fld f = s.fld f := fun f hf => hframe.regs.fld (by simp [hf])
  have hset := (hframe.mono (bs := [R.SEQ_START n, R.SEQ_STATUS n]) (by simp)).setFld (f := F.SEQ_STATUS_START_IGN n) 1 (by simp)
  have hign' : (d.setFld (F.SEQ_STATUS_START_IGN n) 1).fld (F.SEQ_STATUS_START_IGN n) = 1 := by
    rw [State.fld_setFld_same _ _ _ (by simp)]
    rfl
  have hkept : ∀ f : Fld, f.addr = R.SEQ_STATUS n → f.hi < 31 →
      (d.setFld (F.SEQ_STATUS_START_IGN n) 1).fld f = s.fld f := fun f hf hlt => by
    rw [State.fld_setFld_ne _ _ _ _ (.inr (by simp; omega)), hstatus f hf]
  generalize d.setFld (F.SEQ_STATUS_START_IGN n) 1 = e at *
  exact runs_seqStartGo hup (hign h) hset.pending ⟨hign', hkept _ rfl (by simp), hkept _ rfl (by simp), hset.regs,
    fun m _ => State.core_of_cores hset.cores m, fun a => State.byte_of_mem hset.mem a⟩

end Sys2Proof.Machine
end

section
open Sys2Proof Sys2Proof.Machine

/-- Settles O15: GO starts the sequencer where its three conditions hold, and is ignored where one fails. -/
theorem sequencerStart : Obligations.SequencerStart := by
  unfold Obligations.SequencerStart
  intro n v s hup hgo
  refine ⟨fun hon hidle hfree => ?_, fun hfail => runs_seqStartGo_ignored hup hgo fun ⟨hon, hidle, hfree⟩ => ?_⟩
  · obtain ⟨t, hexec, hrun, hpc, hdepth, hstall, hgo0, hfetch, hcheck, hclaim, hcore, hframe⟩ :=
      runs_seqStartGo_started hup hgo ⟨hon, hidle, hfree⟩
    refine ⟨t, hexec, hrun, hpc, hdepth, hstall, hgo0, hfetch, hcheck, hclaim, ?_⟩
    rw [hcore]
    exact ⟨rfl, rfl, rfl, rfl, rfl, rfl, hframe⟩
  · rcases hfail with h | h | h
    · exact h hon
    · simp [hidle] at h
    · omega

end

section
/-! SUPPORT. The register windows of a core and its instruction memory through its window (R105, R133). -/

namespace Sys2Proof.Machine

/-! ### Register windows -/

/-- A register of RW fields after a write of 64 bits. -/
theorem State.writeByType_rw (s : State) {a : Nat} {d : RegDesc} (hd : regAt a = some d) (hrw : ∀ f ∈ d.fields, f.acc = .rw)
    {m : Word} (hm : fieldsMask d.fields = m) (v : Word) :
    s.writeByType a .w64 v = s.setReg a ((s.reg a &&& ~~~m) ||| (v &&& m)) := by
  have hall : AccSz.w64.mask = BitVec.allOnes 64 := rfl
  rw [State.writeByType, hd]
  simp only [RegDesc.write_rw _ _ _ hrw, hm, hall, BitVec.and_allOnes, AccSz.place]

/-- The predicates take the written bits, but p0. -/
theorem writeByType_PRED (s : State) {n : Nat} (hn : n < 64) (v : Word) :
    s.writeByType (R.PRED n) .w64 v = s.setReg (R.PRED n) ((s.reg (R.PRED n) &&& ~~~0xFFFE#64) ||| (v &&& 0xFFFE#64)) := by
  rw [State.writeByType, regAt_PRED hn]
  rfl

/-- A write of a register window of an idle core acts by access type; of another core it is refused (R133). -/
theorem exec_seqRegWrite {s : State} {n : Fin 64} {sz : AccSz} {v : Word} (hup : s.up = true) (r : SeqReg) :
    exec (.seqRegWrite n r sz v) s =
      .next { (if coreIdle s n then { s.writeByType (seqRegAddr n r) sz v with reply := .ok }
        else { s with reply := .accessError }) with pending := s.pending } := by
  have hidle : coreIdle (okReply s) n = coreIdle s n := rfl
  have hwrite : { (okReply s).writeByType (seqRegAddr n r) sz v with reply := .ok } =
      { s.writeByType (seqRegAddr n r) sz v with reply := .ok } := by
    unfold State.writeByType
    cases regAt (seqRegAddr n r) <;> rfl
  rw [show exec (.seqRegWrite n r sz v) s = ifUp (fun s => seqRegWrite (okReply s) n r sz v) s from rfl, ifUp_up _ hup,
    seqRegWrite, hidle, hwrite]
  rfl

/-- A window of an idle core whose write sets a register. -/
theorem exec_seqRegWrite_idle {s : State} {n : Fin 64} {v w : Word} (hup : s.up = true) (hidle : coreIdle s n = true)
    (r : SeqReg) (hw : s.writeByType (seqRegAddr n r) .w64 v = s.setReg (seqRegAddr n r) w) :
    exec (.seqRegWrite n r .w64 v) s = .next { s.setReg (seqRegAddr n r) w with reply := .ok } := by
  rw [exec_seqRegWrite hup, if_pos hidle, hw]
  rfl

/-! ### Instruction memory -/

theorem regAt_IMEM_PTR {n : Nat} (hn : n < 64) :
    regAt (R.IMEM_PTR n) = some ⟨0x7f0001001068, 64, 0x10000, 1, 0x0, 1, 0x0, 0x0#64, [⟨14, 0, .rw⟩]⟩ := by
  rw [show R.IMEM_PTR n = 0x7F0001000000 + n * 0x10000 + 0x1068 by unfold R.IMEM_PTR; omega]
  exact regAt_coreOff hn _ (by decide) _ (by decide +kernel)

/-- A field that was set, and what stays of the state. -/
theorem setFld_frame (s : State) (f : Fld) (v : Nat) (hf : f.hi < 64) :
    (s.setFld f v).fld f = v % 2 ^ (f.hi + 1 - f.lo) ∧ (s.setFld f v).cores = s.cores ∧ (s.setFld f v).mem = s.mem ∧
      (s.setFld f v).pending = s.pending :=
  ⟨s.fld_setFld_same f v hf, s.setFld_cores f v, s.setFld_mem f v, s.setFld_pending f v⟩

/-- A step at the instruction memory window of core n: the core is now c, HALF is h, and nothing else moved. -/
def Windowed (s : State) (n : Nat) (c : Core) (h : Nat) (t : State) : Prop :=
  t.core n = c ∧ t.fld (F.IMEM_PTR_HALF n) = h ∧ RegsExcept [R.IMEM_PTR n] s t ∧ CoresExcept [n] s t ∧ MemSame s t

/-- IMEM_PTR takes HALF and drops a held half. -/
theorem runs_imemPtrWrite {s : State} {n : Fin 64} {v : Word} (hup : s.up = true) :
    Runs (.imemPtrWrite n .w64 v) s (Windowed s n { s.core n with imemHeld := none } (getBits v 14 0)) := by
  obtain ⟨w, hw, hhalf⟩ : ∃ w, (okReply s).writeByType (R.IMEM_PTR n) .w64 v = (okReply s).setReg (R.IMEM_PTR n) w ∧
      getBits w 14 0 = getBits v 14 0 := ⟨_, by rw [State.writeByType, regAt_IMEM_PTR n.isLt],
    RegDesc.getBits_write_rw (f := ⟨14, 0, .rw⟩) _ v (by simp) (by simp) (by simp) rfl⟩
  have hwrite : imemPtrWrite (okReply s) n .w64 v =
      ((okReply s).setReg (R.IMEM_PTR n) w).setCore n { s.core n with imemHeld := none } := by
    rw [imemPtrWrite, hw]
    rfl
  have hfld : ((okReply s).setReg (R.IMEM_PTR n) w).fld (F.IMEM_PTR_HALF n) = getBits v 14 0 :=
    (State.fld_setReg_same _ (F.IMEM_PTR_HALF n) (R.IMEM_PTR n) _ rfl).trans hhalf
  have hframe : OnlyEvents [R.IMEM_PTR n] (okReply s) ((okReply s).setReg (R.IMEM_PTR n) w) :=
    (OnlyEvents.refl _ _).setReg w (by simp)
  generalize (okReply s).setReg (R.IMEM_PTR n) w = d at *
  have hset := coreSet_setCore d n { s.core n with imemHeld := none }
  exact ⟨_, exec_row hup (f := fun s => imemPtrWrite (okReply s) n .w64 v) rfl hwrite (hset.pending.trans hframe.pending), hset.own,
    (State.fld_of_csr hset.csr _).trans hfld, hframe.regs.of_csr hset.csr,
    fun m hm => (hset.coresExcept m hm).trans (State.core_of_cores hframe.cores m), State.byte_of_mem (hset.mem.trans hframe.mem)⟩

/-- A write of IMEM_DATA to a core that is not idle is refused. -/
theorem exec_imemDataWrite_busy {s : State} {n : Fin 64} {sz : AccSz} {v : Word} (hup : s.up = true)
    (hbusy : coreIdle s n = false) : exec (.imemDataWrite n sz v) s = .next { s with reply := .accessError } :=
  exec_row hup (f := fun s => imemDataWrite (okReply s) n sz v) rfl
    (by rw [imemDataWrite, if_neg (by rw [show coreIdle (okReply s) n = false from hbusy]; exact Bool.false_ne_true)]; rfl) rfl

/-- What a write of 64 bits of IMEM_DATA makes of the core. -/
def Core.imemWrite (c : Core) (h : Nat) (v : Word) : Core :=
  if h % 2 = 0 then { c with imemHeld := some (h / 2, v) }
  else c.putBundle (h / 2) (match c.imemHeld with
    | some (b, w) => if b = h / 2 then w else c.imemHalf (2 * (h / 2))
    | none => c.imemHalf (2 * (h / 2))) v

/-- A write of 64 bits of IMEM_DATA to an idle core: the half is taken and HALF advances. -/
theorem runs_imemDataWrite {s : State} {n : Fin 64} {v : Word} (hup : s.up = true) (hidle : coreIdle s n = true) :
    Runs (.imemDataWrite n .w64 v) s (Windowed s n ((s.core n).imemWrite (s.fld (F.IMEM_PTR_HALF n)) v)
      ((s.fld (F.IMEM_PTR_HALF n) + 1) % 2 ^ 15)) := by
  have hcore : (okReply s).core n = s.core n := rfl
  have hhalf : (okReply s).fld (F.IMEM_PTR_HALF n) = s.fld (F.IMEM_PTR_HALF n) := rfl
  have hwrite : imemDataWrite (okReply s) n .w64 v =
      okReply (((okReply s).setCore n ((s.core n).imemWrite (s.fld (F.IMEM_PTR_HALF n)) v)).setFld (F.IMEM_PTR_HALF n)
        (s.fld (F.IMEM_PTR_HALF n) + 1)) := by
    rw [imemDataWrite, if_pos (show coreIdle (okReply s) n = true from hidle)]
    simp only [hcore, hhalf, AccSz.merge_w64, if_true, Core.imemWrite]
    rfl
  have hset := coreSet_setCore (okReply s) n ((s.core n).imemWrite (s.fld (F.IMEM_PTR_HALF n)) v)
  generalize (okReply s).setCore n ((s.core n).imemWrite (s.fld (F.IMEM_PTR_HALF n)) v) = d at hwrite hset
  have hregs : RegsExcept [R.IMEM_PTR n] s (d.setFld (F.IMEM_PTR_HALF n) (s.fld (F.IMEM_PTR_HALF n) + 1)) :=
    RegsExcept.setFld (fun a _ => State.reg_of_csr hset.csr a) _ (by simp)
  obtain ⟨hfld, hcores, hmem, hpending⟩ := setFld_frame d (F.IMEM_PTR_HALF n) (s.fld (F.IMEM_PTR_HALF n) + 1) (by simp)
  generalize d.setFld (F.IMEM_PTR_HALF n) (s.fld (F.IMEM_PTR_HALF n) + 1) = e at *
  exact ⟨okReply e, exec_row hup (f := fun s => imemDataWrite (okReply s) n .w64 v) rfl hwrite (hpending.trans hset.pending),
    (State.core_of_cores hcores n).trans hset.own, hfld, hregs,
    fun m hm => (State.core_of_cores hcores m).trans (hset.coresExcept m hm), State.byte_of_mem (hmem.trans hset.mem)⟩

/-- The half that a read of 64 bits answers, and HALF after it. -/
theorem coreRead_imemData (s : State) (n : Nat) : coreRead s n 0x1070 .w64 =
    ((s.core n).imemHalf (s.fld (F.IMEM_PTR_HALF n)), s.setFld (F.IMEM_PTR_HALF n) (s.fld (F.IMEM_PTR_HALF n) + 1)) := rfl

/-- A read of 64 bits of IMEM_DATA answers the half and HALF advances. -/
theorem runs_imemDataRead {s : State} {n : Fin 64} (hup : s.up = true) :
    Runs (.imemDataRead n .w64) s fun t => t.reply = .value ((s.core n).imemHalf (s.fld (F.IMEM_PTR_HALF n))) ∧
      t.fld (F.IMEM_PTR_HALF n) = (s.fld (F.IMEM_PTR_HALF n) + 1) % 2 ^ 15 ∧ RegsExcept [R.IMEM_PTR n] s t ∧
      CoresExcept [] s t ∧ MemSame s t := by
  have hread : ∀ e, s.setFld (F.IMEM_PTR_HALF n) (s.fld (F.IMEM_PTR_HALF n) + 1) = e → regRead s (R.IMEM_DATA n) .w64 =
      { e with reply := .value ((s.core n).imemHalf (s.fld (F.IMEM_PTR_HALF n))) } := fun e he => by
    rw [show R.IMEM_DATA n = coreBlock n + 0x1070 by unfold R.IMEM_DATA coreBlock; omega,
      regRead_core n.isLt (by decide), coreRead_imemData, he]
  have hregs : RegsExcept [R.IMEM_PTR n] s (s.setFld (F.IMEM_PTR_HALF n) (s.fld (F.IMEM_PTR_HALF n) + 1)) :=
    (RegsExcept.refl _ s).setFld _ (by simp)
  obtain ⟨hfld, hcores, hmem, hpending⟩ := setFld_frame s (F.IMEM_PTR_HALF n) (s.fld (F.IMEM_PTR_HALF n) + 1) (by simp)
  obtain ⟨e, he⟩ : ∃ e, s.setFld (F.IMEM_PTR_HALF n) (s.fld (F.IMEM_PTR_HALF n) + 1) = e := ⟨_, rfl⟩
  rw [he] at hregs hfld hcores hmem hpending
  exact ⟨_, exec_row hup (f := fun s => regRead s (R.IMEM_DATA n) .w64) rfl (hread e he) hpending, rfl, hfld, hregs,
    fun m _ => State.core_of_cores hcores m, State.byte_of_mem hmem⟩

end Sys2Proof.Machine
end

section
open Sys2Proof Sys2Proof.Machine

/-- Settles O9: each window writes by its register's fields while the core is idle; IMEM_DATA holds an even half and writes
the bundle at its odd half. -/
theorem registerAndInstructionWindows : Obligations.RegisterAndInstructionWindows := by
  unfold Obligations.RegisterAndInstructionWindows
  refine ⟨fun n v s hup => ⟨fun hidle => ⟨fun i => ?_, ?_, fun d w => ?_, fun i => ?_⟩, fun hbusy r sz => ?_⟩,
    fun n v s hup => ⟨?_, exec_imemDataWrite_busy hup, fun hidle heven => ?_, fun lo hidle hodd hheld => ?_, runs_imemDataRead hup⟩⟩
  · exact exec_seqRegWrite_idle hup hidle (.sreg i) (s.writeByType_rw64 _ v (by rw [seqRegAddr, regAt_SREG n.isLt i.isLt]; rfl))
  · exact exec_seqRegWrite_idle hup hidle .pred (writeByType_PRED s n.isLt v)
  · exact exec_seqRegWrite_idle hup hidle (.dreg d w)
      (s.writeByType_rw64 _ v (by rw [seqRegAddr, regAt_DREG n.isLt d.isLt w.isLt]; rfl))
  · exact exec_seqRegWrite_idle hup hidle (.kreg i)
      (s.writeByType_rw (regAt_KREG n.isLt i.isLt) (by simp) (by decide) v)
  · rw [exec_seqRegWrite hup, hbusy]
    rfl
  · obtain ⟨t, hexec, hcore, hframe⟩ := runs_imemPtrWrite (n := n) (v := v) hup
    exact ⟨t, hexec, hframe.1, by rw [hcore], hframe.2⟩
  · obtain ⟨t, hexec, hcore, hhalf, hframe⟩ := runs_imemDataWrite (v := v) hup hidle
    have hlt := getBits_lt (s.reg (R.IMEM_PTR n)) 14 0
    have hsucc : (s.fld (F.IMEM_PTR_HALF n) + 1) % 2 ^ 15 = s.fld (F.IMEM_PTR_HALF n) + 1 :=
      Nat.mod_eq_of_lt (by change getBits (s.reg (R.IMEM_PTR n)) 14 0 % 2 = 0 at heven; simp only [State.fld] at *; omega)
    rw [Core.imemWrite, if_pos heven] at hcore
    exact ⟨t, hexec, by rw [hcore], by rw [hcore], hhalf.trans hsucc, hframe⟩
  · obtain ⟨t, hexec, hcore, hhalf, hframe⟩ := runs_imemDataWrite (v := v) hup hidle
    have hput : t.core n = (s.core n).putBundle (s.fld (F.IMEM_PTR_HALF n) / 2) lo v := by
      rw [hcore, Core.imemWrite, if_neg (by omega), hheld]
      simp
    refine ⟨t, hexec, fun b => ?_, ?_, by rw [hput]; rfl, hhalf, hframe⟩
    · rw [hput]
      exact look_put (d := fun _ => 0#128) (s.core n).imem _ b _
    · rw [hput, Core.putBundle, look_put_same]

end

section
/-! SUPPORT. A lone syllable that issues, and where the sequencer goes from it: delay slots, loops, branches (R118 to R121). -/

namespace Sys2Proof.Machine

/-! ### The state that the sequencer steps from -/

/-- The state c after core n has counted and signed the bundle of which d is the effect. -/
structure Counted (n : Nat) (d c : State) : Prop where
  now : c.now = d.now
  late : c.late = d.late
  mem : c.mem = d.mem
  regs : RegsExcept [R.BUNDLE_COUNT n, R.CFS_FETCH n, R.CFS_CHECK n] d c
  core : ∃ k o u, c.core n = { d.core n with issued := k, cur := o, nextIssue := u }

theorem counted_cfsIssue {d : State} {n : Nat} (hw : d.fld (F.CFS_FETCH_WCOUNT n) < 4095) (u k pc ord : Nat) :
    Counted n d (cfsIssue (countIssue d n u k ord) n u pc false) := by
  obtain ⟨hlate, hnow, hmem, hregs, -, hcore, -⟩ := countIssue_spec d n u k ord
  generalize countIssue d n u k ord = c at *
  obtain ⟨hlate', hnow', hmem', hregs', hcores', -⟩ :=
    cfsIssue_spec c n u pc (by rwa [State.fld, hregs _ (by simp), ← State.fld])
  refine ⟨hnow'.trans hnow, hlate'.trans hlate, hmem'.trans hmem, fun a ha => ?_, _, _, _, (hcores' n).trans hcore⟩
  simp only [List.mem_cons, List.not_mem_nil, or_false, not_or] at ha
  obtain ⟨hcount, hfetch, hcheck⟩ := ha
  exact (hregs' a hfetch hcheck).trans (hregs a hcount)

section
variable {n : Nat} {d c : State} (h : Counted n d c)
include h

theorem Counted.fld {f : Fld} (hf : f.addr ∉ [R.BUNDLE_COUNT n, R.CFS_FETCH n, R.CFS_CHECK n]) : c.fld f = d.fld f := h.regs.fld hf
theorem Counted.kdepth : kdepth c n = kdepth d n := h.fld (by simp)
theorem Counted.branch : (c.core n).branch = (d.core n).branch := by obtain ⟨_, _, _, hc⟩ := h.core; rw [hc]
theorem Counted.ctl : (c.core n).ctl = (d.core n).ctl := by obtain ⟨_, _, _, hc⟩ := h.core; rw [hc]

end

/-! ### The next bundle -/

section
variable {s : State} {n : Nat}

/-- Outside loops, after a taken branch: two delay slots are to issue. -/
theorem nextBundle_taken {pc target : Nat} (hk : kdepth s n = 0) (hbranch : (s.core n).branch = none)
    (hctl : (s.core n).ctl = ⟨some target, none, false⟩) :
    nextBundle s n pc = (pc + 1, s.setCore n { s.core n with branch := some (2, target) }) := by
  unfold nextBundle
  rw [loopEnd_none pc 4 hk]
  simp only [hctl, hbranch]

/-- Outside loops, in a delay slot: the target after the last one, else one slot less. -/
theorem nextBundle_delay {pc k target : Nat} (hk : kdepth s n = 0) (hbranch : (s.core n).branch = some (k, target))
    (hctl : (s.core n).ctl = ⟨none, none, false⟩) : nextBundle s n pc = (if k = 1 then target else pc + 1,
      s.setCore n { s.core n with branch := if k = 1 then none else some (k - 1, target) }) := by
  unfold nextBundle
  rw [loopEnd_none pc 4 hk]
  simp only [hctl, hbranch]
  match k with
  | 0 => rfl
  | 1 => rfl
  | k + 2 => rfl

/-- Without a branch the loop stack, or a skipped loop, decides. -/
theorem nextBundle_loop {pc : Nat} {r skip : Option Nat} {e : State} {halt : Bool} (hloop : loopEnd n pc 5 s = (r, e))
    (hbranch : (s.core n).branch = none) (hctl : (s.core n).ctl = ⟨none, skip, halt⟩) :
    nextBundle s n pc = (skip.getD (r.getD (pc + 1)), e) := by
  unfold nextBundle
  rw [hloop]
  simp only [hctl, hbranch]
  cases skip <;> cases r <;> rfl

/-- At the end of a loop whose count does not run out: the count falls by one and the loop starts again (R119). -/
theorem loopEnd_again {pc k d : Nat} (hk : kdepth s n = d + 1) (hend : s.fld (F.KREG_END n d) = pc)
    (hcount : 2 ≤ s.fld (F.KREG_COUNT n d)) : loopEnd n pc (k + 1) s =
      (some (s.fld (F.KREG_START n d)), s.setFld (F.KREG_COUNT n d) (s.fld (F.KREG_COUNT n d) - 1)) := by
  have hlt : s.fld (F.KREG_COUNT n d) < 2 ^ 32 := getBits_lt _ 31 0
  have hfall : (s.fld (F.KREG_COUNT n d) + 2 ^ 32 - 1) % 2 ^ 32 = s.fld (F.KREG_COUNT n d) - 1 := by omega
  unfold loopEnd
  simp only [hk, Nat.add_sub_cancel, hend, hfall]
  rw [if_neg (by simp), if_pos (by omega)]

/-- At the end of the only loop, at its last count: the loop is popped (R119). -/
theorem loopEnd_last {pc k : Nat} (hk : kdepth s n = 1) (hend : s.fld (F.KREG_END n 0) = pc)
    (hcount : s.fld (F.KREG_COUNT n 0) = 1) : loopEnd n pc (k + 2) s =
      (none, (s.setFld (F.KREG_COUNT n 0) 0).setFld (F.SEQ_STATUS_KDEPTH n) 0) := by
  unfold loopEnd
  simp only [hk, Nat.sub_self, hend, hcount]
  rw [if_neg (by simp), if_neg (by simp)]
  exact loopEnd_none pc k (by rw [kdepth, State.fld_setFld_same _ _ _ (by simp)]; rfl)

/-- Inside the innermost loop nothing ends. -/
theorem loopEnd_inside {pc k : Nat} (hend : s.fld (F.KREG_END n (kdepth s n - 1)) ≠ pc) : loopEnd n pc (k + 1) s = (none, s) := by
  unfold loopEnd
  simp only
  rw [if_pos (.inr hend)]

end

/-! ### Where the sequencer goes -/

/-- From c, which issued the bundle at pc, core n goes to the bundle at a, and of its registers those named may have changed. -/
structure Advance (n : Nat) (as : List Nat) (c : State) (pc a : Nat) (e : State) : Prop where
  next : nextBundle c n pc = (a, e)
  addr : a < 16384
  now : e.now = c.now
  late : e.late = c.late
  mem : e.mem = c.mem
  regs : RegsExcept as c e

/-- The state t differs from e in the program counter of core n, which is a. -/
structure Sequel (n a : Nat) (e t : State) : Prop where
  pc : pcOf t n = a
  kdepth : kdepth t n = kdepth e n
  branch : (t.core n).branch = (e.core n).branch
  late : t.late = e.late
  regs : RegsExcept [R.SEQ_STATUS n] e t

/-- The effect d of a lone syllable of core n changes the registers named alone, puts nothing in flight for the present cycle, and
the window of the signatures does not fill. -/
structure Steers (n : Nat) (as : List Nat) (s d : State) : Prop where
  now : d.now = s.now
  mem : d.mem = s.mem
  regs : RegsExcept as s d
  due : ∀ l ∈ d.late, s.now < l.due
  halt : (d.core n).ctl.halt = false
  window : d.fld (F.CFS_FETCH_WCOUNT n) < 4095

/-- The bundle of a lone syllable at issue: its effect, then the sequencer. -/
theorem Issues.atIssue_eq {i : Instr} {x : SylInfo} {s : State} (h : Issues i x s) : s.atIssue i x.y.n =
    sequence (x.apply s.now x.y (atEffect s x.y.n x.slot)) x.y.n s.now ((s.core x.y.n).issued + 1) (pcOf s x.y.n) := by
  have hexecutes : execSyls (s.gathered x.y.n) [i] = [x] := by
    have hpred : (s.gathered x.y.n).pr x.y.n x.y.pred.toNat = true := h.clear.pred
    rw [execSyls_one h.syl, h.clear.legal, hpred]
    rfl
  rw [State.atIssue, applyBundle_one s.now hexecutes, State.gathered_core, atEffect, pcOf, State.gathered_fld, pcOf]

/-- A lone syllable whose issue leaves the state b, with nothing else due in the present cycle. -/
theorem Issues.runs_atIssue {i : Instr} {x : SylInfo} {s b : State} {P : State → Prop} (h : Issues i x s)
    (hat : s.atIssue i x.y.n = b) (hnow : b.now = s.now) (hdue : ∀ l ∈ b.late, s.now < l.due) (hP : P (s.after b)) :
    Runs i s P := by
  refine ⟨s.after b, ?_, hP⟩
  have hquiet : tickTo b s.now = b := tickTo_past _ _ (Nat.le_of_eq hnow.symm) hdue
  rw [exec_syl h.syl, ifUp_up _ h.ready.up, addSyl_issues h, ← State.atIssue, hat, hquiet, State.after]

/-- A lone syllable that does not halt: its effect d, then the sequencer's step. -/
theorem Issues.runs_advance {i : Instr} {x : SylInfo} {s d : State} {as : List Nat} {P : State → Prop} (h : Issues i x s)
    (hd : x.apply s.now x.y (atEffect s x.y.n x.slot) = d) (heff : Steers x.y.n as s d) (hissue : issueRegs x.y.n ⊆ as)
    (hstep : ∀ c, Counted x.y.n d c → ∃ a e, Advance x.y.n as c (pcOf s x.y.n) a e ∧
      ∀ t, Sequel x.y.n a e t → RegsExcept as s t → MemSame s t → P t) : Runs i s P := by
  have hcounted := counted_cfsIssue heff.window s.now ((s.core x.y.n).issued + 1) (pcOf s x.y.n) (((s.core x.y.n).issued + 1 - 1) * 4)
  obtain ⟨a, e, hadv, hP⟩ := hstep _ hcounted
  have hat : s.atIssue i x.y.n = setPc e x.y.n a := by
    rw [h.atIssue_eq, hd, sequence]
    simp only [heff.halt, Bool.false_eq_true, if_false, hadv.next]
  obtain ⟨hlate, hnow, hmem, hpc, hregs, -, hcore, hstatus⟩ := setPc_spec e x.y.n a hadv.addr
  have hlate' := hlate.trans (hadv.late.trans hcounted.late)
  have hregs' : RegsExcept as s (setPc e x.y.n a) := fun b hb => by
    have hout : ∀ r ∈ issueRegs x.y.n, b ≠ r := fun r hr heq => hb (hissue (heq ▸ hr))
    calc (setPc e x.y.n a).reg b = e.reg b := hregs b (hout _ (by simp [issueRegs]))
      _ = _ := hadv.regs b hb
      _ = d.reg b := hcounted.regs b fun hmem => hout b (List.mem_cons_of_mem _ hmem) rfl
      _ = s.reg b := heff.regs b hb
  have hmem' := hmem.trans (hadv.mem.trans (hcounted.mem.trans heff.mem))
  have hbranch : ((setPc e x.y.n a).core x.y.n).branch = (e.core x.y.n).branch := by rw [hcore]
  have hnow' := hnow.trans (hadv.now.trans (hcounted.now.trans heff.now))
  have hdepth := hstatus 10 8 (by omega)
  obtain ⟨t, ht⟩ : ∃ t, setPc e x.y.n a = t := ⟨_, rfl⟩
  rw [ht] at hat hnow' hlate' hlate hpc hdepth hbranch hregs hregs' hmem'
  exact h.runs_atIssue hat hnow' (by rw [hlate']; exact heff.due)
    (hP _ ⟨hpc, hdepth, hbranch, hlate, fun b hb => hregs b (by simpa using hb)⟩ hregs' fun b => State.byte_of_mem hmem' b)

end Sys2Proof.Machine
end

section
/-! SUPPORT. Branches, loops and delay slots at issue (R118 to R121, R144). -/

namespace Sys2Proof.Machine

/-! ### Effects that steer the sequencer -/

section
variable {n : Nat} {as : List Nat} {s d : State}

theorem atEffect_steers (slot : SlotL) (hready : ∀ l ∈ s.late, s.now < l.due) (hw : s.fld (F.CFS_FETCH_WCOUNT n) < 4095) :
    Steers n as s (atEffect s n slot) := by
  have hlone := atEffect_lone s n slot as
  exact ⟨hlone.now, hlone.mem, hlone.regs, by rwa [atEffect_late], by rw [hlone.ctl],
    by rwa [State.fld_of_csr (atEffect_csr s n slot)]⟩

theorem setCtl_core (d : State) (n : Nat) (f : Ctl → Ctl) :
    (setCtl d n f).core n = { d.core n with ctl := f (d.core n).ctl } := State.core_setCore_same _ _ _

theorem takeBranch_late (d : State) (n target : Nat) : (takeBranch d n target).late = d.late := rfl

theorem setCtl_csr (d : State) (n : Nat) (f : Ctl → Ctl) : (setCtl d n f).csr = d.csr := rfl

variable (h : Steers n as s d)
include h

theorem Steers.setCtl {f : Ctl → Ctl} (hf : ∀ c : Ctl, c.halt = false → (f c).halt = false) : Steers n as s (setCtl d n f) :=
  ⟨h.now, h.mem, h.regs, h.due, by rw [setCtl_core]; exact hf _ h.halt, h.window⟩

theorem Steers.takeBranch (target : Nat) : Steers n as s (takeBranch d n target) := h.setCtl fun _ hc => hc

theorem Steers.setReg {a : Nat} (v : Word) (ha : a ∈ as) (hne : a ≠ R.CFS_FETCH n) : Steers n as s (d.setReg a v) :=
  ⟨h.now, h.mem, h.regs.setReg v ha, h.due, h.halt, by rw [State.fld_setReg_ne d _ v (Ne.symm hne)]; exact h.window⟩

theorem Steers.setFld {f : Fld} (v : Nat) (ha : f.addr ∈ as) (hne : f.addr ≠ R.CFS_FETCH n) : Steers n as s (d.setFld f v) :=
  h.setReg _ ha hne

theorem Steers.pushed {t : State} (ht : OnlyPushed d t) (hdue : ∀ l ∈ t.late, s.now < l.due) : Steers n as s t := by
  obtain ⟨_, rfl⟩ := ht
  exact ⟨h.now, h.mem, h.regs, hdue, h.halt, h.window⟩

end

/-! ### Steps of the sequencer -/

section
variable {i : Instr} {x : SylInfo} {s d : State} (h : Issues i x s) (hd : x.apply s.now x.y (atEffect s x.y.n x.slot) = d)
include h hd

/-- A branch outside loops: two delay slots are to issue before the target. -/
theorem Issues.runs_taken {target : Nat} (heff : Steers x.y.n (issueRegs x.y.n) s d) (hk : kdepth d x.y.n = 0)
    (hbranch : (d.core x.y.n).branch = none) (hctl : (d.core x.y.n).ctl = ⟨some target, none, false⟩)
    (hpc : pcOf s x.y.n + 1 < 16384) : Runs i s fun t => (t.core x.y.n).branch = some (2, target) ∧
      pcOf t x.y.n = pcOf s x.y.n + 1 ∧ kdepth t x.y.n = 0 ∧ t.late = d.late ∧ RegsExcept (issueRegs x.y.n) s t ∧ MemSame s t := by
  refine h.runs_advance hd heff (fun _ hr => hr) fun c hc => ⟨_, _, ⟨nextBundle_taken (hc.kdepth.trans hk)
    (hc.branch.trans hbranch) (hc.ctl.trans hctl), hpc, rfl, rfl, rfl, (RegsExcept.refl _ c).of_csr rfl⟩, fun t ht hregs hmem => ?_⟩
  refine ⟨?_, ht.pc, ht.kdepth.trans (hc.kdepth.trans hk), ht.late.trans hc.late, hregs, hmem⟩
  rw [ht.branch, State.core_setCore_same]

/-- A bundle in a delay slot outside loops. -/
theorem Issues.runs_delay {k target : Nat} (heff : Steers x.y.n (issueRegs x.y.n) s d) (hk : kdepth d x.y.n = 0)
    (hbranch : (d.core x.y.n).branch = some (k, target)) (hctl : (d.core x.y.n).ctl = ⟨none, none, false⟩)
    (hpc : pcOf s x.y.n + 1 < 16384) (htarget : target < 16384) : Runs i s fun t =>
      pcOf t x.y.n = (if k = 1 then target else pcOf s x.y.n + 1) ∧
      (t.core x.y.n).branch = (if k = 1 then none else some (k - 1, target)) ∧ RegsExcept (issueRegs x.y.n) s t ∧ MemSame s t := by
  refine h.runs_advance hd heff (fun _ hr => hr) fun c hc => ⟨_, _, ⟨nextBundle_delay (hc.kdepth.trans hk)
    (hc.branch.trans hbranch) (hc.ctl.trans hctl), by split <;> assumption, rfl, rfl, rfl, (RegsExcept.refl _ c).of_csr rfl⟩,
    fun t ht hregs hmem => ?_⟩
  refine ⟨ht.pc, ?_, hregs, hmem⟩
  rw [ht.branch, State.core_setCore_same]

/-- Without a branch the loop stack, or a skipped loop, says where the sequencer goes. -/
theorem Issues.runs_loop {as : List Nat} {P : State → Prop} {skip : Option Nat} (heff : Steers x.y.n as s d)
    (hissue : issueRegs x.y.n ⊆ as) (hbranch : (d.core x.y.n).branch = none) (hctl : (d.core x.y.n).ctl = ⟨none, skip, false⟩)
    (hstep : ∀ c, Counted x.y.n d c → ∃ r e, loopEnd x.y.n (pcOf s x.y.n) 5 c = (r, e) ∧
      skip.getD (r.getD (pcOf s x.y.n + 1)) < 16384 ∧ e.now = c.now ∧ e.late = c.late ∧ e.mem = c.mem ∧ RegsExcept as c e ∧
      ∀ t, Sequel x.y.n (skip.getD (r.getD (pcOf s x.y.n + 1))) e t → RegsExcept as s t → MemSame s t → P t) : Runs i s P := by
  refine h.runs_advance hd heff hissue fun c hc => ?_
  obtain ⟨r, e, hloop, haddr, hnow, hlate, hmem, hregs, hP⟩ := hstep c hc
  exact ⟨_, e, ⟨nextBundle_loop hloop (hc.branch.trans hbranch) (hc.ctl.trans hctl), haddr, hnow, hlate, hmem, hregs⟩, hP⟩

end

end Sys2Proof.Machine
end
section
/-! SUPPORT. The statements' own cases: branches, delay slots, loops. -/

namespace Sys2Proof.Machine

section
variable {s : State} {y : Syl} {x : SylInfo}

theorem atEffect_kdepth (s : State) (n : Nat) (slot : SlotL) : kdepth (atEffect s n slot) n = kdepth s n :=
  State.fld_of_csr (atEffect_csr s n slot) _

theorem atEffect_branch (s : State) (n : Nat) (slot : SlotL) : ((atEffect s n slot).core n).branch = (s.core n).branch := by
  rw [atEffect_core]

theorem atEffect_ctl (s : State) (n : Nat) (slot : SlotL) : ((atEffect s n slot).core n).ctl = ⟨none, none, false⟩ := by
  rw [atEffect_core]

end

/-- A lone syllable whose effect is to take a branch, and at most to put something in flight. -/
theorem Issues.runs_branch {i : Instr} {x : SylInfo} {s d : State} (h : Issues i x s) (hs : Straight s x.y.n) {target : Nat}
    (hd : x.apply s.now x.y (atEffect s x.y.n x.slot) = d) (hpushed : OnlyPushed (takeBranch (atEffect s x.y.n x.slot) x.y.n target) d)
    (hdue : ∀ l ∈ d.late, s.now < l.due) : Runs i s fun t => (t.core x.y.n).branch = some (2, target) ∧
      pcOf t x.y.n = pcOf s x.y.n + 1 ∧ t.late = d.late ∧ RegsExcept (issueRegs x.y.n) s t ∧ MemSame s t := by
  have heff := ((atEffect_steers (as := issueRegs x.y.n) x.slot h.ready.late hs.window).takeBranch target).pushed hpushed hdue
  have hcore := (hpushed.core x.y.n).trans (setCtl_core (atEffect s x.y.n x.slot) x.y.n _)
  have hk : kdepth d x.y.n = 0 := by
    rw [kdepth, State.fld, hpushed.reg, takeBranch, State.reg_of_csr (setCtl_csr _ _ _), atEffect_reg]
    exact hs.loops
  have hbranch : (d.core x.y.n).branch = none := by rw [hcore, atEffect_core]; exact hs.branch
  have hctl : (d.core x.y.n).ctl = ⟨some target, none, false⟩ := by rw [hcore, atEffect_ctl]
  obtain ⟨t, hexec, hbranch, hpc, -, hlate, hframe⟩ := h.runs_taken hd heff hk hbranch hctl hs.next
  exact ⟨t, hexec, hbranch, hpc, hlate, hframe⟩

/-- What a command's syllable is and does. -/
theorem sylInfo_apply {i : Instr} {x : SylInfo} {slot : SlotL} {op : Nat} {y : Syl} {legal qsync : Bool} {check hold tier wait}
    {app : Nat → Syl → State → State} (hx : sylInfo i = some x)
    (hi : sylInfo i = some { slot := slot, op := op, y := y, legal := legal, check := check, hold := hold,
                             tier := tier, wait := wait, qsync := qsync, apply := app }) :
    x.y = y ∧ x.slot = slot ∧ x.apply = app := by
  obtain rfl := Option.some.inj (hx.symm.trans hi)
  exact ⟨rfl, rfl, rfl⟩

/-- A lone syllable whose only effect is to take a branch. -/
theorem Issues.runs_branch_alone {i : Instr} {x : SylInfo} {s : State} (h : Issues i x s) (hs : Straight s x.y.n) {target : Nat}
    (hd : x.apply s.now x.y (atEffect s x.y.n x.slot) = takeBranch (atEffect s x.y.n x.slot) x.y.n target) :
    Runs i s fun t => (t.core x.y.n).branch = some (2, target) ∧
      pcOf t x.y.n = pcOf s x.y.n + 1 ∧ t.late = s.late ∧ RegsExcept (issueRegs x.y.n) s t ∧ MemSame s t := by
  have hlate := (takeBranch_late (atEffect s x.y.n x.slot) x.y.n target).trans (atEffect_late s x.y.n x.slot)
  obtain ⟨t, hexec, hbranch, hpc, hlate', hframe⟩ :=
    h.runs_branch hs hd (OnlyPushed.refl _) fun l hl => h.ready.late l (by rwa [hlate] at hl)
  exact ⟨t, hexec, hbranch, hpc, hlate'.trans hlate, hframe⟩

/-- What S.BRL leaves in flight: its result, due after one cycle. -/
theorem sBrlApply_late (y : Syl) (s : State) : (sBrlApply s.now y (atEffect s y.n .s)).late =
    insertLate ⟨y.n, nextOrd s y.n .s, s.now + 1, 0, .sreg (fb y 19 14) (BitVec.ofNat 64 (pcOf s y.n + 3))⟩ s.late := by
  have hpc : pcOf (atEffect s y.n .s) y.n = pcOf s y.n := fld_atEffect s y.n .s _
  have hcur : ((takeBranch (atEffect s y.n .s) y.n (fb y 13 0)).core y.n).cur = nextOrd s y.n .s := by
    rw [takeBranch, setCtl_core, atEffect_core]
  have hlate := (takeBranch_late (atEffect s y.n .s) y.n (fb y 13 0)).trans (atEffect_late s y.n .s)
  rw [sBrlApply, writeSr, State.pushLate, hcur, hlate, hpc]

/-! ### The end of a loop -/

section
variable {i : Instr} {x : SylInfo} {s : State} (h : Issues i x s)
  (hd : x.apply s.now x.y (atEffect s x.y.n x.slot) = atEffect s x.y.n x.slot) (hw : s.fld (F.CFS_FETCH_WCOUNT x.y.n) < 4095)
  (hbranch : (s.core x.y.n).branch = none)

/-- A register that an issue does not count or sign in, after a syllable without effect. -/
theorem Counted.fld_atEffect {s c : State} {n : Nat} {slot : SlotL} (hc : Counted n (atEffect s n slot) c) {f : Fld}
    (hf : f.addr ∉ [R.BUNDLE_COUNT n, R.CFS_FETCH n, R.CFS_CHECK n]) : c.fld f = s.fld f :=
  (hc.fld hf).trans (Machine.fld_atEffect s n slot f)

/-- The loop registers are none of the registers that an issue moves on. -/
theorem kreg_not_issueRegs {n k : Nat} (hk : k < 4) : R.KREG n k ∉ issueRegs n := by
  simp only [issueRegs, R.KREG, R.SEQ_STATUS, R.BUNDLE_COUNT, R.CFS_FETCH, R.CFS_CHECK, List.mem_cons, List.not_mem_nil, or_false]
  omega

include h hd hw hbranch

theorem Issues.runs_loopAgain {k : Nat} (hk : kdepth s x.y.n = k + 1) (hk4 : k < 4) (hend : s.fld (F.KREG_END x.y.n k) = pcOf s x.y.n)
    (hcount : 2 ≤ s.fld (F.KREG_COUNT x.y.n k)) : Runs i s fun t => pcOf t x.y.n = s.fld (F.KREG_START x.y.n k) ∧
      kdepth t x.y.n = k + 1 ∧ t.fld (F.KREG_COUNT x.y.n k) = s.fld (F.KREG_COUNT x.y.n k) - 1 ∧
      RegsExcept (R.KREG x.y.n k :: issueRegs x.y.n) s t ∧ MemSame s t := by
  refine h.runs_loop (as := R.KREG x.y.n k :: issueRegs x.y.n) hd (atEffect_steers x.slot h.ready.late hw) (List.subset_cons_self _ _)
    ((atEffect_branch s x.y.n x.slot).trans hbranch) (atEffect_ctl s x.y.n x.slot) fun c hc => ?_
  have hkreg := kreg_not_issueRegs (n := x.y.n) hk4
  have hout : R.KREG x.y.n k ∉ [R.BUNDLE_COUNT x.y.n, R.CFS_FETCH x.y.n, R.CFS_CHECK x.y.n] := fun hm => hkreg (List.mem_cons_of_mem _ hm)
  have hstatus : R.SEQ_STATUS x.y.n ≠ R.KREG x.y.n k := fun heq => hkreg (heq ▸ List.mem_cons_self)
  have hcnt := hc.fld_atEffect (f := F.KREG_COUNT x.y.n k) hout
  have hstart := hc.fld_atEffect (f := F.KREG_START x.y.n k) hout
  have hlt := getBits_lt (s.reg (R.KREG x.y.n k)) 45 32
  refine ⟨_, _, loopEnd_again (hc.kdepth.trans ((atEffect_kdepth s x.y.n x.slot).trans hk))
    ((hc.fld_atEffect (f := F.KREG_END x.y.n k) hout).trans hend) (hcnt ▸ hcount), by rw [hstart]; exact hlt, c.setFld_now _ _,
    c.setFld_late _ _, c.setFld_mem _ _,
    (RegsExcept.refl _ c).setFld _ List.mem_cons_self, fun t ht hregs hmem => ⟨ht.pc.trans hstart, ?_, ?_, hregs, hmem⟩⟩
  · rw [ht.kdepth, kdepth, State.fld_setFld_ne _ _ _ _ (.inl hstatus)]
    exact hc.kdepth.trans ((atEffect_kdepth s x.y.n x.slot).trans hk)
  · have hcount32 : s.fld (F.KREG_COUNT x.y.n k) < 2 ^ 32 := getBits_lt _ 31 0
    rw [ht.regs.fld (by simpa using hstatus.symm), State.fld_setFld_same _ _ _ (by simp), hcnt]
    exact Nat.mod_eq_of_lt (show _ < 2 ^ 32 by omega)

theorem Issues.runs_loopLast (hpc : pcOf s x.y.n + 1 < 16384) (hk : kdepth s x.y.n = 1) (hend : s.fld (F.KREG_END x.y.n 0) = pcOf s x.y.n)
    (hcount : s.fld (F.KREG_COUNT x.y.n 0) = 1) : Runs i s fun t => pcOf t x.y.n = pcOf s x.y.n + 1 ∧
      kdepth t x.y.n = 0 ∧ RegsExcept (R.KREG x.y.n 0 :: issueRegs x.y.n) s t ∧ MemSame s t := by
  refine h.runs_loop (as := R.KREG x.y.n 0 :: issueRegs x.y.n) hd (atEffect_steers x.slot h.ready.late hw) (List.subset_cons_self _ _)
    ((atEffect_branch s x.y.n x.slot).trans hbranch) (atEffect_ctl s x.y.n x.slot) fun c hc => ?_
  have hout : R.KREG x.y.n 0 ∉ [R.BUNDLE_COUNT x.y.n, R.CFS_FETCH x.y.n, R.CFS_CHECK x.y.n] := fun hm =>
    kreg_not_issueRegs (by decide) (List.mem_cons_of_mem _ hm)
  have hframe : OnlyEvents (R.KREG x.y.n 0 :: issueRegs x.y.n) c
      ((c.setFld (F.KREG_COUNT x.y.n 0) 0).setFld (F.SEQ_STATUS_KDEPTH x.y.n) 0) :=
    ((OnlyEvents.refl _ c).setFld _ (by simp)).setFld _ (by simp [issueRegs])
  refine ⟨_, _, loopEnd_last (hc.kdepth.trans ((atEffect_kdepth s x.y.n x.slot).trans hk))
    ((hc.fld_atEffect (f := F.KREG_END x.y.n 0) hout).trans hend) ((hc.fld_atEffect (f := F.KREG_COUNT x.y.n 0) hout).trans hcount),
    hpc, hframe.now, hframe.late, hframe.mem, hframe.regs,
    fun t ht hregs hmem => ⟨ht.pc, ?_, hregs, hmem⟩⟩
  rw [ht.kdepth, kdepth, State.fld_setFld_same _ _ _ (by simp)]
  rfl

end

end Sys2Proof.Machine
end

section
open Sys2Proof Sys2Proof.Machine

/-- Settles O20: each branch takes its target; S.BRL also puts its result in flight. -/
theorem branches : Obligations.Branches := by
  unfold Obligations.Branches
  refine fun y x s hs => ⟨fun h => ?_, fun h => ?_, fun h => ?_⟩
  · obtain ⟨rfl, hslot, happ⟩ := sylInfo_apply h.syl rfl
    exact h.runs_branch_alone hs (by rw [happ]; rfl)
  · obtain ⟨rfl, hslot, happ⟩ := sylInfo_apply h.syl rfl
    exact h.runs_branch_alone hs (by rw [happ, ← srF_atEffect x.y s x.y.n x.slot]; rfl)
  · obtain ⟨rfl, hslot, happ⟩ := sylInfo_apply h.syl rfl
    have hlate := sBrlApply_late x.y s
    have hpushed : OnlyPushed (takeBranch (atEffect s x.y.n .s) x.y.n (fb x.y 13 0)) (sBrlApply s.now x.y (atEffect s x.y.n .s)) :=
      (OnlyPushed.refl _).pushLate _ _ _ _
    generalize hd : sBrlApply s.now x.y (atEffect s x.y.n .s) = d at hlate hpushed
    rw [← hslot] at hd hpushed
    obtain ⟨t, hexec, hbranch, hpc, hlate', hframe⟩ := h.runs_branch hs (by rw [happ]; exact hd) hpushed fun l hl => by
      rw [hlate] at hl
      rcases (mem_insertLate _ _ _).mp hl with rfl | hl
      · exact Nat.lt_succ_self _
      · exact h.ready.late l hl
    exact ⟨t, hexec, hbranch, hpc, hlate'.trans hlate, hframe⟩

/-- Settles O21: a delay slot counts down to the target; the end of the innermost loop repeats or pops it. -/
theorem delaySlotsAndLoopEnds : Obligations.DelaySlotsAndLoopEnds := by
  unfold Obligations.DelaySlotsAndLoopEnds
  intro y x s k target h hw hpc
  obtain ⟨rfl, hslot, happ⟩ := sylInfo_apply h.syl rfl
  have hd : x.apply s.now x.y (atEffect s x.y.n x.slot) = atEffect s x.y.n x.slot := by rw [happ]
  refine ⟨fun hk hbranch htarget => ?_, fun hbranch hk hk4 hend hcount => ?_, fun hbranch hk hend hcount => ?_⟩
  · exact h.runs_delay hd (atEffect_steers x.slot h.ready.late hw) ((atEffect_kdepth s x.y.n x.slot).trans hk)
      ((atEffect_branch s x.y.n x.slot).trans hbranch) (atEffect_ctl s x.y.n x.slot) hpc htarget
  · exact h.runs_loopAgain hd hw hbranch hk hk4 hend hcount
  · exact h.runs_loopLast hd hw hbranch hpc hk hend hcount

end

section
/-! SUPPORT. S.LD and S.ST in core memory, S.LOOP, S.BRK and S.HALT at issue (R119 to R121, R132, R143 to R145). -/

namespace Sys2Proof.Machine

/-! ### Loads and stores -/

/-- A lone syllable whose only effect is one operation in flight. -/
theorem Issues.runs_push {i : Instr} {x : SylInfo} {s : State} (h : Issues i x s) (hs : Straight s x.y.n) {due : Nat} {op : LateOp}
    (hdue : s.now < due)
    (hd : x.apply s.now x.y (atEffect s x.y.n x.slot) = (atEffect s x.y.n x.slot).pushLate x.y.n due 0 op) :
    Runs i s fun t => t.late = insertLate ⟨x.y.n, nextOrd s x.y.n x.slot, due, 0, op⟩ s.late ∧
      pcOf t x.y.n = pcOf s x.y.n + 1 ∧ RegsExcept (issueRegs x.y.n) s t ∧ CoresExcept [x.y.n.val] s t ∧ MemSame s t := by
  have heff := (atEffect_lone s x.y.n x.slot []).pushLate x.y.n due 0 op
  rw [← hd] at heff
  have hlate : (x.apply s.now x.y (atEffect s x.y.n x.slot)).late =
      insertLate ⟨x.y.n, nextOrd s x.y.n x.slot, due, 0, op⟩ s.late := by
    rw [hd, State.pushLate, atEffect_core, atEffect_late]
  have hissues : IssuesWith i x.y.n s fun b => b.late = insertLate ⟨x.y.n, nextOrd s x.y.n x.slot, due, 0, op⟩ s.late ∧
      RegsExcept (issueRegs x.y.n) s b :=
    h.issuesWith rfl rfl rfl hs heff List.not_mem_nil List.not_mem_nil fun b hb =>
      ⟨hb.late.trans hlate, heff.regs.trans hb.regs⟩
  obtain ⟨-, hpc, hnow, hcores, hmem, hlate', hregs⟩ := hissues
  generalize hb : s.atIssue i x.y.n = b at *
  refine h.runs_atIssue hb hnow (fun l hl => ?_) ⟨hlate', hpc, hregs, hcores, hmem⟩
  rw [hlate'] at hl
  rcases (mem_insertLate _ _ _).mp hl with rfl | hl
  · exact hdue
  · exact h.ready.late l hl

section
variable (y : Syl) (s : State) (n : Nat) (slot : SlotL)

theorem sMemAddr_atEffect : sMemAddr y (atEffect s n slot) = sMemAddr y s := by rw [sMemAddr, srF_atEffect, sMemAddr]

variable {y s}

theorem sLdApply_core (u : Nat) (hown : inOwnBlock y.n (sMemAddr y s) = false) : sLdApply u y (atEffect s n slot) =
    (atEffect s n slot).pushLate y.n (u + 4) 0
      (.sreg (fb y 21 16) (extendLoad y (s.readLE (.flat (sMemAddr y s)) (sMemSize y)))) := by
  rw [sLdApply, sMemAddr_atEffect, hown, State.readLE_of_mem (atEffect_lone s n slot []).mem]
  rfl

theorem sStApply_core (u : Nat) (hown : inOwnBlock y.n (sMemAddr y s) = false) : sStApply u y (atEffect s n slot) =
    (atEffect s n slot).pushLate y.n (u + 4) 0 (.mem (.flat (sMemAddr y s)) (leBytes (sMemSize y) (srF y s 21 16).toNat)) := by
  rw [sStApply, sMemAddr_atEffect, hown, srF_atEffect]
  rfl

end

/-! ### Loops and breaks -/

/-- The word that S.LOOP pushes: COUNT, START and END. -/
theorem loopWord_fields {cnt start last : Nat} (hcnt : cnt < 2 ^ 32) (hstart : start < 2 ^ 14) (hlast : last < 2 ^ 14) :
    getBits (BitVec.ofNat 64 (cnt + start * 2 ^ 32 + last * 2 ^ 48)) 31 0 = cnt ∧
      getBits (BitVec.ofNat 64 (cnt + start * 2 ^ 32 + last * 2 ^ 48)) 45 32 = start ∧
      getBits (BitVec.ofNat 64 (cnt + start * 2 ^ 32 + last * 2 ^ 48)) 61 48 = last := by
  simp only [getBits, bitsOf, BitVec.toNat_ofNat, Nat.shiftRight_eq_div_pow]
  norm_num
  omega

theorem sLoopCount_lt (y : Syl) (s : State) : sLoopCount y s < 2 ^ 32 := by
  unfold sLoopCount
  split
  · exact Nat.lt_of_lt_of_le (Nat.mod_lt _ (Nat.two_pow_pos _)) (by decide)
  · exact getBits_lt _ 31 0

theorem sLoopCount_atEffect (y : Syl) (s : State) (n : Nat) (slot : SlotL) : sLoopCount y (atEffect s n slot) = sLoopCount y s := by
  rw [sLoopCount, srF_atEffect, sLoopCount]

/-- A loop that is pushed ends past its own S.LOOP (R120). -/
theorem sLoop_end {y : Syl} {s : State} (h : sLoopCheck y s = []) : pcOf s y.n + 1 ≤ fb y 13 0 := by
  rw [sLoopCheck, List.append_eq_nil_iff] at h
  by_contra hlt
  have hshort : decide (fb y 13 0 < pcOf s y.n + 1) = true := decide_eq_true (by omega)
  rw [hshort, Bool.or_true] at h
  exact absurd h.2 (by simp [faultIf])

section
variable {i : Instr} {x : SylInfo} {s : State} (h : Issues i x s)
include h

/-- A loop of count 0 is skipped. -/
theorem Issues.runs_loopSkipped (hs : Straight s x.y.n) {e : Nat} (he : e < 16384)
    (hd : x.apply s.now x.y (atEffect s x.y.n x.slot) = setCtl (atEffect s x.y.n x.slot) x.y.n fun c => { c with skip := some e }) :
    Runs i s fun t => pcOf t x.y.n = e ∧ kdepth t x.y.n = 0 ∧ RegsExcept (issueRegs x.y.n) s t ∧ MemSame s t := by
  have heff := (atEffect_steers (as := issueRegs x.y.n) x.slot h.ready.late hs.window).setCtl
    (f := fun c => { c with skip := some e }) fun _ hc => hc
  have hcore := setCtl_core (atEffect s x.y.n x.slot) x.y.n fun c => { c with skip := some e }
  have hk : kdepth (setCtl (atEffect s x.y.n x.slot) x.y.n fun c => { c with skip := some e }) x.y.n = 0 :=
    (State.fld_of_csr (setCtl_csr _ _ _) _).trans ((atEffect_kdepth s x.y.n x.slot).trans hs.loops)
  rw [atEffect_ctl] at hcore
  generalize setCtl (atEffect s x.y.n x.slot) x.y.n (fun c => { c with skip := some e }) = d at *
  exact h.runs_loop (skip := some e) hd heff (fun _ hr => hr) (by rw [hcore, atEffect_core]; exact hs.branch) (by rw [hcore])
    fun c hc => ⟨_, _, loopEnd_none _ 4 (hc.kdepth.trans hk), he, rfl, rfl, rfl, RegsExcept.refl _ c, fun t ht hregs hmem =>
      ⟨ht.pc, ht.kdepth.trans (hc.kdepth.trans hk), hregs, hmem⟩⟩

/-- The first loop is pushed, with its bundles ahead. -/
theorem Issues.runs_loopPushed (hs : Straight s x.y.n) {w : Word} (hend : getBits w 61 48 ≠ pcOf s x.y.n)
    (hd : x.apply s.now x.y (atEffect s x.y.n x.slot) =
      ((atEffect s x.y.n x.slot).setReg (R.KREG x.y.n 0) w).setFld (F.SEQ_STATUS_KDEPTH x.y.n) 1) :
    Runs i s fun t => pcOf t x.y.n = pcOf s x.y.n + 1 ∧ kdepth t x.y.n = 1 ∧ t.reg (R.KREG x.y.n 0) = w ∧
      RegsExcept (R.KREG x.y.n 0 :: issueRegs x.y.n) s t ∧ MemSame s t := by
  have hkreg := kreg_not_issueRegs (n := x.y.n) (k := 0) (by decide)
  have hout : R.KREG x.y.n 0 ∉ [R.BUNDLE_COUNT x.y.n, R.CFS_FETCH x.y.n, R.CFS_CHECK x.y.n] := fun hm => hkreg (List.mem_cons_of_mem _ hm)
  have hstatus : R.KREG x.y.n 0 ≠ R.SEQ_STATUS x.y.n := fun heq => hkreg (heq ▸ List.mem_cons_self)
  have heff := ((atEffect_steers (as := R.KREG x.y.n 0 :: issueRegs x.y.n) x.slot h.ready.late hs.window).setReg w List.mem_cons_self
    (fun heq => hout (heq ▸ by simp))).setFld (f := F.SEQ_STATUS_KDEPTH x.y.n) 1 (by simp [issueRegs]) (by simp)
  have hk : kdepth (((atEffect s x.y.n x.slot).setReg (R.KREG x.y.n 0) w).setFld (F.SEQ_STATUS_KDEPTH x.y.n) 1) x.y.n = 1 := by
    rw [kdepth, State.fld_setFld_same _ _ _ (by simp)]
    rfl
  have hw : (((atEffect s x.y.n x.slot).setReg (R.KREG x.y.n 0) w).setFld (F.SEQ_STATUS_KDEPTH x.y.n) 1).reg (R.KREG x.y.n 0) = w := by
    rw [State.reg_setFld_ne _ _ _ hstatus, State.reg_setReg_same]
  have hcores : (((atEffect s x.y.n x.slot).setReg (R.KREG x.y.n 0) w).setFld (F.SEQ_STATUS_KDEPTH x.y.n) 1).core x.y.n =
      (atEffect s x.y.n x.slot).core x.y.n := State.core_of_cores (by simp) _
  generalize ((atEffect s x.y.n x.slot).setReg (R.KREG x.y.n 0) w).setFld (F.SEQ_STATUS_KDEPTH x.y.n) 1 = d at *
  refine h.runs_loop hd heff (List.subset_cons_self _ _) (by rw [hcores, atEffect_core]; exact hs.branch)
    (by rw [hcores, atEffect_ctl]) fun c hc => ?_
  have hkreg' : c.reg (R.KREG x.y.n 0) = w := (hc.regs _ hout).trans hw
  have hinside : c.fld (F.KREG_END x.y.n (kdepth c x.y.n - 1)) ≠ pcOf s x.y.n := by
    rw [hc.kdepth, hk, Nat.sub_self, State.fld, hkreg']
    exact hend
  exact ⟨_, _, loopEnd_inside hinside, hs.next, rfl, rfl, rfl, RegsExcept.refl _ c, fun t ht hregs hmem =>
    ⟨ht.pc, ht.kdepth.trans (hc.kdepth.trans hk), (ht.regs _ (by simpa using hstatus)).trans hkreg', hregs, hmem⟩⟩

/-- The only loop is popped and a branch is taken. -/
theorem Issues.runs_break (hw : s.fld (F.CFS_FETCH_WCOUNT x.y.n) < 4095) (hpc : pcOf s x.y.n + 1 < 16384)
    (hbranch : (s.core x.y.n).branch = none) {target : Nat}
    (hd : x.apply s.now x.y (atEffect s x.y.n x.slot) =
      takeBranch ((atEffect s x.y.n x.slot).setFld (F.SEQ_STATUS_KDEPTH x.y.n) 0) x.y.n target) :
    Runs i s fun t => kdepth t x.y.n = 0 ∧ (t.core x.y.n).branch = some (2, target) ∧ pcOf t x.y.n = pcOf s x.y.n + 1 ∧
      RegsExcept (issueRegs x.y.n) s t ∧ MemSame s t := by
  have heff := ((atEffect_steers (as := issueRegs x.y.n) x.slot h.ready.late hw).setFld (f := F.SEQ_STATUS_KDEPTH x.y.n) 0
    (by simp [issueRegs]) (by simp)).takeBranch target
  have hk : kdepth (takeBranch ((atEffect s x.y.n x.slot).setFld (F.SEQ_STATUS_KDEPTH x.y.n) 0) x.y.n target) x.y.n = 0 := by
    rw [kdepth, takeBranch, State.fld_of_csr (setCtl_csr _ _ _), State.fld_setFld_same _ _ _ (by simp)]
    rfl
  have hcore := setCtl_core ((atEffect s x.y.n x.slot).setFld (F.SEQ_STATUS_KDEPTH x.y.n) 0) x.y.n fun c => { c with taken := some target }
  rw [State.setFld_core, atEffect_ctl, ← takeBranch] at hcore
  generalize takeBranch ((atEffect s x.y.n x.slot).setFld (F.SEQ_STATUS_KDEPTH x.y.n) 0) x.y.n target = d at *
  obtain ⟨t, hexec, hbr, hpc', hk', -, hframe⟩ := h.runs_taken hd heff hk (by rw [hcore, atEffect_core]; exact hbranch)
    (by rw [hcore]) hpc
  exact ⟨t, hexec, hk', hbr, hpc', hframe⟩

end

/-! ### The end of a sequence -/

theorem setCtl_late (d : State) (n : Nat) (f : Ctl → Ctl) : (setCtl d n f).late = d.late := rfl
theorem setCtl_now (d : State) (n : Nat) (f : Ctl → Ctl) : (setCtl d n f).now = d.now := rfl
theorem setCtl_mem (d : State) (n : Nat) (f : Ctl → Ctl) : (setCtl d n f).mem = d.mem := rfl

/-- At the last bundle of a sequence the comparison of the signatures is put in flight (R129). -/
theorem cfsIssue_halt (s : State) (n u pc : Nat) (hw : s.fld (F.CFS_FETCH_WCOUNT n) < 4095) :
    cfsIssue s n u pc true = (cfsIssue s n u pc false).pushLate n (u + 1) 0 (.cfsCompare pc ((cfsIssue s n u pc false).core n).cur) := by
  rw [cfsIssue_quiet s n u pc hw]
  rfl

/-- The sequencer after a bundle that halts: its comparison is in flight, RUN is DONE, and the core's event is raised. -/
theorem sequence_halt {d : State} {n : Nat} (u k pc : Nat) (hctl : (d.core n).ctl = ⟨none, none, true⟩) (hs : Straight d n)
    (hpc : pc + 1 < 16384) : ∃ e, sequence d n u k pc = (e.setFld (F.SEQ_STATUS_RUN n) runDONE).raise n ∧ pcOf e n = pc + 1 ∧
      e.late = insertLate ⟨n, (k - 1) * 4, u + 1, 0, .cfsCompare pc ((k - 1) * 4)⟩ d.late ∧ e.now = d.now ∧ e.mem = d.mem := by
  have hc := counted_cfsIssue hs.window u k pc ((k - 1) * 4)
  obtain ⟨-, -, -, hregs, -, hcore, -⟩ := countIssue_spec d n u k ((k - 1) * 4)
  obtain ⟨c, hcount⟩ : ∃ c, countIssue d n u k ((k - 1) * 4) = c := ⟨_, rfl⟩
  rw [hcount] at hc hregs hcore
  have hwindow : c.fld (F.CFS_FETCH_WCOUNT n) < 4095 := by
    rw [State.fld, hregs _ (by simp)]
    exact hs.window
  obtain ⟨-, -, -, -, hcores, -⟩ := cfsIssue_spec c n u pc hwindow
  have hhalt := cfsIssue_halt c n u pc hwindow
  obtain ⟨f, hf⟩ : ∃ f, cfsIssue c n u pc false = f := ⟨_, rfl⟩
  rw [hf] at hc hcores hhalt
  have hcur : (f.core n).cur = (k - 1) * 4 := by rw [hcores, hcore]
  rw [hcur] at hhalt
  have hpushed := (OnlyPushed.refl f).pushLate n (u + 1) 0 (.cfsCompare pc ((k - 1) * 4))
  have hlate : (f.pushLate n (u + 1) 0 (.cfsCompare pc ((k - 1) * 4))).late =
      insertLate ⟨n, (k - 1) * 4, u + 1, 0, .cfsCompare pc ((k - 1) * 4)⟩ d.late := by rw [State.pushLate, hcur, hc.late]
  obtain ⟨g, hg⟩ : ∃ g, f.pushLate n (u + 1) 0 (.cfsCompare pc ((k - 1) * 4)) = g := ⟨_, rfl⟩
  rw [hg] at hpushed hlate hhalt
  have hsame : g.now = f.now ∧ g.mem = f.mem := by
    obtain ⟨_, rfl⟩ := hpushed
    exact ⟨rfl, rfl⟩
  have hk : kdepth g n = 0 := by
    rw [kdepth, State.fld, hpushed.reg]
    exact hc.kdepth.trans hs.loops
  have hnext : nextBundle g n pc = (pc + 1, g) := nextBundle_loop (skip := none) (halt := true) (loopEnd_none pc 4 hk)
    (by rw [hpushed.core, hc.branch, hs.branch]) (by rw [hpushed.core, hc.ctl, hctl])
  obtain ⟨hlate', hnow', hmem', hpc', -⟩ := setPc_spec g n (pc + 1) hpc
  refine ⟨setPc g n (pc + 1), ?_, hpc', hlate'.trans hlate, hnow'.trans (hsame.1.trans hc.now), hmem'.trans (hsame.2.trans hc.mem)⟩
  rw [sequence]
  simp only [hctl, hcount, hhalt, hnext, if_true]

/-- RUN set to DONE with the core's event raised. -/
theorem haltRaised_spec (e : State) {n : Nat} (hn : n < 64) :
    let t := (e.setFld (F.SEQ_STATUS_RUN n) runDONE).raise n
    coreRun t n = runDONE ∧ pcOf t n = pcOf e n ∧ t.fld (rawFld n) = 1 ∧ t.late = e.late ∧ t.now = e.now ∧ t.mem = e.mem := by
  have hrun := (OnlyEvents.refl [R.SEQ_STATUS n] e).setFld (f := F.SEQ_STATUS_RUN n) runDONE (by simp)
  have hframe := raise_events (e.setFld (F.SEQ_STATUS_RUN n) runDONE) n
  have hregs := hframe.regs
  have hstatus : R.SEQ_STATUS n ∉ [R.RAW (n / 64), R.PEND (n / 64), R.EVC_MERGED] := by
    simp [R.SEQ_STATUS, R.RAW, R.PEND, R.EVC_MERGED]
    omega
  refine ⟨?_, ?_, raise_raw _ n, hframe.late.trans hrun.late, hframe.now.trans hrun.now, hframe.mem.trans hrun.mem⟩
  · rw [coreRun, hregs.fld hstatus, State.fld_setFld_same _ _ _ (by simp)]
    rfl
  · rw [pcOf, hregs.fld hstatus, State.fld_setFld_ne _ _ _ _ (.inr (by simp)), ← pcOf]

/-- The queue plays no role in a field. -/
theorem State.after_fld (s t : State) (f : Fld) : (s.after t).fld f = t.fld f := rfl

/-- S.HALT: RUN is DONE, and the signatures are compared in the next cycle. -/
theorem Issues.runs_halt {i : Instr} {x : SylInfo} {s : State} (h : Issues i x s) (hs : Straight s x.y.n)
    (hd : x.apply s.now x.y (atEffect s x.y.n x.slot) = setCtl (atEffect s x.y.n x.slot) x.y.n fun c => { c with halt := true }) :
    Runs i s fun t => coreRun t x.y.n = runDONE ∧ pcOf t x.y.n = pcOf s x.y.n + 1 ∧ t.fld (rawFld x.y.n) = 1 ∧
      (∃ l ∈ t.late, l.due = s.now + 1 ∧ l.op = .cfsCompare (pcOf s x.y.n) ((s.core x.y.n).issued * 4)) ∧ MemSame s t := by
  have hcore := setCtl_core (atEffect s x.y.n x.slot) x.y.n fun c => { c with halt := true }
  have heff := atEffect_lone s x.y.n x.slot []
  have hsame : (setCtl (atEffect s x.y.n x.slot) x.y.n fun c => { c with halt := true }).csr = s.csr ∧
      (setCtl (atEffect s x.y.n x.slot) x.y.n fun c => { c with halt := true }).late = s.late ∧
      (setCtl (atEffect s x.y.n x.slot) x.y.n fun c => { c with halt := true }).now = s.now ∧
      (setCtl (atEffect s x.y.n x.slot) x.y.n fun c => { c with halt := true }).mem = s.mem :=
    ⟨(setCtl_csr _ _ _).trans (atEffect_csr s x.y.n x.slot), (setCtl_late _ _ _).trans (atEffect_late s x.y.n x.slot),
      (setCtl_now _ _ _).trans heff.now, (setCtl_mem _ _ _).trans heff.mem⟩
  have hat := h.atIssue_eq
  rw [hd] at hat
  rw [atEffect_ctl] at hcore
  generalize setCtl (atEffect s x.y.n x.slot) x.y.n (fun c => { c with halt := true }) = d at *
  obtain ⟨hcsr, hlate, hnow, hmem⟩ := hsame
  have hstraight : Straight d x.y.n :=
    ⟨(State.fld_of_csr hcsr _).trans hs.loops, by rw [hcore, atEffect_core]; exact hs.branch,
      by rw [State.fld_of_csr hcsr]; exact hs.window,
      by rw [pcOf, State.fld_of_csr hcsr]; exact hs.next⟩
  obtain ⟨e, hseq, hpc, hlate', hnow', hmem'⟩ :=
    sequence_halt s.now ((s.core x.y.n).issued + 1) (pcOf s x.y.n) (by rw [hcore]) hstraight hs.next
  obtain ⟨hrun, hpc', hraw, hlate'', hnow'', hmem''⟩ := haltRaised_spec e x.y.n.isLt
  rw [hseq] at hat
  obtain ⟨t, ht⟩ : ∃ t, (e.setFld (F.SEQ_STATUS_RUN x.y.n) runDONE).raise x.y.n = t := ⟨_, rfl⟩
  rw [ht] at hat hrun hpc' hraw hlate'' hnow'' hmem''
  have hall := hlate''.trans hlate'
  rw [hlate] at hall
  have hmem''' := hmem''.trans (hmem'.trans hmem)
  have hin : _ ∈ t.late := hall ▸ (mem_insertLate _ _ _).mpr (.inl rfl)
  have hdue : ∀ l ∈ t.late, s.now < l.due := fun l hl => by
    rw [hall] at hl
    rcases (mem_insertLate _ _ _).mp hl with rfl | hl
    · exact Nat.lt_succ_self _
    · exact h.ready.late l hl
  exact h.runs_atIssue hat (hnow''.trans (hnow'.trans hnow)) hdue ⟨(State.after_fld s t _).trans hrun,
    (State.after_fld s t _).trans (hpc'.trans hpc), (State.after_fld s t _).trans hraw, ⟨_, hin, rfl, rfl⟩,
    fun a => State.byte_of_mem hmem''' a⟩

end Sys2Proof.Machine
end

section
open Sys2Proof Sys2Proof.Machine

/-- Settles O22: the loop is skipped or pushed, popped with a branch, and the sequence ends with its comparison in flight. -/
theorem loopBreakHalt : Obligations.LoopBreakHalt := by
  unfold Obligations.LoopBreakHalt
  refine fun y x s => ⟨fun h hs hzero hend => ?_, fun h hs hcount => ?_, fun h hbranch hk hw hpc => ?_, fun h hs => ?_⟩
  · obtain ⟨rfl, -, happ⟩ := sylInfo_apply h.syl rfl
    exact h.runs_loopSkipped hs hend (by rw [happ, sLoopApply, sLoopCount_atEffect, hzero]; rfl)
  · have hcheck : x.check = fun _ => sLoopCheck := by
      obtain rfl := Option.some.inj h.syl
      rfl
    obtain ⟨rfl, -, happ⟩ := sylInfo_apply h.syl rfl
    have hnext := hs.next
    have hfaults := h.clear.faults
    rw [hcheck] at hfaults
    have hahead := sLoop_end hfaults
    rw [pcOf, State.gathered_fld, ← pcOf] at hahead
    have hlast14 : fb x.y 13 0 < 2 ^ 14 := Nat.mod_lt _ (Nat.two_pow_pos _)
    obtain ⟨hcnt, hstart, hlast⟩ := loopWord_fields (sLoopCount_lt x.y s) (by omega : pcOf s x.y.n + 1 < 2 ^ 14) hlast14
    have hpushed : x.apply s.now x.y (atEffect s x.y.n x.slot) = ((atEffect s x.y.n x.slot).setReg (R.KREG x.y.n 0)
        (BitVec.ofNat 64 (sLoopCount x.y s + (pcOf s x.y.n + 1) * 2 ^ 32 + fb x.y 13 0 * 2 ^ 48))).setFld (F.SEQ_STATUS_KDEPTH x.y.n) 1 := by
      rw [happ, sLoopApply, sLoopCount_atEffect, if_neg hcount, atEffect_kdepth, hs.loops, pcOf, fld_atEffect, ← pcOf]
    obtain ⟨t, hexec, hpc, hk, hw, hframe⟩ := h.runs_loopPushed hs (by rw [hlast]; omega) hpushed
    exact ⟨t, hexec, hpc, hk, by rw [State.fld, hw]; exact hcnt, by rw [State.fld, hw]; exact hstart,
      by rw [State.fld, hw]; exact hlast, hframe⟩
  · obtain ⟨rfl, -, happ⟩ := sylInfo_apply h.syl rfl
    exact h.runs_break hw hpc hbranch (by rw [happ, sBrkApply, atEffect_kdepth, hk])
  · obtain ⟨rfl, -, happ⟩ := sylInfo_apply h.syl rfl
    exact h.runs_halt hs (by rw [happ]; rfl)

end

section
open Sys2Proof Sys2Proof.Machine

/-- Settles O19: a load and a store in core memory each put one operation in flight, due 4 cycles later. -/
theorem scalarMemory : Obligations.ScalarMemory := by
  unfold Obligations.ScalarMemory
  refine fun y x s hs hown => ⟨fun h => ?_, fun h => ?_⟩
  · obtain ⟨rfl, hslot, happ⟩ := sylInfo_apply h.syl rfl
    have hrun := h.runs_push hs (due := s.now + 4) (by omega) (by rw [happ]; exact sLdApply_core x.y.n x.slot s.now hown)
    rwa [hslot] at hrun
  · obtain ⟨rfl, hslot, happ⟩ := sylInfo_apply h.syl rfl
    have hrun := h.runs_push hs (due := s.now + 4) (by omega) (by rw [happ]; exact sStApply_core x.y.n x.slot s.now hown)
    rwa [hslot] at hrun

end

section
/-! SUPPORT. Fault records, and what a fault makes known outside its core (R123 to R125). -/

namespace Sys2Proof.Machine

/-! ### The record -/

/-- FAULT_REC of a fault (Table 5.14). -/
def faultWord (multi : Bool) (slot kind origin addr code : Nat) : Word :=
  BitVec.ofNat 64 (2 ^ 63 + 2 ^ 62 * b2n multi + 2 ^ 60 * (slot % 4) + 2 ^ 58 * kind + 2 ^ 32 * (origin % 2 ^ 14) +
    2 ^ 16 * (addr % 2 ^ 14) + code)

theorem b2n_le (b : Bool) : b2n b ≤ 1 := by cases b <;> decide

theorem faultWord_fields (multi : Bool) (slot origin addr : Nat) {kind code : Nat} (hkind : kind < 4) (hcode : code < 256) :
    getBits (faultWord multi slot kind origin addr code) 63 63 = 1 ∧
      getBits (faultWord multi slot kind origin addr code) 59 58 = kind ∧
      getBits (faultWord multi slot kind origin addr code) 7 0 = code := by
  have hmulti := b2n_le multi
  unfold faultWord
  generalize b2n multi = m at hmulti ⊢
  simp only [getBits, bitsOf, BitVec.toNat_ofNat, Nat.shiftRight_eq_div_pow]
  norm_num
  omega

section
variable (s : State) (n code slot kind origin addr info : Nat) (multi : Bool)

/-- A first fault is recorded whole. -/
theorem recordFault_first (h : s.fld (F.FAULT_REC_VALID n) = 0) : recordFault s n code slot kind origin addr info multi =
    (s.setReg (R.FAULT_REC n) (faultWord multi slot kind origin addr code)).setReg (R.FAULT_INFO n) (BitVec.ofNat 64 info) := by
  rw [recordFault, State.flag, h]
  rfl

/-- A recorded fault changes its core's two fault registers alone. -/
theorem recordFault_onlyEvents : OnlyEvents [R.FAULT_REC n, R.FAULT_INFO n] s
    (recordFault s n code slot kind origin addr info multi) := by
  unfold recordFault
  split
  · exact (OnlyEvents.refl _ s).setReg _ (by simp)
  · exact ((OnlyEvents.refl _ s).setReg _ (by simp)).setReg _ (by simp)

theorem recordFault_reg (h : s.fld (F.FAULT_REC_VALID n) = 0) :
    (recordFault s n code slot kind origin addr info multi).reg (R.FAULT_REC n) = faultWord multi slot kind origin addr code := by
  rw [recordFault_first s n code slot kind origin addr info multi h, State.reg_setReg_ne _ _ (by simp), State.reg_setReg_same]

end

/-! ### The journal -/

/-- Only the journal and the register JRN_STATUS may differ. -/
structure OnlyJournal (s t : State) : Prop where
  rest : ∃ csr jrn, t = { s with csr := csr, jrn := jrn }
  regs : RegsExcept [R.JRN_STATUS] s t

section
variable {s t : State} (h : OnlyJournal s t)
include h

theorem OnlyJournal.now : t.now = s.now := by obtain ⟨_, _, rfl⟩ := h.rest; rfl
theorem OnlyJournal.late : t.late = s.late := by obtain ⟨_, _, rfl⟩ := h.rest; rfl
theorem OnlyJournal.mem : t.mem = s.mem := by obtain ⟨_, _, rfl⟩ := h.rest; rfl
theorem OnlyJournal.cores : t.cores = s.cores := by obtain ⟨_, _, rfl⟩ := h.rest; rfl
theorem OnlyJournal.pending : t.pending = s.pending := by obtain ⟨_, _, rfl⟩ := h.rest; rfl

end

/-- A fault noted in the journal: FAULTED is set in an open step, and the fault record is to be rewritten. -/
theorem faultNoted_onlyJournal (s : State) : OnlyJournal s (frecPush (setFaulted s)) := by
  refine ⟨?_, (setFaulted_spec s).1⟩
  unfold setFaulted
  split
  · exact ⟨_, _, rfl⟩
  · exact ⟨_, _, rfl⟩

/-- A fault whose code is not one of the four that SAFE_CTRL.ESC names goes no further than the journal. -/
theorem faultOutside_unescalated (s : State) (n : Nat) {code : Nat} (h : code ∉ [0x15, 0x1C, 0x04, 0x03]) :
    faultOutside s n code = frecPush (setFaulted s) := by
  simp only [List.mem_cons, List.not_mem_nil, or_false, not_or] at h
  obtain ⟨h1, h2, h3, h4⟩ := h
  unfold faultOutside
  simp [h1, h2, h3, h4]

/-! ### A fault taken at a bundle -/

/-- Core n has stopped at a fault that was recorded and raised; what is left is outside the core. -/
def faultStopped (s : State) (n : Nat) : State :=
  let t := (s.setFld (F.SEQ_STATUS_RUN n) runFAULT).setFld (F.SEQ_STATUS_STALL n) 0
  (t.setCore n { t.core n with held := none, latch := [], dueFaults := [] }).raise n

theorem takeFaults_cons (s : State) (n : Nat) (f : FaultF) (fs : List FaultF) : takeFaults s n (f :: fs) =
    faultOutside (faultStopped (recordFault s n f.code f.slot f.kind (f.origin.getD (pcOf s n)) (pcOf s n) f.info (!fs.isEmpty)) n)
      n f.code := rfl

theorem faultStopped_spec (s : State) {n : Nat} (hn : n < 64) : let t := faultStopped s n
    coreRun t n = runFAULT ∧ pcOf t n = pcOf s n ∧ (∀ f : Fld, f.addr = R.FAULT_REC n → t.fld f = s.fld f) ∧
      (t.core n).held = none ∧ t.now = s.now ∧ t.late = s.late ∧ t.mem = s.mem ∧ t.pending = s.pending := by
  obtain ⟨d, hd⟩ : ∃ d, d = (s.setFld (F.SEQ_STATUS_RUN n) runFAULT).setFld (F.SEQ_STATUS_STALL n) 0 := ⟨_, rfl⟩
  have hrun : coreRun d n = runFAULT := by
    rw [hd, coreRun, State.fld_setFld_ne _ _ _ _ (.inr (by simp)), State.fld_setFld_same _ _ _ (by simp)]
    rfl
  have hpc : pcOf d n = pcOf s n := by
    rw [hd, pcOf, State.fld_setFld_ne _ _ _ _ (.inr (by simp)), State.fld_setFld_ne _ _ _ _ (.inr (by simp)), pcOf]
  have hstatus : OnlyEvents [R.SEQ_STATUS n] s d := by
    rw [hd]
    exact ((OnlyEvents.refl _ s).setFld _ (by simp)).setFld _ (by simp)
  have hset := coreSet_setCore d n { d.core n with held := none, latch := [], dueFaults := [] }
  have hstopped : faultStopped s n = (d.setCore n { d.core n with held := none, latch := [], dueFaults := [] }).raise n := by
    rw [hd]
    rfl
  dsimp only
  rw [hstopped]
  generalize d.setCore n { d.core n with held := none, latch := [], dueFaults := [] } = e at hset
  have hframe := raise_events e n
  have hevents := hframe.regs
  have hout : R.SEQ_STATUS n ∉ [R.RAW (n / 64), R.PEND (n / 64), R.EVC_MERGED] := by
    simp [R.SEQ_STATUS, R.RAW, R.PEND, R.EVC_MERGED]
    omega
  have hrec : R.FAULT_REC n ∉ [R.RAW (n / 64), R.PEND (n / 64), R.EVC_MERGED] := by
    simp [R.FAULT_REC, R.RAW, R.PEND, R.EVC_MERGED]
    omega
  refine ⟨?_, ?_, fun f hf => ?_, ?_, hframe.now.trans (hset.now.trans hstatus.now),
    hframe.late.trans (hset.late.trans hstatus.late), hframe.mem.trans (hset.mem.trans hstatus.mem),
    hframe.pending.trans (hset.pending.trans hstatus.pending)⟩
  · rw [coreRun, hevents.fld hout, State.fld_of_csr hset.csr, ← coreRun, hrun]
  · rw [pcOf, hevents.fld hout, State.fld_of_csr hset.csr, ← pcOf, hpc]
  · rw [hevents.fld (hf ▸ hrec), State.fld_of_csr hset.csr, hstatus.regs.fld (by simp [hf])]
  · rw [State.core_of_cores hframe.cores, hset.own]

/-- The first fault of a core that is not escalated: its record, and the core stopped. -/
theorem takeFaults_spec {s : State} {n : Nat} (hn : n < 64) (hvalid : s.fld (F.FAULT_REC_VALID n) = 0) (f : FaultF)
    (fs : List FaultF) (hkind : f.kind < 4) (hcode : f.code < 256) (hesc : f.code ∉ [0x15, 0x1C, 0x04, 0x03]) :
    let t := takeFaults s n (f :: fs)
    coreRun t n = runFAULT ∧ t.fld (F.FAULT_REC_CODE n) = f.code ∧ t.fld (F.FAULT_REC_VALID n) = 1 ∧ (t.core n).held = none ∧
      pcOf t n = pcOf s n ∧ t.now = s.now ∧ t.late = s.late ∧ t.mem = s.mem ∧ t.pending = s.pending := by
  dsimp only
  rw [takeFaults_cons, faultOutside_unescalated _ n hesc]
  have hword := recordFault_reg s n f.code f.slot f.kind (f.origin.getD (pcOf s n)) (pcOf s n) f.info (!fs.isEmpty) hvalid
  have hrec := recordFault_onlyEvents s n f.code f.slot f.kind (f.origin.getD (pcOf s n)) (pcOf s n) f.info (!fs.isEmpty)
  obtain ⟨hfield, -, hcodes⟩ := faultWord_fields (!fs.isEmpty) f.slot (f.origin.getD (pcOf s n)) (pcOf s n) hkind hcode
  generalize recordFault s n f.code f.slot f.kind (f.origin.getD (pcOf s n)) (pcOf s n) f.info (!fs.isEmpty) = r at hword hrec
  obtain ⟨hrun, hpc, hflds, hheld, hnow, hlate, hmem, hpending⟩ := faultStopped_spec r hn
  generalize faultStopped r n = d at *
  have hj := faultNoted_onlyJournal d
  generalize frecPush (setFaulted d) = t at *
  have hstatus : ∀ f : Fld, f.addr = R.SEQ_STATUS n → t.fld f = d.fld f := fun f hf => hj.regs.fld (by
    rw [hf]
    simp [R.SEQ_STATUS, R.JRN_STATUS]
    omega)
  have hfault : ∀ f : Fld, f.addr = R.FAULT_REC n → t.fld f = getBits (r.reg (R.FAULT_REC n)) f.hi f.lo := fun f hf =>
    (hj.regs.fld (by
      rw [hf]
      simp [R.FAULT_REC, R.JRN_STATUS]
      omega)).trans ((hflds f hf).trans (by rw [State.fld, hf]))
  refine ⟨(hstatus _ rfl).trans hrun, ?_, ?_, (congrArg Core.held (State.core_of_cores hj.cores n)).trans hheld,
    (hstatus _ rfl).trans (hpc.trans (hrec.regs.fld (by simp))), hj.now.trans (hnow.trans hrec.now),
    hj.late.trans (hlate.trans hrec.late), hj.mem.trans (hmem.trans hrec.mem),
    hj.pending.trans (hpending.trans hrec.pending)⟩
  · rw [hfault _ rfl, hword]
    exact hcodes
  · rw [hfault _ rfl, hword]
    exact hfield

end Sys2Proof.Machine
end

section
/-! SUPPORT. A held bundle: its hold, the end of its stall, and WAIT_TIMEOUT (R115 to R117). -/

namespace Sys2Proof.Machine

/-! ### A bundle that is held -/

/-- The bundle h held at core n. -/
structure HeldAt (n : Nat) (h : Held) (d t : State) : Prop where
  run : coreRun t n = runSTALLED
  stall : t.fld (F.SEQ_STATUS_STALL n) = maskNat h.mask
  held : (t.core n).held = some h
  pc : pcOf t n = pcOf d n
  late : t.late = d.late
  now : t.now = d.now
  regs : RegsExcept [R.SEQ_STATUS n] d t
  cores : CoresExcept [n] d t
  mem : t.mem = d.mem
  pending : t.pending = d.pending

theorem maskNat_lt (m : StallMask) : maskNat m < 8 := by
  have hacc := b2n_le m.acc
  have htier := b2n_le m.tier
  have hwait := b2n_le m.wait
  unfold maskNat
  omega

theorem setHeld_heldAt (d : State) (n : Nat) (h : Held) : HeldAt n h d (setHeld d n h) := by
  have hset := coreSet_setCore d n { d.core n with held := some h }
  unfold setHeld
  generalize d.setCore n { d.core n with held := some h } = e at hset
  have hframe : OnlyEvents [R.SEQ_STATUS n] e ((e.setFld (F.SEQ_STATUS_STALL n) (maskNat h.mask)).setFld (F.SEQ_STATUS_RUN n) runSTALLED) :=
    ((OnlyEvents.refl _ e).setFld _ (by simp)).setFld _ (by simp)
  refine ⟨?_, ?_, ?_, ?_, hframe.late.trans hset.late, hframe.now.trans hset.now,
    fun a ha => (hframe.regs a ha).trans (State.reg_of_csr hset.csr a),
    fun m hm => (State.core_of_cores hframe.cores m).trans (hset.coresExcept m hm), hframe.mem.trans hset.mem,
    hframe.pending.trans hset.pending⟩
  · rw [coreRun, State.fld_setFld_same _ _ _ (by simp)]
    rfl
  · rw [State.fld_setFld_ne _ _ _ _ (.inr (by simp)), State.fld_setFld_same _ _ _ (by simp)]
    exact Nat.mod_eq_of_lt (maskNat_lt h.mask)
  · rw [State.core_of_cores hframe.cores, hset.own]
  · rw [pcOf, State.fld_setFld_ne _ _ _ _ (.inr (by simp)), State.fld_setFld_ne _ _ _ _ (.inr (by simp)), State.fld_of_csr hset.csr, pcOf]

/-- A counter that advances changes its own register alone. -/
theorem incFld_onlyEvents (g : State) (f : Fld) (k : Nat) : OnlyEvents [f.addr] g (g.incFld f k) :=
  (OnlyEvents.refl _ g).setReg _ List.mem_cons_self

/-- A hold that awaits no tile begins: the bundle is held, and a hold of the accumulators is counted. -/
theorem startHold_heldAt (g : State) (n u : Nat) (b : List Instr) (acc wait : Bool) :
    ∃ d, OnlyEvents [R.ACC_HOLD_COUNT n] g d ∧
      HeldAt n { bundle := b, since := u, upto := u, mask := ⟨acc, false, wait⟩, waited := 0, tierWaited := 0, awaited := none } d
        (startHold g n u b ⟨acc, none, wait⟩) := by
  have hnote : noteAwaited g n u ⟨acc, none, wait⟩ = (none, g) := rfl
  obtain ⟨d, hd⟩ : ∃ d, (if acc = true then g.incFld (F.ACC_HOLD_COUNT_COUNT n) 1 else g) = d := ⟨_, rfl⟩
  have hstart : startHold g n u b ⟨acc, none, wait⟩ =
      setHeld d n { bundle := b, since := u, upto := u, mask := ⟨acc, false, wait⟩, waited := 0, tierWaited := 0, awaited := none } := by
    rw [startHold, hnote]
    simp only [hd]
    rfl
  rw [hstart]
  refine ⟨d, ?_, setHeld_heldAt d n _⟩
  rw [← hd]
  split
  · exact incFld_onlyEvents g (F.ACC_HOLD_COUNT_COUNT n) 1
  · exact OnlyEvents.refl _ g

/-- A lone syllable that is held by the accumulators or waits. -/
theorem runs_held {i : Instr} {x : SylInfo} {s : State} {acc wait : Bool} (hsyl : sylInfo i = some x) (hlast : x.y.last = true)
    (hready : Ready s x.y.n) (hclean : ∀ y sl op e, i = .nop y sl op e → e = .clean)
    (hstalls : bundleStalls (s.gathered x.y.n) x.y.n s.now [i] = ⟨acc, none, wait⟩) (hany : acc = true ∨ wait = true) :
    Runs i s fun t => coreRun t x.y.n = runSTALLED ∧ t.fld (F.SEQ_STATUS_STALL x.y.n) = maskNat ⟨acc, false, wait⟩ ∧
      (∃ h, (t.core x.y.n).held = some h ∧ h.bundle = [i] ∧ h.since = s.now) ∧ pcOf t x.y.n = pcOf s x.y.n ∧
      t.late = s.late ∧ RegsExcept [R.SEQ_STATUS x.y.n, R.ACC_HOLD_COUNT x.y.n] s t ∧ CoresExcept [x.y.n.val] s t ∧ MemSame s t := by
  obtain ⟨d, hd, ht⟩ := startHold_heldAt (s.gathered x.y.n) x.y.n s.now [i] acc wait
  have hstart : reachIssue (s.gathered x.y.n) x.y.n [i] =
      tickTo (startHold (s.gathered x.y.n) x.y.n s.now [i] ⟨acc, none, wait⟩) s.now := by
    rw [reachIssue_ready hready hclean, hstalls, if_pos]
    rcases hany with rfl | rfl <;> simp [Stalls.any]
  generalize startHold (s.gathered x.y.n) x.y.n s.now [i] ⟨acc, none, wait⟩ = t at ht hstart
  have hset := coreSet_setCore s x.y.n { s.core x.y.n with latch := [] }
  rw [← State.gathered] at hset
  have hlate : t.late = s.late := ht.late.trans (hd.late.trans hset.late)
  have hquiet : tickTo t s.now = t := tickTo_past t s.now (Nat.le_of_eq (ht.now.trans (hd.now.trans hset.now)).symm)
    (by rw [hlate]; exact hready.late)
  have hregs : RegsExcept [R.SEQ_STATUS x.y.n, R.ACC_HOLD_COUNT x.y.n] s t := fun a ha => by
    simp only [List.mem_cons, List.not_mem_nil, or_false, not_or] at ha
    obtain ⟨hstatus, hcount⟩ := ha
    rw [ht.regs a (by simpa using hstatus), hd.regs a (by simpa using hcount), State.reg_of_csr hset.csr]
  have hpc : pcOf t x.y.n = pcOf s x.y.n := by
    rw [ht.pc, pcOf, hd.regs.fld (by simp), State.fld_of_csr hset.csr, pcOf]
  have hcores : CoresExcept [x.y.n.val] s t := fun m hm => by
    rw [ht.cores m hm, State.core_of_cores hd.cores, hset.coresExcept m hm]
  have hmem := ht.mem.trans (hd.mem.trans hset.mem)
  have hpending := ht.pending.trans (hd.pending.trans hset.pending)
  have hadd : addSyl i s = t := (addSyl_last hsyl hlast hready).trans (hstart.trans hquiet)
  exact ⟨t, exec_row hready.up (exec_syl hsyl) hadd hpending, ht.run, ht.stall, ⟨_, ht.held, rfl, rfl⟩, hpc, hlate, hregs, hcores,
    fun a => State.byte_of_mem hmem a⟩

/-! ### The end of a hold -/

/-- The faults that a wait which has reached its limit ends with. -/
def timeoutFaults (s : State) (n : Nat) (h : Held) : List FaultF :=
  ⟨cWAIT_TIMEOUT, 1, 0, none, h.waited⟩ :: bundleFaults s n s.now h.bundle

/-- The core of a wait that timed out has stopped, and its record names WAIT_TIMEOUT. -/
theorem takeFaults_timeout {s : State} {n : Nat} (hn : n < 64) (hvalid : s.fld (F.FAULT_REC_VALID n) = 0) (h : Held) :
    let t := takeFaults s n (timeoutFaults s n h)
    coreRun t n = runFAULT ∧ t.fld (F.FAULT_REC_CODE n) = 0x0D ∧ t.fld (F.FAULT_REC_VALID n) = 1 ∧ (t.core n).held = none ∧
      pcOf t n = pcOf s n ∧ t.now = s.now ∧ t.late = s.late ∧ t.mem = s.mem ∧
      t.pending = s.pending := by
  rw [timeoutFaults]
  exact takeFaults_spec hn hvalid ⟨cWAIT_TIMEOUT, 1, 0, none, h.waited⟩ (bundleFaults s n s.now h.bundle) (show 0 < 4 by decide)
    (show 0x0D < 256 by decide) (show 0x0D ∉ _ by decide)

section
variable {s : State} {n : Nat} {h : Held} (hheld : (s.core n).held = some h) (hupto : h.upto = s.now)
  (hlate : ∀ l ∈ s.late, s.now < l.due)
include hheld hupto hlate

/-- A bundle that nothing holds any longer issues in the present cycle. -/
theorem evalHeld_released (hnone : (bundleStalls s n s.now h.bundle).any = false) {e : Nat} (he : s.now ≤ e) :
    evalHeld s n e = tickTo (releaseAt s n s.now h.bundle) (releaseAt s n s.now h.bundle).now := by
  obtain ⟨k, hk⟩ : ∃ k, e + 2 - h.upto = k + 1 := ⟨e + 1 - h.upto, by omega⟩
  have hrun : runHeld n e (e + 2 - h.upto) s = releaseAt s n s.now h.bundle := by
    rw [hk, runHeld]
    simp only [hheld, hupto, if_neg (Nat.not_lt.mpr he), Nat.max_self, tickTo_now s hlate, hnone, Bool.not_false, if_true]
  rw [evalHeld, hheld]
  simp only [hrun]

theorem stallEnd_released (hnone : (bundleStalls s n s.now h.bundle).any = false) :
    stallEnd s n = tickTo (releaseAt s n s.now h.bundle) (releaseAt s n s.now h.bundle).now := by
  rw [stallEnd, hheld]
  simp only
  rw [evalHeld_released hheld hupto hlate hnone (by omega), evalHeld_released hheld hupto hlate hnone (by omega), ite_self]

/-- A wait that has reached its limit ends in its fault. -/
theorem waitTimeout_limit (hwait : (bundleStalls s n s.now h.bundle).wait = true) (hlim : s.fld (F.WAIT_LIMIT_LIMIT n) ≠ 0)
    (hreached : s.fld (F.WAIT_LIMIT_LIMIT n) ≤ h.waited)
    (hended : ((takeFaults s n (timeoutFaults s n h)).core n).held = none)
    (hquiet : tickTo (takeFaults s n (timeoutFaults s n h)) (takeFaults s n (timeoutFaults s n h)).now =
      takeFaults s n (timeoutFaults s n h)) :
    waitTimeout s n = takeFaults s n (timeoutFaults s n h) := by
  have hany : (bundleStalls s n s.now h.bundle).any = true := by simp [Stalls.any, hwait]
  have hfault : limitFault s n h (bundleStalls s n s.now h.bundle) = some (⟨cWAIT_TIMEOUT, 1, 0, none, h.waited⟩, none) := by
    rw [limitFault, hwait]
    simp [hlim, hreached]
  have hrun : runHeld n s.now 2 s = takeFaults s n (timeoutFaults s n h) := by
    rw [runHeld]
    simp only [hheld, hupto, if_neg (Nat.lt_irrefl _), Nat.max_self, tickTo_now s hlate, hany, hfault, Bool.not_true,
      Bool.false_eq_true, if_false, limitEnd, timeoutFaults]
  have heval : evalHeld s n (h.upto + (s.fld (F.WAIT_LIMIT_LIMIT n) - h.waited)) = takeFaults s n (timeoutFaults s n h) := by
    have hfuel : s.now + 2 - h.upto = 2 := by omega
    rw [Nat.sub_eq_zero_of_le hreached, Nat.add_zero, hupto, evalHeld, hheld]
    simp only [hfuel, hrun, hquiet]
  rw [waitTimeout, toLimit, hheld]
  simp only [if_neg hlim, heval, hended, Option.isNone_none, if_true]

end

end Sys2Proof.Machine
end

section
open Sys2Proof Sys2Proof.Machine

/-- Settles O24: a bundle that is held stays at issue; a hold ends where nothing holds, and a wait at its limit. -/
theorem stalls : Obligations.Stalls := by
  unfold Obligations.Stalls
  refine ⟨fun i x s hsyl hlast hready hlegal hpred hclean htier halone hholds => ?_, fun n s hup => ⟨fun hnone => ?_, fun hlim => ?_,
    fun h hheld hupto hlate => ⟨fun hnone => ?_, fun hwait hlim hreached hdue hvalid => ?_⟩⟩⟩
  · have hp : (s.gathered x.y.n).pr x.y.n x.y.pred.toNat = true := hpred
    have hstalls : bundleStalls (s.gathered x.y.n) x.y.n s.now [i] =
        ⟨x.hold s.now x.y (s.gathered x.y.n), none, x.wait x.y (s.gathered x.y.n)⟩ := by
      have hone := bundleStalls_one (s := s.gathered x.y.n) (n := x.y.n) hsyl halone
      rw [hlegal, hp, Bool.and_self, if_pos rfl, State.gathered_now, htier] at hone
      exact hone
    obtain ⟨t, hexec, hrun, hstall, hframe⟩ := runs_held hsyl hlast hready hclean hstalls hholds
    refine ⟨t, hexec, hrun, hstall.trans ?_, hframe⟩
    cases x.hold s.now x.y (s.gathered x.y.n) <;> cases x.wait x.y (s.gathered x.y.n) <;> rfl
  · refine ⟨exec_row hup (f := fun s => stallEnd s n) rfl ?_ rfl, exec_row hup (f := fun s => waitTimeout s n) rfl ?_ rfl,
      exec_row hup (f := fun s => tierBoundExpiry s n) rfl ?_ rfl⟩
    · rw [stallEnd, hnone]
    · rw [waitTimeout, toLimit, hnone]
    · rw [tierBoundExpiry, toLimit, hnone]
  · refine exec_row hup (f := fun s => waitTimeout s n) rfl ?_ rfl
    rw [waitTimeout, toLimit]
    cases (s.core n).held with
    | none => rfl
    | some h => simp only [hlim, if_true]
  · rw [show exec (.stallEnd n) s = ifUp (fun s => stallEnd s n) s from rfl, ifUp_up _ hup,
      stallEnd_released hheld hupto hlate hnone, State.after]
  · obtain ⟨hrun, hcode, hrec, hended, hpc, hnow, hlate', hmem, hpending⟩ := takeFaults_timeout n.isLt hvalid h
    have hquiet := tickTo_now (takeFaults s n (timeoutFaults s n h)) (by
      rw [hlate', hnow]
      exact hlate)
    have hend := waitTimeout_limit hheld hupto hlate hwait hlim hreached hended hquiet
    exact ⟨_, exec_row hup (f := fun s => waitTimeout s n) rfl hend hpending, hrun, hcode, hrec, hended, hpc,
      fun a => State.byte_of_mem hmem a⟩

end

section
/-! SUPPORT. Deferred faults that come due, and the comparison of the control-flow signatures (R125, R129). -/

namespace Sys2Proof.Machine

/-! ### Deferred faults -/

/-- The deferred fault that an operation in flight is, where it is one of core n that has come due. -/
def dueFault (s : State) (n : Nat) (l : Late) : Option DefFault :=
  if l.n == n && decide (l.due ≤ s.now) then (match l.op with | .deferred x => some x | _ => none) else none

theorem deferredStep_eq (s : State) (n : Nat) (d : DefFault) : deferredStep s n d =
    deferredDue { s with late := s.late.filter fun l => (dueFault s n l).isNone } n (d :: s.late.filterMap (dueFault s n)) := rfl

theorem dueFault_later {s : State} {l : Late} (h : s.now < l.due) (n : Nat) : dueFault s n l = none := by
  rw [dueFault, decide_eq_false (Nat.not_le.mpr h), Bool.and_false]
  rfl

/-- Where nothing else is due, one deferred fault comes due alone. -/
theorem deferredStep_alone {s : State} (h : ∀ l ∈ s.late, s.now < l.due) (n : Nat) (d : DefFault) :
    deferredStep s n d = deferredDue s n [d] := by
  have hkeep : ∀ l ∈ s.late, dueFault s n l = none := fun l hl => dueFault_later (h l hl) n
  rw [deferredStep_eq, List.filter_eq_self.mpr fun l hl => by rw [hkeep l hl]; rfl, List.filterMap_eq_nil_iff.mpr hkeep]

section
variable {s : State} {n : Nat} (ds : List DefFault)

/-- A core that issues and holds no bundle keeps its deferred faults for its next one. -/
theorem deferredDue_waits (hissues : coreIssues s n = true) (hheld : (s.core n).held = none) :
    deferredDue s n ds = s.setCore n { s.core n with dueFaults := (s.core n).dueFaults ++ ds } := by
  simp only [coreIssues, Bool.and_eq_true, beq_iff_eq] at hissues
  unfold deferredDue
  rw [if_pos ⟨hissues.1, .inl hissues.2⟩]
  simp only [hheld]

/-- A core that neither issues nor holds a bundle has its deferred faults recorded. -/
theorem deferredDue_recorded (hissues : coreIssues s n = false) (hrun : coreRun s n ≠ runSTALLED) :
    deferredDue s n ds = recordDeferred s n ds := by
  unfold deferredDue
  rw [if_neg]
  rintro ⟨hon, h | h⟩
  · rw [coreIssues, hon, h] at hissues
    exact absurd hissues (by decide)
  · exact hrun h

/-- A record that stands takes MULTI. -/
theorem recordDeferred_multi (hvalid : s.fld (F.FAULT_REC_VALID n) = 1) (d : DefFault) :
    recordDeferred s n [d] = s.setFld (F.FAULT_REC_MULTI n) 1 := by
  have hflag : s.flag (F.FAULT_REC_VALID n) = true := by
    rw [State.flag, hvalid]
    rfl
  unfold recordDeferred
  simp only [sortDef, List.foldl, insDef, hflag, if_true]

end

section
variable {s : State} {l : Late} {rest : List Late}

theorem applyLate_deferred {d : DefFault} (hop : l.op = .deferred d) :
    applyLate (({ s with late := rest } : State).clock l.due) l = deferredStep (landing s l rest) l.n d := by
  simp only [applyLate, hop, landing, setCur]

theorem applyLate_cfsCompare {origin ord : Nat} (hop : l.op = .cfsCompare origin ord) :
    applyLate (({ s with late := rest } : State).clock l.due) l = cfsCompareStep (landing s l rest) l.n origin ord := by
  simp only [applyLate, hop, landing, setCur]

/-- The state of a core that a landing leaves. -/
theorem landing_coreState (n : Nat) : coreState (landing s l rest) n = coreState s n :=
  landing_fld s l rest (by simp only [R.SEQ_CTRL]; omega) (by simp only [R.SEQ_CTRL]; omega)

theorem landing_coreRun (n : Nat) : coreRun (landing s l rest) n = coreRun s n :=
  landing_fld s l rest (by simp only [R.SEQ_STATUS]; omega) (by simp only [R.SEQ_STATUS]; omega)

theorem landing_coreIssues (n : Nat) : coreIssues (landing s l rest) n = coreIssues s n := by
  rw [coreIssues, landing_coreState, landing_coreRun, coreIssues]

theorem landing_faultRec (n : Nat) {f : Fld} (hf : f.addr = R.FAULT_REC n) : (landing s l rest).fld f = s.fld f :=
  landing_fld s l rest (by simp only [hf, R.FAULT_REC]; omega) (by simp only [hf, R.FAULT_REC]; omega)

end

section
variable {s : State} {n : Fin 64} {l : Late} {rest : List Late} {d : DefFault} (h : DueNext s n l rest) (hop : l.op = .deferred d)
include h hop

theorem applyLate_deferredNext :
    applyLate (({ s with late := rest } : State).clock l.due) l = deferredDue (landing s l rest) n [d] := by
  rw [applyLate_deferred hop, h.own, deferredStep_alone]
  rw [landing_late, landing_now_due h]
  exact h.later

theorem deferredFaultDue_landing : deferredFaultDue s n = tickTo s l.due := by
  unfold deferredFaultDue
  exact untilLate_landing h (by rw [hop])

/-- A deferred fault of a core that goes on issuing waits. -/
theorem runs_deferred_waits (hissues : coreIssues s n = true) (hheld : (s.core n).held = none) :
    Runs (.deferredFaultDue n) s fun t => (t.core n).dueFaults = (s.core n).dueFaults ++ [d] ∧ coreRun t n = runRUNNING ∧
      Landed [] s t n l rest ∧ MemSame s t := by
  have hcore : (landing s l rest).core n = { s.core n with cur := l.syl } := h.own ▸ landing_core s l rest
  have hrun : coreRun (landing s l rest) n = runRUNNING := by
    rw [landing_coreRun]
    simp only [coreIssues, Bool.and_eq_true, beq_iff_eq] at hissues
    exact hissues.2
  have heff := applyLate_deferredNext h hop
  rw [deferredDue_waits [d] (by rwa [landing_coreIssues]) (by rw [hcore]; exact hheld), hcore] at heff
  have hset := coreSet_setCore (landing s l rest) n
    { { s.core n with cur := l.syl } with dueFaults := ({ s.core n with cur := l.syl } : Core).dueFaults ++ [d] }
  generalize (landing s l rest).setCore n _ = e at heff hset
  refine runs_landing h (f := fun s => deferredFaultDue s n) rfl (deferredFaultDue_landing h hop) heff hset.now hset.late hset.pending
    ⟨by rw [hset.own], (State.fld_of_csr hset.csr _).trans hrun,
      landed_of h hset.now hset.late (fun a _ => State.reg_of_csr hset.csr a) hset.coresExcept, fun a => ?_⟩
  exact State.byte_of_mem (hset.mem.trans (landing_mem s l rest)) a

/-- A deferred fault of a core that has stopped with a valid record adds MULTI. -/
theorem runs_deferred_multi (hissues : coreIssues s n = false) (hrun : coreRun s n ≠ runSTALLED)
    (hvalid : s.fld (F.FAULT_REC_VALID n) = 1) : Runs (.deferredFaultDue n) s fun t => t.fld (F.FAULT_REC_MULTI n) = 1 ∧
      t.fld (F.FAULT_REC_CODE n) = s.fld (F.FAULT_REC_CODE n) ∧ Landed [R.FAULT_REC n] s t n l rest ∧ MemSame s t := by
  have heff := applyLate_deferredNext h hop
  rw [deferredDue_recorded [d] (by rwa [landing_coreIssues]) (by rwa [landing_coreRun]),
    recordDeferred_multi (by rwa [landing_faultRec n rfl])] at heff
  have hframe := (OnlyEvents.refl [R.FAULT_REC n] (landing s l rest)).setFld (f := F.FAULT_REC_MULTI n) 1 (by simp)
  have hmulti : ((landing s l rest).setFld (F.FAULT_REC_MULTI n) 1).fld (F.FAULT_REC_MULTI n) = 1 := by
    rw [State.fld_setFld_same _ _ _ (by simp)]
    rfl
  have hcode : ((landing s l rest).setFld (F.FAULT_REC_MULTI n) 1).fld (F.FAULT_REC_CODE n) = s.fld (F.FAULT_REC_CODE n) := by
    rw [State.fld_setFld_ne _ _ _ _ (.inr (by simp)), landing_faultRec n rfl]
  generalize (landing s l rest).setFld (F.FAULT_REC_MULTI n) 1 = e at *
  exact runs_landing h (f := fun s => deferredFaultDue s n) rfl (deferredFaultDue_landing h hop) heff hframe.now hframe.late
    hframe.pending ⟨hmulti, hcode, landed_of h hframe.now hframe.late hframe.regs fun m _ => State.core_of_cores hframe.cores m,
      fun a => State.byte_of_mem (hframe.mem.trans (landing_mem s l rest)) a⟩

end

/-! ### The comparison of the signatures -/

/-- What is due next after a change of registers and events. -/
theorem DueNext.onlyEvents {as : List Nat} {s t : State} {n : Nat} {l : Late} {rest : List Late} (h : DueNext s n l rest)
    (ht : OnlyEvents as s t) : DueNext t n l rest := by
  obtain ⟨_, _, rfl, _⟩ := ht
  exact ⟨h.up, h.head, h.own, h.ahead, h.later⟩

/-- Both signatures start again. -/
def cfsRestart (s : State) (n : Nat) : State := (s.setReg (R.CFS_FETCH n) 0xFFFFFFFF#64).setReg (R.CFS_CHECK n) 0xFFFFFFFF#64

theorem cfsRestart_onlyEvents (s : State) (n : Nat) : OnlyEvents [R.CFS_FETCH n, R.CFS_CHECK n] s (cfsRestart s n) :=
  ((OnlyEvents.refl _ s).setReg _ (by simp)).setReg _ (by simp)

theorem cfsRestart_fetch (s : State) (n : Nat) : (cfsRestart s n).reg (R.CFS_FETCH n) = 0xFFFFFFFF#64 := by
  rw [cfsRestart, State.reg_setReg_ne _ _ (by simp), State.reg_setReg_same]

theorem cfsRestart_check (s : State) (n : Nat) : (cfsRestart s n).reg (R.CFS_CHECK n) = 0xFFFFFFFF#64 := by
  rw [cfsRestart, State.reg_setReg_same]

/-- The deferred fault of a comparison of the signatures f and k. -/
def cfsFaults (f k origin ord : Nat) : List DefFault :=
  if f = k then [] else [⟨0x04, 0, some origin, f * 2 ^ 32 + k, ord⟩]

/-- A comparison at a core that issues and holds no bundle. -/
theorem cfsCompareStep_waits {s : State} {n : Nat} (origin ord : Nat) (hissues : coreIssues s n = true)
    (hheld : (s.core n).held = none) : CoreSet n { s.core n with
        dueFaults := (s.core n).dueFaults ++ cfsFaults (s.fld (F.CFS_FETCH_SIG n)) (s.fld (F.CFS_CHECK_SIG n)) origin ord }
      (cfsRestart s n) (cfsCompareStep s n origin ord) := by
  have hframe := cfsRestart_onlyEvents s n
  have hcore : (cfsRestart s n).core n = s.core n := State.core_of_cores hframe.cores n
  have hissues' : coreIssues (cfsRestart s n) n = true := by
    rw [coreIssues, coreState, coreRun, hframe.regs.fld (by simp), hframe.regs.fld (by simp)]
    exact hissues
  unfold cfsCompareStep cfsFaults
  dsimp only
  rw [← cfsRestart]
  split
  · have hset := CoreSet.refl n (cfsRestart s n)
    rw [hcore] at hset
    rw [List.append_nil]
    exact hset
  · rw [deferredDue_waits _ hissues' (by rw [hcore]; exact hheld), hcore]
    exact coreSet_setCore _ n _

section
variable {s : State} {n : Fin 64} {l : Late} {rest : List Late} {origin ord : Nat} (h : DueNext s n l rest)
  (hop : l.op = .cfsCompare origin ord)
include h hop

theorem cfsCompareRow_landing (upset : Nat) : cfsCompareRow s n upset =
    tickTo (s.setFld (F.CFS_FETCH_SIG n) (s.fld (F.CFS_FETCH_SIG n) ^^^ upset)) l.due := by
  have hupset := h.onlyEvents ((OnlyEvents.refl [R.CFS_FETCH n] s).setFld (f := F.CFS_FETCH_SIG n)
    (s.fld (F.CFS_FETCH_SIG n) ^^^ upset) (by simp))
  unfold cfsCompareRow
  dsimp only
  rw [if_pos (by rw [h.head, List.any_cons, h.own, hop]; simp)]
  exact untilLate_landing hupset (by rw [hop])

/-- The comparison of a core that issues: both signatures start again, and the fault that they show waits. -/
theorem runs_cfsCompare (upset : BitVec 32) (hissues : coreIssues s n = true) (hheld : (s.core n).held = none) :
    Runs (.cfsCompare n upset) s fun t => t.reg (R.CFS_FETCH n) = 0xFFFFFFFF#64 ∧ t.reg (R.CFS_CHECK n) = 0xFFFFFFFF#64 ∧
      (t.core n).dueFaults = (s.core n).dueFaults ++
        cfsFaults (s.fld (F.CFS_FETCH_SIG n) ^^^ upset.toNat) (s.fld (F.CFS_CHECK_SIG n)) origin ord ∧
      Landed [R.CFS_FETCH n, R.CFS_CHECK n] s t n l rest ∧ MemSame s t := by
  have hrow := cfsCompareRow_landing h hop upset.toNat
  have hupset : OnlyEvents [R.CFS_FETCH n] s (s.setFld (F.CFS_FETCH_SIG n) (s.fld (F.CFS_FETCH_SIG n) ^^^ upset.toNat)) :=
    (OnlyEvents.refl _ s).setFld _ (by simp)
  have hxor : s.fld (F.CFS_FETCH_SIG n) ^^^ upset.toNat < 2 ^ 32 := Nat.xor_lt_two_pow (getBits_lt _ 31 0) upset.isLt
  have hfetch : (s.setFld (F.CFS_FETCH_SIG n) (s.fld (F.CFS_FETCH_SIG n) ^^^ upset.toNat)).fld (F.CFS_FETCH_SIG n) =
      s.fld (F.CFS_FETCH_SIG n) ^^^ upset.toNat := by
    rw [State.fld_setFld_same _ _ _ (by simp)]
    exact Nat.mod_eq_of_lt hxor
  have hdue := h.onlyEvents hupset
  generalize s.setFld (F.CFS_FETCH_SIG n) (s.fld (F.CFS_FETCH_SIG n) ^^^ upset.toNat) = w at *
  have hcore : (landing w l rest).core n = { s.core n with cur := l.syl } := by
    rw [← State.core_of_cores hupset.cores n]
    exact h.own ▸ landing_core w l rest
  have hissues' : coreIssues (landing w l rest) n = true := by
    rw [landing_coreIssues, coreIssues, coreState, coreRun, hupset.regs.fld (by simp), hupset.regs.fld (by simp)]
    exact hissues
  have hset := cfsCompareStep_waits origin ord hissues' (by rw [hcore]; exact hheld)
  have hframe := cfsRestart_onlyEvents (landing w l rest) n
  have hcheck : (landing w l rest).fld (F.CFS_CHECK_SIG n) = s.fld (F.CFS_CHECK_SIG n) := by
    rw [landing_fld w l rest (by simp only [R.CFS_CHECK]; omega) (by simp only [R.CFS_CHECK]; omega), hupset.regs.fld (by simp)]
  rw [landing_fld w l rest (by simp only [R.CFS_FETCH]; omega) (by simp only [R.CFS_FETCH]; omega), hfetch, hcheck, hcore] at hset
  have heff := applyLate_cfsCompare (s := w) (rest := rest) hop
  rw [h.own] at heff
  generalize cfsCompareStep (landing w l rest) n origin ord = e at hset heff
  have hnow := hset.now.trans hframe.now
  have hlate := hset.late.trans hframe.late
  have htick : cfsCompareRow s n upset.toNat = e := hrow.trans
    (tickTo_landing hdue heff (hnow.trans (landing_now_due hdue)) (by rw [hlate, landing_late]; exact h.later))
  have hlanded := landed_of hdue hnow hlate (hframe.regs.of_csr hset.csr) fun m hm =>
    (hset.coresExcept m hm).trans (State.core_of_cores hframe.cores m)
  refine ⟨e, exec_row h.up (f := fun s => cfsCompareRow s n upset.toNat) rfl htick
    (hset.pending.trans (hframe.pending.trans ((landing_pending w l rest).trans hupset.pending))),
    (State.reg_of_csr hset.csr _).trans (cfsRestart_fetch _ _), (State.reg_of_csr hset.csr _).trans (cfsRestart_check _ _),
    by rw [hset.own], ⟨hlanded.now, hlanded.late, fun a ha hcount => ?_, fun m hm => ?_⟩,
    fun a => State.byte_of_mem (hset.mem.trans (hframe.mem.trans ((landing_mem w l rest).trans hupset.mem))) a⟩
  · exact (hlanded.regs a ha hcount).trans (hupset.regs a fun hin => ha (List.mem_cons.mpr (.inl (List.mem_singleton.mp hin))))
  · exact (hlanded.cores m hm).trans (State.core_of_cores hupset.cores m)

end

end Sys2Proof.Machine
end

section
/-! SUPPORT. A fault record that stands while the safe state closes the device: an escalated deferred fault closes every core, and
the deferred faults that those cores still held come due in the same cycle (R125, R130, R476). -/

namespace Sys2Proof.Machine

/-! ### Steps beside the cores -/

/-- A register of the control block of a core, or RAW of the cores' events. -/
def coreReg (a : Nat) : Prop := 0x7F0001000000 ≤ a ∨ a = R.RAW 0

theorem not_coreReg {a : Nat} (hlow : a < 0x7F0001000000) (hraw : a ≠ R.RAW 0) : ¬ coreReg a := fun h => by
  rcases h with h | h
  · omega
  · exact hraw h

/-- From s to t the clock, what is in flight, and the registers of the cores stay. -/
structure Aside (s t : State) : Prop where
  now : t.now = s.now
  late : t.late = s.late
  regs : ∀ a, coreReg a → t.reg a = s.reg a

theorem Aside.refl (s : State) : Aside s s := ⟨rfl, rfl, fun _ _ => rfl⟩

theorem Aside.trans {s t u : State} (h : Aside s t) (h' : Aside t u) : Aside s u :=
  ⟨h'.now.trans h.now, h'.late.trans h.late, fun a ha => (h'.regs a ha).trans (h.regs a ha)⟩

theorem Aside.onlyEvents {as : List Nat} {s t : State} (h : OnlyEvents as s t) (has : ∀ a ∈ as, ¬ coreReg a) : Aside s t :=
  ⟨h.now, h.late, fun a ha => h.regs a fun hin => has a hin ha⟩

theorem setReg_aside (s : State) {a : Nat} (v : Word) (ha : ¬ coreReg a) : Aside s (s.setReg a v) :=
  .onlyEvents ((OnlyEvents.refl [a] s).setReg v (by simp)) (by simpa using ha)

theorem setFld_aside (s : State) {f : Fld} (v : Nat) (hf : ¬ coreReg f.addr) : Aside s (s.setFld f v) := setReg_aside s _ hf

theorem incFld_aside (s : State) {f : Fld} (k : Nat) (hf : ¬ coreReg f.addr) : Aside s (s.incFld f k) := setReg_aside s _ hf

theorem raise_aside (s : State) {i : Nat} (hi : 64 ≤ i) (hlt : i < 256) : Aside s (s.raise i) :=
  .onlyEvents (raise_events s i) fun a ha => by
    simp only [List.mem_cons, List.not_mem_nil, or_false, R.RAW, R.PEND, R.EVC_MERGED] at ha
    simp only [coreReg, R.RAW]
    omega

/-- A step made for each index below k. -/
theorem upTo_aside {f : State → Nat → State} {k : Nat} (hf : ∀ s i, i < k → Aside s (f s i)) (s : State) : Aside s (upTo k f s) := by
  unfold upTo
  have hmem : ∀ i ∈ List.range k, i < k := fun i => List.mem_range.mp
  generalize List.range k = is at hmem
  induction is generalizing s with
  | nil => exact Aside.refl s
  | cons i is ih =>
    exact (hf s i (hmem i List.mem_cons_self)).trans (ih _ fun j hj => hmem j (List.mem_cons_of_mem i hj))

/-- An engine's control register outside the cores: ENABLE cleared, STATE set, a count noted. -/
theorem engineClosed_aside (s : State) {ctl close : Nat} (v : Nat) (w : Word) (hctl : ¬ coreReg ctl) (hclose : ¬ coreReg close) :
    Aside s (((s.setEnable ctl 0).setEngState ctl v).setReg close w) :=
  ((setFld_aside s 0 (f := ⟨ctl, 0, 0⟩) hctl).trans (setFld_aside _ v (f := ⟨ctl, 2, 1⟩) hctl)).trans (setReg_aside _ w hclose)

theorem updDisable_aside (s : State) (c : Nat) (hc : c < 16) : Aside s (updDisable s c) := by
  unfold updDisable
  split
  · exact engineClosed_aside s 2 _ (by simp only [coreReg, R.UPD_CTRL, R.RAW]; omega) (by simp only [coreReg, R.UPD_CLOSE, R.RAW]; omega)
  · exact Aside.refl s

theorem setAtt_aside (s : State) (q : Nat) (a : Att) : Aside s (setAtt s q a) := ⟨rfl, rfl, fun _ _ => rfl⟩

theorem stopWaiting_aside (s : State) (q : Nat) (hq : q < 16) : Aside s (stopWaiting s q) := by
  unfold stopWaiting
  dsimp only
  split
  · exact Aside.refl s
  next t _ =>
    have hcount := incFld_aside s (f := F.COMMIT_WAIT_COUNT q) (s.now - t) (by simp only [coreReg, R.COMMIT_WAIT, R.RAW]; omega)
    generalize s.incFld (F.COMMIT_WAIT_COUNT q) (s.now - t) = d at *
    have hflag := setFld_aside d (f := F.ATT_STATUS_COMMIT_WAITING q) 0 (by simp only [coreReg, R.ATT_STATUS, R.RAW]; omega)
    exact (hcount.trans hflag).trans (setAtt_aside _ q _)

theorem attDisable_aside (s : State) (q : Nat) (hq : q < 16) : Aside s (attDisable s q) := by
  unfold attDisable
  split
  · exact (stopWaiting_aside s q hq).trans (engineClosed_aside _ 2 _ (by simp only [coreReg, R.ATT_CTRL, R.RAW]; omega)
      (by simp only [coreReg, R.ATT_CLOSE, R.RAW]; omega))
  · exact Aside.refl s

theorem ethDisable_aside (s : State) (e : Nat) (he : e < 2) : Aside s (ethDisable s e) := by
  unfold ethDisable
  split
  · exact engineClosed_aside s 2 _ (by simp only [coreReg, R.ETH_CTRL, R.RAW]; omega) (by simp only [coreReg, R.ETH_CLOSE, R.RAW]; omega)
  · exact Aside.refl s

theorem cxlDisable_aside (s : State) : Aside s (cxlDisable s) := by
  unfold cxlDisable
  split
  · exact engineClosed_aside s 2 _ (not_coreReg (by decide) (by decide)) (not_coreReg (by decide) (by decide))
  · exact Aside.refl s

theorem pwrCause_aside (s : State) (f : Fld) (hf : ¬ coreReg f.addr) : Aside s (pwrCause s f true) := by
  unfold pwrCause
  rw [if_pos rfl]
  split
  · exact Aside.refl s
  · exact (setFld_aside s 1 hf).trans (raise_aside _ (by decide) (by decide))

theorem OnlyJournal.aside {s t : State} (h : OnlyJournal s t) : Aside s t :=
  ⟨h.now, h.late, fun a ha => h.regs a fun hin => by
    rw [List.mem_singleton.mp hin] at ha
    exact absurd ha (by simp only [coreReg, R.JRN_STATUS, R.RAW]; omega)⟩

theorem setFaulted_aside (s : State) : Aside s (setFaulted s) := by
  have h := (faultNoted_onlyJournal s).aside
  exact ⟨h.now, h.late, h.regs⟩

/-! ### The record of core n, standing -/

/-- In cycle T core n has stopped at the fault of the code, its record and its event stand; and of what is in flight only deferred
faults of cores that are not ON are due. -/
structure Standing (n T code : Nat) (s : State) : Prop where
  now : s.now = T
  valid : s.fld (F.FAULT_REC_VALID n) = 1
  code : s.fld (F.FAULT_REC_CODE n) = code
  kind : s.fld (F.FAULT_REC_KIND n) = 2
  run : coreRun s n = runFAULT
  raw : s.fld (rawFld n) = 1
  due : ∀ l ∈ s.late, l.due ≤ T → l.n < 64 ∧ coreState s l.n ≠ 1 ∧ ∃ d, l.op = .deferred d

section
variable {n T code : Nat} {s t : State} (h : Standing n T code s) (hn : n < 64)
include h

include hn in
/-- The registers on which it rests. -/
theorem Standing.keep (hnow : t.now = s.now) (hlate : t.late ⊆ s.late) (hrec : t.reg (R.FAULT_REC n) = s.reg (R.FAULT_REC n))
    (hstatus : t.reg (R.SEQ_STATUS n) = s.reg (R.SEQ_STATUS n)) (hraw : t.reg (R.RAW 0) = s.reg (R.RAW 0))
    (hctl : ∀ m, m < 64 → t.reg (R.SEQ_CTRL m) = s.reg (R.SEQ_CTRL m)) : Standing n T code t := by
  have hfld : ∀ f : Fld, f.addr = R.FAULT_REC n → t.fld f = s.fld f := fun f hf => by rw [State.fld, hf, hrec, State.fld, hf]
  have haddr : (rawFld n).addr = R.RAW 0 := by rw [rawFld, Nat.div_eq_of_lt hn]
  refine ⟨hnow.trans h.now, (hfld _ rfl).trans h.valid, (hfld _ rfl).trans h.code, (hfld _ rfl).trans h.kind, ?_, ?_, fun l hl hdue => ?_⟩
  · rw [coreRun, State.fld, hstatus]
    exact h.run
  · rw [State.fld, haddr, hraw, ← haddr]
    exact h.raw
  · obtain ⟨hcore, hstate, hop⟩ := h.due l (hlate hl) hdue
    refine ⟨hcore, ?_, hop⟩
    rw [coreState, State.fld, hctl l.n hcore]
    exact hstate

include hn in
theorem Standing.aside (ha : Aside s t) : Standing n T code t :=
  h.keep hn ha.now (by rw [ha.late]; exact fun _ hl => hl) (ha.regs _ (by simp only [coreReg, R.FAULT_REC, R.RAW]; omega))
    (ha.regs _ (by simp only [coreReg, R.SEQ_STATUS, R.RAW]; omega)) (ha.regs _ (.inr rfl))
    fun m _ => ha.regs _ (by simp only [coreReg, R.SEQ_CTRL, R.RAW]; omega)

include hn in
/-- A register that it does not rest on. -/
theorem Standing.setReg {a : Nat} (v : Word) (hrec : a ≠ R.FAULT_REC n) (hstatus : a ≠ R.SEQ_STATUS n) (hraw : a ≠ R.RAW 0)
    (hctl : ∀ m, m < 64 → a ≠ R.SEQ_CTRL m) : Standing n T code (s.setReg a v) :=
  h.keep hn rfl (fun _ hl => hl) (State.reg_setReg_ne s v hrec.symm) (State.reg_setReg_ne s v hstatus.symm)
    (State.reg_setReg_ne s v hraw.symm) fun m hm => State.reg_setReg_ne s v (hctl m hm).symm

end

end Sys2Proof.Machine
end

section
/-! SUPPORT. A standing fault record through the closing of the cores and through the deferred faults that come due (R125, R130). -/

namespace Sys2Proof.Machine

section
variable {n T code : Nat} {s : State} (h : Standing n T code s) (hn : n < 64)
include h hn

/-! ### Registers of the cores -/

/-- A fault register of another core. -/
theorem Standing.setFaultReg {m : Nat} (hne : m ≠ n) (a : Nat) (ha : a = R.FAULT_REC m ∨ a = R.FAULT_INFO m) (v : Word) :
    Standing n T code (s.setReg a v) := by
  simp only [R.FAULT_REC, R.FAULT_INFO] at ha
  exact h.setReg hn v (by simp only [R.FAULT_REC]; omega) (by simp only [R.SEQ_STATUS]; omega) (by simp only [R.RAW]; omega)
    fun k _ => by simp only [R.SEQ_CTRL]; omega

/-- RUN of another core. -/
theorem Standing.setRun {m : Nat} (hne : m ≠ n) (v : Nat) :
    Standing n T code (s.setFld (F.SEQ_STATUS_RUN m) v) :=
  h.setReg hn _ (by simp only [R.SEQ_STATUS, R.FAULT_REC]; omega) (by simp only [R.SEQ_STATUS]; omega)
    (by simp only [R.SEQ_STATUS, R.RAW]; omega) fun k _ => by simp only [R.SEQ_STATUS, R.SEQ_CTRL]; omega

/-- MULTI of any core. -/
theorem Standing.setMulti (m : Nat) : Standing n T code (s.setFld (F.FAULT_REC_MULTI m) 1) := by
  by_cases hne : m = n
  · subst hne
    have hregs := (RegsExcept.refl [R.FAULT_REC m] s).setFld (f := F.FAULT_REC_MULTI m) 1 (by simp)
    refine ⟨(s.setFld_now _ _).trans h.now, ?_, ?_, ?_, ?_, ?_, fun l hl hdue => ?_⟩
    · rw [State.fld_setFld_ne _ _ _ _ (.inr (by simp)), h.valid]
    · rw [State.fld_setFld_ne _ _ _ _ (.inr (by simp)), h.code]
    · rw [State.fld_setFld_ne _ _ _ _ (.inr (by simp)), h.kind]
    · rw [coreRun, hregs.fld (by simp)]
      exact h.run
    · rw [hregs.fld (by simp only [rawFld, R.RAW, R.FAULT_REC, List.mem_singleton]; omega), h.raw]
    · rw [State.setFld_late] at hl
      obtain ⟨hcore, hstate, hop⟩ := h.due l hl hdue
      refine ⟨hcore, ?_, hop⟩
      rw [coreState, hregs.fld (by simp only [R.SEQ_CTRL, R.FAULT_REC, List.mem_singleton]; omega)]
      exact hstate
  · exact h.setFaultReg hn hne _ (.inl rfl) _

/-- The event of another source among the cores'. -/
theorem Standing.raise {m : Nat} (hm : m < 64) : Standing n T code (s.raise m) := by
  have hframe := raise_events s m
  have haddr : (rawFld n).addr = R.RAW 0 := by rw [rawFld, Nat.div_eq_of_lt hn]
  have hout : ∀ a, 0x7F0001000000 ≤ a → a ∉ [R.RAW (m / 64), R.PEND (m / 64), R.EVC_MERGED] := fun a ha => by
    simp only [R.RAW, R.PEND, R.EVC_MERGED, List.mem_cons, List.not_mem_nil, or_false]
    omega
  have hfld : ∀ f : Fld, 0x7F0001000000 ≤ f.addr → (s.raise m).fld f = s.fld f := fun f hf => hframe.regs.fld (hout _ hf)
  refine ⟨hframe.now.trans h.now, (hfld _ (by simp only [R.FAULT_REC]; omega)).trans h.valid,
    (hfld _ (by simp only [R.FAULT_REC]; omega)).trans h.code, (hfld _ (by simp only [R.FAULT_REC]; omega)).trans h.kind,
    (hfld _ (by simp only [R.SEQ_STATUS]; omega)).trans h.run, ?_, fun l hl hdue => ?_⟩
  · by_cases hne : n = m
    · rw [hne]
      exact raise_raw s m
    · rw [(raise_onlyEvents s m).regs.fld (by
        rw [haddr]
        simp only [R.RAW, R.PEND, R.EVC_MERGED, List.mem_cons, List.not_mem_nil, or_false]
        omega), State.fld_setFld_ne _ _ _ _ (.inr (by simp only [rawFld]; omega)), h.raw]
  · rw [hframe.late] at hl
    obtain ⟨hcore, hstate, hop⟩ := h.due l hl hdue
    exact ⟨hcore, by rwa [coreState, hfld _ (by simp only [R.SEQ_CTRL]; omega)], hop⟩

/-! ### What is in flight -/

/-- What is in flight may be cut down. -/
theorem Standing.dropLate {late : List Late} (hsub : late ⊆ s.late) : Standing n T code { s with late := late } :=
  h.keep hn rfl hsub rfl rfl rfl fun _ _ => rfl

/-- A core's own record. -/
theorem Standing.setCore (m : Nat) (c : Core) : Standing n T code (s.setCore m c) :=
  h.keep hn rfl (fun _ hl => hl) rfl rfl rfl fun _ _ => rfl

omit hn in
/-- A deferred fault of a core that is not ON comes due in the same cycle. -/
theorem Standing.pushDeferred {m : Nat} (hm : m < 64) (hstate : coreState s m ≠ 1) (d : DefFault) :
    Standing n T code (s.pushLate m s.now 0 (.deferred d)) :=
  ⟨h.now, h.valid, h.code, h.kind, h.run, h.raw, fun l hl hdue => by
    rcases (mem_insertLate _ _ _).mp hl with rfl | hl
    · exact ⟨hm, hstate, d, rfl⟩
    · exact h.due l hl hdue⟩

omit hn in
theorem Standing.pushDeferreds {m : Nat} (hm : m < 64) (hstate : coreState s m ≠ 1) (ds : List DefFault) :
    Standing n T code (ds.foldl (fun st d => st.pushLate m st.now 0 (.deferred d)) s) := by
  induction ds generalizing s with
  | nil => exact h
  | cons d ds ih => exact ih (h.pushDeferred hm hstate d) hstate

/-! ### The safe state -/

/-- The control register of a core that closes. -/
theorem Standing.closeCtl (m : Nat) :
    Standing n T code ((s.setEnable (R.SEQ_CTRL m) 0).setEngState (R.SEQ_CTRL m) 2) ∧
      coreState ((s.setEnable (R.SEQ_CTRL m) 0).setEngState (R.SEQ_CTRL m) 2) m = 2 := by
  have hframe : OnlyEvents [R.SEQ_CTRL m] s ((s.setEnable (R.SEQ_CTRL m) 0).setEngState (R.SEQ_CTRL m) 2) :=
    ((OnlyEvents.refl _ s).setFld (f := ⟨R.SEQ_CTRL m, 0, 0⟩) 0 (by simp)).setFld (f := ⟨R.SEQ_CTRL m, 2, 1⟩) 2 (by simp)
  have hclosed : coreState ((s.setEnable (R.SEQ_CTRL m) 0).setEngState (R.SEQ_CTRL m) 2) m = 2 :=
    State.fld_setFld_same _ (F.SEQ_CTRL_STATE m) 2 (by simp)
  generalize (s.setEnable (R.SEQ_CTRL m) 0).setEngState (R.SEQ_CTRL m) 2 = t at *
  have hfld : ∀ f : Fld, f.addr ≠ R.SEQ_CTRL m → t.fld f = s.fld f := fun f hf => hframe.regs.fld (by simpa using hf)
  refine ⟨⟨hframe.now.trans h.now, (hfld _ (by simp only [R.FAULT_REC, R.SEQ_CTRL]; omega)).trans h.valid,
    (hfld _ (by simp only [R.FAULT_REC, R.SEQ_CTRL]; omega)).trans h.code,
    (hfld _ (by simp only [R.FAULT_REC, R.SEQ_CTRL]; omega)).trans h.kind,
    (hfld _ (by simp only [R.SEQ_STATUS, R.SEQ_CTRL]; omega)).trans h.run,
    (hfld _ (by simp only [rawFld, R.RAW, R.SEQ_CTRL]; omega)).trans h.raw, fun l hl hdue => ?_⟩, hclosed⟩
  rw [hframe.late] at hl
  obtain ⟨hcore, hstate, hop⟩ := h.due l hl hdue
  refine ⟨hcore, ?_, hop⟩
  by_cases hsame : l.n = m
  · rw [hsame, hclosed]
    decide
  · rwa [coreState, hfld _ (by simp only [R.SEQ_CTRL]; omega)]

/-- STALL of a core. -/
theorem Standing.setStall (m : Nat) : Standing n T code (s.setFld (F.SEQ_STATUS_STALL m) 0) := by
  have hregs := (RegsExcept.refl [R.SEQ_STATUS m] s).setFld (f := F.SEQ_STATUS_STALL m) 0 (by simp)
  have hout : ∀ f : Fld, f.addr ≠ R.SEQ_STATUS m → (s.setFld (F.SEQ_STATUS_STALL m) 0).fld f = s.fld f := fun f hf =>
    hregs.fld (by simpa using hf)
  refine ⟨(s.setFld_now _ _).trans h.now, (hout _ (by simp only [R.FAULT_REC, R.SEQ_STATUS]; omega)).trans h.valid,
    (hout _ (by simp only [R.FAULT_REC, R.SEQ_STATUS]; omega)).trans h.code,
    (hout _ (by simp only [R.FAULT_REC, R.SEQ_STATUS]; omega)).trans h.kind, ?_,
    (hout _ (by simp only [rawFld, R.RAW, R.SEQ_STATUS]; omega)).trans h.raw, fun l hl hdue => ?_⟩
  · rw [coreRun, State.fld_setFld_ne _ _ _ _ (.inr (by simp))]
    exact h.run
  · rw [State.setFld_late] at hl
    obtain ⟨hcore, hstate, hop⟩ := h.due l hl hdue
    exact ⟨hcore, by rwa [coreState, hout _ (by simp only [R.SEQ_CTRL, R.SEQ_STATUS]; omega)], hop⟩

/-- A core that closes. -/
theorem Standing.coreDisable {m : Nat} (hm : m < 64) : Standing n T code (coreDisable s m) := by
  unfold Machine.coreDisable
  split
  · obtain ⟨hclosed, hstate⟩ := h.closeCtl hn m
    dsimp only
    generalize (s.setEnable (R.SEQ_CTRL m) 0).setEngState (R.SEQ_CTRL m) 2 = t at *
    have hstall := hclosed.setStall hn m
    have hstate' : coreState (t.setFld (F.SEQ_STATUS_STALL m) 0) m = 2 :=
      (State.fld_setFld_ne t _ _ _ (.inl (by simp))).trans hstate
    generalize t.setFld (F.SEQ_STATUS_STALL m) 0 = u at *
    refine (((hstall.setReg hn _ ?_ ?_ ?_ fun k _ => ?_).setCore hn m _).pushDeferreds hm ?_ _)
    · simp only [R.CORE_CLOSE, R.FAULT_REC]
      omega
    · simp only [R.CORE_CLOSE, R.SEQ_STATUS]
      omega
    · simp only [R.CORE_CLOSE, R.RAW]
      omega
    · simp only [R.CORE_CLOSE, R.SEQ_CTRL]
      omega
    · rw [coreState, State.setCore_fld, State.fld_setReg_ne u _ _ (by simp only [R.CORE_CLOSE, R.SEQ_CTRL]; omega), ← coreState, hstate']
      decide
  · exact h

omit hn in
theorem Standing.upTo {f : State → Nat → State} {k : Nat}
    (hf : ∀ t i, i < k → Standing n T code t → Standing n T code (f t i)) : Standing n T code (upTo k f s) := by
  unfold Machine.upTo
  have hmem : ∀ i ∈ List.range k, i < k := fun i => List.mem_range.mp
  generalize List.range k = is at hmem
  induction is generalizing s with
  | nil => exact h
  | cons i is ih => exact ih (hf s i (hmem i List.mem_cons_self) h) fun j hj => hmem j (List.mem_cons_of_mem i hj)

/-- The safe state is entered, or a further cause is noted. -/
theorem Standing.safeEnter (cause unit : Nat) : Standing n T code (safeEnter s cause unit) := by
  unfold Machine.safeEnter
  split
  · have hmore := h.aside hn (incFld_aside s (f := F.SAFE_MORE_COUNT) 1 (not_coreReg (by decide) (by decide)))
    dsimp only
    split
    · exact hmore.aside hn (setReg_aside _ _ (not_coreReg (by decide) (by decide)))
    · exact hmore
  · have hword := h.aside hn ((setReg_aside s (a := R.SAFE_STATUS) (safeWord cause unit)
      (not_coreReg (by decide) (by decide))).trans (setFaulted_aside _))
    have hcores := hword.upTo (k := 64) fun t i hi ht => ht.coreDisable hn hi
    have hunits := hcores.aside hn ((upTo_aside (fun t i hi => updDisable_aside t i hi) _).trans
      ((upTo_aside (fun t i hi => attDisable_aside t i hi) _).trans
        ((upTo_aside (fun t i hi => ethDisable_aside t i hi) _).trans (cxlDisable_aside _))))
    dsimp only
    generalize cxlDisable (Machine.upTo 2 ethDisable (Machine.upTo 16 attDisable (Machine.upTo 16 updDisable
      (Machine.upTo 64 Machine.coreDisable (setFaulted (s.setReg R.SAFE_STATUS (safeWord cause unit))))))) = t at hunits
    have hnoted : Standing n T code (frecPush { t with jrn := { t.jrn with safeAt := t.now } }) :=
      hunits.keep hn rfl (fun _ hl => hl) rfl rfl rfl fun _ _ => rfl
    have hraised := hnoted.aside hn ((pwrCause_aside _ F.PWR_STATUS_SAFE (not_coreReg (by decide) (by decide))).trans
      (raise_aside _ (i := 162) (by decide) (by decide)))
    split
    · exact hraised
    · exact hraised.keep hn rfl (fun _ hl => hl) rfl rfl rfl fun _ _ => rfl

theorem Standing.faultOutside (m c : Nat) : Standing n T code (faultOutside s m c) := by
  have hnoted := h.aside hn (faultNoted_onlyJournal s).aside
  unfold Machine.faultOutside
  dsimp only
  split
  · exact hnoted.safeEnter hn _ _
  · exact hnoted

/-! ### Deferred faults that come due -/

/-- A first fault of another core. -/
theorem Standing.recordFault {m : Nat} (hne : m ≠ n) (hvalid : s.fld (F.FAULT_REC_VALID m) = 0)
    (c slot kind origin addr info : Nat) (multi : Bool) :
    Standing n T code (recordFault s m c slot kind origin addr info multi) := by
  rw [recordFault_first s m c slot kind origin addr info multi hvalid]
  exact (h.setFaultReg hn hne _ (.inl rfl) _).setFaultReg hn hne _ (.inr rfl) _

/-- Deferred faults recorded: core n has its record already, another core takes one. -/
theorem Standing.recordDeferred {m : Nat} (hm : m < 64) (ds : List DefFault) : Standing n T code (recordDeferred s m ds) := by
  unfold Machine.recordDeferred
  split
  · exact h
  next d rest _ =>
    split
    · exact h.setMulti hn m
    next hflag =>
      have hvalid : s.fld (F.FAULT_REC_VALID m) = 0 := by simpa [State.flag] using hflag
      have hne : m ≠ n := fun heq => by
        have := h.valid
        rw [← heq] at this
        omega
      have hrec := h.recordFault hn hne hvalid d.code d.slot 2 (d.origin.getD (pcOf s m)) (pcOf s m) d.info (!rest.isEmpty)
      dsimp only
      refine Standing.faultOutside ?_ hn _ _
      split
      · exact hrec.setRun hn hne _
      · split
        · exact (hrec.setRun hn hne _).raise hn hm
        · exact hrec

theorem Standing.deferredStep {m : Nat} (hm : m < 64) (hstate : coreState s m ≠ 1) (d : DefFault) :
    Standing n T code (deferredStep s m d) := by
  rw [deferredStep_eq]
  have hdrop := h.dropLate hn (late := s.late.filter fun l => (dueFault s m l).isNone) (List.filter_subset_self _)
  unfold deferredDue
  rw [if_neg fun hon => hstate hon.1]
  exact hdrop.recordDeferred hn hm _

theorem Standing.lateStep : Standing n T code (lateStep T s) := by
  unfold Machine.lateStep
  split
  · exact h
  next l rest hlate =>
    split
    next hdue =>
      obtain ⟨hcore, hstate, d, hop⟩ := h.due l (hlate ▸ List.mem_cons_self) hdue
      have hdrop := h.dropLate hn (late := rest) (hlate ▸ List.subset_cons_self _ _)
      have hclock : ({ s with late := rest } : State).clock l.due = { s with late := rest } := if_pos (hdue.trans (Nat.le_of_eq h.now.symm))
      have heff : applyLate { s with late := rest } l =
          Machine.deferredStep (({ s with late := rest } : State).setCore l.n { s.core l.n with cur := l.syl }) l.n d := by
        simp only [applyLate, hop]
        rfl
      rw [hclock, heff]
      exact (hdrop.setCore hn l.n _).deferredStep hn hcore hstate d
    · exact h

theorem Standing.runLate (k : Nat) : Standing n T code (runLate T k s) := by
  induction k generalizing s with
  | zero => exact h.lateStep hn
  | succ k ih =>
    rw [Machine.runLate]
    split
    · exact ih (ih h)
    · exact h

end

/-- Once the first operation that is due has left a standing record, it stands to the end of the cycle. -/
theorem standing_tickTo {n T code : Nat} {s : State} (hn : n < 64) (hdue : lateDue T s = true)
    (h : Standing n T code (lateStep T s)) : Standing n T code (tickTo s T) := by
  have hrun : ∀ k, Standing n T code (runLate T k s) := fun k => by
    induction k with
    | zero => exact h
    | succ k ih =>
      rw [runLate, hdue, if_pos rfl]
      exact ih.runLate hn k
  have hlast := hrun lateDepth
  rw [tickTo, State.clock, if_pos (Nat.le_of_eq hlast.now.symm)]
  exact hlast

end Sys2Proof.Machine
end

section
/-! SUPPORT. A deferred fault of a core whose sequence has ended (R125). -/

namespace Sys2Proof.Machine

/-- The state of a core whose sequence has ended, with a deferred fault recorded and raised. -/
def lateFaulted (s : State) (n : Nat) (d : DefFault) : State :=
  ((recordFault s n d.code d.slot 2 (d.origin.getD (pcOf s n)) (pcOf s n) d.info false).setFld (F.SEQ_STATUS_RUN n) runFAULT).raise n

/-- A deferred fault of an ON core that is DONE and has no record. -/
theorem recordDeferred_done {s : State} {n : Nat} (hon : coreState s n = 1) (hrun : coreRun s n = runDONE)
    (hvalid : s.fld (F.FAULT_REC_VALID n) = 0) (d : DefFault) :
    recordDeferred s n [d] = faultOutside (lateFaulted s n d) n d.code := by
  have hflag : s.flag (F.FAULT_REC_VALID n) = false := by
    rw [State.flag, hvalid]
    rfl
  unfold recordDeferred lateFaulted
  simp only [sortDef, List.foldl, insDef, hflag, hon, hrun, List.isEmpty_nil, Bool.not_true, Bool.false_eq_true, if_false, if_true,
    OfNat.one_ne_ofNat]

/-- Its record stands. -/
theorem lateFaulted_standing {s : State} {n : Nat} (hn : n < 64) (hvalid : s.fld (F.FAULT_REC_VALID n) = 0) {d : DefFault}
    (hcode : d.code < 256) (hlate : ∀ l ∈ s.late, s.now < l.due) : Standing n s.now d.code (lateFaulted s n d) := by
  have hword := recordFault_reg s n d.code d.slot 2 (d.origin.getD (pcOf s n)) (pcOf s n) d.info false hvalid
  have hrec := recordFault_onlyEvents s n d.code d.slot 2 (d.origin.getD (pcOf s n)) (pcOf s n) d.info false
  obtain ⟨hfield, hkind, hcodes⟩ := faultWord_fields false d.slot (d.origin.getD (pcOf s n)) (pcOf s n) (by decide : 2 < 4) hcode
  unfold lateFaulted
  generalize recordFault s n d.code d.slot 2 (d.origin.getD (pcOf s n)) (pcOf s n) d.info false = r at *
  have hframe := (OnlyEvents.refl [R.SEQ_STATUS n] r).setFld (f := F.SEQ_STATUS_RUN n) runFAULT (by simp)
  have hrun : coreRun (r.setFld (F.SEQ_STATUS_RUN n) runFAULT) n = runFAULT := by
    rw [coreRun, State.fld_setFld_same _ _ _ (by simp)]
    rfl
  generalize r.setFld (F.SEQ_STATUS_RUN n) runFAULT = e at *
  have hevents := raise_events e n
  have hraw := raise_raw e n
  generalize e.raise n = t at *
  have hfld : ∀ f : Fld, 0x7F0001000000 ≤ f.addr → t.fld f = e.fld f := fun f hf => hevents.regs.fld (by
    simp only [R.RAW, R.PEND, R.EVC_MERGED, List.mem_cons, List.not_mem_nil, or_false]
    omega)
  have hfault : ∀ f : Fld, f.addr = R.FAULT_REC n →
      t.fld f = getBits (faultWord false d.slot 2 (d.origin.getD (pcOf s n)) (pcOf s n) d.code) f.hi f.lo := fun f hf => by
    rw [hfld f (by rw [hf]; simp only [R.FAULT_REC]; omega), hframe.regs.fld (by rw [hf]; simp), State.fld, hf, hword]
  refine ⟨hevents.now.trans (hframe.now.trans hrec.now), (hfault _ rfl).trans hfield, (hfault _ rfl).trans hcodes,
    (hfault _ rfl).trans hkind, (hfld _ (by simp only [R.SEQ_STATUS]; omega)).trans hrun, hraw, fun l hl hdue => ?_⟩
  rw [hevents.late, hframe.late, hrec.late] at hl
  exact absurd hdue (Nat.not_le.mpr (hlate l hl))

/-- A deferred fault of a core that is DONE and has no record is recorded at once, whatever it makes of the rest of the device. -/
theorem runs_deferred_recorded {s : State} {n : Fin 64} {l : Late} {rest : List Late} {d : DefFault} (h : DueNext s n l rest)
    (hop : l.op = .deferred d) (hon : coreState s n = 1) (hrun : coreRun s n = runDONE) (hvalid : s.fld (F.FAULT_REC_VALID n) = 0)
    (hcode : d.code < 256) : Runs (.deferredFaultDue n) s fun t => t.fld (F.FAULT_REC_VALID n) = 1 ∧
      t.fld (F.FAULT_REC_CODE n) = d.code ∧ t.fld (F.FAULT_REC_KIND n) = 2 ∧ coreRun t n = runFAULT ∧ t.fld (rawFld n) = 1 ∧
      t.now = l.due := by
  have hissues : coreIssues (landing s l rest) n = false := by
    rw [landing_coreIssues, coreIssues, hon, hrun]
    rfl
  have hstalled : coreRun (landing s l rest) n ≠ runSTALLED := by
    rw [landing_coreRun, hrun]
    decide
  have hrecorded := recordDeferred_done (s := landing s l rest) ((landing_coreState n).trans hon) ((landing_coreRun n).trans hrun)
    ((landing_faultRec n rfl).trans hvalid) d
  have hstanding := (lateFaulted_standing (s := landing s l rest) n.isLt ((landing_faultRec n rfl).trans hvalid) hcode (by
    rw [landing_late, landing_now_due h]
    exact h.later)).faultOutside n.isLt n d.code
  rw [landing_now_due h, ← hrecorded, ← deferredDue_recorded [d] hissues hstalled, ← applyLate_deferredNext h hop] at hstanding
  have hdue : lateDue l.due s = true := by
    unfold lateDue
    rw [h.head]
    exact decide_eq_true (Nat.le_refl _)
  have hfirst : lateStep l.due s = applyLate (({ s with late := rest } : State).clock l.due) l := by
    unfold lateStep
    rw [h.head]
    exact if_pos (Nat.le_refl _)
  rw [← hfirst] at hstanding
  have hend := standing_tickTo n.isLt hdue hstanding
  rw [← deferredFaultDue_landing h hop] at hend
  generalize ht : deferredFaultDue s n = t at hend
  refine ⟨s.after t, ?_, (State.after_fld s t _).trans hend.valid, (State.after_fld s t _).trans hend.code,
    (State.after_fld s t _).trans hend.kind, (State.after_fld s t _).trans hend.run, (State.after_fld s t _).trans hend.raw, hend.now⟩
  rw [show exec (.deferredFaultDue n) s = ifUp (fun s => deferredFaultDue s n) s from rfl, ifUp_up _ h.up, ht, State.after]

end Sys2Proof.Machine
end

section
open Sys2Proof Sys2Proof.Machine

/-- Settles O28: a deferred fault waits, adds MULTI or is recorded, by the state of its core; a comparison starts both signatures
again and shows its fault. -/
theorem deferredFaultsAndSignatures : Obligations.DeferredFaultsAndSignatures := by
  unfold Obligations.DeferredFaultsAndSignatures
  exact ⟨fun n s l rest d h hop => ⟨runs_deferred_waits h hop, runs_deferred_multi h hop, runs_deferred_recorded h hop⟩,
    fun n upset s l rest origin ord h hop hissues hheld => runs_cfsCompare h hop upset hissues hheld⟩

end

section
/-! SUPPORT. The register, immediate, compare and predicate forms of the S slot at issue (R139 to R142). -/

namespace Sys2Proof.Machine

/-! ### Comparisons and products of words -/

/-- The lesser of two values does not depend on how equal ones are ordered. -/
theorem lesser_of_injective {α β : Type} [LinearOrder β] {f : α → β} (hf : f.Injective) (a b : α) :
    (if f a < f b then a else b) = if f a ≤ f b then a else b := by
  rcases eq_or_ne (f a) (f b) with h | h
  · rw [hf h, ite_self, ite_self]
  · simp only [h.le_iff_lt]

theorem greater_of_injective {α β : Type} [LinearOrder β] {f : α → β} (hf : f.Injective) (a b : α) :
    (if f a < f b then b else a) = if f a ≤ f b then b else a := by
  rcases eq_or_ne (f a) (f b) with h | h
  · rw [hf h, ite_self, ite_self]
  · simp only [h.le_iff_lt]

theorem min_signed_eq (a b : Word) : (if a.slt b = true then a else b) = if a.toInt ≤ b.toInt then a else b := by
  simp only [BitVec.slt_iff_toInt_lt, lesser_of_injective fun _ _ => BitVec.eq_of_toInt_eq]

theorem max_signed_eq (a b : Word) : (if a.slt b = true then b else a) = if a.toInt ≤ b.toInt then b else a := by
  simp only [BitVec.slt_iff_toInt_lt, greater_of_injective fun _ _ => BitVec.eq_of_toInt_eq]

theorem min_unsigned_eq (a b : Word) : (if a.ult b = true then a else b) = if a.toNat ≤ b.toNat then a else b := by
  simp only [BitVec.ult_iff_toNat_lt, lesser_of_injective BitVec.toNat_injective]

theorem max_unsigned_eq (a b : Word) : (if a.ult b = true then b else a) = if a.toNat ≤ b.toNat then b else a := by
  simp only [BitVec.ult_iff_toNat_lt, greater_of_injective BitVec.toNat_injective]

theorem product_low (a b : Word) : a * b = BitVec.ofNat 64 (a.toNat * b.toNat) := by
  apply BitVec.eq_of_toNat_eq
  rw [BitVec.toNat_mul, BitVec.toNat_ofNat]

/-! ### The syllables that give a scalar or a predicate -/

/-- The syllable x of the S slot, issued in cycle u, puts op in flight for the cycle lat later, and does no more. -/
structure GivesResult (x : SylInfo) (u : Nat) (s : State) (lat : Nat) (op : LateOp) : Prop where
  slot : x.slot = .s
  later : 0 < lat
  effect : x.apply u x.y s = s.pushLate x.y.n (u + lat) 0 op


/-- Each register and immediate form gives the result of its table; the comparisons, products and shifts of the model are those
that the table names. -/
theorem scalarResult_gives {i : Instr} {x : SylInfo} {s : State} {lat rd : Nat} {v : Word} (u : Nat) (hx : sylInfo i = some x)
    (hv : scalarResult i s = some (lat, rd, v)) : GivesResult x u s lat (.sreg rd v) := by
  unfold scalarResult at hv
  split at hv
  case h_26 => exact absurd hv (Option.some_ne_none _).symm
  all_goals
    obtain rfl := Option.some.inj hx
    cases hv
    refine ⟨rfl, by decide, ?_⟩
  -- S.MIN, S.MAX, S.MINU, S.MAXU, S.MUL and S.MULHU, which the table puts in other terms than the model
  case h_9 => rw [← min_signed_eq]; rfl
  case h_10 => rw [← max_signed_eq]; rfl
  case h_11 => rw [← min_unsigned_eq]; rfl
  case h_12 => rw [← max_unsigned_eq]; rfl
  case h_13 => rw [← product_low]; rfl
  case h_14 => rw [← Nat.shiftRight_eq_div_pow]; rfl
  all_goals rfl

/-- Each compare and predicate instruction gives the predicate result of its table, one cycle later. -/
theorem predicateResult_gives {i : Instr} {x : SylInfo} {s : State} {op : LateOp} (u : Nat) (hx : sylInfo i = some x)
    (hop : predicateResult i s = some op) : GivesResult x u s 1 op := by
  unfold predicateResult at hop
  split at hop
  case h_5 => exact absurd hop (Option.some_ne_none _).symm
  all_goals
    obtain rfl := Option.some.inj hx
    cases hop
    exact ⟨rfl, by decide, rfl⟩

/-- The results rest on the scalar and predicate registers alone. -/
theorem scalarResult_of_reg {s t : State} (h : ∀ a, t.reg a = s.reg a) (i : Instr) : scalarResult i t = scalarResult i s := by
  unfold scalarResult srF State.sr State.pr
  simp only [h]

theorem predicateResult_of_reg {s t : State} (h : ∀ a, t.reg a = s.reg a) (i : Instr) :
    predicateResult i t = predicateResult i s := by
  unfold predicateResult srF State.sr State.pr
  simp only [h]

/-- A lone syllable of the S slot that gives a result puts it in flight, and the sequencer goes straight on. -/
theorem Issues.runs_result {i : Instr} {x : SylInfo} {s : State} {lat : Nat} {op : LateOp} (h : Issues i x s)
    (hs : Straight s x.y.n) (hgives : GivesResult x s.now (atEffect s x.y.n x.slot) lat op) :
    Runs i s fun t => t.late = insertLate ⟨x.y.n, nextOrd s x.y.n .s, s.now + lat, 0, op⟩ s.late ∧
      pcOf t x.y.n = pcOf s x.y.n + 1 ∧ RegsExcept (issueRegs x.y.n) s t ∧ CoresExcept [x.y.n.val] s t ∧ MemSame s t := by
  have hruns := h.runs_push hs (Nat.lt_add_of_pos_right hgives.later) hgives.effect
  rwa [hgives.slot] at hruns

end Sys2Proof.Machine
end

section
open Sys2Proof Sys2Proof.Machine

/-- Settles O18: the syllable gives exactly its result, of the registers as they stand at issue. -/
theorem scalarAndPredicateResults : Obligations.ScalarAndPredicateResults := by
  unfold Obligations.ScalarAndPredicateResults
  refine ⟨fun i x s lat rd v h hs hv => ?_, fun i x s op h hs hop => ?_⟩
  · rw [← scalarResult_of_reg (atEffect_reg s x.y.n x.slot)] at hv
    exact h.runs_result hs (scalarResult_gives s.now h.syl hv)
  · rw [← predicateResult_of_reg (atEffect_reg s x.y.n x.slot)] at hop
    exact h.runs_result hs (predicateResult_gives s.now h.syl hop)

end

section
/-! SUPPORT. The fabric operations of the M slot at issue: the request queue of a core (R151 to R154, R160). -/

namespace Sys2Proof.Machine

/-! ### The request queue -/

/-- The operation that a syllable y of opcode op puts into the request queue of its core. -/
def fqEntry (y : Syl) (k : FqKind) (op sz addr val dst ready : Nat) (sup : Bool) (s : State) : FqOp :=
  { id := (s.core y.n).fqCount, kind := k, sz := sz, cls := if k = .fence then 0 else mCl y, ctr := mCtr y, addr := addr,
    val := val, dst := dst, data := [], readyAt := ready, bundle := pcOf s y.n, opcode := op, suppressed := sup, sent := false,
    syl := (s.core y.n).cur }

/-- The core with an operation at the end of its request queue. -/
def queueCore (o : FqOp) (c : Core) : Core := { c with fq := c.fq ++ [o], fqCount := c.fqCount + 1 }

theorem queueCore_keepsControl (o : FqOp) : KeepsControl (queueCore o) := fun _ => ⟨rfl, rfl⟩

/-- What a push of an operation of core n puts in flight: its end at once where nothing is sent, or the read of its operands. -/
def fqFlight (n u : Nat) (k : FqKind) (id ready : Nat) (sup : Bool) (d : State) : State :=
  if sup then d.pushLate n ready 0 (.fqDone id)
  else if k = .fence then d.pushLate n (u + 1) 0 (.fqDone id)
  else if k = .put ∨ k = .radd then d
  else d.pushLate n (u + 1) 0 (.fqRows id 0 0 u 32)

theorem fqFlight_onlyPushed (n u : Nat) (k : FqKind) (id ready : Nat) (sup : Bool) (d : State) :
    OnlyPushed d (fqFlight n u k id ready sup d) := by
  have hpush := (OnlyPushed.refl d).pushLate n
  unfold fqFlight
  split
  · exact hpush ready 0 _
  · split
    · exact hpush (u + 1) 0 _
    · split
      · exact OnlyPushed.refl d
      · exact hpush (u + 1) 0 _

theorem fqPush_eq (y : Syl) (u : Nat) (k : FqKind) (op sz addr val dst ready : Nat) (sup : Bool) (s : State) :
    fqPush y u k op sz addr val dst ready sup s = fqFlight y.n u k (s.core y.n).fqCount ready sup
      (s.setCore y.n (queueCore (fqEntry y k op sz addr val dst ready sup s) (s.core y.n))) := rfl

/-- A push adds the operation to the queue, and what else it does is to put something in flight. -/
theorem fqPush_onlyPushed (y : Syl) (u : Nat) (k : FqKind) (op sz addr val dst ready : Nat) (sup : Bool) (s : State) :
    OnlyPushed (s.setCore y.n (queueCore (fqEntry y k op sz addr val dst ready sup s) (s.core y.n)))
      (fqPush y u k op sz addr val dst ready sup s) := by
  rw [fqPush_eq]
  exact fqFlight_onlyPushed _ _ _ _ _ _ _

theorem fqPush_core (y : Syl) (u : Nat) (k : FqKind) (op sz addr val dst ready : Nat) (sup : Bool) (s : State) :
    (fqPush y u k op sz addr val dst ready sup s).core y.n =
      queueCore (fqEntry y k op sz addr val dst ready sup s) (s.core y.n) := by
  rw [(fqPush_onlyPushed y u k op sz addr val dst ready sup s).core, State.core_setCore_same]

theorem LoneEffect.fqPush {y : Syl} {as : List Nat} {s d : State} (h : LoneEffect y.n as s d) (u : Nat) (k : FqKind)
    (op sz addr val dst ready : Nat) (sup : Bool) :
    LoneEffect y.n as s (fqPush y u k op sz addr val dst ready sup d) :=
  (h.setCore (queueCore_keepsControl _)).pushed (fqPush_onlyPushed y u k op sz addr val dst ready sup d)

/-- An operation of syllable y, of kind k and with P, has entered the end of the request queue of its core in b, not yet sent. -/
def JoinsQueue (y : Syl) (k : FqKind) (s b : State) (P : FqOp → Prop) : Prop :=
  ∃ o, (b.core y.n).fq = (s.core y.n).fq ++ [o] ∧ o.kind = k ∧ o.id = (s.core y.n).fqCount ∧ o.ctr = mCtr y ∧
    o.bundle = pcOf s y.n ∧ o.sent = false ∧ P o

theorem pcOf_atEffect (s : State) (n : Nat) (slot : SlotL) : pcOf (atEffect s n slot) n = pcOf s n := fld_atEffect s n slot _

theorem Sequenced.fq {n : Nat} {d b : State} (h : Sequenced n d b) : (b.core n).fq = (d.core n).fq := by
  obtain ⟨_, _, _, hcore⟩ := h.core
  rw [hcore]

theorem Sequenced.moveFree {n : Nat} {d b : State} (h : Sequenced n d b) : (b.core n).moveFree = (d.core n).moveFree := by
  obtain ⟨_, _, _, hcore⟩ := h.core
  rw [hcore]

/-- In a state d whose core has the queue and the program counter of s, the entry of a syllable joins the queue. -/
theorem joinsQueue_fqEntry {y : Syl} {k : FqKind} {op sz addr val dst ready : Nat} {sup : Bool} {s d b : State} {P : FqOp → Prop}
    (hfq : (d.core y.n).fq = (s.core y.n).fq) (hcount : (d.core y.n).fqCount = (s.core y.n).fqCount) (hpc : pcOf d y.n = pcOf s y.n)
    (hb : (b.core y.n).fq = (d.core y.n).fq ++ [fqEntry y k op sz addr val dst ready sup d])
    (hP : P (fqEntry y k op sz addr val dst ready sup d)) : JoinsQueue y k s b P :=
  ⟨_, by rw [hb, hfq], rfl, hcount, rfl, hpc, rfl, hP⟩

/-- A lone syllable whose effect is one operation in the request queue. -/
theorem Issues.queues {i : Instr} {x : SylInfo} {y : Syl} {s : State} {app : Nat → Syl → State → State} {k : FqKind}
    {op sz addr val dst ready : Nat} {P : FqOp → Prop} (h : Issues i x s) (hx : x.y = y ∧ x.slot = .m ∧ x.apply = app)
    (hs : Straight s y.n)
    (happ : app s.now y (atEffect s y.n .m) = fqPush y s.now k op sz addr val dst ready false (atEffect s y.n .m))
    (hP : P (fqEntry y k op sz addr val dst ready false (atEffect s y.n .m))) :
    IssuesWith i y.n s fun b => JoinsQueue y k s b P ∧ RegsExcept (issueRegs y.n) s b := by
  obtain ⟨hy, hslot, hx⟩ := hx
  have heff := (atEffect_lone s y.n .m []).fqPush s.now k op sz addr val dst ready false
  rw [← happ] at heff
  refine h.issuesWith hy hslot hx hs heff List.not_mem_nil List.not_mem_nil fun b hb => ⟨?_, heff.regs.trans hb.regs⟩
  refine joinsQueue_fqEntry (by rw [atEffect_core]) (by rw [atEffect_core]) (pcOf_atEffect s y.n .m) ?_ hP
  rw [hb.fq, happ, fqPush_core, queueCore]

/-! ### A claimed write with a stale epoch (R160) -/

/-- The core of a write that was suppressed, issued as syllable z. -/
def staleCore (z : Nat) (c : Core) : Core := { c with wfail := some (match c.wfail with | some w => min w z | none => z) }

theorem countStale_lone {y : Syl} {s d : State} (h : LoneEffect y.n [R.CLAIM_STALE y.n] s d) :
    LoneEffect y.n [R.CLAIM_STALE y.n] s (countStale y d) := by
  unfold countStale
  split
  · exact (h.setReg _ List.mem_cons_self).setCore (g := staleCore (d.core y.n).cur) fun _ => ⟨rfl, rfl⟩
  · exact h

/-- Counting a suppressed write leaves the queue of the core. -/
theorem countStale_core (y : Syl) (d : State) : ∃ w, (countStale y d).core y.n = { d.core y.n with wfail := w } := by
  unfold countStale
  split
  · exact ⟨_, State.core_setCore_same _ _ _⟩
  · exact ⟨_, rfl⟩

theorem countStale_pcOf (y : Syl) (d : State) : pcOf (countStale y d) y.n = pcOf d y.n := by
  unfold countStale
  split
  · exact State.fld_incFld_ne d _ _ _ (.inl (by simp [R.SEQ_STATUS, R.CLAIM_STALE]))
  · rfl

theorem suppressed_atEffect (y : Syl) (s : State) (n : Nat) (slot : SlotL) : suppressed y (atEffect s n slot) = suppressed y s := by
  unfold suppressed claimFresh State.flag
  simp only [fld_atEffect]

/-! ### M.PUT and M.RADD (R152, R153) -/

/-- The core whose move path is occupied until a cycle. -/
def moveCore (free : Nat) (c : Core) : Core := { c with moveFree := free }

/-- The state of a tile that is sent, before its rows are read: the queue, the count of suppressed writes, the move path. -/
def tileQueued (k : FqKind) (op u : Nat) (y : Syl) (s : State) : State :=
  occupyMove y u (szCycles (fb y 21 19)) (fqPush y u k op (fb y 21 19) (mTA y s).toNat 0 0 (u + szCycles (fb y 21 19))
    (suppressed y s) (countStale y s))

theorem sendTile_onlyPushed (k : FqKind) (op u : Nat) (y : Syl) (s : State) :
    OnlyPushed (tileQueued k op u y s) (sendTile k op u y s) := by
  unfold sendTile
  dsimp only
  split
  · exact OnlyPushed.refl _
  · exact (OnlyPushed.refl _).pushLate _ _ _ _

theorem sendTile_core (k : FqKind) (op u : Nat) (y : Syl) (s : State) : (sendTile k op u y s).core y.n =
    moveCore (u + szCycles (fb y 21 19)) (queueCore (fqEntry y k op (fb y 21 19) (mTA y s).toNat 0 0
      (u + szCycles (fb y 21 19)) (suppressed y s) (countStale y s)) ((countStale y s).core y.n)) := by
  rw [(sendTile_onlyPushed k op u y s).core, tileQueued, occupyMove, State.core_setCore_same, fqPush_core, moveCore]

theorem sendTile_lone {y : Syl} {s d : State} (h : LoneEffect y.n [R.CLAIM_STALE y.n] s d) (k : FqKind) (op u : Nat) :
    LoneEffect y.n [R.CLAIM_STALE y.n] s (sendTile k op u y d) :=
  (((countStale_lone h).fqPush _ _ _ _ _ _ _ _ _).setCore (g := moveCore (u + szCycles (fb y 21 19)))
    fun _ => ⟨rfl, rfl⟩).pushed (sendTile_onlyPushed k op u y d)

/-- A tile sent to another place: its operation joins the queue, and the move path is occupied for its transfer. -/
theorem Issues.sendsTile {i : Instr} {x : SylInfo} {y : Syl} {s : State} {app : Nat → Syl → State → State} {k : FqKind} {op : Nat}
    (h : Issues i x s) (hx : x.y = y ∧ x.slot = .m ∧ x.apply = app) (hs : Straight s y.n) (happ : app = sendTile k op)
    (hk : k ≠ .fence) : IssuesWith i y.n s fun b =>
      JoinsQueue y k s b (fun o => o.addr = (mTA y s).toNat ∧ o.sz = fb y 21 19 ∧ o.cls = mCl y ∧ o.suppressed = suppressed y s) ∧
        (b.core y.n).moveFree = s.now + szCycles (fb y 21 19) ∧ RegsExcept (R.CLAIM_STALE y.n :: issueRegs y.n) s b := by
  obtain ⟨hy, hslot, hx⟩ := hx
  subst happ
  have heff := sendTile_lone (atEffect_lone s y.n .m [R.CLAIM_STALE y.n]) k op s.now
  have hcore := sendTile_core k op s.now y (atEffect s y.n .m)
  refine h.issuesWith hy hslot hx hs heff (by simp) (by simp) fun b hb => ⟨?_, ?_, heff.regs.trans hb.regs⟩
  · obtain ⟨w, hstale⟩ := countStale_core y (atEffect s y.n .m)
    have hqueue := hb.fq.trans (congrArg Core.fq hcore)
    exact joinsQueue_fqEntry (hb := hqueue) (by rw [hstale, atEffect_core]) (by rw [hstale, atEffect_core])
      ((countStale_pcOf y _).trans (pcOf_atEffect s y.n .m))
      ⟨congrArg BitVec.toNat (srF_atEffect y s y.n .m 11 6), rfl, if_neg hk, suppressed_atEffect y s y.n .m⟩
  · rw [hb.moveFree, hcore, moveCore]

end Sys2Proof.Machine
end

section
open Sys2Proof Sys2Proof.Machine

/-- Settles O32: each fabric operation is one entry of the queue, with the operands of the state at issue. -/
theorem fabricOperationsQueue : Obligations.FabricOperationsQueue := by
  unfold Obligations.FabricOperationsQueue
  intro y x s hs joins
  have haddr : (mTA y (atEffect s y.n .m)).toNat = (mTA y s).toNat := congrArg BitVec.toNat (srF_atEffect y s y.n .m 11 6)
  have hoperand : srF y (atEffect s y.n .m) 17 12 = srF y s 17 12 := srF_atEffect y s y.n .m 17 12
  have hresult := congrArg coreOff (sr_atEffect s y.n .m y.n (fb y 11 6 + 1))
  refine ⟨fun h => ?_, fun h => ?_, fun h => ?_, fun h => ?_, fun h => ?_, fun h => ?_, fun h => ?_⟩
  · exact h.sendsTile (sylInfo_apply h.syl rfl) hs rfl nofun
  · exact h.sendsTile (sylInfo_apply h.syl rfl) hs rfl nofun
  · exact h.queues (sylInfo_apply h.syl rfl) hs rfl ⟨haddr, rfl, rfl, congrArg coreOff hoperand⟩
  · exact h.queues (sylInfo_apply h.syl rfl) hs rfl ⟨haddr, congrArg BitVec.toNat hoperand, rfl, hresult⟩
  · exact h.queues (sylInfo_apply h.syl rfl) hs rfl ⟨haddr, congrArg BitVec.toNat hoperand, rfl⟩
  · exact h.queues (P := fun o => o.cls = 0) (sylInfo_apply h.syl rfl) hs rfl rfl
  · exact h.queues (sylInfo_apply h.syl rfl) hs rfl ⟨haddr, rfl, hresult⟩

end

section
/-! SUPPORT. The quartet barrier: a bundle with an M.QSYNC alone, the hold of the cores that reach it first, and one core's part of
the joint release (R116, R157). -/

namespace Sys2Proof.Machine

/-! ### A lone M.QSYNC -/

/-- M.QSYNC as a syllable. -/
def qsyncInfo (z : Syl) : SylInfo :=
  { slot := .m, op := 0x12, y := z, legal := mQsyncLegal z, qsync := true, apply := mQsyncApply }

theorem sylInfo_mQsync (z : Syl) : sylInfo (.mQsync z) = some (qsyncInfo z) := rfl

theorem mQsync_clean (z : Syl) : ∀ y sl op e, Instr.mQsync z = .nop y sl op e → e = .clean := nofun

section
variable {s : State} {m : Nat} {z : Syl} (hown : z.n.val = m) (hlegal : mQsyncLegal z = true) (hpred : s.pr m z.pred.toNat = true)
include hown hlegal hpred

theorem execSyls_mQsync : execSyls s [.mQsync z] = [qsyncInfo z] := by
  subst hown
  rw [execSyls_one (sylInfo_mQsync z), qsyncInfo, hlegal, hpred]
  rfl

/-- Only the barrier holds a lone M.QSYNC. -/
theorem bundleStalls_mQsync (n u : Nat) : bundleStalls s n u [.mQsync z] = ⟨false, none, !(quartetReady s n u)⟩ := by
  unfold bundleStalls accHeldBy
  rw [execSyls_mQsync hown hlegal hpred]
  simp [qsyncInfo]

/-- It faults for what is due at its core, or found at its fetch, alone. -/
theorem bundleFaults_mQsync (u : Nat) (hdue : (s.core m).dueFaults = []) (hinside : (s.core m).pastEnd = false)
    (hecc : look (fun _ => 0) (s.core m).imemErr (pcOf s m) ≠ 2) : bundleFaults s m u [.mQsync z] = [] := by
  have hfetch : fetchFaults s m = [] := by
    unfold fetchFaults
    rw [if_neg (by simp [hinside]), if_neg hecc]
  have hsyl : sylFaults s u (qsyncInfo z) = [] := by
    subst hown
    unfold sylFaults qsyncInfo
    simp [hlegal, hpred]
  unfold bundleFaults
  rw [hfetch, hdue, bundleSyls_one (sylInfo_mQsync z)]
  simp [sortDef, hsyl]

theorem applyBundle_mQsync (u : Nat) : applyBundle s m u [.mQsync z] =
    sequence (beforeEffect s m .m) m u ((s.core m).issued + 1) (pcOf s m) :=
  applyBundle_one u (execSyls_mQsync hown hlegal hpred)

end

/-! ### A core that waits for its quartet -/

/-- An explicit wait alone holds the bundle: nothing but the core's own status is noted. -/
theorem startHold_heldAt_of_wait (g : State) (n u : Nat) (b : List Instr) :
    HeldAt n { bundle := b, since := u, upto := u, mask := ⟨false, false, true⟩, waited := 0, tierWaited := 0, awaited := none } g
      (startHold g n u b ⟨false, none, true⟩) :=
  setHeld_heldAt g n _

/-- A lone syllable that only an explicit wait holds is held, and of the registers its core's status alone changes. -/
theorem runs_held_by_wait {i : Instr} {x : SylInfo} {s : State} (hsyl : sylInfo i = some x) (hlast : x.y.last = true)
    (hready : Ready s x.y.n) (hclean : ∀ y sl op e, i = .nop y sl op e → e = .clean)
    (hstalls : bundleStalls (s.gathered x.y.n) x.y.n s.now [i] = ⟨false, none, true⟩) :
    Runs i s fun t => coreRun t x.y.n = runSTALLED ∧ t.fld (F.SEQ_STATUS_STALL x.y.n) = 4 ∧
      (∃ h, (t.core x.y.n).held = some h ∧ h.bundle = [i]) ∧ pcOf t x.y.n = pcOf s x.y.n ∧ t.late = s.late ∧
      RegsExcept [R.SEQ_STATUS x.y.n] s t ∧ CoresExcept [x.y.n.val] s t ∧ MemSame s t := by
  have ht := startHold_heldAt_of_wait (s.gathered x.y.n) x.y.n s.now [i]
  have hstart : addSyl i s = tickTo (startHold (s.gathered x.y.n) x.y.n s.now [i] ⟨false, none, true⟩) s.now := by
    rw [addSyl_last hsyl hlast hready, reachIssue_ready hready hclean, hstalls, if_pos (by rfl)]
  generalize startHold (s.gathered x.y.n) x.y.n s.now [i] ⟨false, none, true⟩ = t at ht hstart
  have hset := coreSet_setCore s x.y.n { s.core x.y.n with latch := [] }
  rw [← State.gathered] at hset
  have hlate : t.late = s.late := ht.late.trans hset.late
  have hquiet : tickTo t s.now = t :=
    tickTo_past t s.now (Nat.le_of_eq (ht.now.trans hset.now).symm) (by rw [hlate]; exact hready.late)
  refine ⟨t, exec_row hready.up (exec_syl hsyl) (hstart.trans hquiet) (ht.pending.trans hset.pending), ht.run, ht.stall,
    ⟨_, ht.held, rfl⟩, ht.pc, hlate, ht.regs, fun m hm => ?_, fun a => State.byte_of_mem (ht.mem.trans hset.mem) a⟩
  rw [ht.cores m hm, hset.coresExcept m hm]

/-! ### One core of the quartet at the release -/

/-- The registers that core m may change when it leaves the barrier: the counters of its hold, and those of an issue. -/
def barrierRegs (m : Nat) : List Nat :=
  [R.STALL_TOTAL m, R.ACC_HOLD_CYCLES m, R.ACC_HOLD_COUNT m, R.STALL_WAIT m] ++ issueRegs m

/-- Core m can issue its lone M.QSYNC z in cycle u: it has only now reached it, or is held at it with every cycle counted. -/
structure AtRelease (s : State) (m u : Nat) (z : Syl) : Prop where
  own : z.n.val = m
  legal : mQsyncLegal z = true
  pred : s.pr m z.pred.toNat = true
  due : (s.core m).dueFaults = []
  inside : (s.core m).pastEnd = false
  ecc : look (fun _ => 0) (s.core m).imemErr (pcOf s m) ≠ 2
  straight : Straight s m
  held : ((s.core m).held = none ∧ coreRun s m = runRUNNING) ∨ ∃ h, (s.core m).held = some h ∧ h.upto = u

/-- In t core m has issued its bundle of s in cycle u. -/
structure Left (m u : Nat) (s t : State) : Prop where
  pc : pcOf t m = pcOf s m + 1
  run : coreRun t m = runRUNNING
  held : (t.core m).held = none
  next : (t.core m).nextIssue = u + 1

/-- The cores ms, and their own registers of barrier and issue, are all that differs between s and t in what is named here. -/
structure OnlyCoresLeft (ms : List Nat) (s t : State) : Prop where
  now : t.now = s.now
  late : t.late = s.late
  mem : t.mem = s.mem
  cores : CoresExcept ms s t
  regs : RegsExcept (ms.flatMap barrierRegs) s t

/-- An issue that goes straight on leaves RUN as it is. -/
theorem sequence_coreRun {s : State} {n : Nat} (u k pc : Nat) (hctl : (s.core n).ctl = ⟨none, none, false⟩) (hs : Straight s n)
    (hpc : pc + 1 < 16384) : coreRun (sequence s n u k pc) n = coreRun s n := by
  have hcounted := counted_cfsIssue hs.window u k pc ((k - 1) * 4)
  obtain ⟨-, -, -, -, -, -, -, hstatus⟩ := setPc_spec (cfsIssue (countIssue s n u k ((k - 1) * 4)) n u pc false) n (pc + 1) hpc
  rw [sequence_straight u k pc hctl hs, coreRun, hstatus 2 0 (by omega)]
  exact hcounted.fld (by simp)

/-- A core that is not held issues its M.QSYNC. -/
theorem issueBundle_left {s : State} {m u : Nat} {z : Syl} (h : AtRelease s m u z) (hheld : (s.core m).held = none)
    (hrun : coreRun s m = runRUNNING) :
    Left m u s (issueBundle s m u [.mQsync z]) ∧ OnlyCoresLeft [m] s (issueBundle s m u [.mQsync z]) := by
  have hbefore := beforeEffect_core s m .m
  have hcsr : (beforeEffect s m .m).csr = s.csr := rfl
  have hfield : ∀ f, (beforeEffect s m .m).fld f = s.fld f := State.fld_of_csr hcsr
  have hstraight : Straight (beforeEffect s m .m) m :=
    ⟨(hfield _).trans h.straight.loops, by rw [hbefore]; exact h.straight.branch, by rw [hfield]; exact h.straight.window,
      by rw [pcOf, hfield]; exact h.straight.next⟩
  have hctl : ((beforeEffect s m .m).core m).ctl = ⟨none, none, false⟩ := by rw [hbefore]
  obtain ⟨hlate, hnow, hmem, hpc, hregs, hcores, hcore⟩ :=
    sequence_spec u ((s.core m).issued + 1) (pcOf s m) hctl hstraight h.straight.next
  have hkeep := sequence_coreRun u ((s.core m).issued + 1) (pcOf s m) hctl hstraight h.straight.next
  rw [issueBundle, bundleFaults_mQsync h.own h.legal h.pred u h.due h.inside h.ecc]
  dsimp only
  rw [applyBundle_mQsync h.own h.legal h.pred]
  refine ⟨⟨hpc, hkeep.trans ((hfield _).trans hrun), by rw [hcore, hbefore, hheld], by rw [hcore]⟩, hnow, hlate, hmem,
    fun k hk => ?_, fun a ha => ?_⟩
  · have hne : k ≠ m := by simpa using hk
    exact (hcores k hne).trans (beforeEffect_core_ne s .m hne)
  · rw [List.flatMap_singleton, barrierRegs, List.mem_append, not_or] at ha
    exact (hregs a ha.2).trans (State.reg_of_csr hcsr a)

/-- The cycles of a hold counted without a tier stall change four counters. -/
theorem countStall_onlyEvents (s : State) (n : Nat) (was acc wait : Bool) (k : Nat) :
    OnlyEvents [R.STALL_TOTAL n, R.ACC_HOLD_CYCLES n, R.ACC_HOLD_COUNT n, R.STALL_WAIT n] s
      (countStall s n was ⟨acc, none, wait⟩ k) := by
  have htotal : OnlyEvents [R.STALL_TOTAL n, R.ACC_HOLD_CYCLES n, R.ACC_HOLD_COUNT n, R.STALL_WAIT n] s
      (s.incFld (F.STALL_TOTAL_COUNT n) k) := (OnlyEvents.refl _ s).setFld _ (by simp)
  unfold countStall
  cases acc <;> cases wait
  · exact htotal
  · exact htotal.setFld _ (by simp)
  · exact (htotal.setFld (f := F.ACC_HOLD_CYCLES_COUNT n) _ (by simp)).setFld _ (by simp)
  · exact ((htotal.setFld (f := F.ACC_HOLD_CYCLES_COUNT n) _ (by simp)).setFld (f := F.ACC_HOLD_COUNT_COUNT n) _ (by simp)).setFld _
      (by simp)

/-- A hold that ends: the core runs again, and of the registers its status alone changes. -/
theorem clearHeld_spec (s : State) (n : Nat) :
    coreRun (clearHeld s n) n = runRUNNING ∧ pcOf (clearHeld s n) n = pcOf s n ∧ kdepth (clearHeld s n) n = kdepth s n ∧
      (clearHeld s n).core n = { s.core n with held := none } ∧ CoresExcept [n] s (clearHeld s n) ∧
      RegsExcept [R.SEQ_STATUS n] s (clearHeld s n) := by
  unfold clearHeld
  refine ⟨?_, ?_, ?_, State.core_setCore_same _ _ _, fun m hm => State.core_setCore_ne _ _ (by simpa using hm), fun a ha => ?_⟩
  · rw [coreRun, State.fld_setFld_same _ _ _ (by simp)]
    rfl
  · rw [pcOf, State.fld_setFld_ne _ _ _ _ (.inr (by simp)), State.fld_setFld_ne _ _ _ _ (.inr (by simp)), State.setCore_fld, pcOf]
  · rw [kdepth, State.fld_setFld_ne _ _ _ _ (.inr (by simp)), State.fld_setFld_ne _ _ _ _ (.inr (by simp)), State.setCore_fld,
      kdepth]
  · have hne : a ≠ R.SEQ_STATUS n := by simpa using ha
    rw [State.reg_setFld_ne _ _ _ hne, State.reg_setFld_ne _ _ _ hne, State.setCore_reg]

theorem pr_of_reg {s t : State} {m : Nat} (h : t.reg (R.PRED m) = s.reg (R.PRED m)) (i : Nat) : t.pr m i = s.pr m i := by
  rw [State.pr, h, State.pr]

/-- Core m is at the release in t as in s where its own record, but what it holds, and the registers that decide are as in s. -/
theorem AtRelease.of_same {s t : State} {m u : Nat} {z : Syl} (h : AtRelease s m u z)
    (hcore : t.core m = { s.core m with held := (t.core m).held }) (hpc : pcOf t m = pcOf s m) (hdepth : kdepth t m = kdepth s m)
    (hpred : t.reg (R.PRED m) = s.reg (R.PRED m)) (hsig : t.reg (R.CFS_FETCH m) = s.reg (R.CFS_FETCH m))
    (hheld : ((t.core m).held = none ∧ coreRun t m = runRUNNING) ∨ ∃ h, (t.core m).held = some h ∧ h.upto = u) :
    AtRelease t m u z where
  own := h.own
  legal := h.legal
  pred := (pr_of_reg hpred _).trans h.pred
  due := by rw [hcore]; exact h.due
  inside := by rw [hcore]; exact h.inside
  ecc := by rw [hcore, hpc]; exact h.ecc
  straight := ⟨hdepth.trans h.straight.loops, by rw [hcore]; exact h.straight.branch,
    by rw [State.fld, hsig]; exact h.straight.window, by rw [hpc]; exact h.straight.next⟩
  held := hheld

/-- A held core whose cycles are all counted ends its hold and issues. -/
theorem issueAt_held {s : State} {m u : Nat} {z : Syl} {h : Held} (hat : AtRelease s m u z) (hheld : (s.core m).held = some h) :
    ∃ d, issueAt u s (m, [.mQsync z]) = issueBundle d m u [.mQsync z] ∧ AtRelease d m u z ∧ (d.core m).held = none ∧
      coreRun d m = runRUNNING ∧ pcOf d m = pcOf s m ∧ OnlyCoresLeft [m] s d := by
  have hissue : issueAt u s (m, [.mQsync z]) =
      issueBundle (clearHeld (countStall s m h.mask.acc ⟨h.mask.acc, none, h.mask.wait⟩ (u - h.upto)) m) m u [.mQsync z] := by
    unfold issueAt
    simp only [hheld, bundleStalls_mQsync hat.own hat.legal hat.pred, ite_self]
  have hcount := countStall_onlyEvents s m h.mask.acc h.mask.acc h.mask.wait (u - h.upto)
  generalize countStall s m h.mask.acc ⟨h.mask.acc, none, h.mask.wait⟩ (u - h.upto) = c at hcount hissue
  obtain ⟨hrun, hpc, hdepth, hcore, hcores, hregs⟩ := clearHeld_spec c m
  have hsame : (clearHeld c m).now = c.now ∧ (clearHeld c m).late = c.late ∧ (clearHeld c m).mem = c.mem := ⟨rfl, rfl, rfl⟩
  generalize clearHeld c m = d at hissue hrun hpc hdepth hcore hcores hregs hsame
  obtain ⟨hnow, hlate, hmem⟩ := hsame
  rw [State.core_of_cores hcount.cores] at hcore
  have hnone : (d.core m).held = none := by rw [hcore]
  have hstatus : ∀ f : Fld, f.addr = R.SEQ_STATUS m → c.fld f = s.fld f := fun f hf => hcount.regs.fld (by simp [hf])
  have hpc' : pcOf d m = pcOf s m := hpc.trans (hstatus _ rfl)
  refine ⟨d, hissue, hat.of_same (by rw [hnone, hcore]) hpc' (hdepth.trans (hstatus _ rfl)) ?_ ?_ (.inl ⟨hnone, hrun⟩), hnone, hrun,
    hpc', hnow.trans hcount.now, hlate.trans hcount.late, hmem.trans hcount.mem,
    fun k hk => (hcores k hk).trans (State.core_of_cores hcount.cores k), fun a ha => ?_⟩
  · exact (hregs _ (by simp)).trans (hcount.regs _ (by simp))
  · exact (hregs _ (by simp)).trans (hcount.regs _ (by simp))
  · simp only [List.flatMap_singleton, barrierRegs, issueRegs, List.mem_append, List.mem_cons, List.not_mem_nil, or_false,
      not_or] at ha
    obtain ⟨⟨htotal, hcycles, hholds, hwait⟩, hstat, -, -, -⟩ := ha
    exact (hregs a (by simpa using hstat)).trans (hcount.regs a (by simp [htotal, hcycles, hholds, hwait]))

theorem OnlyCoresLeft.trans {ms : List Nat} {s d t : State} (h : OnlyCoresLeft ms s d) (h' : OnlyCoresLeft ms d t) :
    OnlyCoresLeft ms s t :=
  ⟨h'.now.trans h.now, h'.late.trans h.late, h'.mem.trans h.mem, fun k hk => (h'.cores k hk).trans (h.cores k hk),
    fun a ha => (h'.regs a ha).trans (h.regs a ha)⟩

/-- A core at the release issues its M.QSYNC, whether it is held or not. -/
theorem issueAt_left {s : State} {m u : Nat} {z : Syl} (h : AtRelease s m u z) :
    Left m u s (issueAt u s (m, [.mQsync z])) ∧ OnlyCoresLeft [m] s (issueAt u s (m, [.mQsync z])) := by
  rcases h.held with ⟨hnone, hrun⟩ | ⟨b, hheld, -⟩
  · have hissue : issueAt u s (m, [.mQsync z]) = issueBundle s m u [.mQsync z] := by
      unfold issueAt
      simp only [hnone]
    rw [hissue]
    exact issueBundle_left h hnone hrun
  · obtain ⟨d, hissue, hat, hnone, hrun, hpc, hframe⟩ := issueAt_held h hheld
    obtain ⟨hleft, hframe'⟩ := issueBundle_left hat hnone hrun
    rw [hissue]
    exact ⟨⟨hleft.pc.trans (by rw [hpc]), hleft.run, hleft.held, hleft.next⟩, hframe.trans hframe'⟩

end Sys2Proof.Machine
end

section
/-! SUPPORT. The joint release of a quartet (R157). -/

namespace Sys2Proof.Machine

/-! ### Cores beside one that leaves -/

/-- The registers that say where a core stands at its barrier are not touched by other cores that leave it. -/
theorem own_not_barrierRegs {m : Nat} {ms : List Nat} (hm : m ∉ ms) : R.SEQ_STATUS m ∉ ms.flatMap barrierRegs ∧
    R.CFS_FETCH m ∉ ms.flatMap barrierRegs ∧ R.PRED m ∉ ms.flatMap barrierRegs := by
  have hne : ∀ k ∈ ms, R.SEQ_STATUS m ∉ barrierRegs k ∧ R.CFS_FETCH m ∉ barrierRegs k ∧ R.PRED m ∉ barrierRegs k := fun k hk => by
    have hkm : k ≠ m := fun heq => hm (heq ▸ hk)
    simp only [barrierRegs, issueRegs, R.STALL_TOTAL, R.ACC_HOLD_CYCLES, R.ACC_HOLD_COUNT, R.STALL_WAIT, R.SEQ_STATUS,
      R.BUNDLE_COUNT, R.CFS_FETCH, R.CFS_CHECK, R.PRED, List.mem_append, List.mem_cons, List.not_mem_nil, or_false]
    omega
  simp only [List.mem_flatMap, not_exists, not_and]
  exact ⟨fun k hk => (hne k hk).1, fun k hk => (hne k hk).2.1, fun k hk => (hne k hk).2.2⟩

section
variable {m u : Nat} {ms : List Nat} {s t : State} (h : OnlyCoresLeft ms s t) (hm : m ∉ ms)
include h hm

theorem OnlyCoresLeft.status {f : Fld} (hf : f.addr = R.SEQ_STATUS m) : t.fld f = s.fld f :=
  h.regs.fld (by rw [hf]; exact (own_not_barrierRegs hm).1)

theorem OnlyCoresLeft.atRelease {z : Syl} (hat : AtRelease s m u z) : AtRelease t m u z := by
  obtain ⟨-, hsig, hpred⟩ := own_not_barrierRegs hm
  have hcore := h.cores m hm
  have hheld := hat.held
  rw [← hcore, coreRun, ← h.status hm rfl, ← coreRun] at hheld
  exact hat.of_same (by rw [hcore]) (h.status hm rfl) (h.status hm rfl) (h.regs _ hpred) (h.regs _ hsig) hheld

/-- A core that has left stays as it is while others leave. -/
theorem OnlyCoresLeft.left {r : State} (hleft : Left m u r s) : Left m u r t :=
  ⟨(h.status hm rfl).trans hleft.pc, (h.status hm rfl).trans hleft.run, by rw [h.cores m hm]; exact hleft.held,
    by rw [h.cores m hm]; exact hleft.next⟩

/-- A core that leaves after others issues the bundle that it had before. -/
theorem OnlyCoresLeft.left_after {r : State} (hleft : Left m u t r) : Left m u s r :=
  ⟨hleft.pc.trans (congrArg (· + 1) (h.status hm rfl)), hleft.run, hleft.held, hleft.next⟩

end

theorem OnlyCoresLeft.cons {m : Nat} {ms : List Nat} {s d t : State} (h : OnlyCoresLeft [m] s d) (h' : OnlyCoresLeft ms d t) :
    OnlyCoresLeft (m :: ms) s t where
  now := h'.now.trans h.now
  late := h'.late.trans h.late
  mem := h'.mem.trans h.mem
  cores := fun k hk => by
    rw [List.mem_cons, not_or] at hk
    exact (h'.cores k hk.2).trans (h.cores k (by simpa using hk.1))
  regs := fun a ha => by
    rw [List.flatMap_cons, List.mem_append, not_or] at ha
    exact (h'.regs a ha.2).trans (h.regs a (by rw [List.flatMap_singleton]; exact ha.1))

/-- Cores at the release issue one after the other, in one cycle. -/
theorem foldl_issueAt_left {u : Nat} {z : Nat → Syl} {ms : List Nat} (hms : ms.Nodup) (s : State)
    (hat : ∀ m ∈ ms, AtRelease s m u (z m)) :
    (∀ m ∈ ms, Left m u s ((ms.map fun m => (m, [Instr.mQsync (z m)])).foldl (issueAt u) s)) ∧
      OnlyCoresLeft ms s ((ms.map fun m => (m, [Instr.mQsync (z m)])).foldl (issueAt u) s) := by
  induction ms generalizing s with
  | nil => exact ⟨fun _ hm => absurd hm List.not_mem_nil, rfl, rfl, rfl, fun _ _ => rfl, fun _ _ => rfl⟩
  | cons m ms ih =>
    obtain ⟨hm, hms⟩ := List.nodup_cons.mp hms
    obtain ⟨hleft, hframe⟩ := issueAt_left (hat m List.mem_cons_self)
    have hother : ∀ k ∈ ms, k ∉ [m] := fun k hk heq => hm (List.mem_singleton.mp heq ▸ hk)
    obtain ⟨hrest, hframe'⟩ := ih hms (issueAt u s (m, [.mQsync (z m)]))
      fun k hk => hframe.atRelease (hother k hk) (hat k (List.mem_cons_of_mem _ hk))
    rw [List.map_cons, List.foldl_cons]
    refine ⟨fun k hk => ?_, hframe.cons hframe'⟩
    rcases List.mem_cons.mp hk with rfl | hk
    · exact hframe'.left hm hleft
    · exact hframe.left_after (hother k hk) (hrest k hk)

/-! ### The quartet of a core -/

/-- The four cores of the quartet of core n, in order. -/
def quartetOf (n : Nat) : List Nat := (List.range 4).map fun k => 4 * (n / 4) + k

theorem mem_quartetOf {n m : Nat} : m ∈ quartetOf n ↔ m / 4 = n / 4 := by
  simp only [quartetOf, List.mem_map, List.mem_range]
  exact ⟨fun ⟨k, hk, h⟩ => by omega, fun h => ⟨m % 4, by omega, by omega⟩⟩

theorem nodup_quartetOf (n : Nat) : (quartetOf n).Nodup := List.nodup_range.map fun _ _ h => Nat.add_left_cancel h

/-- The M.QSYNC that core m of the quartet issues: y at core n, which reaches the barrier last. -/
def barrierSyl (n : Nat) (y : Syl) (z : Nat → Syl) (m : Nat) : Syl := if m = n then y else z m

theorem issueGroup_mQsync {s : State} {n : Nat} {y : Syl} {h : Nat → Held} {z : Nat → Syl}
    (hexecutes : execSyls s [.mQsync y] = [qsyncInfo y])
    (hheld : ∀ m, m / 4 = n / 4 → m ≠ n → (s.core m).held = some (h m) ∧ (h m).bundle = [.mQsync (z m)]) :
    issueGroup s n [.mQsync y] = (quartetOf n).map fun m => (m, [.mQsync (barrierSyl n y z m)]) := by
  unfold issueGroup quartetOf
  rw [hexecutes, if_pos (by rfl), List.map_map]
  refine List.map_congr_left fun k hk => ?_
  have hquartet : (4 * (n / 4) + k) / 4 = n / 4 := by
    have := List.mem_range.mp hk
    omega
  dsimp only [Function.comp_apply, barrierSyl]
  split
  · rfl
  next hne =>
    obtain ⟨hsome, hbundle⟩ := hheld _ hquartet hne
    rw [hsome, ← hbundle]

/-! ### The last of the four reaches the barrier -/

section
variable {s : State} {n m : Nat} {h : Held} {z : Syl} (hat : AtBarrier s m h z)
include hat

theorem AtBarrier.gathered (hne : m ≠ n) : AtBarrier (s.gathered n) m h z := by
  have hcore := State.gathered_core_ne (s := s) hne
  exact ⟨by rw [hcore]; exact hat.held, hat.bundle, hat.own, hat.legal, hat.pred, hat.state, hat.upto, by rw [hcore]; exact hat.due,
    by rw [hcore]; exact hat.inside, by rw [hcore]; exact hat.ecc, hat.straight.loops, by rw [hcore]; exact hat.straight.branch,
    hat.straight.window, hat.straight.next⟩

theorem AtBarrier.atQsync (u : Nat) : atQsync s u m = true := by
  unfold Machine.atQsync
  simp only [hat.held, hat.bundle, execSyls_mQsync hat.own hat.legal hat.pred, hat.state]
  rfl

theorem AtBarrier.atRelease : AtRelease s m s.now z :=
  ⟨hat.own, hat.legal, hat.pred, hat.due, hat.inside, hat.ecc, hat.straight, .inr ⟨h, hat.held, hat.upto⟩⟩

end

/-- With the other three at the barrier the quartet is ready. -/
theorem quartetReady_of_atBarrier {s : State} {n : Nat} {h : Nat → Held} {z : Nat → Syl} (u : Nat)
    (hat : ∀ m, m / 4 = n / 4 → m ≠ n → AtBarrier s m (h m) (z m)) : quartetReady s n u = true := by
  unfold quartetReady
  refine List.all_eq_true.mpr fun k hk => ?_
  rw [Bool.or_eq_true, beq_iff_eq, or_iff_not_imp_left]
  have hk := List.mem_range.mp hk
  exact fun hne => (hat _ (by omega) hne).atQsync u

theorem Ready.atRelease {s : State} {y : Syl} (hready : Ready s y.n) (hs : Straight s y.n) (hlegal : mQsyncLegal y = true)
    (hpred : s.pr y.n y.pred.toNat = true) : AtRelease (s.gathered y.n) y.n s.now y := by
  have hcore := State.gathered_core (s := s) (n := y.n)
  have hrun : coreRun s y.n = runRUNNING := by
    have hissues := hready.issues
    rw [coreIssues, Bool.and_eq_true] at hissues
    exact beq_iff_eq.mp hissues.2
  exact ⟨rfl, hlegal, hpred, by rw [hcore]; exact hready.due, by rw [hcore]; exact hready.inside,
    by rw [hcore]; exact ne_of_eq_of_ne hready.ecc (by decide), ⟨hs.loops, by rw [hcore]; exact hs.branch, hs.window, hs.next⟩,
    .inl ⟨by rw [hcore]; exact hready.held, hrun⟩⟩

/-- The last core of a quartet to reach the barrier releases it: the four issue in the present cycle. -/
theorem runs_release {y : Syl} {s : State} {h : Nat → Held} {z : Nat → Syl} (hready : Ready s y.n) (hlast : y.last = true)
    (hlegal : mQsyncLegal y = true) (hpred : s.pr y.n y.pred.toNat = true) (hs : Straight s y.n)
    (hat : ∀ m, m / 4 = y.n.val / 4 → m ≠ y.n.val → AtBarrier s m (h m) (z m)) :
    Runs (.mQsync y) s fun t => (∀ m ∈ quartetOf y.n, Left m s.now s t) ∧ OnlyCoresLeft (quartetOf y.n) s t := by
  have hat' : ∀ m, m / 4 = y.n.val / 4 → m ≠ y.n.val → AtBarrier (s.gathered y.n) m (h m) (z m) :=
    fun m hm hne => (hat m hm hne).gathered hne
  have hpred' : (s.gathered y.n).pr y.n y.pred.toNat = true := hpred
  have hrelease : addSyl (.mQsync y) s = tickTo (releaseAt (s.gathered y.n) y.n s.now [.mQsync y]) s.now := by
    rw [addSyl_last (sylInfo_mQsync y) hlast hready, qsyncInfo, reachIssue_ready hready (mQsync_clean y),
      bundleStalls_mQsync rfl hlegal hpred', quartetReady_of_atBarrier s.now hat', if_neg (by decide)]
  rw [releaseAt, issueGroup_mQsync (execSyls_mQsync rfl hlegal hpred') fun m hm hne => ⟨(hat' m hm hne).held, (hat' m hm hne).bundle⟩]
    at hrelease
  obtain ⟨hleft, hframe⟩ := foldl_issueAt_left (u := s.now) (z := barrierSyl y.n y z) (nodup_quartetOf y.n) (s.gathered y.n)
    fun m hm => by
      unfold barrierSyl
      split
      next heq => exact heq ▸ hready.atRelease hs hlegal hpred
      next hne => exact (hat' m (mem_quartetOf.mp hm) hne).atRelease
  generalize ((quartetOf y.n).map fun m => (m, [Instr.mQsync (barrierSyl y.n y z m)])).foldl (issueAt s.now) (s.gathered y.n) = t
    at hrelease hleft hframe
  have hquiet : tickTo t s.now = t := tickTo_past t s.now (Nat.le_of_eq hframe.now.symm) (by rw [hframe.late]; exact hready.late)
  rw [hquiet] at hrelease
  refine ⟨s.after t, ?_, fun m hm => ?_, hframe.now, hframe.late, hframe.mem, fun m hm => ?_, hframe.regs⟩
  · rw [exec_syl (sylInfo_mQsync y), ifUp_up _ hready.up, hrelease, State.after]
  · obtain ⟨hpc, hrun, hheld, hnext⟩ := hleft m hm
    exact ⟨hpc, hrun, hheld, hnext⟩
  · exact (hframe.cores m hm).trans (State.gathered_core_ne fun heq => hm (mem_quartetOf.mpr (by rw [heq])))

end Sys2Proof.Machine
end

section
open Sys2Proof Sys2Proof.Machine

/-- Settles O33: while a core of the quartet is missing only the barrier holds the bundle; the last to come finds the quartet ready,
and the four issue one after the other in the present cycle. -/
theorem quartetBarrier : Obligations.QuartetBarrier := by
  unfold Obligations.QuartetBarrier
  refine fun y s hready hlast hlegal hpred => ⟨fun hmissing => ?_, fun h z hs hat => ?_⟩
  · have hstalls : bundleStalls (s.gathered y.n) y.n s.now [.mQsync y] = ⟨false, none, true⟩ := by
      rw [bundleStalls_mQsync (s := s.gathered y.n) rfl hlegal hpred, hmissing, Bool.not_false]
    exact runs_held_by_wait (x := qsyncInfo y) (sylInfo_mQsync y) hlast hready (mQsync_clean y) hstalls
  · obtain ⟨t, hexec, hleft, hframe⟩ := runs_release hready hlast hlegal hpred hs hat
    refine ⟨t, hexec, fun m hm => ?_, fun m hm => hframe.cores m (mt mem_quartetOf.mp hm), hframe.late, hframe.now,
      fun a => State.byte_of_mem hframe.mem a⟩
    obtain ⟨hpc, hrun, hheld, hnext⟩ := hleft m (mem_quartetOf.mpr hm)
    exact ⟨hpc, hrun, hheld, hnext⟩

end

section
/-! SUPPORT. The mask registers and the tile registers of a core through their windows (R203, Table 7.17). -/

namespace Sys2Proof.Machine

/-! ### The word of the tile registers that WORD names -/

/-- The lower of the two elements that the word w holds. -/
def vregElem (w : Nat) : Nat := (w / 4096) * 8192 + (w / 128 % 32) * 256 + 2 * (w % 128)

theorem Core.vregWord_eq (c : Core) (w : Nat) :
    c.vregWord w = look (fun _ => 0#32) c.vregs (vregElem w + 1) ++ look (fun _ => 0#32) c.vregs (vregElem w) := rfl

/-- The core with both elements of the word w written. -/
def Core.setVregWord (c : Core) (w : Nat) (v : Word) : Core :=
  { c with
    vregs := put (fun _ => 0#32) (put (fun _ => 0#32) c.vregs (vregElem w) (v.extractLsb' 0 32)) (vregElem w + 1)
      (v.extractLsb' 32 32) }

/-- The two neighbouring elements written are those that the word reads. -/
@[simp] theorem Core.vregWord_setVregWord (c : Core) (w : Nat) (v : Word) : (c.setVregWord w v).vregWord w = v := by
  have hhigh : look (fun _ => 0#32) (c.setVregWord w v).vregs (vregElem w + 1) = v.extractLsb' 32 32 := look_put_same _ _ _
  have hlow : look (fun _ => 0#32) (c.setVregWord w v).vregs (vregElem w) = v.extractLsb' 0 32 :=
    (look_put_ne _ _ (by omega)).trans (look_put_same _ _ _)
  rw [Core.vregWord_eq, hhigh, hlow]
  exact (BitVec.extractLsb'_append_extractLsb'_eq_extractLsb' rfl).trans BitVec.extractLsb'_eq_self

/-! ### The two windows of a core -/

/-- A core written and a field set: what stays of the state. -/
theorem setCore_setFld_frame (s : State) (n : Nat) (c : Core) (f : Fld) (v : Nat) :
    ((s.setCore n c).setFld f v).core n = c ∧ RegsExcept [f.addr] s ((s.setCore n c).setFld f v) ∧
      CoresExcept [n] s ((s.setCore n c).setFld f v) ∧ ((s.setCore n c).setFld f v).mem = s.mem ∧
      ((s.setCore n c).setFld f v).pending = s.pending := by
  have hset := coreSet_setCore s n c
  generalize s.setCore n c = d at hset
  exact ⟨(State.core_of_cores (d.setFld_cores f v) n).trans hset.own,
    RegsExcept.setFld (fun a _ => State.reg_of_csr hset.csr a) v (by simp),
    fun m hm => (State.core_of_cores (d.setFld_cores f v) m).trans (hset.coresExcept m hm),
    (d.setFld_mem f v).trans hset.mem, (d.setFld_pending f v).trans hset.pending⟩

/-- What a read of 64 bits of VREG_DATA answers, and the state after it. -/
theorem regRead_vregData (s : State) (n : Fin 64) : regRead s (R.VREG_DATA n) .w64 =
    { s.setFld (F.VREG_PTR_WORD n) (s.fld (F.VREG_PTR_WORD n) + 1) with
      reply := .value ((s.core n).vregWord (s.fld (F.VREG_PTR_WORD n))) } := by
  have hread : coreRead s n 0x4548 .w64 = ((s.core n).vregWord (s.fld (F.VREG_PTR_WORD n)),
    s.setFld (F.VREG_PTR_WORD n) (s.fld (F.VREG_PTR_WORD n) + 1)) := rfl
  rw [show R.VREG_DATA n = coreBlock n + 0x4548 by unfold R.VREG_DATA coreBlock; omega, regRead_core n.isLt (by decide), hread]

section
variable {n : Fin 64} {v : Word} {s : State} (hup : s.up = true)
include hup

/-- The mask window of a core that is not idle, or whose V slot is at work, refuses a write. -/
theorem exec_mregWrite_busy (hbusy : vecIdle s n = false) (i : Fin 8) (w : Fin 4) :
    exec (.mregWrite n i w .w64 v) s = .next { s with reply := .accessError } :=
  exec_row hup (f := fun s => mregWrite (okReply s) n i w .w64 v) rfl
    (by rw [mregWrite, if_neg (ne_true_of_eq_false (show vecIdle (okReply s) n = false from hbusy))]; rfl) rfl

/-- The tile window of a core that is not idle, or whose V slot is at work, refuses a write. -/
theorem exec_vregDataWrite_busy (hbusy : vecIdle s n = false) :
    exec (.vregDataAccess n .w64 (some v)) s = .next { s with reply := .accessError } :=
  exec_row hup (f := fun s => vregDataWrite (okReply s) n .w64 v) rfl
    (by rw [vregDataWrite, if_neg (ne_true_of_eq_false (show vecIdle (okReply s) n = false from hbusy))]; rfl) rfl

/-- The mask window of an idle core takes the word, but for m0, which stays all ones. -/
theorem exec_mregWrite_idle (hidle : vecIdle s n = true) (i : Fin 8) (w : Fin 4) :
    exec (.mregWrite n i w .w64 v) s =
      .next (if i.val = 0 then { s with reply := .ok } else { s.setReg (R.MREG n i w) v with reply := .ok }) := by
  have hopen : vecIdle (okReply s) n = true := hidle
  by_cases h0 : i.val = 0
  · rw [if_pos h0]
    exact exec_row hup (f := fun s => mregWrite (okReply s) n i w .w64 v) rfl (by rw [mregWrite, if_pos hopen, if_pos h0]; rfl) rfl
  · rw [if_neg h0]
    exact exec_row hup (f := fun s => mregWrite (okReply s) n i w .w64 v) rfl
      (by rw [mregWrite, if_pos hopen, if_neg h0,
        State.writeByType_rw64 _ _ _ (regAt_MREG n.isLt i.isLt w.isLt h0)]; rfl) rfl

/-- The tile window of an idle core takes the word that WORD names, and WORD advances. -/
theorem runs_vregDataWrite (hidle : vecIdle s n = true) : Runs (.vregDataAccess n .w64 (some v)) s fun t =>
    t.core n = (s.core n).setVregWord (s.fld (F.VREG_PTR_WORD n)) v ∧
      t.fld (F.VREG_PTR_WORD n) = (s.fld (F.VREG_PTR_WORD n) + 1) % 2 ^ 15 ∧
      RegsExcept [R.VREG_PTR n] s t ∧ CoresExcept [n] s t ∧ MemSame s t := by
  have hwrite : vregDataWrite (okReply s) n .w64 v =
      okReply (((okReply s).setCore n ((s.core n).setVregWord (s.fld (F.VREG_PTR_WORD n)) v)).setFld (F.VREG_PTR_WORD n)
        (s.fld (F.VREG_PTR_WORD n) + 1)) := by
    rw [vregDataWrite, if_pos (show vecIdle (okReply s) n = true from hidle)]
    simp only [AccSz.merge_w64, if_true]
    rfl
  have hword := State.fld_setFld_same ((okReply s).setCore n ((s.core n).setVregWord (s.fld (F.VREG_PTR_WORD n)) v))
    (F.VREG_PTR_WORD n) (s.fld (F.VREG_PTR_WORD n) + 1) (by simp)
  obtain ⟨hcore, hregs, hcores, hmem, hpending⟩ := setCore_setFld_frame (okReply s) n
    ((s.core n).setVregWord (s.fld (F.VREG_PTR_WORD n)) v) (F.VREG_PTR_WORD n) (s.fld (F.VREG_PTR_WORD n) + 1)
  generalize ((okReply s).setCore n _).setFld _ _ = e at *
  exact ⟨okReply e, exec_row hup (f := fun s => vregDataWrite (okReply s) n .w64 v) rfl hwrite hpending, hcore, hword, hregs,
    hcores, State.byte_of_mem hmem⟩

/-- A read of the tile window, at any time: it answers the word that WORD names, and WORD advances. -/
theorem runs_vregDataRead : Runs (.vregDataAccess n .w64 none) s fun t =>
    t.reply = .value ((s.core n).vregWord (s.fld (F.VREG_PTR_WORD n))) ∧
      t.fld (F.VREG_PTR_WORD n) = (s.fld (F.VREG_PTR_WORD n) + 1) % 2 ^ 15 ∧ RegsExcept [R.VREG_PTR n] s t ∧
      CoresExcept [] s t ∧ MemSame s t := by
  have hread := regRead_vregData s n
  have hregs := (RegsExcept.refl [R.VREG_PTR n] s).setFld (f := F.VREG_PTR_WORD n) (s.fld (F.VREG_PTR_WORD n) + 1) (by simp)
  obtain ⟨hfld, hcores, hmem, hpending⟩ := setFld_frame s (F.VREG_PTR_WORD n) (s.fld (F.VREG_PTR_WORD n) + 1) (by simp)
  generalize s.setFld (F.VREG_PTR_WORD n) (s.fld (F.VREG_PTR_WORD n) + 1) = e at *
  exact ⟨_, exec_row hup (f := fun s => regRead s (R.VREG_DATA n) .w64) rfl hread hpending, rfl, hfld, hregs,
    fun m _ => State.core_of_cores hcores m, State.byte_of_mem hmem⟩

end

end Sys2Proof.Machine
end

section
open Sys2Proof Sys2Proof.Machine

/-- Settles O10: a busy core refuses both windows; an idle one takes a mask word, but for m0, and a word of the tile registers,
read back whole, with WORD advanced. -/
theorem vectorWindows : Obligations.VectorWindows := by
  unfold Obligations.VectorWindows
  refine fun n v s hup => ⟨fun hbusy => ⟨exec_mregWrite_busy hup hbusy, exec_vregDataWrite_busy hup hbusy⟩,
    fun hidle => ⟨exec_mregWrite_idle hup hidle, ?_⟩, runs_vregDataRead hup⟩
  obtain ⟨t, hexec, hcore, hframe⟩ := runs_vregDataWrite (v := v) hup hidle
  exact ⟨t, hexec, by rw [hcore, Core.vregWord_setVregWord], hframe⟩

end

section
/-! SUPPORT. The configuration registers of a core and the work counters: window table, SR_STATE, lichen registers, COMP counters,
CLAIM_SET (R51, R78, R155, R222, R223). -/

namespace Sys2Proof.Machine

/-! ### A register written whole or by halves -/

/-- The accessed bits are taken from the data, the others are kept. -/
theorem AccSz.merge_getLsbD (sz : AccSz) (old v : Word) (i : Nat) :
    (sz.merge old v).getLsbD i = if sz.mask.getLsbD i then (sz.place v).getLsbD i else old.getLsbD i := by
  rw [AccSz.merge, BitVec.getLsbD_or, BitVec.getLsbD_and, BitVec.getLsbD_and, BitVec.getLsbD_not]
  cases sz.mask.getLsbD i with
  | true => simp
  | false =>
    by_cases h64 : i < 64
    · simp [h64]
    · simp [h64, BitVec.getLsbD_of_ge old i (by omega)]

/-- The low 32 bits of a word. -/
theorem AccSz.mask_lo_getLsbD (i : Nat) : AccSz.lo.mask.getLsbD i = decide (i < 32) := by
  rw [show AccSz.lo.mask = BitVec.ofNat 64 (2 ^ 32 - 1) from rfl, BitVec.getLsbD_ofNat, Nat.testBit_two_pow_sub_one,
    Bool.eq_iff_iff, Bool.and_eq_true, decide_eq_true_eq, decide_eq_true_eq]
  omega

/-- The high 32 bits of a word. -/
theorem AccSz.mask_hi_getLsbD (i : Nat) : AccSz.hi.mask.getLsbD i = (decide (i < 64) && !decide (i < 32)) := by
  rw [← AccSz.mask_lo_getLsbD, ← BitVec.getLsbD_not]
  rfl

/-- The low half after a write: the written half, or the kept one. -/
theorem AccSz.getBits_merge_low (sz : AccSz) (old v : Word) :
    getBits (sz.merge old v) 31 0 = match sz with
      | .w64 => getBits v 31 0
      | .lo => getBits v 31 0
      | .hi => getBits old 31 0 := by
  cases sz with
  | w64 => rw [AccSz.merge_w64]
  | lo =>
    refine getBits_congr fun i hi => ?_
    have hin : i < 32 := by omega
    rw [AccSz.merge_getLsbD, AccSz.mask_lo_getLsbD, AccSz.place, BitVec.getLsbD_and, ← AccSz.mask, AccSz.mask_lo_getLsbD]
    simp [hin]
  | hi =>
    refine getBits_congr fun i hi => ?_
    rw [AccSz.merge_getLsbD, AccSz.mask_hi_getLsbD, decide_eq_true (show i < 32 by omega)]
    simp

/-- The high half after a write: the written half, which comes in the low 32 bits of a 32-bit access, or the kept one. -/
theorem AccSz.getBits_merge_high (sz : AccSz) (old v : Word) :
    getBits (sz.merge old v) 63 32 = match sz with
      | .w64 => getBits v 63 32
      | .lo => getBits old 63 32
      | .hi => getBits v 31 0 := by
  cases sz with
  | w64 => rw [AccSz.merge_w64]
  | lo =>
    refine Nat.eq_of_testBit_eq fun i => ?_
    simp [getBits_testBit, AccSz.merge_getLsbD, AccSz.mask_lo_getLsbD]
  | hi =>
    refine Nat.eq_of_testBit_eq fun i => ?_
    simp only [getBits_testBit, AccSz.merge_getLsbD, AccSz.mask_hi_getLsbD, AccSz.place, BitVec.getLsbD_shiftLeft]
    by_cases hi : i < 32
    · simp [hi, show 32 + i < 64 by omega]
    · simp [hi]

/-- A write by type of a register that is one RW field of 64 bits merges the accessed bits. -/
theorem State.writeByType_merge (s : State) (a : Nat) (sz : AccSz) (v : Word)
    (h : (regAt a).map (·.fields) = some [⟨63, 0, .rw⟩]) : s.writeByType a sz v = s.setReg a (sz.merge (s.reg a) v) := by
  obtain ⟨d, hd, hfields⟩ := Option.map_eq_some_iff.mp h
  have hmask : fieldsMask d.fields = BitVec.allOnes 64 := by rw [hfields]; decide
  rw [State.writeByType, hd]
  dsimp only
  rw [RegDesc.write_rw _ _ _ (by simp [hfields]), hmask, BitVec.allOnes_and, AccSz.merge]

/-! ### Rows that set one register and answer done -/

section
variable {s : State} {i : Instr} {f : State → State} (hup : s.up = true) (hrow : exec i s = ifUp f s)
include hup hrow

theorem exec_row_setReg {a : Nat} {w : Word} (hf : f s = (okReply s).setReg a w) :
    exec i s = .next { s.setReg a w with reply := .ok } := exec_row hup hrow hf rfl

theorem exec_row_setFld {x : Fld} {k : Nat} (hf : f s = (okReply s).setFld x k) :
    exec i s = .next { s.setFld x k with reply := .ok } := exec_row hup hrow hf rfl

end

theorem exec_windowWrite_row {n : Fin 64} {i : Fin 256} {hi : Bool} {sz : AccSz} {v : Word} {s : State} :
    exec (.windowWrite n i hi sz v) s = ifUp (fun s => windowWrite (okReply s) n i hi sz v) s := rfl

theorem exec_srStateWrite_row {n : Fin 64} {sz : AccSz} {v : Word} {s : State} :
    exec (.srStateWrite n sz v) s = ifUp (fun s => srStateWrite (okReply s) n sz v) s := rfl

theorem exec_compWrite_row {n : Fin 64} {c : Fin 16} {w : BitVec 32} {s : State} :
    exec (.compWrite n c w) s = ifUp (fun s => compWrite (okReply s) n c s.now .lo (w.setWidth 64)) s := rfl

theorem exec_lichenWrite_row {n : Fin 64} {col : Bool} {i : Fin 2} {sz : AccSz} {v : Word} {s : State} :
    exec (.lichenWrite n col i sz v) s = ifUp (fun s => lichenWrite (okReply s) n col i sz v) s := rfl

theorem exec_claimSetWrite_row {i : Fin 64} {sz : AccSz} {v : Word} {s : State} :
    exec (.claimSetWrite i sz v) s = ifUp (fun s => claimSetWrite (okReply s) i sz v) s := rfl

/-! ### Window table, SR_STATE and COMP counters -/

section
variable {n : Fin 64} {v : Word} {s : State} (hup : s.up = true)
include hup

/-- A window table entry is written while its core is OFF; another write sets LOCK_ERR (R222). -/
theorem exec_windowWrite (i : Fin 256) (hi : Bool) (sz : AccSz) : exec (.windowWrite n i hi sz v) s = .next
    (if coreState s n = 0 then
      { s.setReg (if hi then R.WINDOW_HI n i else R.WINDOW_LO n i)
          (sz.merge (s.reg (if hi then R.WINDOW_HI n i else R.WINDOW_LO n i)) v) with reply := .ok }
     else { s.setFld (F.WIN_STATUS_LOCK_ERR n) 1 with reply := .ok }) := by
  by_cases hoff : coreState s n = 0
  · rw [if_pos hoff]
    exact exec_row_setReg hup exec_windowWrite_row
      ((if_pos hoff).trans (State.writeByType_merge _ _ sz v (regAt_WINDOW hi n.isLt i.isLt)))
  · rw [if_neg hoff]
    exact exec_row_setFld hup exec_windowWrite_row (if_neg hoff)

/-- SR_STATE takes the written value (R78). -/
theorem exec_srStateWrite :
    exec (.srStateWrite n .w64 v) s = .next { s.setReg (R.SR_STATE n) v with reply := .ok } :=
  exec_row_setReg hup exec_srStateWrite_row (by rw [srStateWrite, AccSz.merge_w64])

/-- A COMP counter takes the written value and the increments of its cycle (R155). -/
theorem exec_compWrite (c : Fin 16) (w : BitVec 32) : exec (.compWrite n c w) s = .next { s.setFld (F.COMP_COUNT n c)
    ((w.toNat + (let r := look (fun _ => (0, 0)) (s.core n).compCyc c; if r.1 = s.now then r.2 else 0)) % 2 ^ 32) with
    reply := .ok } := by
  have hword : getBits (w.setWidth 64) 31 0 = w.toNat := by
    have := w.isLt
    simp only [getBits, bitsOf, BitVec.toNat_setWidth]
    omega
  refine exec_row_setFld hup exec_compWrite_row ?_
  simp only [compWrite, hword]
  rfl

end

/-! ### Lichen registers -/

/-- The register of row or column line i. -/
def lichenReg (n : Nat) (col : Bool) (i : Nat) : Nat := if col then R.LICHEN_COL n i else R.LICHEN_ROW n i

theorem regAt_lichenReg {n i : Nat} (col : Bool) (hn : n < 64) (hi : i < 2) :
    (regAt (lichenReg n col i)).map (·.fields) = some [⟨15, 15, .rw⟩, ⟨8, 0, .rw⟩] := by
  cases col
  · rw [show lichenReg n false i = 0x7F0001000000 + n * 0x10000 + (0x4010 + i * 8) by
      simp only [lichenReg, Bool.false_eq_true, if_false, R.LICHEN_ROW]; omega, regAt_core hn (by omega)]
    exact (by decide +kernel : ∀ i : Fin 2,
      (regTable_core.find? (RegDesc.atOff 0x7F0001000000 (0x4010 + i * 8))).map (·.fields) = _) ⟨i, hi⟩
  · rw [show lichenReg n true i = 0x7F0001000000 + n * 0x10000 + (0x4020 + i * 8) by
      simp only [lichenReg, if_true, R.LICHEN_COL]; omega, regAt_core hn (by omega)]
    exact (by decide +kernel : ∀ i : Fin 2,
      (regTable_core.find? (RegDesc.atOff 0x7F0001000000 (0x4020 + i * 8))).map (·.fields) = _) ⟨i, hi⟩

/-- The other register of the kind is valid and names the line that v, valid too, names. -/
def LichenClash (s : State) (n : Nat) (col : Bool) (i : Nat) (v : Word) : Prop :=
  getBits v 15 15 = 1 ∧ getBits (s.reg (lichenReg n col (1 - i))) 15 15 = 1 ∧
    getBits (s.reg (lichenReg n col (1 - i))) 8 0 = getBits v 8 0

/-- What a write of 64 bits makes of a lichen register: VALID and LOGICAL are those of the data. -/
theorem lichenReg_write {n i : Nat} (col : Bool) (hn : n < 64) (hi : i < 2) (old v : Word) :
    ∃ d, regAt (lichenReg n col i) = some d ∧ d.write .w64 old v = (old &&& ~~~0x81FF#64) ||| (v &&& 0x81FF#64) ∧
      getBits (d.write .w64 old v) 15 15 = getBits v 15 15 ∧ getBits (d.write .w64 old v) 8 0 = getBits v 8 0 := by
  obtain ⟨d, hd, hfields⟩ := Option.map_eq_some_iff.mp (regAt_lichenReg col hn hi)
  have hmask : fieldsMask d.fields &&& AccSz.w64.mask = 0x81FF#64 := by rw [hfields]; decide
  have hlt : ∀ f ∈ d.fields, f.hi < 64 := by simp [hfields]
  have hdisj : d.fields.Pairwise fun f g => f.hi < g.lo ∨ g.hi < f.lo := by simp [hfields]
  refine ⟨d, hd, ?_, RegDesc.getBits_write_rw (f := ⟨15, 15, .rw⟩) old v hlt hdisj (by simp [hfields]) rfl,
    RegDesc.getBits_write_rw (f := ⟨8, 0, .rw⟩) old v hlt hdisj (by simp [hfields]) rfl⟩
  rw [RegDesc.write_rw _ _ _ (by simp [hfields]), hmask, AccSz.place]

/-- A lichen register takes VALID and LOGICAL of the data, unless the write is refused (R51). -/
theorem lichenWrite_spec (s : State) {n i : Nat} (col : Bool) (hn : n < 64) (hi : i < 2) (v : Word) :
    (coreState s n = 0 → getBits v 8 0 ≤ 256 → ¬ LichenClash s n col i v → lichenWrite s n col i .w64 v =
      s.setReg (lichenReg n col i) ((s.reg (lichenReg n col i) &&& ~~~0x81FF#64) ||| (v &&& 0x81FF#64))) ∧
    (coreState s n ≠ 0 ∨ 256 < getBits v 8 0 ∨ LichenClash s n col i v → lichenWrite s n col i .w64 v =
      s.setFld (F.ARRAY_STATE_MAP_ERR n) 1) := by
  obtain ⟨d, hd, hnew, hvalid, hlogical⟩ := lichenReg_write col hn hi (s.reg (lichenReg n col i)) v
  have hclash : (getBits v 15 15 == 1 && getBits (s.reg (lichenReg n col (1 - i))) 15 15 == 1 &&
      getBits (s.reg (lichenReg n col (1 - i))) 8 0 == getBits v 8 0) = true ↔ LichenClash s n col i v := by
    simp [LichenClash, and_assoc]
  unfold lichenWrite
  dsimp only
  rw [← lichenReg, ← lichenReg, hd]
  dsimp only
  rw [hvalid, hlogical, hnew]
  refine ⟨fun hoff hin hfree => if_neg ?_, fun hrefused => if_pos (hrefused.imp_right (Or.imp_right hclash.mpr))⟩
  rintro (hon | hout | hnamed)
  · exact hon hoff
  · omega
  · exact hfree (hclash.mp hnamed)

/-! ### Work counters -/

/-- The fields of a work counter after a write of CLAIM_SET: the halves written, and a new epoch (R223). -/
theorem claimSetWrite_spec (s : State) (i : Nat) (sz : AccSz) (v : Word) :
    let t := claimSetWrite s i sz v
    t.fld (F.CLAIM_SET_LIMIT i) = (match sz with
      | .w64 => getBits v 63 32
      | .lo => s.fld (F.CLAIM_SET_LIMIT i)
      | .hi => getBits v 31 0) ∧
    t.fld (F.CLAIM_STATE_NEXT i) = (match sz with
      | .w64 => getBits v 31 0
      | .lo => getBits v 31 0
      | .hi => s.fld (F.CLAIM_STATE_NEXT i)) ∧
    t.fld (F.CLAIM_STATE_EPOCH i) = (s.fld (F.CLAIM_STATE_EPOCH i) + 1) % 2 ^ 32 ∧
    OnlyEvents [R.CLAIM_SET i, R.CLAIM_STATE i] s t := by
  have hapart : R.CLAIM_SET i ≠ R.CLAIM_STATE i := by unfold R.CLAIM_SET R.CLAIM_STATE; omega
  have hkept : getBits (setBits (s.reg (R.CLAIM_SET i)) 31 0 (s.fld (F.CLAIM_STATE_NEXT i))) 63 32 =
      s.fld (F.CLAIM_SET_LIMIT i) := getBits_setBits_ne _ _ _ _ _ _ (by omega)
  have hnext : getBits (setBits (s.reg (R.CLAIM_SET i)) 31 0 (s.fld (F.CLAIM_STATE_NEXT i))) 31 0 =
      s.fld (F.CLAIM_STATE_NEXT i) := (getBits_setBits _ _ _ _ (by omega)).trans (Nat.mod_eq_of_lt (getBits_lt _ _ _))
  dsimp only
  unfold claimSetWrite
  dsimp only
  refine ⟨?_, ?_, ?_, (((OnlyEvents.refl _ s).setFld _ (by simp)).setFld _ (by simp)).setFld _ (by simp)⟩
  · rw [State.fld_setFld_ne _ _ _ _ (.inl hapart), State.fld_setFld_ne _ _ _ _ (.inl hapart),
      State.fld_setFld_same _ _ _ (by simp), Nat.mod_eq_of_lt (getBits_lt _ _ _), AccSz.getBits_merge_high, hkept]
  · rw [State.fld_setFld_ne _ _ _ _ (.inr (.inr (by simp))), State.fld_setFld_same _ _ _ (by simp),
      Nat.mod_eq_of_lt (getBits_lt _ _ _), AccSz.getBits_merge_low, hnext]
  · rw [State.fld_setFld_same _ _ _ (by simp)]
    exact Nat.mod_mod _ _

end Sys2Proof.Machine
end

section
open Sys2Proof Sys2Proof.Machine

/-- Settles O11: each register's write, whole or by the halves that it takes, and what refuses it. -/
theorem coreConfigurationRegisters : Obligations.CoreConfigurationRegisters := by
  unfold Obligations.CoreConfigurationRegisters
  refine fun n v s hup => ⟨exec_windowWrite hup, exec_srStateWrite hup, fun col i => ?_, fun i sz => ?_, exec_compWrite hup⟩
  · obtain ⟨hwritten, hrefused⟩ := lichenWrite_spec (okReply s) col n.isLt i.isLt v
    exact ⟨fun hoff hin hfree => exec_row_setReg hup exec_lichenWrite_row (hwritten hoff hin hfree),
      fun h => exec_row_setFld hup exec_lichenWrite_row (hrefused h)⟩
  · obtain ⟨hlimit, hnext, hepoch, hframe⟩ := claimSetWrite_spec (okReply s) i sz v
    exact runs_row hup exec_claimSetWrite_row hframe.pending ⟨hlimit, hnext, hepoch, hframe.regs,
      State.byte_of_mem hframe.mem, fun m _ => State.core_of_cores hframe.cores m⟩

end

section
/-! SUPPORT. The plan loader: a read of the image that is delivered changes nothing, and the rows LOAD_REQUEST and
PLAN_LOAD case by case (R209 to R214, R218). -/

namespace Sys2Proof.Machine

/-! ### The image -/

/-- A read that is answered OK leaves the device as it was. -/
theorem memRead_state_of_ok {s : State} {a len : Nat} (hok : (memRead s a len).1 = csOK) : (memRead s a len).2.2 = s := by
  have hne : csUNCORR ≠ csOK := by decide
  unfold memRead at hok ⊢
  by_cases hflash : flashBase ≤ a ∧ a < flashEnd
  · rw [if_pos hflash] at hok ⊢
    split at hok
    · next hread => rw [if_pos hread]
    · exact absurd hok hne
  · rw [if_neg hflash] at hok ⊢
    dsimp only at hok ⊢
    split at hok
    · exact absurd hok hne
    · next hclosing =>
      split at hok
      · exact absurd hok hne
      · next hpoison => rw [if_neg hclosing, if_neg hpoison]

/-- An image that can be read is read without a change of the device. -/
theorem readImage_state_of_some {s : State} {r : LoadReq} {b : List Byte} (h : (readImage s r).1 = some b) :
    (readImage s r).2 = s := by
  unfold readImage at h ⊢
  by_cases hhead : (memRead s r.image (min 256 r.limit)).1 = csOK
  · have hstate := memRead_state_of_ok hhead
    simp only [hhead, ne_eq, not_true_eq_false, if_false, hstate] at h ⊢
    split at h
    · cases h
    · next hbody =>
      rw [if_neg hbody]
      exact memRead_state_of_ok (not_not.mp hbody)
  · rw [if_pos hhead] at h
    cases h

/-! ### A request that is taken -/

@[simp] theorem unitWrite_ldr (s : State) (a : Nat) (bs : List Byte) : (unitWrite s a bs).ldr = s.ldr := by
  obtain ⟨_, _, h, _⟩ := unitWrite_eq s a bs; rw [h]

@[simp] theorem reportBytes_length (seq st flags plan : Nat) (e : LdErr) : (reportBytes seq st flags plan e).length = 64 := by
  simp [reportBytes]

/-- The trigger is taken: a new request has found no breach yet. -/
def takeTrigger (s : State) : State := { s with ldr := { s.ldr with latched := false, part := false } }

/-- The trigger is taken and the request that the record holds is in progress. -/
def takeRequest (s : State) : State :=
  { takeTrigger s with ldr := { (takeTrigger s).ldr with req := some (readRequest s) } }

section
variable {s : State} (hlatched : s.ldr.latched = true) (hreq : s.ldr.req = none)
include hlatched hreq

/-- A request record with SEQ 0 asks for nothing: the trigger alone is gone (log entry 92). -/
theorem loadRequest_seq_zero (hseq : (readRequest s).seq = 0) : loadRequest s = takeTrigger s := by
  rw [loadRequest, if_neg (by simp [hlatched, hreq])]
  exact if_pos hseq

/-- A request with a SEQ while a program runs or a core closes is rejected. -/
theorem loadRequest_busy (hseq : (readRequest s).seq ≠ 0) (hbusy : loadBusy s = true) :
    loadRequest s = rejectLoad (takeTrigger s) (readRequest s) (ldErr 0x70) := by
  rw [loadRequest, if_neg (by simp [hlatched, hreq])]
  exact (if_neg hseq).trans (if_pos hbusy)

/-- A request whose image passes the checks of its own bytes is verified next. -/
theorem loadRequest_accepted {b : List Byte} (hseq : (readRequest s).seq ≠ 0) (hbusy : loadBusy s = false)
    (hal : (readRequest s).image % 64 = 0) (hmem : memOk s (readRequest s).image (readRequest s).limit = true)
    (himage : (readImage (takeTrigger s) (readRequest s)).1 = some b) (hlen : imgLen b ≤ (readRequest s).limit)
    (hearly : chkEarly (takeTrigger s) b = none) :
    loadRequest s = loadReport (takeRequest s) (readRequest s) rpVERIFYING { ldErr 0 with core := 0xFFFF } := by
  have htake : ({ s with ldr := { s.ldr with latched := false, part := false } } : State) = takeTrigger s := rfl
  have hrecord : readRequest (takeTrigger s) = readRequest s := rfl
  have hfree : loadBusy (takeTrigger s) = false := hbusy
  have hplace : memOk (takeTrigger s) (readRequest s).image (readRequest s).limit = true := hmem
  have hpassed : lowestErr ((errIf (decide ((readRequest s).limit < imgLen b)) { ldErr 0x04 with detail := 32 }).toList ++
      (chkEarly (takeTrigger s) b).toList) = none := by
    rw [decide_eq_false (Nat.not_lt.mpr hlen), hearly]
    rfl
  rw [loadRequest, if_neg (by simp [hlatched, hreq])]
  simp only [htake, hrecord, if_neg hseq, hfree, hal, hplace, himage, hpassed, readImage_state_of_some himage, ne_eq,
    not_true_eq_false, Bool.true_eq_false, Bool.false_eq_true, or_self, if_false, takeRequest]

end

/-! ### PLAN_LOAD -/

section
variable {s : State}

theorem planLoad_idle (hreq : s.ldr.req = none) : planLoad s = s := by
  rw [planLoad, hreq]

/-- An image that cannot be read when its verification begins is rejected. -/
theorem planLoad_unreadable {r : LoadReq} (hreq : s.ldr.req = some r) (hloading : s.ldr.loading = false)
    (himage : (readImage s r).1 = none) :
    planLoad s = rejectLoad (readImage s r).2 r { ldErr 0x05 with detail := 64 } := by
  simp only [planLoad, hreq, himage, hloading, Bool.false_eq_true, if_false]

/-- A load that was verified goes on. -/
theorem planLoad_loading {r : LoadReq} {b : List Byte} (hreq : s.ldr.req = some r) (hloading : s.ldr.loading = true)
    (himage : (readImage s r).1 = some b) : planLoad s = loadPlan (readImage s r).2 r b := by
  simp only [planLoad, hreq, himage, hloading, if_true]

end

/-! ### The rows -/

theorem exec_loadRequest_row {s : State} : exec .loadRequest s = ifUp loadRequest s := rfl

theorem exec_planLoad_row {s : State} : exec .planLoad s = ifUp planLoad s := rfl

/-- A row of the package ends in the state of its meaning, with the queue as it was. -/
theorem exec_row_after {s t : State} {i : Instr} {f : State → State} (hup : s.up = true) (hrow : exec i s = ifUp f s)
    (hf : f s = t) : exec i s = .next (s.after t) := by
  rw [hrow, ifUp_up f hup, hf]
  rfl

/-- A report of a load that goes on notifies nobody (R211). -/
theorem loadReport_verifying (s : State) (r : LoadReq) (e : LdErr) : loadReport s r rpVERIFYING e =
    unitWrite s reportAddr (reportBytes r.seq rpVERIFYING (b2n s.ldr.part) s.ldr.plan e) := by
  unfold loadReport
  dsimp only
  rw [if_pos (by decide)]

/-- A request that is verified next is in progress, and its report stands in the mailbox. -/
theorem runs_loadRequest_accepted {s : State} (hup : s.up = true)
    (haccepted : loadRequest s = loadReport (takeRequest s) (readRequest s) rpVERIFYING { ldErr 0 with core := 0xFFFF }) :
    Runs .loadRequest s fun t => t.ldr.req = some (readRequest s) ∧ t.ldr.latched = false ∧ t.ldr.loading = s.ldr.loading ∧
      Bytes t reportAddr (reportBytes (readRequest s).seq rpVERIFYING 0 s.ldr.plan { ldErr 0 with core := 0xFFFF }) := by
  rw [loadReport_verifying] at haccepted
  exact ⟨_, exec_row hup exec_loadRequest_row haccepted (unitWrite_pending ..), by rw [unitWrite_ldr]; rfl,
    by rw [unitWrite_ldr]; rfl, by rw [unitWrite_ldr]; rfl, bytes_unitWrite _ _ _⟩

end Sys2Proof.Machine
end

section
open Sys2Proof Sys2Proof.Machine

/-- Settles O38: LOAD_REQUEST by the cases in which it idles, takes the trigger away, rejects or accepts; PLAN_LOAD without a
request, with an image that cannot be read, and while it loads. -/
theorem planLoader : Obligations.PlanLoader := by
  unfold Obligations.PlanLoader
  refine fun s hup => ⟨fun hidle => exec_row hup exec_loadRequest_row (if_pos hidle) rfl,
    fun hlatched hreq hseq => exec_row hup exec_loadRequest_row (loadRequest_seq_zero hlatched hreq hseq) rfl,
    fun hlatched hreq hseq hbusy => ?_, fun b hlatched hreq hseq hbusy hal hmem himage hlen hearly => ?_,
    fun hreq => exec_row hup exec_planLoad_row (planLoad_idle hreq) rfl,
    fun r hreq hloading himage => ?_, fun r b hreq hloading himage => ?_⟩
  · exact exec_row_after hup exec_loadRequest_row (loadRequest_busy hlatched hreq hseq hbusy)
  · obtain ⟨t, hexec, hreq', hlatched', hloading, hreport⟩ := runs_loadRequest_accepted hup
      (loadRequest_accepted hlatched hreq hseq hbusy hal hmem himage hlen hearly)
    exact ⟨t, hexec, hreq', hlatched', hloading, fun i hi => hreport i (by rwa [reportBytes_length])⟩
  · exact exec_row_after hup exec_planLoad_row (planLoad_unreadable hreq hloading himage)
  · exact exec_row_after hup exec_planLoad_row (planLoad_loading hreq hloading himage)

end

section
/-! SUPPORT. Output tiles: their writes issue, and they complete, accepted or refused (R150, R160, R241). -/

namespace Sys2Proof.Machine

/-! ### The rows -/

theorem exec_outputTileWrite_row {n : Fin 64} {d : Fin 32} {s : State} :
    exec (.outputTileWrite n d) s = ifUp (fun s => outputTileWrite s n d) s := rfl

theorem exec_outputTileComplete_row {n : Fin 64} {d : Fin 32} {s : State} :
    exec (.outputTileComplete n d) s = ifUp (fun s => outputTileComplete s n d) s := rfl

/-! ### Writes -/

/-- In t the placed tile of o's number is o; registers, memory, queue and the other cores are as in s. -/
structure TilePut (n : Nat) (o : OutTile) (s t : State) : Prop where
  csr : t.csr = s.csr
  cores : t.cores = (setPlaced s n o).cores
  mem : t.mem = s.mem
  pending : t.pending = s.pending

section
variable {n : Nat} {o : OutTile} {s t : State} (h : TilePut n o s t)
include h

theorem TilePut.core : t.core n = { s.core n with
    placed := (s.core n).placed.map fun p => if p.openId == o.openId && p.tile == o.tile then o else p } :=
  (State.core_of_cores h.cores n).trans (State.core_setCore_same s n _)

theorem TilePut.frame : RegsExcept [] s t ∧ CoresExcept [n] s t ∧ MemSame s t :=
  ⟨fun a _ => State.reg_of_csr h.csr a,
    fun m hm => (State.core_of_cores h.cores m).trans ((coreSet_setCore s n _).coresExcept m hm),
    State.byte_of_mem h.mem⟩

end

section
variable {s : State} {n d : Nat} {o : OutTile}
  (hfind : (s.core n).placed.find? (fun q => q.d == d && !q.started) = some o)
include hfind

theorem outputTileWrite_early (hearly : s.now < o.visible) : outputTileWrite s n d = s := by
  rw [outputTileWrite, hfind]
  exact if_pos hearly

variable (hvisible : o.visible ≤ s.now)
include hvisible

theorem outputTileWrite_suppressed (hsup : o.suppressed = true) :
    outputTileWrite s n d = setPlaced s n { o with started := true } := by
  rw [outputTileWrite, hfind]
  exact (if_neg (Nat.not_lt.mpr hvisible)).trans (if_pos hsup)

variable (hsup : o.suppressed = false)
include hsup

/-- A tile for LPDDR 6 asks for one write of each unit that it touches. -/
theorem outputTileWrite_lpddr (htier : dTier o.desc = 1) :
    TilePut n { o with started := true, left := segUnits (outSegments s o) } s (outputTileWrite s n d) ∧
    (outputTileWrite s n d).mc.wait.map (fun q => (q.unit, q.wr)) = s.mc.wait.map (fun q => (q.unit, q.wr)) ++
      (segUnits (outSegments s o)).map (fun u => (u, unitSegs (outSegments s o) u)) := by
  simp only [outputTileWrite, hfind, if_neg (Nat.not_lt.mpr hvisible), hsup, htier, Bool.false_eq_true, if_false, if_true]
  refine ⟨⟨rfl, rfl, rfl, rfl⟩, ?_⟩
  generalize outSegments s o = segs
  have hunits : ((segUnits segs).zipIdx.map Prod.fst).map (fun u => (u, unitSegs segs u)) =
      (segUnits segs).map fun u => (u, unitSegs segs u) := by rw [List.zipIdx_map_fst]
  rw [List.map_append, ← hunits, List.map_map, List.map_map]
  rfl

/-- A tile for flash asks for one write of all its bytes. -/
theorem outputTileWrite_flash (htier : dTier o.desc = 2) :
    TilePut n { o with started := true, left := [0] } s (outputTileWrite s n d) ∧
    (outputTileWrite s n d).fl.reqs.map (fun q => q.wr) = s.fl.reqs.map (fun q => q.wr) ++ [outSegments s o] := by
  simp only [outputTileWrite, hfind, if_neg (Nat.not_lt.mpr hvisible), hsup, htier, Bool.false_eq_true, if_false, if_true,
    OfNat.ofNat_ne_one]
  exact ⟨⟨rfl, rfl, rfl, rfl⟩, List.map_append⟩

end

/-! ### What has ended at the tiers -/

theorem takeTx_of_not_done {s : State} {q : TxReq} (h : ∀ a b c, q.st ≠ .done a b c) : takeTx s q = s := by
  unfold takeTx
  split
  · next hdone => exact absurd hdone (h _ _ _)
  · next hdone => exact absurd hdone (h _ _ _)
  · rfl

/-- Where no transaction has ended there is nothing to take up. -/
theorem settleTier_of_noneEnded {s : State} (h : noneEnded s) : settleTier s = s := by
  have hsame : ∀ qs : List TxReq, (∀ q ∈ qs, ∀ a b c, q.st ≠ .done a b c) → qs.foldl takeTx s = s := by
    intro qs
    induction qs with
    | nil => exact fun _ => rfl
    | cons q qs ih =>
      intro hq
      rw [List.foldl_cons, takeTx_of_not_done (hq q List.mem_cons_self)]
      exact ih fun r hr => hq r (List.mem_cons_of_mem q hr)
  exact hsame _ h

/-! ### The record of a refusal -/

/-- TIER_ERR of an error (Table 9.12). -/
def tierErrRecord (kind tier : Nat) (out : Bool) (d status tile : Nat) : Word :=
  BitVec.ofNat 64 (2 ^ 63 + 2 ^ 60 * kind + 2 ^ 58 * tier + 2 ^ 57 * b2n out + 2 ^ 48 * d + 2 ^ 40 * status + tile % 2 ^ 32)

/-- The record is valid where KIND, TIER, STREAM and FSTATUS fit in their fields. -/
theorem tierErrRecord_valid {kind tier d status : Nat} (out : Bool) (tile : Nat) (hkind : kind < 8) (htier : tier < 4)
    (hd : d < 32) (hstatus : status < 256) : getBits (tierErrRecord kind tier out d status tile) 63 63 = 1 := by
  have hout : b2n out < 2 := by cases out <;> decide
  simp only [tierErrRecord, getBits, bitsOf, BitVec.toNat_ofNat, Nat.shiftRight_eq_div_pow]
  norm_num
  omega

section
variable (s : State) (n kind tier : Nat) (out : Bool) (d status tile : Nat)

theorem tierErr_eq : tierErr s n kind tier out d status tile =
    if s.fld (F.TIER_ERR_VALID n) ≠ 0 then s.incFld (F.TIER_ERR_COUNT_COUNT n) 1
    else (s.incFld (F.TIER_ERR_COUNT_COUNT n) 1).setReg (R.TIER_ERR n) (tierErrRecord kind tier out d status tile) := by
  have hvalid : (s.incFld (F.TIER_ERR_COUNT_COUNT n) 1).fld (F.TIER_ERR_VALID n) = s.fld (F.TIER_ERR_VALID n) :=
    State.fld_incFld_ne _ _ _ _ (by simp)
  simp only [tierErr, State.flag, hvalid, bne_iff_ne, tierErrRecord]

theorem tierErr_onlyEvents : OnlyEvents [R.TIER_ERR_COUNT n, R.TIER_ERR n] s (tierErr s n kind tier out d status tile) := by
  have hcount : OnlyEvents [R.TIER_ERR_COUNT n, R.TIER_ERR n] s (s.incFld (F.TIER_ERR_COUNT_COUNT n) 1) :=
    (OnlyEvents.refl _ s).setReg _ (by simp)
  rw [tierErr_eq]
  split
  · exact hcount
  · exact hcount.setReg _ (by simp)

theorem tierErr_count : (tierErr s n kind tier out d status tile).fld (F.TIER_ERR_COUNT_COUNT n) =
    s.sat (F.TIER_ERR_COUNT_COUNT n) 1 := by
  have hcount : (s.incFld (F.TIER_ERR_COUNT_COUNT n) 1).fld (F.TIER_ERR_COUNT_COUNT n) =
      s.sat (F.TIER_ERR_COUNT_COUNT n) 1 := State.fld_incFld_same _ _ _ (by simp)
  rw [tierErr_eq]
  split
  · exact hcount
  · rw [State.fld_setReg_ne _ _ _ (by simp), hcount]

variable {kind tier d status}

/-- A record stands after an error: the first one, where no other stood. -/
theorem tierErr_valid (hkind : kind < 8) (htier : tier < 4) (hd : d < 32) (hstatus : status < 256) :
    (tierErr s n kind tier out d status tile).fld (F.TIER_ERR_VALID n) = 1 := by
  rw [tierErr_eq]
  split
  · next hstands =>
    rw [State.fld_incFld_ne _ _ _ _ (by simp)]
    exact (getBits_bit _ 63).resolve_left hstands
  · rw [State.fld_setReg_same _ (F.TIER_ERR_VALID n) _ _ rfl]
    exact tierErrRecord_valid out tile hkind htier hd hstatus

end

/-! ### Completion -/

/-- The tile o of core n has left and counts in its COMP counter. -/
def tileCounted (s : State) (n : Nat) (o : OutTile) : State :=
  compAdd (s.setCore n { s.core n with
    placed := (s.core n).placed.filter fun p => !(p.openId == o.openId && p.tile == o.tile) }) n o.ctr 1

theorem compAdd_placed (s : State) (n c k : Nat) : ((compAdd s n c k).core n).placed = (s.core n).placed := by
  rw [compAdd, State.core_setCore_same]

/-- What a tile that has left changes: the tiles placed and the counter. -/
theorem tileCounted_spec (s : State) (n : Nat) (o : OutTile) :
    ((tileCounted s n o).core n).placed = (s.core n).placed.filter (fun p => !(p.openId == o.openId && p.tile == o.tile)) ∧
    (tileCounted s n o).fld (F.COMP_COUNT n o.ctr) = (s.fld (F.COMP_COUNT n o.ctr) + 1) % 2 ^ 32 ∧
    RegsExcept [R.COMP n o.ctr] s (tileCounted s n o) ∧ CoresExcept [n] s (tileCounted s n o) ∧
    (tileCounted s n o).mem = s.mem ∧ (tileCounted s n o).pending = s.pending := by
  have hleft := coreSet_setCore s n { s.core n with
    placed := (s.core n).placed.filter fun p => !(p.openId == o.openId && p.tile == o.tile) }
  obtain ⟨-, -, hpending, hmem, hregs, hcores, hcount⟩ := compAdd_spec (s := s.setCore n { s.core n with
    placed := (s.core n).placed.filter fun p => !(p.openId == o.openId && p.tile == o.tile) }) (n := n) o.ctr 1
  exact ⟨(compAdd_placed _ _ _ _).trans (congrArg Core.placed hleft.own), hcount, fun a ha => hregs a ha,
    fun m hm => (hcores m hm).trans (hleft.coresExcept m hm), hmem, hpending⟩

/-- What the completion of tile o has changed in t, whether its tier refused it or not. -/
structure TileLeft (n : Nat) (o : OutTile) (s t : State) : Prop where
  placed : (t.core n).placed = (s.core n).placed.filter fun p => !(p.openId == o.openId && p.tile == o.tile)
  count : t.fld (F.COMP_COUNT n o.ctr) = (s.fld (F.COMP_COUNT n o.ctr) + 1) % 2 ^ 32
  cores : CoresExcept [n] s t
  mem : MemSame s t

/-- A raised source leaves memory, queue and cores as they were. -/
theorem raise_frame (s : State) (i : Nat) :
    (s.raise i).mem = s.mem ∧ (s.raise i).pending = s.pending ∧ (s.raise i).cores = s.cores := by
  have hraised := raise_onlyEvents s i
  exact ⟨hraised.mem.trans (State.setFld_mem ..), hraised.pending.trans (State.setFld_pending ..),
    hraised.cores.trans (State.setFld_cores ..)⟩

/-- A failed tile-moving write is noted with its core alone, and the placed tiles stay (R482). -/
theorem tileFail_coreSet (s : State) (n y : Nat) : ∃ c, c.placed = (s.core n).placed ∧ CoreSet n c s (s.tileFail n y) := by
  unfold State.tileFail
  refine ⟨_, ?_, coreSet_setCore s n _⟩
  rfl

@[simp] theorem tileFail_reg (s : State) (n y a : Nat) : (s.tileFail n y).reg a = s.reg a := rfl

@[simp] theorem tileFail_fld (s : State) (n y : Nat) (f : Fld) : (s.tileFail n y).fld f = s.fld f := rfl

/-- A refusal is recorded, raises the event of core n and fails the journal's writes of the syllable (R241, R482). -/
def refusalNoted (s : State) (n kind tier d status tile syl : Nat) : State :=
  ((tierErr s n kind tier true d status tile).raise n).tileFail n syl

section
variable (s : State) (n kind tier d status tile syl : Nat)

theorem refusalNoted_regs : RegsExcept
    ([R.TIER_ERR_COUNT n, R.TIER_ERR n] ++ [R.RAW (n / 64), R.PEND (n / 64), R.EVC_MERGED]) s
    (refusalNoted s n kind tier d status tile syl) := fun a ha => by
  rw [refusalNoted, tileFail_reg]
  exact (tierErr_onlyEvents s n kind tier true d status tile).regs.trans (raise_regs _ n) a ha

/-- A noted refusal leaves memory, queue, the other cores and the placed tiles as they were. -/
theorem refusalNoted_frame : (refusalNoted s n kind tier d status tile syl).mem = s.mem ∧
    (refusalNoted s n kind tier d status tile syl).pending = s.pending ∧
    CoresExcept [n] s (refusalNoted s n kind tier d status tile syl) ∧
    ((refusalNoted s n kind tier d status tile syl).core n).placed = (s.core n).placed := by
  have hnoted := tierErr_onlyEvents s n kind tier true d status tile
  obtain ⟨hmem, hpending, hraised⟩ := raise_frame (tierErr s n kind tier true d status tile) n
  have hcores := hraised.trans hnoted.cores
  obtain ⟨c, hplaced, hfailed⟩ := tileFail_coreSet ((tierErr s n kind tier true d status tile).raise n) n syl
  rw [State.core_of_cores hcores] at hplaced
  rw [refusalNoted, hfailed.own]
  exact ⟨hfailed.mem.trans (hmem.trans hnoted.mem), hfailed.pending.trans (hpending.trans hnoted.pending),
    fun m hm => (hfailed.coresExcept m hm).trans (State.core_of_cores hcores m), hplaced⟩

theorem refusalNoted_raw : (refusalNoted s n kind tier d status tile syl).fld (rawFld n) = 1 := by
  rw [refusalNoted, tileFail_fld, raise_raw]

/-- After the record, a noted refusal changes no register but those of its event. -/
theorem refusalNoted_fld {f : Fld} (hf : f.addr ∉ [R.RAW (n / 64), R.PEND (n / 64), R.EVC_MERGED]) :
    (refusalNoted s n kind tier d status tile syl).fld f = (tierErr s n kind tier true d status tile).fld f := by
  rw [refusalNoted, tileFail_fld, (raise_regs _ n).fld hf]

theorem refusalNoted_count : (refusalNoted s n kind tier d status tile syl).fld (F.TIER_ERR_COUNT_COUNT n) =
    s.sat (F.TIER_ERR_COUNT_COUNT n) 1 := by
  rw [refusalNoted_fld _ _ _ _ _ _ _ _ (by simp [R.TIER_ERR_COUNT, R.RAW, R.PEND, R.EVC_MERGED]; omega), tierErr_count]

variable {kind tier d status}

theorem refusalNoted_valid (hkind : kind < 8) (htier : tier < 4) (hd : d < 32) (hstatus : status < 256) :
    (refusalNoted s n kind tier d status tile syl).fld (F.TIER_ERR_VALID n) = 1 := by
  rw [refusalNoted_fld _ _ _ _ _ _ _ _ (by simp [R.TIER_ERR, R.RAW, R.PEND, R.EVC_MERGED]; omega),
    tierErr_valid s n true tile hkind htier hd hstatus]

end

theorem coreState_tileCounted (s : State) (n : Nat) (o : OutTile) : coreState (tileCounted s n o) n = coreState s n := by
  obtain ⟨-, -, hregs, -⟩ := tileCounted_spec s n o
  exact hregs.fld (by simp [R.COMP, R.SEQ_CTRL]; omega)

section
variable {s : State} {n d : Nat} {o : OutTile} (hfind : (s.core n).placed.find? (fun q => q.d == d) = some o)
  (hended : noneEnded s)
include hfind hended

theorem outputTileComplete_waits (h : o.started = false ∨ o.left ≠ []) : outputTileComplete s n d = s := by
  simp only [outputTileComplete, settleTier_of_noneEnded hended, hfind, if_pos h]

variable (hopen : coreState s n ≠ 2) (hstarted : o.started = true) (hleft : o.left = [])
include hopen hstarted hleft

theorem outputTileComplete_accepted (hrefused : o.refused = none) : outputTileComplete s n d = tileCounted s n o := by
  have hdone : ¬ (o.started = false ∨ o.left ≠ []) := by simp [hstarted, hleft]
  simp only [outputTileComplete, settleTier_of_noneEnded hended, hfind, if_neg hdone, hrefused]
  exact if_neg (coreState_tileCounted s n o ▸ hopen)

/-- A tile that its tier refused counts all the same, and is recorded, and raises the event of its core. -/
theorem outputTileComplete_refused {k st : Nat} (hrefused : o.refused = some (k, st)) : outputTileComplete s n d =
    refusalNoted (tileCounted s n o) n k (dTier o.desc) o.d st o.tile o.syl := by
  have hdone : ¬ (o.started = false ∨ o.left ≠ []) := by simp [hstarted, hleft]
  simp only [outputTileComplete, settleTier_of_noneEnded hended, hfind, if_neg hdone, hrefused]
  exact congrArg (refusalNoted · n k (dTier o.desc) o.d st o.tile o.syl) (if_neg (coreState_tileCounted s n o ▸ hopen))

end

section
variable {n : Fin 64} {d : Fin 32} {s : State} {o : OutTile} (hup : s.up = true)
include hup

section
variable (hfind : (s.core n).placed.find? (fun q => q.d == d.val && !q.started) = some o)
include hfind

/-- A placed tile issues nothing before its bytes stand in staging (R241). -/
theorem exec_outputTileWrite_early (hearly : s.now < o.visible) : exec (.outputTileWrite n d) s = .next s :=
  exec_row hup exec_outputTileWrite_row (outputTileWrite_early hfind hearly) rfl

variable (hvisible : o.visible ≤ s.now)
include hvisible

/-- A suppressed tile is passed over without a write (R160). -/
theorem runs_outputTileWrite_suppressed (hsup : o.suppressed = true) : Runs (.outputTileWrite n d) s (fun t =>
    t.core n = { s.core n with placed := (s.core n).placed.map fun p =>
      if p.openId == o.openId && p.tile == o.tile then { o with started := true } else p } ∧
    t.mc = s.mc ∧ t.fl = s.fl ∧ t.fab = s.fab ∧ RegsExcept [] s t ∧ CoresExcept [n.val] s t ∧ MemSame s t) := by
  have hput : TilePut n { o with started := true } s (setPlaced s n { o with started := true }) := ⟨rfl, rfl, rfl, rfl⟩
  exact ⟨_, exec_row hup exec_outputTileWrite_row (outputTileWrite_suppressed hfind hvisible hsup) rfl,
    hput.core, rfl, rfl, rfl, hput.frame⟩

variable (hsup : o.suppressed = false)
include hsup

/-- A tile for LPDDR 6 queues its writes by unit (R241, R243). -/
theorem runs_outputTileWrite_lpddr (htier : dTier o.desc = 1) : Runs (.outputTileWrite n d) s (fun t =>
    t.mc.wait.map (fun q => (q.unit, q.wr)) = s.mc.wait.map (fun q => (q.unit, q.wr)) ++
      (segUnits (outSegments s o)).map (fun u => (u, unitSegs (outSegments s o) u)) ∧
    RegsExcept [] s t ∧ CoresExcept [n.val] s t ∧ MemSame s t) := by
  obtain ⟨hput, hwait⟩ := outputTileWrite_lpddr hfind hvisible hsup htier
  exact runs_row hup exec_outputTileWrite_row hput.pending ⟨hwait, hput.frame⟩

/-- A tile for flash queues one write (R241). -/
theorem runs_outputTileWrite_flash (htier : dTier o.desc = 2) : Runs (.outputTileWrite n d) s (fun t =>
    t.fl.reqs.map (fun q => q.wr) = s.fl.reqs.map (fun q => q.wr) ++ [outSegments s o] ∧
    RegsExcept [] s t ∧ CoresExcept [n.val] s t ∧ MemSame s t) := by
  obtain ⟨hput, hreqs⟩ := outputTileWrite_flash hfind hvisible hsup htier
  exact runs_row hup exec_outputTileWrite_row hput.pending ⟨hreqs, hput.frame⟩

end

variable (hfind : (s.core n).placed.find? (fun q => q.d == d.val) = some o) (hended : noneEnded s)
include hfind hended

/-- The oldest tile stays until every write of it has completed (R241). -/
theorem exec_outputTileComplete_waits (h : o.started = false ∨ o.left ≠ []) :
    exec (.outputTileComplete n d) s = .next s :=
  exec_row hup exec_outputTileComplete_row (outputTileComplete_waits hfind hended h) rfl

variable (hopen : coreState s n ≠ 2) (hstarted : o.started = true) (hleft : o.left = [])
include hopen hstarted hleft

/-- A tile that its tier wrote leaves and counts, and nothing else of the registers changes (R150, R241). -/
theorem runs_outputTileComplete_accepted (hrefused : o.refused = none) :
    Runs (.outputTileComplete n d) s fun t => TileLeft n o s t ∧ RegsExcept [R.COMP n o.ctr] s t := by
  obtain ⟨hplaced, hcount, hregs, hcores, hmem, hpending⟩ := tileCounted_spec s n o
  exact ⟨_, exec_row hup exec_outputTileComplete_row
      (outputTileComplete_accepted hfind hended hopen hstarted hleft hrefused) hpending,
    ⟨hplaced, hcount, hcores, State.byte_of_mem hmem⟩, hregs⟩

/-- A tile that its tier refused leaves and counts as well; the refusal is counted and recorded, and the core's event raised
(R241), for a counter that the core has and a KIND and FSTATUS that the fields of TIER_ERR hold (Table 9.12). -/
theorem runs_outputTileComplete_refused {k st : Nat} (hrefused : o.refused = some (k, st)) (hctr : o.ctr < 16) (hkind : k < 8)
    (hstatus : st < 256) : Runs (.outputTileComplete n d) s fun t => TileLeft n o s t ∧
      t.fld (F.TIER_ERR_COUNT_COUNT n) = s.sat (F.TIER_ERR_COUNT_COUNT n) 1 ∧ t.fld (F.TIER_ERR_VALID n) = 1 ∧
      t.fld (rawFld n) = 1 := by
  obtain ⟨hplaced, hcount, hregs, hcores, hmem, hpending⟩ := tileCounted_spec s n o
  have hd : o.d < 32 := by
    have hnumber := List.find?_some hfind
    rw [beq_iff_eq] at hnumber
    omega
  have htier : dTier o.desc < 4 := Nat.mod_lt _ (by decide)
  obtain ⟨hmem', hpending', hcores', hplaced'⟩ := refusalNoted_frame (tileCounted s n o) n k (dTier o.desc) o.d st o.tile o.syl
  have hcounter : R.COMP n o.ctr ∉
      [R.TIER_ERR_COUNT n, R.TIER_ERR n] ++ [R.RAW (n / 64), R.PEND (n / 64), R.EVC_MERGED] := by
    simp [R.COMP, R.TIER_ERR_COUNT, R.TIER_ERR, R.RAW, R.PEND, R.EVC_MERGED]
    omega
  have hnoted := refusalNoted_regs (tileCounted s n o) n k (dTier o.desc) o.d st o.tile o.syl
  have herrors : R.TIER_ERR_COUNT n ∉ [R.COMP n o.ctr] := by simp [R.COMP, R.TIER_ERR_COUNT]; omega
  refine ⟨_, exec_row hup exec_outputTileComplete_row
    (outputTileComplete_refused hfind hended hopen hstarted hleft hrefused) (hpending'.trans hpending),
    ⟨?_, ?_, ?_, ?_⟩, ?_, ?_, ?_⟩
  · exact hplaced'.trans hplaced
  · exact (hnoted.fld hcounter).trans hcount
  · exact fun m hm => (hcores' m hm).trans (hcores m hm)
  · exact State.byte_of_mem (hmem'.trans hmem)
  · exact (refusalNoted_count ..).trans (State.sat_of_regs hregs herrors 1)
  · exact refusalNoted_valid _ _ _ _ hkind htier hd hstatus
  · exact refusalNoted_raw ..

end

end Sys2Proof.Machine
end

section
/-! SUPPORT. A refusal whose KIND is too large for the field of TIER_ERR (Table 9.12). -/

namespace Sys2Proof.Machine

/-- Tile 0 of an output stream of core 0 to LPDDR 6: its writes have completed, and one was refused with a KIND of four bits. -/
def kindlessTile : OutTile := ⟨0, 0, 0, 0, BitVec.ofNat 256 (2 ^ 244), 0, 0, false, true, [], some (8, 0), 0⟩

/-- Core 0 has placed that tile and no other. -/
def kindlessRefusal : State := State.reset.setCore 0 { Core.reset with placed := [kindlessTile] }

theorem kindlessRefusal_noneEnded : noneEnded kindlessRefusal := fun _ h => absurd h List.not_mem_nil

/-- The record is not valid: bit 3 of KIND, which stands from bit 60 on, carries out of VALID. -/
theorem kindlessRefusal_record : (outputTileComplete kindlessRefusal 0 0).fld (F.TIER_ERR_VALID 0) = 0 := by decide +kernel

end Sys2Proof.Machine
end

section
open Sys2Proof Sys2Proof.Machine

/-- Refutes O40: the statement takes every KIND of a refusal, and one of 8 clears VALID of TIER_ERR. All else that it says holds:
the writes (`exec_outputTileWrite_early`, `runs_outputTileWrite_suppressed`, `runs_outputTileWrite_lpddr`,
`runs_outputTileWrite_flash`), the tile that waits (`exec_outputTileComplete_waits`) or was accepted
(`runs_outputTileComplete_accepted`), and, for values that the registers hold, the refusal (`runs_outputTileComplete_refused`). -/
theorem not_outputTiles : ¬ Obligations.OutputTiles := by
  unfold Obligations.OutputTiles
  intro h
  obtain ⟨-, hcomplete⟩ := h 0 0 kindlessRefusal kindlessTile rfl
  obtain ⟨-, hends⟩ := hcomplete rfl kindlessRefusal_noneEnded (by decide +kernel)
  obtain ⟨-, -, -, hrefused, -⟩ := Runs.of_row (f := fun s => outputTileComplete s 0 0) rfl rfl (hends rfl rfl)
  obtain ⟨-, hvalid, -⟩ := hrefused 8 0 rfl
  have hinvalid := kindlessRefusal_record
  rw [← State.fld_pending _ kindlessRefusal.pending] at hinvalid
  exact absurd (hvalid.symm.trans hinvalid) (by decide)

end

section
/-! SUPPORT. One-bit fields, software writes of one register, and the maintenance arbiter while it is idle (R5, R499, R500). -/

namespace Sys2Proof.Machine

/-! ### One-bit fields and writes by type -/

theorem State.flag_eq_false {s : State} {f : Fld} : s.flag f = false ↔ s.fld f = 0 := by simp [State.flag]

theorem State.flag_eq_true {s : State} {f : Fld} : s.flag f = true ↔ s.fld f ≠ 0 := by simp [State.flag]

/-- A field of one bit that is not clear holds 1. -/
theorem State.fld_eq_one_of_flag {s : State} {f : Fld} (hbit : f.hi = f.lo) (h : s.flag f = true) : s.fld f = 1 := by
  have hlt : s.fld f < 2 ^ (f.hi + 1 - f.lo) := getBits_lt _ _ _
  rw [hbit, Nat.add_sub_cancel_left, pow_one] at hlt
  have hne := State.flag_eq_true.mp h
  omega

/-- A software write by type changes the register written alone. -/
theorem writeByType_onlyEvents (s : State) (a : Nat) (sz : AccSz) (v : Word) : OnlyEvents [a] s (s.writeByType a sz v) := by
  unfold State.writeByType
  split
  · exact OnlyEvents.refl _ s
  · exact (OnlyEvents.refl _ s).setReg _ List.mem_cons_self

/-- The answer plays no role in a write by type. -/
theorem okReply_writeByType (s : State) (a : Nat) (sz : AccSz) (v : Word) :
    (okReply s).writeByType a sz v = okReply (s.writeByType a sz v) := by
  unfold State.writeByType
  split <;> rfl

theorem okReply_flag (s : State) (f : Fld) : (okReply s).flag f = s.flag f := rfl

theorem OnlyEvents.mc {as : List Nat} {s t : State} (h : OnlyEvents as s t) : t.mc = s.mc := by obtain ⟨_, _, rfl, _⟩ := h; rfl
theorem OnlyEvents.arb {as : List Nat} {s t : State} (h : OnlyEvents as s t) : t.arb = s.arb := by obtain ⟨_, _, rfl, _⟩ := h; rfl

theorem OnlyEvents.frame {as : List Nat} {s t : State} (h : OnlyEvents as s t) :
    RegsExcept as s t ∧ CoresExcept [] s t ∧ MemSame s t :=
  ⟨h.regs, fun n _ => State.core_of_cores h.cores n, State.byte_of_mem h.mem⟩

/-! ### The arbiter -/

theorem arbIdle_of_arb {s t : State} (harb : t.arb = s.arb) (hidle : arbIdle s) : arbIdle t := by rwa [arbIdle, harb]

theorem arbEnd_csr (s : State) (a : MaintAct) : (arbEnd s a).csr = s.csr := rfl
theorem arbEnd_pending (s : State) (a : MaintAct) : (arbEnd s a).pending = s.pending := rfl
theorem arbEnd_mc (s : State) (a : MaintAct) : (arbEnd s a).mc = s.mc := rfl
theorem arbEnd_mem (s : State) (a : MaintAct) : (arbEnd s a).mem = s.mem := rfl
theorem arbEnd_fld (s : State) (a : MaintAct) (f : Fld) : (arbEnd s a).fld f = s.fld f := State.fld_of_csr (arbEnd_csr s a) f

/-- One activity runs, and none waits. -/
def soleRun (s : State) (a : MaintAct) : State := { s with arb := ⟨[a], []⟩ }

theorem soleRun_pending (s : State) (a : MaintAct) : (soleRun s a).pending = s.pending := rfl
theorem soleRun_byte (s : State) (a : MaintAct) (b : Nat) : (soleRun s a).byte b = s.byte b := rfl
theorem soleRun_fld (s : State) (a : MaintAct) (f : Fld) : (soleRun s a).fld f = s.fld f := State.fld_of_csr rfl f

section
variable {s : State} (hidle : arbIdle s)
include hidle

theorem arb_eq_of_idle : s.arb = ⟨[], []⟩ := by
  obtain ⟨hrun, hwait⟩ := hidle
  cases harb : s.arb with
  | mk run wait => rw [harb] at hrun hwait; exact congrArg₂ Arb.mk hrun hwait

/-- Nothing that waits is ready, as nothing waits. -/
theorem arbReady_of_idle (a : MaintAct) : arbReady s a = false := by simp [arbReady, arb_eq_of_idle hidle]

/-- A scrub, a spare-in or a retirement runs at once (R499). -/
theorem arbRequest_of_idle {a : MaintAct} (hcode : a.code < 3) : arbRequest s a = (true, soleRun s a) := by
  have h10 : a.code ≠ 10 := by omega
  simp [arbRequest, maintBlocked, arbBegin, soleRun, arb_eq_of_idle hidle, h10]

/-- An activity that ran alone has ended: the arbiter is as it was. -/
theorem arbEnd_of_idle {t : State} {a : MaintAct} (harb : t.arb = ⟨[a], []⟩) : (arbEnd t a).arb = s.arb := by
  simp [arbEnd, harb, arb_eq_of_idle hidle]

end

end Sys2Proof.Machine
end

section
/-! SUPPORT. Uncorrectable words, the scrub, the spare rows and the retirement of a subchannel (R258, R259, R262 to R267). -/

namespace Sys2Proof.Machine

/-! ### Uncorrectable words (R258, R259, R263) -/

/-- The registers of the event of controller c, which is source 88 + c. -/
def mcEventRegs (c : Nat) : List Nat := [R.RAW ((88 + c) / 64), R.PEND ((88 + c) / 64), R.EVC_MERGED]

/-- A register of a controller's block is none of its event. -/
theorem not_mem_mcEventRegs {a c : Nat} (ha : 0x7f0000600000 + c * 0x10000 ≤ a) : a ∉ mcEventRegs c := by
  simp only [mcEventRegs, R.RAW, R.PEND, R.EVC_MERGED, List.mem_cons, List.not_mem_nil, or_false]
  omega

theorem mcRaise_onlyEvents (s : State) (c : Nat) : OnlyEvents (mcEventRegs c) s (s.raise (88 + c)) := raise_events s (88 + c)

/-- Registers and events changed of a state in which a unit is poisoned as well. -/
theorem OnlyEvents.setPoison {as : List Nat} {s t : State} (h : OnlyEvents as s t) (u : Nat) (b : Bool) :
    OnlyEvents as (s.setPoison u b) (t.setPoison u b) := by
  obtain ⟨c, e, rfl, hregs⟩ := h
  exact ⟨c, e, rfl, hregs⟩

theorem State.poisoned_setPoison (s : State) (u : Nat) (b : Bool) : (s.setPoison u b).poisoned u = b := look_put_same _ _ _

section
variable (s : State) (u words src : Nat)

/-- Beside the poison, an uncorrectable unit changes the count, the record and the event of its controller alone. -/
theorem mcUncorr_onlyEvents : OnlyEvents ([R.MC_UE_COUNT (mcOf u), R.MC_ERR_LAST (mcOf u)] ++ mcEventRegs (mcOf u))
    (s.setPoison u true) (mcUncorr s u words src) := by
  have hcount := (incFld_onlyEvents s (F.MC_UE_COUNT_COUNT (mcOf u)) words).mono
    (bs := [R.MC_UE_COUNT (mcOf u), R.MC_ERR_LAST (mcOf u)]) (by simp)
  unfold mcUncorr
  dsimp only
  refine (OnlyEvents.mono (OnlyEvents.setPoison ?_ u true) (List.subset_append_left _ _)).trans
    ((mcRaise_onlyEvents _ _).mono (List.subset_append_right _ _))
  split
  · exact hcount
  · exact hcount.setReg _ (by simp)

/-- Its words are counted (R10). -/
theorem mcUncorr_ueCount :
    (mcUncorr s u words src).fld (F.MC_UE_COUNT_COUNT (mcOf u)) = s.sat (F.MC_UE_COUNT_COUNT (mcOf u)) words := by
  have hcount := State.fld_incFld_same s (F.MC_UE_COUNT_COUNT (mcOf u)) words (by simp)
  unfold mcUncorr
  dsimp only
  rw [(mcRaise_onlyEvents _ _).regs.fld (not_mem_mcEventRegs (by simp))]
  split
  · exact hcount
  · exact (State.fld_setReg_ne _ _ _ (by simp)).trans hcount

/-- A candidate for a spare row is noted in SPARE_STATUS, with the controller's event. -/
theorem spareCand_onlyEvents (c sub bank row : Nat) :
    OnlyEvents (R.SPARE_STATUS c :: mcEventRegs c) s (spareCand s c sub bank row) :=
  (((((OnlyEvents.refl _ s).setFld (f := F.SPARE_STATUS_CAND c) 1 (by simp)).setFld (f := F.SPARE_STATUS_C_SUBCH c) sub
    (by simp)).setFld (f := F.SPARE_STATUS_C_BANK c) bank (by simp)).setFld (f := F.SPARE_STATUS_C_ROW c) row (by simp)).trans
    ((mcRaise_onlyEvents _ c).mono (List.subset_cons_self _ _))

/-- An uncorrectable unit whose row becomes a candidate: it is poisoned, its words are counted, and memory and queue stay. -/
theorem mcUncorrRow_spec : (mcUncorrRow s u words src).mc = (s.setPoison u true).mc ∧
    (mcUncorrRow s u words src).fld (F.MC_UE_COUNT_COUNT (mcOf u)) = s.sat (F.MC_UE_COUNT_COUNT (mcOf u)) words ∧
    (mcUncorrRow s u words src).mem = s.mem ∧ (mcUncorrRow s u words src).pending = s.pending := by
  have hfound := mcUncorr_onlyEvents s u words src
  have hcand := spareCand_onlyEvents (mcUncorr s u words src) (mcOf u) (unitHome s u).1 ((unitHome s u).2 % 16)
    (Config.rowOf (unitHome s u).2 % 2 ^ 32)
  refine ⟨hcand.mc.trans hfound.mc, ?_, hcand.mem.trans hfound.mem, hcand.pending.trans hfound.pending⟩
  refine (hcand.regs.fld ?_).trans (mcUncorr_ueCount s u words src)
  simp only [List.mem_cons, not_or]
  exact ⟨by simp, not_mem_mcEventRegs (by simp)⟩

end

/-! ### Training and the scrub (R254, R262) -/

/-- The result of training is reported while the controller is OFF. -/
theorem mcTraining_eq (s : State) (c : Nat) (good : BitVec 16) : mcTraining s c good =
    if mcState s c = 0 then s.setFld (F.MC_STATUS_TRAINED c) (if good = BitVec.allOnes 16 then 1 else 0) else s := by
  simp [mcTraining, b2n]

/-- The next unit that controller c scrubs. -/
abbrev scrubUnit (s : State) (c : Nat) : Nat := unitAt c (s.fld (F.SCRUB_STATUS_SUBCH c)) (s.fld (F.SCRUB_STATUS_UNIT c))

/-- The scrub of a channel, as an activity of the arbiter. -/
def scrubAct (s : State) (c : Nat) : MaintAct := ⟨0, c * 8 + s.fld (F.SCRUB_STATUS_SUBCH c) / 2⟩

theorem scrubAdvance_onlyEvents (s : State) (c : Nat) : OnlyEvents [R.SCRUB_STATUS c] s (scrubAdvance s c) := by
  have hset : ∀ {t : State}, OnlyEvents [R.SCRUB_STATUS c] s t → ∀ hi lo v, OnlyEvents [R.SCRUB_STATUS c] s
      (t.setFld ⟨R.SCRUB_STATUS c, hi, lo⟩ v) := fun h _ _ _ => h.setFld _ List.mem_cons_self
  have hrefl := OnlyEvents.refl [R.SCRUB_STATUS c] s
  unfold scrubAdvance
  dsimp only
  split
  · exact hset hrefl ..
  · split
    · exact hset (hset (hset hrefl ..) ..) ..
    · exact hset (hset hrefl ..) ..

/-- Inside a subchannel the position moves to the next unit. -/
theorem scrubAdvance_unit {s : State} {c : Nat} (hunit : s.fld (F.SCRUB_STATUS_UNIT c) + 1 < unitsPerSub) :
    (scrubAdvance s c).fld (F.SCRUB_STATUS_UNIT c) = s.fld (F.SCRUB_STATUS_UNIT c) + 1 := by
  rw [scrubAdvance, if_pos hunit, State.fld_setFld_same _ _ _ (by simp)]
  exact Nat.mod_eq_of_lt (hunit.trans (show unitsPerSub < 2 ^ 25 by decide))

/-- A controller that is not ON, or does not scrub, reads nothing. -/
theorem scrubRead_off {s : State} {c : Nat} (o : EccOut) (h : mcState s c ≠ 1 ∨ s.fld (F.SCRUB_CTRL_EN c) = 0) :
    scrubRead s c o = s :=
  if_pos (h.imp_right State.flag_eq_false.mpr)

section
variable {s : State} {c : Nat} (hon : mcState s c = 1) (hen : s.fld (F.SCRUB_CTRL_EN c) = 1) (hidle : arbIdle s)
include hon hen hidle

/-- A scrub read that finds no error. -/
theorem scrubRead_clean : scrubRead s c .clean = arbEnd (scrubAdvance (soleRun s (scrubAct s c)) c) (scrubAct s c) := by
  rw [scrubRead, if_neg (by simp [hon, State.flag, hen])]
  simp only [arbReady_of_idle hidle, arbRequest_of_idle hidle (a := ⟨0, _⟩) (by simp : (0 : Nat) < 3)]
  rfl

/-- A scrub read that finds k uncorrectable words in a unit not known as poisoned. -/
theorem scrubRead_uncorr (k : Nat) (hclear : s.poisoned (scrubUnit s c) = false) : scrubRead s c (.uncorr k) =
    arbEnd (scrubAdvance (mcUncorrRow (soleRun s (scrubAct s c)) (scrubUnit s c) k 1) c) (scrubAct s c) := by
  rw [scrubRead, if_neg (by simp [hon, State.flag, hen])]
  simp only [arbReady_of_idle hidle, arbRequest_of_idle hidle (a := ⟨0, _⟩) (by simp : (0 : Nat) < 3), hclear]
  rfl

end

/-! ### Spare rows (R264) -/

theorem spareStart_onlyEvents (s : State) (c : Nat) : OnlyEvents [R.SPARE_STATUS c] s (spareStart s c) :=
  ((OnlyEvents.refl _ s).setFld (f := F.SPARE_STATUS_BUSY c) 1 (by simp)).setFld (f := F.SPARE_STATUS_RESULT c) 0 (by simp)

/-- A spare-in that starts is BUSY, without a result yet. -/
theorem spareStart_status (s : State) (c : Nat) :
    (spareStart s c).fld (F.SPARE_STATUS_BUSY c) = 1 ∧ (spareStart s c).fld (F.SPARE_STATUS_RESULT c) = 0 := by
  simp [spareStart, State.fld_setFld_ne]

/-- The bank that SPARE_CMD names. -/
abbrev spareBank (s : State) (c : Nat) : Nat := bankKey c (s.fld (F.SPARE_CMD_SUBCH c)) (s.fld (F.SPARE_CMD_BANK c))

section
variable {s w : State} {c : Nat} {sz : AccSz} {v : Word} (hfree : s.fld (F.SPARE_CMD_GO c) = 0)
  (hw : s.writeByType (R.SPARE_CMD c) sz v = w) (hgo : w.flag (F.SPARE_CMD_GO c) = true)
include hfree hw hgo

/-- GO of a free SPARE_CMD looks for a spare row of the bank that the command names. -/
theorem spareCmdWrite_go : spareCmdWrite (okReply s) c sz v =
    if 32 ≤ look (fun _ => 0) w.mc.used (spareBank w c) then
      ((okReply w).setFld (F.SPARE_CMD_GO c) 0).setFld (F.SPARE_STATUS_RESULT c) 2
    else if (arbRequest (okReply w) (spareAct w c)).1 then spareStart (arbRequest (okReply w) (spareAct w c)).2 c
    else (arbRequest (okReply w) (spareAct w c)).2.setFld (F.SPARE_STATUS_RESULT c) 3 := by
  unfold spareCmdWrite
  dsimp only
  rw [if_neg (by rw [okReply_flag, State.flag_eq_false.mpr hfree]; decide), okReply_writeByType, hw,
    if_neg (by rw [okReply_flag, hgo]; decide)]
  rfl

/-- With a spare row left in the bank, the copy starts. -/
theorem spareCmdWrite_started (hidle : arbIdle w) (hused : look (fun _ => 0) w.mc.used (spareBank w c) < 32) :
    spareCmdWrite (okReply s) c sz v = spareStart (soleRun (okReply w) (spareAct w c)) c := by
  have hrequest : arbRequest (okReply w) (spareAct w c) = (true, soleRun (okReply w) (spareAct w c)) :=
    arbRequest_of_idle (s := okReply w) hidle (show 1 < 3 by decide)
  rw [spareCmdWrite_go hfree hw hgo, if_neg (Nat.not_le.mpr hused), hrequest]
  exact if_pos rfl

/-- Without one, the command ends with NO_SPARE. -/
theorem spareCmdWrite_noSpare (hused : 32 ≤ look (fun _ => 0) w.mc.used (spareBank w c)) :
    spareCmdWrite (okReply s) c sz v = ((okReply w).setFld (F.SPARE_CMD_GO c) 0).setFld (F.SPARE_STATUS_RESULT c) 2 := by
  rw [spareCmdWrite_go hfree hw hgo, if_pos hused]

end

/-- The next spare row of the bank stands for the row that SPARE_CMD names. -/
def rowRemapped (s : State) (c : Nat) : State :=
  let k := look (fun _ => 0) s.mc.used (spareBank s c) + 1
  { s with mc := { s.mc with
      remap := put (fun _ => 0) s.mc.remap
        (rowKey c (s.fld (F.SPARE_CMD_SUBCH c)) (s.fld (F.SPARE_CMD_BANK c)) (s.fld (F.SPARE_CMD_ROW c))) k
      used := put (fun _ => 0) s.mc.used (spareBank s c) k } }

theorem rowRemapped_used (s : State) (c : Nat) : look (fun _ => 0) (rowRemapped s c).mc.used (spareBank s c) =
    look (fun _ => 0) s.mc.used (spareBank s c) + 1 := by
  rw [rowRemapped]
  exact look_put_same s.mc.used (spareBank s c) (look (fun _ => 0) s.mc.used (spareBank s c) + 1)

theorem rowRemapped_remap (s : State) (c : Nat) : look (fun _ => 0) (rowRemapped s c).mc.remap
    (rowKey c (s.fld (F.SPARE_CMD_SUBCH c)) (s.fld (F.SPARE_CMD_BANK c)) (s.fld (F.SPARE_CMD_ROW c))) =
      look (fun _ => 0) s.mc.used (spareBank s c) + 1 := by
  rw [rowRemapped]
  exact look_put_same s.mc.remap _ (look (fun _ => 0) s.mc.used (spareBank s c) + 1)

/-- The command of SPARE_CMD has ended well. -/
def spareEnded (s : State) (c : Nat) : State :=
  ((s.setFld (F.SPARE_CMD_GO c) 0).setFld (F.SPARE_STATUS_BUSY c) 0).setFld (F.SPARE_STATUS_RESULT c) 1

theorem spareEnded_onlyEvents (s : State) (c : Nat) : OnlyEvents [R.SPARE_CMD c, R.SPARE_STATUS c] s (spareEnded s c) :=
  (((OnlyEvents.refl _ s).setFld (f := F.SPARE_CMD_GO c) 0 (by simp)).setFld (f := F.SPARE_STATUS_BUSY c) 0 (by simp)).setFld
    (f := F.SPARE_STATUS_RESULT c) 1 (by simp)

theorem spareEnded_status (s : State) (c : Nat) : (spareEnded s c).fld (F.SPARE_CMD_GO c) = 0 ∧
    (spareEnded s c).fld (F.SPARE_STATUS_BUSY c) = 0 ∧ (spareEnded s c).fld (F.SPARE_STATUS_RESULT c) = 1 := by
  simp [spareEnded, State.fld_setFld_ne]

/-- No copy has ended where none runs. -/
theorem spareCopyDone_idle {s : State} {c : Nat} (bad : List Nat)
    (h : s.fld (F.SPARE_CMD_GO c) = 0 ∨ s.fld (F.SPARE_STATUS_BUSY c) = 0) : spareCopyDone s c bad = s :=
  if_pos (h.imp State.flag_eq_false.mpr State.flag_eq_false.mpr)

/-- A copy without uncorrectable units ends: the row is remapped and the command done. -/
theorem spareCopyDone_good {s : State} {c : Nat} (hgo : s.fld (F.SPARE_CMD_GO c) = 1) (hbusy : s.fld (F.SPARE_STATUS_BUSY c) = 1) :
    spareCopyDone s c [] = arbEnd (spareEnded (rowRemapped s c) c) (spareAct s c) := by
  rw [spareCopyDone, if_neg (by simp [State.flag, hgo, hbusy])]
  rfl

/-! ### Retirement (R265 to R267) -/

/-- The controllers of a list enter reserve mode. -/
def reserveMode (s : State) (ks : List Nat) : State := ks.foldl (fun st k => st.setFld (F.MC_STATUS_RESERVE k) 1) s

theorem reserveMode_onlyEvents (s : State) (ks : List Nat) : OnlyEvents (ks.map R.MC_STATUS) s (reserveMode s ks) := by
  induction ks generalizing s with
  | nil => exact OnlyEvents.refl _ s
  | cons k ks ih =>
    exact ((OnlyEvents.refl _ s).setFld 1 (by simp)).trans ((ih _).mono (List.subset_cons_self _ _))

/-- Every controller of the list is in reserve mode then. -/
theorem reserveMode_reserve (s : State) {ks : List Nat} {k : Nat} (hk : k ∈ ks) :
    (reserveMode s ks).fld (F.MC_STATUS_RESERVE k) = 1 := by
  induction ks generalizing s with
  | nil => exact absurd hk List.not_mem_nil
  | cons j ks ih =>
    by_cases hlater : k ∈ ks
    · exact ih _ hlater
    · obtain rfl : k = j := (List.mem_cons.mp hk).resolve_right hlater
      refine ((reserveMode_onlyEvents _ ks).regs.fld ?_).trans (State.fld_setFld_same s (F.MC_STATUS_RESERVE k) 1 (by simp))
      simp only [List.mem_map, R.MC_STATUS, not_exists, not_and]
      intro i hi heq
      exact hlater ((show i = k by omega) ▸ hi)

/-- A key reads as before in a part of the map that keeps its entries. -/
theorem look_filter_of_key {α : Type} {d : Nat → α} {p : Nat × α → Bool} {k : Nat} (hp : ∀ x, p (k, x) = true)
    (m : List (Nat × α)) : look d (m.filter p) k = look d m k := by
  induction m with
  | nil => rfl
  | cons e m ih =>
    obtain ⟨a, x⟩ := e
    by_cases ha : a = k
    · subst ha
      simp [hp x, look]
    · by_cases hkeep : p (a, x) = true
      · simp [hkeep, look, ha, ih]
      · simp [hkeep, look, ha, ih]

/-- Bytes outside the reserve stay. -/
theorem byte_discardAbove (s : State) {a : Nat} (ha : a < reserveEnd ∨ lpddrEnd ≤ a) : (discardAbove s).byte a = s.byte a :=
  look_filter_of_key (fun _ => by simp only [Bool.not_eq_true', Bool.and_eq_false_iff, decide_eq_false_iff_not]; omega) s.mem

/-- RETIRE_STATUS at the start of a retirement. -/
def retireStatus (s : State) (c sub : Nat) : State :=
  ((s.setFld (F.RETIRE_STATUS_STATE c) 1).setFld (F.RETIRE_STATUS_SUBCH c) sub).setFld (F.RETIRE_STATUS_PTR c) 0

theorem retireStatus_onlyEvents (s : State) (c sub : Nat) : OnlyEvents [R.RETIRE_STATUS c] s (retireStatus s c sub) :=
  (((OnlyEvents.refl _ s).setFld (f := F.RETIRE_STATUS_STATE c) 1 (by simp)).setFld (f := F.RETIRE_STATUS_SUBCH c) sub
    (by simp)).setFld (f := F.RETIRE_STATUS_PTR c) 0 (by simp)

theorem retireStatus_fields (s : State) (c sub : Nat) : (retireStatus s c sub).fld (F.RETIRE_STATUS_STATE c) = 1 ∧
    (retireStatus s c sub).fld (F.RETIRE_STATUS_PTR c) = 0 := by
  simp [retireStatus, State.fld_setFld_ne]

/-- The controllers of a list enter reserve mode and the retirement of a subchannel of controller c begins. -/
def retireStarted (s : State) (ks : List Nat) (c : Nat) : State :=
  retireStatus (discardAbove (reserveMode s ks)) c (s.fld (F.RETIRE_CMD_SUBCH c))

section
variable (s : State) (ks : List Nat) (c : Nat)

theorem retireStarted_onlyEvents : OnlyEvents [R.RETIRE_STATUS c] (discardAbove (reserveMode s ks)) (retireStarted s ks c) :=
  retireStatus_onlyEvents ..

theorem retireStarted_status :
    (retireStarted s ks c).fld (F.RETIRE_STATUS_STATE c) = 1 ∧ (retireStarted s ks c).fld (F.RETIRE_STATUS_PTR c) = 0 :=
  retireStatus_fields ..

theorem retireStarted_fld {f : Fld} (hf : f.addr ≠ R.RETIRE_STATUS c) : (retireStarted s ks c).fld f = (reserveMode s ks).fld f :=
  (retireStarted_onlyEvents s ks c).regs.fld (fun h => hf (List.mem_singleton.mp h))

theorem retireStarted_arb : (retireStarted s ks c).arb = s.arb :=
  (retireStarted_onlyEvents s ks c).arb.trans (reserveMode_onlyEvents s ks).arb

theorem retireStarted_pending : (retireStarted s ks c).pending = s.pending :=
  (retireStarted_onlyEvents s ks c).pending.trans (reserveMode_onlyEvents s ks).pending

theorem retireStarted_byte {a : Nat} (ha : a < reserveEnd ∨ lpddrEnd ≤ a) : (retireStarted s ks c).byte a = s.byte a :=
  calc (retireStarted s ks c).byte a = (discardAbove (reserveMode s ks)).byte a :=
        State.byte_of_mem (retireStarted_onlyEvents s ks c).mem a
    _ = (reserveMode s ks).byte a := byte_discardAbove _ ha
    _ = s.byte a := State.byte_of_mem (reserveMode_onlyEvents s ks).mem a

end

/-- What bars a retirement at controller c: a core that is not OFF, an earlier retirement, or the CXL window (R267). -/
def retireBarred (s : State) (c : Nat) : Prop :=
  (∃ n : Fin 64, coreState s n ≠ 0) ∨ s.fld (F.RETIRE_STATUS_STATE c) ≠ 0 ∨ cxlAbove s = true

theorem retireBarred_iff (s : State) (c : Nat) : (((List.range 64).any fun n => coreState s n != 0) ||
    s.fld (F.RETIRE_STATUS_STATE c) != 0 || cxlAbove s) = true ↔ retireBarred s c := by
  have hcores : ((List.range 64).any fun n => coreState s n != 0) = true ↔ ∃ n : Fin 64, coreState s n ≠ 0 := by
    simp only [List.any_eq_true, List.mem_range, bne_iff_ne]
    exact ⟨fun ⟨n, hn, h⟩ => ⟨⟨n, hn⟩, h⟩, fun ⟨n, h⟩ => ⟨n, n.isLt, h⟩⟩
  rw [Bool.or_eq_true, Bool.or_eq_true, hcores, bne_iff_ne, or_assoc, retireBarred]

section
variable {s w : State} {c : Nat} {sz : AccSz} {v : Word} (hw : s.writeByType (R.RETIRE_CMD c) sz v = w)
  (hgo : w.flag (F.RETIRE_CMD_GO c) = true)
include hw hgo

/-- GO that is barred sets RET_ERR. -/
theorem retireCmdWrite_barred (hbar : retireBarred s c) : retireCmdWrite (okReply s) c sz v =
    ((okReply w).setFld (F.RETIRE_CMD_GO c) 0).setFld (F.RETIRE_STATUS_RET_ERR c) 1 := by
  unfold retireCmdWrite
  dsimp only
  rw [okReply_writeByType, hw,
    if_neg (by rw [okReply_flag, hgo]; decide),
    if_pos ((retireBarred_iff (okReply s) c).mpr hbar)]

/-- Otherwise the device enters reserve mode and the retirement runs. -/
theorem retireCmdWrite_started (hbar : ¬retireBarred s c) (hidle : arbIdle w) : retireCmdWrite (okReply s) c sz v =
    soleRun (retireStarted ((okReply w).setFld (F.RETIRE_CMD_GO c) 0) (List.range 16) c) ⟨2, c⟩ := by
  have hrequest := arbRequest_of_idle (a := ⟨2, c⟩) (arbIdle_of_arb
    (retireStarted_arb ((okReply w).setFld (F.RETIRE_CMD_GO c) 0) (List.range 16) c) hidle) (show 2 < 3 by decide)
  rw [retireStarted, retireStatus, reserveMode] at hrequest ⊢
  unfold retireCmdWrite
  dsimp only
  rw [okReply_writeByType, hw,
    if_neg (by rw [okReply_flag, hgo]; decide),
    if_neg (fun h => hbar ((retireBarred_iff (okReply s) c).mp h)), hrequest]

end

/-- A retirement that does not run has not ended. -/
theorem retireCopyDone_idle {s : State} {c : Nat} (bad : List Nat) (h : s.fld (F.RETIRE_STATUS_STATE c) ≠ 1) :
    retireCopyDone s c bad = s := if_pos (.inl h)

/-- RETIRE_STATUS after a retirement. -/
def retireDone (s : State) (c : Nat) : State := (s.setFld (F.RETIRE_STATUS_PTR c) reserveL).setFld (F.RETIRE_STATUS_STATE c) 2

theorem retireDone_onlyEvents (s : State) (c : Nat) : OnlyEvents [R.RETIRE_STATUS c] s (retireDone s c) :=
  ((OnlyEvents.refl _ s).setFld (f := F.RETIRE_STATUS_PTR c) reserveL (by simp)).setFld (f := F.RETIRE_STATUS_STATE c) 2 (by simp)

theorem retireDone_fields (s : State) (c : Nat) : (retireDone s c).fld (F.RETIRE_STATUS_STATE c) = 2 ∧
    (retireDone s c).fld (F.RETIRE_STATUS_PTR c) = reserveL := by
  simp [retireDone, State.fld_setFld_ne, reserveL]

/-- A retirement without uncorrectable units ends DONE, with the controller's event. -/
theorem retireCopyDone_good {s : State} {c : Nat} (hruns : s.fld (F.RETIRE_STATUS_STATE c) = 1)
    (hwait : s.arb.wait.contains ⟨2, c⟩ = false) :
    retireCopyDone s c [] = arbEnd ((retireDone s c).raise (88 + c)) ⟨2, c⟩ := by
  rw [retireCopyDone, if_neg (not_or.mpr ⟨not_not.mpr hruns, Bool.eq_false_iff.mp hwait⟩)]
  rfl

end Sys2Proof.Machine
end

section
/-! SUPPORT. The rows of the maintenance of a memory controller, from the command to the state that it leaves. -/

namespace Sys2Proof.Machine

theorem exec_bankRefresh_row {c : Fin 16} {s : State} : exec (.bankRefresh c) s = ifUp (fun s => bankRefresh s c) s := rfl

theorem exec_zqCalibration_row {c : Fin 16} {s : State} : exec (.zqCalibration c) s = ifUp (fun s => zqCalibration s c) s := rfl

theorem exec_mcTraining_row {c : Fin 16} {good : BitVec 16} {s : State} :
    exec (.mcTraining c good) s = ifUp (fun s => mcTraining s c good) s := rfl

theorem exec_scrubRead_row {c : Fin 16} {o : EccOut} {s : State} : exec (.scrubRead c o) s = ifUp (fun s => scrubRead s c o) s := rfl

theorem exec_spareCmdGo_row {c : Fin 16} {sz : AccSz} {v : Word} {s : State} :
    exec (.spareCmdGo c sz v) s = ifUp (fun s => spareCmdWrite (okReply s) c sz v) s := rfl

theorem exec_spareCopyDone_row {c : Fin 16} {bad : List Nat} {s : State} :
    exec (.spareCopyDone c bad) s = ifUp (fun s => spareCopyDone s c bad) s := rfl

theorem exec_retireCmdGo_row {c : Fin 16} {sz : AccSz} {v : Word} {s : State} :
    exec (.retireCmdGo c sz v) s = ifUp (fun s => retireCmdWrite (okReply s) c sz v) s := rfl

theorem exec_retireCopyDone_row {c : Fin 16} {bad : List Nat} {s : State} :
    exec (.retireCopyDone c bad) s = ifUp (fun s => retireCopyDone s c bad) s := rfl

variable {c : Fin 16} {s : State} (hup : s.up = true)
include hup

/-! ### The scrub -/

section
variable (hon : mcState s c = 1) (hen : s.fld (F.SCRUB_CTRL_EN c) = 1) (hidle : arbIdle s)
include hon hen hidle

theorem runs_scrubRead_clean (hunit : s.fld (F.SCRUB_STATUS_UNIT c) + 1 < unitsPerSub) :
    Runs (.scrubRead c .clean) s fun t => t.fld (F.SCRUB_STATUS_UNIT c) = s.fld (F.SCRUB_STATUS_UNIT c) + 1 ∧ t.arb = s.arb ∧
      t.mc = s.mc ∧ RegsExcept [R.SCRUB_STATUS c] s t ∧ CoresExcept [] s t ∧ MemSame s t := by
  have hmoved := scrubAdvance_onlyEvents (soleRun s (scrubAct s c)) c
  exact ⟨_, exec_row hup exec_scrubRead_row (scrubRead_clean hon hen hidle) hmoved.pending,
    scrubAdvance_unit (s := soleRun s (scrubAct s c)) hunit, arbEnd_of_idle hidle hmoved.arb, hmoved.mc, hmoved.frame⟩

theorem runs_scrubRead_uncorr {k : Nat} (hclear : s.poisoned (scrubUnit s c) = false) (hc : mcOf (scrubUnit s c) = c) :
    Runs (.scrubRead c (.uncorr k)) s fun t => t.poisoned (scrubUnit s c) = true ∧
      t.fld (F.MC_UE_COUNT_COUNT c) = s.sat (F.MC_UE_COUNT_COUNT c) k ∧ MemSame s t := by
  obtain ⟨hmc, hcount, hmem, hpending⟩ := mcUncorrRow_spec (soleRun s (scrubAct s c)) (scrubUnit s c) k 1
  have hmoved := scrubAdvance_onlyEvents (mcUncorrRow (soleRun s (scrubAct s c)) (scrubUnit s c) k 1) c
  rw [hc] at hcount
  refine ⟨_, exec_row hup exec_scrubRead_row (scrubRead_uncorr hon hen hidle k hclear) (hmoved.pending.trans hpending), ?_,
    (hmoved.regs.fld (by simp)).trans hcount, State.byte_of_mem (hmoved.mem.trans hmem)⟩
  exact (congrArg (fun m : Mc => look (fun _ => false) m.poison (scrubUnit s c)) (hmoved.mc.trans hmc)).trans
    (State.poisoned_setPoison _ _ _)

end

/-! ### Spare rows -/

section
variable {v : Word} (hfree : s.fld (F.SPARE_CMD_GO c) = 0)
  (hgo : (s.writeByType (R.SPARE_CMD c) .w64 v).flag (F.SPARE_CMD_GO c) = true)
include hfree hgo

theorem runs_spareCmdGo_started (hidle : arbIdle s)
    (hused : look (fun _ => 0) s.mc.used (spareBank (s.writeByType (R.SPARE_CMD c) .w64 v) c) < 32) :
    Runs (.spareCmdGo c .w64 v) s fun t => t.fld (F.SPARE_STATUS_BUSY c) = 1 ∧ t.fld (F.SPARE_STATUS_RESULT c) = 0 ∧
      t.fld (F.SPARE_CMD_GO c) = 1 ∧ t.arb.run = [spareAct t c] ∧ RegsExcept [R.SPARE_CMD c, R.SPARE_STATUS c] s t ∧
      MemSame s t := by
  have hwritten := writeByType_onlyEvents s (R.SPARE_CMD c) .w64 v
  generalize hw : s.writeByType (R.SPARE_CMD c) .w64 v = w at *
  have hstart := spareStart_onlyEvents (soleRun (okReply w) (spareAct w c)) c
  obtain ⟨hbusy, hresult⟩ := spareStart_status (soleRun (okReply w) (spareAct w c)) c
  have hcmd : ∀ hi lo, (spareStart (soleRun (okReply w) (spareAct w c)) c).fld ⟨R.SPARE_CMD c, hi, lo⟩ =
      w.fld ⟨R.SPARE_CMD c, hi, lo⟩ := fun _ _ => hstart.regs.fld (by simp)
  refine ⟨_, exec_row hup exec_spareCmdGo_row (spareCmdWrite_started hfree hw hgo (arbIdle_of_arb hwritten.arb hidle)
    (by rwa [hwritten.mc])) (hstart.pending.trans hwritten.pending), hbusy, hresult, ?_, ?_, ?_,
    State.byte_of_mem (hstart.mem.trans hwritten.mem)⟩
  · exact (hcmd 0 0).trans (State.fld_eq_one_of_flag rfl hgo)
  · have hact : spareAct (spareStart (soleRun (okReply w) (spareAct w c)) c) c = spareAct w c := by
      rw [spareAct, hcmd 40 37]
      rfl
    rw [hact]
    exact congrArg Arb.run hstart.arb
  · exact hwritten.regs.trans hstart.regs

theorem runs_spareCmdGo_noSpare
    (hused : 32 ≤ look (fun _ => 0) s.mc.used (spareBank (s.writeByType (R.SPARE_CMD c) .w64 v) c)) :
    Runs (.spareCmdGo c .w64 v) s fun t => t.fld (F.SPARE_STATUS_RESULT c) = 2 ∧ t.fld (F.SPARE_CMD_GO c) = 0 ∧ t.arb = s.arb ∧
      RegsExcept [R.SPARE_CMD c, R.SPARE_STATUS c] s t ∧ MemSame s t := by
  have hwritten := writeByType_onlyEvents s (R.SPARE_CMD c) .w64 v
  generalize hw : s.writeByType (R.SPARE_CMD c) .w64 v = w at *
  refine ⟨_, exec_row hup exec_spareCmdGo_row (spareCmdWrite_noSpare hfree hw hgo (by rwa [hwritten.mc])) hwritten.pending,
    ?_, ?_, hwritten.arb, ?_, State.byte_of_mem hwritten.mem⟩
  · simp
  · simp [State.fld_setFld_ne]
  · exact (((hwritten.mono (by simp)).regs.of_csr rfl).setFld (t := okReply w) 0 (by simp)).setFld 2 (by simp)

end

theorem runs_spareCopyDone_good (hgo : s.fld (F.SPARE_CMD_GO c) = 1) (hbusy : s.fld (F.SPARE_STATUS_BUSY c) = 1) :
    Runs (.spareCopyDone c []) s fun t => t.fld (F.SPARE_CMD_GO c) = 0 ∧ t.fld (F.SPARE_STATUS_BUSY c) = 0 ∧
      t.fld (F.SPARE_STATUS_RESULT c) = 1 ∧ t.mc = (rowRemapped s c).mc ∧ t.arb.run = s.arb.run.erase (spareAct s c) ∧
      RegsExcept [R.SPARE_CMD c, R.SPARE_STATUS c] s t ∧ MemSame s t := by
  have hended := spareEnded_onlyEvents (rowRemapped s c) c
  obtain ⟨hgo', hbusy', hresult⟩ := spareEnded_status (rowRemapped s c) c
  exact ⟨_, exec_row hup exec_spareCopyDone_row (spareCopyDone_good hgo hbusy) ((arbEnd_pending _ _).trans hended.pending),
    (arbEnd_fld _ _ _).trans hgo', (arbEnd_fld _ _ _).trans hbusy', (arbEnd_fld _ _ _).trans hresult,
    (arbEnd_mc _ _).trans hended.mc, congrArg (fun a : Arb => a.run.erase (spareAct s c)) hended.arb,
    hended.regs.of_csr (arbEnd_csr _ _), State.byte_of_mem ((arbEnd_mem _ _).trans hended.mem)⟩

/-! ### Retirement -/

section
variable {v : Word} (hgo : (s.writeByType (R.RETIRE_CMD c) .w64 v).flag (F.RETIRE_CMD_GO c) = true)
include hgo

theorem runs_retireCmdGo_barred (hbar : retireBarred s c) :
    Runs (.retireCmdGo c .w64 v) s fun t => t.fld (F.RETIRE_STATUS_RET_ERR c) = 1 ∧ t.fld (F.RETIRE_CMD_GO c) = 0 ∧
      t.fld (F.RETIRE_STATUS_STATE c) = s.fld (F.RETIRE_STATUS_STATE c) ∧ RegsExcept [R.RETIRE_CMD c, R.RETIRE_STATUS c] s t ∧
      MemSame s t := by
  have hwritten := writeByType_onlyEvents s (R.RETIRE_CMD c) .w64 v
  generalize hw : s.writeByType (R.RETIRE_CMD c) .w64 v = w at *
  refine ⟨_, exec_row hup exec_retireCmdGo_row (retireCmdWrite_barred hw hgo hbar) hwritten.pending,
    ?_, ?_, ?_, ?_, State.byte_of_mem hwritten.mem⟩
  · simp
  · simp [State.fld_setFld_ne]
  · rw [State.fld_setFld_ne _ _ _ _ (.inr (by simp)), State.fld_setFld_ne _ _ _ _ (.inl (by simp))]
    exact hwritten.regs.fld (by simp)
  · exact (((hwritten.mono (by simp)).regs.of_csr rfl).setFld (t := okReply w) 0 (by simp)).setFld 1 (by simp)

theorem runs_retireCmdGo_started (hbar : ¬retireBarred s c) (hidle : arbIdle s) :
    Runs (.retireCmdGo c .w64 v) s fun t => t.fld (F.RETIRE_STATUS_STATE c) = 1 ∧ t.fld (F.RETIRE_STATUS_PTR c) = 0 ∧
      t.fld (F.RETIRE_CMD_GO c) = 0 ∧ (∀ k : Fin 16, t.fld (F.MC_STATUS_RESERVE k) = 1) ∧ t.arb.run = [⟨2, c⟩] ∧
      (∀ a, a < reserveEnd ∨ lpddrEnd ≤ a → t.byte a = s.byte a) := by
  have hwritten := writeByType_onlyEvents s (R.RETIRE_CMD c) .w64 v
  generalize hw : s.writeByType (R.RETIRE_CMD c) .w64 v = w at *
  have hstarted := retireCmdWrite_started hw hgo hbar (arbIdle_of_arb hwritten.arb hidle)
  have htaken : ((okReply w).setFld (F.RETIRE_CMD_GO c) 0).fld (F.RETIRE_CMD_GO c) = 0 := by simp
  have hpending : ((okReply w).setFld (F.RETIRE_CMD_GO c) 0).pending = s.pending := hwritten.pending
  have hmem : ((okReply w).setFld (F.RETIRE_CMD_GO c) 0).mem = s.mem := hwritten.mem
  generalize (okReply w).setFld (F.RETIRE_CMD_GO c) 0 = d at hstarted htaken hpending hmem
  obtain ⟨hstate, hptr⟩ := retireStarted_status d (List.range 16) c
  have hreserve := reserveMode_onlyEvents d (List.range 16)
  have hstays := (retireStarted_pending d (List.range 16) c).trans hpending
  refine ⟨_, exec_row hup exec_retireCmdGo_row hstarted ((soleRun_pending _ _).trans hstays),
    (soleRun_fld _ _ _).trans hstate, (soleRun_fld _ _ _).trans hptr, ?_, fun k => ?_, rfl, fun a ha => ?_⟩
  · rw [soleRun_fld, retireStarted_fld _ _ _ (by simp), hreserve.regs.fld ?_, htaken]
    simp only [List.mem_map, List.mem_range, not_exists, not_and, R.MC_STATUS, R.RETIRE_CMD]
    omega
  · rw [soleRun_fld, retireStarted_fld _ _ _ (by simp only [R.MC_STATUS, R.RETIRE_STATUS]; omega)]
    exact reserveMode_reserve _ (List.mem_range.mpr k.isLt)
  · rw [soleRun_byte, retireStarted_byte _ _ _ ha]
    exact State.byte_of_mem hmem a

end

theorem runs_retireCopyDone_good (hruns : s.fld (F.RETIRE_STATUS_STATE c) = 1) (hwait : s.arb.wait.contains ⟨2, c⟩ = false) :
    Runs (.retireCopyDone c []) s fun t => t.fld (F.RETIRE_STATUS_STATE c) = 2 ∧ t.fld (F.RETIRE_STATUS_PTR c) = reserveL ∧
      t.fld (rawFld (88 + c)) = 1 ∧ t.arb.run = s.arb.run.erase ⟨2, c⟩ ∧ MemSame s t := by
  have hdone := retireDone_onlyEvents s c
  have hraised := mcRaise_onlyEvents (retireDone s c) c
  obtain ⟨hstate, hptr⟩ := retireDone_fields s c
  have hstands : ∀ hi lo, ((retireDone s c).raise (88 + c)).fld ⟨R.RETIRE_STATUS c, hi, lo⟩ =
      (retireDone s c).fld ⟨R.RETIRE_STATUS c, hi, lo⟩ := fun _ _ => hraised.regs.fld (not_mem_mcEventRegs (by simp))
  exact ⟨_, exec_row hup exec_retireCopyDone_row (retireCopyDone_good hruns hwait) (hraised.pending.trans hdone.pending),
    (hstands _ _).trans hstate, (hstands _ _).trans hptr, raise_raw _ _,
    congrArg (fun a : Arb => a.run.erase ⟨2, c⟩) (hraised.arb.trans hdone.arb), State.byte_of_mem (hraised.mem.trans hdone.mem)⟩

end Sys2Proof.Machine
end

section
open Sys2Proof Sys2Proof.Machine

/-- Settles O42: refreshes, calibrations and training each by one update; a scrub read, a spare-in and a retirement by the cases
in which they idle, are refused, start or end. -/
theorem memoryMaintenance : Obligations.MemoryMaintenance := by
  unfold Obligations.MemoryMaintenance
  intro c s hup
  refine ⟨exec_row hup exec_bankRefresh_row rfl rfl, exec_row hup exec_zqCalibration_row rfl rfl,
    fun good => exec_row hup exec_mcTraining_row (mcTraining_eq s c good) (by split <;> rfl),
    fun o hoff => exec_row hup exec_scrubRead_row (scrubRead_off o hoff) rfl,
    fun hon hen hidle hunit => ⟨runs_scrubRead_clean hup hon hen hidle hunit,
      fun k _ hclear hc => runs_scrubRead_uncorr hup hon hen hidle hclear hc⟩,
    fun v hfree hgo hidle => ⟨runs_spareCmdGo_started hup hfree hgo hidle, runs_spareCmdGo_noSpare hup hfree hgo⟩,
    fun hidle bad => exec_row hup exec_spareCopyDone_row (spareCopyDone_idle bad hidle) rfl, fun hgo hbusy => ?_,
    fun v hgo => ⟨runs_retireCmdGo_barred hup hgo, fun hoff hstate hcxl hidle => runs_retireCmdGo_started hup hgo ?_ hidle⟩,
    fun hidle bad => exec_row hup exec_retireCopyDone_row (retireCopyDone_idle bad hidle) rfl,
    runs_retireCopyDone_good hup⟩
  · obtain ⟨t, hexec, hgo', hbusy', hresult, hmc, hrun, hregs, hmem⟩ := runs_spareCopyDone_good hup hgo hbusy
    exact ⟨t, hexec, hgo', hbusy', hresult, hmc ▸ rowRemapped_used s c, hmc ▸ rowRemapped_remap s c, hrun, hregs, hmem⟩
  · rintro (⟨n, hn⟩ | hstarted | habove)
    · exact hn (hoff n)
    · exact hstarted hstate
    · exact absurd habove (by simp [hcxl])

end

section
/-! SUPPORT. The attention engines: an engine's own record, its sequences' holds, and the end of a record of its rings (R349, R352). -/

namespace Sys2Proof.Machine

/-! ### The engine's own record -/

section
variable (s : State) (q : Nat) (a : Att)

@[simp] theorem attOf_setAtt_same : attOf (setAtt s q a) q = a := look_put_same _ _ _
@[simp] theorem setAtt_csr : (setAtt s q a).csr = s.csr := rfl
@[simp] theorem setAtt_mem : (setAtt s q a).mem = s.mem := rfl
@[simp] theorem setAtt_cores : (setAtt s q a).cores = s.cores := rfl
@[simp] theorem setAtt_fab : (setAtt s q a).fab = s.fab := rfl
@[simp] theorem setAtt_pending : (setAtt s q a).pending = s.pending := rfl
@[simp] theorem setAtt_reg (b : Nat) : (setAtt s q a).reg b = s.reg b := rfl
@[simp] theorem setAtt_fld (f : Fld) : (setAtt s q a).fld f = s.fld f := rfl

end

theorem attOf_of_att {s t : State} (h : t.att = s.att) (q : Nat) : attOf t q = attOf s q := by rw [attOf, h, attOf]

@[simp] theorem attOf_setFld (s : State) (f : Fld) (v q : Nat) : attOf (s.setFld f v) q = attOf s q :=
  attOf_of_att (State.setFld_att s f v) q
@[simp] theorem attOf_incFld (s : State) (f : Fld) (k q : Nat) : attOf (s.incFld f k) q = attOf s q :=
  attOf_of_att (State.incFld_att s f k) q

@[simp] theorem unitWrite_att (s : State) (a : Nat) (bs : List Byte) : (unitWrite s a bs).att = s.att := by
  obtain ⟨_, _, h, _⟩ := unitWrite_eq s a bs; rw [h]

@[simp] theorem unitWrite_fld (s : State) (a : Nat) (bs : List Byte) (f : Fld) : (unitWrite s a bs).fld f = s.fld f :=
  State.fld_of_csr (unitWrite_csr s a bs) f

theorem OnlyEvents.att {as : List Nat} {s t : State} (h : OnlyEvents as s t) : t.att = s.att := by obtain ⟨_, _, rfl, _⟩ := h; rfl
theorem OnlyEvents.fab {as : List Nat} {s t : State} (h : OnlyEvents as s t) : t.fab = s.fab := by obtain ⟨_, _, rfl, _⟩ := h; rfl

/-- Fewer registers may have changed than a larger list allows. -/
theorem RegsExcept.mono {as bs : List Nat} {s t : State} (h : RegsExcept as s t) (hsub : as ⊆ bs) : RegsExcept bs s t :=
  fun a ha => h a fun hin => ha (hsub hin)

theorem Notified.of_fab {addr val : Nat} {s t u : State} (h : Notified addr val s t) (hfab : u.fab = t.fab) :
    Notified addr val s u := by rwa [Notified, hfab]

theorem Notified.from_fab {addr val : Nat} {s t u : State} (h : Notified addr val t u) (hfab : t.fab = s.fab) :
    Notified addr val s u := by rwa [Notified, hfab] at h

/-! ### The holds of a step's sequences (R353) -/

/-- HELD of these sequences set to v. -/
def seqsHeld (s : State) (q : Nat) (ks : List Nat) (v : Nat) : State :=
  ks.foldl (fun st k => st.setFld (F.SEQ_STATE_HELD q k) v) s

section
variable (s : State) (q : Nat) (ks : List Nat) (v : Nat)

theorem seqsHeld_onlyEvents : OnlyEvents (ks.map (R.SEQ_STATE q)) s (seqsHeld s q ks v) := by
  induction ks generalizing s with
  | nil => exact OnlyEvents.refl _ s
  | cons k ks ih =>
    exact ((OnlyEvents.refl _ s).setFld v (by simp)).trans ((ih _).mono (List.subset_cons_self _ _))

theorem seqsHeld_held {k : Nat} (hk : k ∈ ks) : (seqsHeld s q ks v).fld (F.SEQ_STATE_HELD q k) = v % 2 := by
  induction ks generalizing s with
  | nil => exact absurd hk List.not_mem_nil
  | cons j ks ih =>
    by_cases hlater : k ∈ ks
    · exact ih _ hlater
    · obtain rfl : k = j := (List.mem_cons.mp hk).resolve_right hlater
      refine ((seqsHeld_onlyEvents _ q ks v).regs.fld ?_).trans (State.fld_setFld_same s (F.SEQ_STATE_HELD q k) v (by simp))
      simp only [List.mem_map, R.SEQ_STATE, not_exists, not_and]
      intro i hi heq
      exact hlater ((show i = k by omega) ▸ hi)

end

/-- A register of the engine's block below its sequences is none of theirs. -/
theorem not_mem_seqRegs {a q : Nat} (ha : a < R.SEQ_STATE q 0) (ks : List Nat) : a ∉ ks.map (R.SEQ_STATE q) := by
  simp only [List.mem_map, R.SEQ_STATE, not_exists, not_and] at ha ⊢
  intro k _
  omega

/-! ### The end of a record -/

/-- A record of a ring has ended: its status byte, its message, and the ring's head. -/
def recordEnded (s : State) (a : Nat) (b : Byte) (addr val : Nat) (head : Fld) : State :=
  let s1 := notify (unitWrite s a [b]) addr val
  s1.setFld head ((s1.fld head + 1) % 2 ^ 32)

/-- What the end of a record leaves. -/
structure RecordEnded (a : Nat) (b : Byte) (addr val : Nat) (head : Fld) (s t : State) : Prop where
  mem : t.mem = (unitWrite s a [b]).mem
  line : Notified addr val s t
  next : t.fld head = (s.fld head + 1) % 2 ^ 32
  regs : RegsExcept [head.addr] s t
  att : t.att = s.att
  pending : t.pending = s.pending

section
variable {a : Nat} {b : Byte} {addr val : Nat} {head : Fld} {s t : State} (h : RecordEnded a b addr val head s t)
include h

theorem RecordEnded.status : t.byte a = b := ((bytes_unitWrite s a [b]).of_mem h.mem) 0 (by simp)
theorem RecordEnded.others : MemExcept [(a, 1)] s t := (memExcept_unitWrite s a [b]).of_mem h.mem

end

theorem recordEnded_spec (s : State) (a : Nat) (b : Byte) (addr val : Nat) {head : Fld} (hhi : head.hi < 64)
    (hwidth : head.hi + 1 - head.lo = 32) : RecordEnded a b addr val head s (recordEnded s a b addr val head) := by
  obtain ⟨fab, heq, hline⟩ := notify_eq (unitWrite s a [b]) addr val
  have hcsr : (notify (unitWrite s a [b]) addr val).csr = s.csr := by rw [heq]; exact unitWrite_csr s a [b]
  have hmem : (notify (unitWrite s a [b]) addr val).mem = (unitWrite s a [b]).mem := by rw [heq]
  have hatt : (notify (unitWrite s a [b]) addr val).att = s.att := by rw [heq]; exact unitWrite_att s a [b]
  have hpending : (notify (unitWrite s a [b]) addr val).pending = s.pending := by rw [heq]; exact unitWrite_pending s a [b]
  unfold recordEnded
  generalize notify (unitWrite s a [b]) addr val = u at *
  refine ⟨hmem, hline.from_fab (unitWrite_fab s a [b]), ?_, ((RegsExcept.refl _ s).of_csr hcsr).setFld _ (by simp), hatt,
    hpending⟩
  rw [State.fld_setFld_same _ _ _ hhi, hwidth, State.fld_of_csr hcsr, Nat.mod_mod]

end Sys2Proof.Machine
end

section
/-! SUPPORT. The steps of an attention engine: a step taken, a page that arrives or goes missing, the end of the step
(R352 to R358). -/

namespace Sys2Proof.Machine

/-! ### A step is taken (R352, R353) -/

/-- The engine takes the step at the head of its ring. -/
def stepDue (s : State) (q : Nat) : Prop :=
  attState s q = 1 ∧ s.fld (F.ATT_SPTR_HEAD q) ≠ s.fld (F.ATT_SPTR_TAIL q) ∧ (attOf s q).cur = none

theorem attStep_of_not_due {s : State} {q : Nat} (h : ¬ stepDue s q) : attStep s q = s := by
  refine if_pos ?_
  by_contra hn
  simp only [not_or, not_not] at hn
  exact h hn

section
variable {s : State} {q : Nat} (hdue : stepDue s q)
include hdue

theorem attStep_bad (hbad : (stepRecord s q).2 = false) : attStep s q =
    recordEnded s ((stepRecord s q).1.addr + 60) 2#8 (stepRecord s q).1.notify (stepRecord s q).1.nval (F.ATT_SPTR_HEAD q) := by
  obtain ⟨hon, hne, hfree⟩ := hdue
  rw [attStep, if_neg (by simp [hon, hne, hfree])]
  exact if_pos (by simp [hbad])

theorem attStep_good (hgood : (stepRecord s q).2 = true) : attStep s q =
    (setAtt (seqsHeld s q (stepRecord s q).1.sids 1) q { attOf s q with cur := some (stepRecord s q).1 }).setFld
      (F.ATT_STATUS_STEP_BUSY q) 1 := by
  have hatt := attOf_of_att (seqsHeld_onlyEvents s q (stepRecord s q).1.sids 1).att q
  obtain ⟨hon, hne, hfree⟩ := hdue
  rw [attStep, if_neg (by simp [hon, hne, hfree]), ← hatt]
  exact if_neg (by simp [hgood])

/-- A step taken holds its sequences and makes the engine busy; nothing else changes. -/
theorem attStep_good_spec (hgood : (stepRecord s q).2 = true) :
    attOf (attStep s q) q = { attOf s q with cur := some (stepRecord s q).1 } ∧
    (∀ k ∈ (stepRecord s q).1.sids, (attStep s q).fld (F.SEQ_STATE_HELD q k) = 1) ∧
    (attStep s q).fld (F.ATT_STATUS_STEP_BUSY q) = 1 ∧
    RegsExcept (R.ATT_STATUS q :: (stepRecord s q).1.sids.map (fun k => R.SEQ_STATE q k)) s (attStep s q) ∧
    (attStep s q).mem = s.mem ∧ (attStep s q).cores = s.cores ∧ (attStep s q).pending = s.pending := by
  have hheld := seqsHeld_onlyEvents s q (stepRecord s q).1.sids 1
  rw [attStep_good hdue hgood]
  refine ⟨by simp, fun k hk => ?_, by simp, ?_,
    by rw [State.setFld_mem, setAtt_mem, hheld.mem], by rw [State.setFld_cores, setAtt_cores, hheld.cores],
    by rw [State.setFld_pending, setAtt_pending, hheld.pending]⟩
  · rw [State.fld_setFld_ne _ _ _ _ (.inl (by simp only [R.SEQ_STATE, R.ATT_STATUS]; omega))]
    exact seqsHeld_held s q _ 1 hk
  · exact ((hheld.regs.mono (List.subset_cons_self _ _)).of_csr (setAtt_csr _ q _)).setFld 1 List.mem_cons_self

end

/-! ### A page is read (R354 to R356, R358) -/

/-- The engine has waited for a page from the end of its work until now. -/
def stalled (s : State) (q : Nat) (st : AttStep) : State := s.incFld (F.ATT_STALL_COUNT q) (s.now - st.busyEnd)

theorem stalled_onlyEvents (s : State) (q : Nat) (st : AttStep) : OnlyEvents [R.ATT_STALL q] s (stalled s q st) :=
  incFld_onlyEvents s (F.ATT_STALL_COUNT q) _

section
variable {s t : State} {q : Nat} (h : OnlyEvents [R.ATT_STALL q] s t)
include h

theorem fernEntry_of_stall (a : Nat) : fernEntry t a = fernEntry s a := State.readLE_of_mem h.mem a 8

theorem leafEntryAt_of_stall (sid p : Nat) : leafEntryAt t q sid p = leafEntryAt s q sid p := by
  have hbase : fernBase t q = fernBase s q := h.regs.fld (by simp)
  have hroot : fernEntry t (rootAt t q sid (p / 64)) = fernEntry s (rootAt s q sid (p / 64)) := by
    rw [fernEntry_of_stall h, rootAt, hbase, rootAt]
  unfold leafEntryAt
  rw [hroot]

theorem attConf_of_stall : attD t q = attD s q ∧ attH t q = attH s q ∧ attHkv t q = attHkv s q ∧ attG t q = attG s q := by
  have hd : attD t q = attD s q := congrArg (64 * 2 ^ ·) (h.regs.fld (by simp))
  have hh : attH t q = attH s q := h.regs.fld (by simp)
  have hkv : attHkv t q = attHkv s q := h.regs.fld (by simp)
  exact ⟨hd, hh, hkv, by rw [attG, hh, hkv, attG]⟩

theorem poisonedRange_of_stall (a : Nat) : t.poisonedRange a (pageBytes t q) = s.poisonedRange a (pageBytes s q) := by
  obtain ⟨hd, -, hkv, -⟩ := attConf_of_stall h
  rw [pageBytes, hd, hkv, ← pageBytes]
  unfold State.poisonedRange State.poisoned
  rw [h.mc]

theorem attVisit_of_stall (st : AttStep) (i p j base : Nat) : attVisit t q st i p j base = attVisit s q st i p j base := by
  obtain ⟨hd, hh, hkv, hg⟩ := attConf_of_stall h
  have hlen : ∀ sid, seqLen t q sid = seqLen s q sid := fun sid =>
    h.regs.fld (by simp only [R.SEQ_STATE, R.ATT_STALL, List.mem_singleton]; omega)
  simp only [attVisit, visibleTokens, blockCode, bf16At, hd, hh, hkv, hg, hlen, State.readLE_of_mem h.mem, State.byte_of_mem h.mem]

end

end Sys2Proof.Machine
end

section
/-! SUPPORT. A page that arrives: its batch slot goes missing, or its rows are added (R356, R358). -/

namespace Sys2Proof.Machine

/-! ### A batch slot goes missing (R358) -/

/-- The flag of ATT_STATUS that says why a slot went missing: an uncorrectable read, or an entry that is not valid. -/
def missFlag (q : Nat) (uncorr : Bool) : Fld := if uncorr then F.ATT_STATUS_UNCORR q else F.ATT_STATUS_PAGE_MISSING q

@[simp] theorem missFlag_addr (q : Nat) (uncorr : Bool) : (missFlag q uncorr).addr = R.ATT_STATUS q := by cases uncorr <;> rfl

@[simp] theorem setFld_missFlag (s : State) (q : Nat) (uncorr : Bool) :
    (s.setFld (missFlag q uncorr) 1).fld (missFlag q uncorr) = 1 := by cases uncorr <;> simp [missFlag]

/-- What a batch slot i of step st that goes missing leaves. -/
structure SlotMissing (q : Nat) (st : AttStep) (i : Nat) (uncorr : Bool) (s t : State) : Prop where
  cur : (attOf t q).cur = some { st with missing := i :: st.missing, i := i + 1, p := 0, j := 0 }
  flag : t.fld (missFlag q uncorr) = 1
  count : t.fld (F.ATT_MISS_COUNT q) = s.sat (F.ATT_MISS_COUNT q) 1
  event : t.fld (rawFld (104 + q)) = 1
  mem : t.mem = s.mem
  pending : t.pending = s.pending

/-- A register of an engine's block is none of its event, which is source 104 + q. -/
theorem not_mem_attEventRegs {a q : Nat} (ha : 0x7f0000a00000 + q * 0x10000 ≤ a) :
    a ∉ [R.RAW ((104 + q) / 64), R.PEND ((104 + q) / 64), R.EVC_MERGED] := by
  simp only [R.RAW, R.PEND, R.EVC_MERGED, List.mem_cons, List.not_mem_nil, or_false]
  omega

theorem attMissing_spec (s : State) (q : Nat) (st : AttStep) (i : Nat) (uncorr : Bool) :
    SlotMissing q st i uncorr s (attMissing s q st i uncorr) := by
  unfold attMissing
  rw [← missFlag]
  dsimp only
  generalize hw : setAtt s q _ = w
  have hcur : attOf w q = { attOf s q with cur := some { st with missing := i :: st.missing, i := i + 1, p := 0, j := 0 } } := by
    simp [← hw]
  have hraise := raise_events ((w.setFld (missFlag q uncorr) 1).incFld (F.ATT_MISS_COUNT q) 1) (104 + q)
  refine ⟨?_, ?_, ?_, raise_raw _ _, ?_, ?_⟩
  · rw [attOf_of_att hraise.att, attOf_incFld, attOf_setFld, hcur]
  · rw [hraise.regs.fld (not_mem_attEventRegs (by simp)), State.fld_incFld_ne _ _ _ _ (by simp), setFld_missFlag]
  · rw [hraise.regs.fld (not_mem_attEventRegs (by simp)), State.fld_incFld_same _ _ _ (by simp),
      State.fld_setFld_ne _ _ _ _ (by simp), ← hw, setAtt_fld, ← State.sat]
  · rw [hraise.mem, State.incFld_mem, State.setFld_mem, ← hw, setAtt_mem]
  · rw [hraise.pending, State.incFld_pending, State.setFld_pending, ← hw, setAtt_pending]

/-- The count of a state that differs in other registers. -/
theorem SlotMissing.of_start {q : Nat} {st : AttStep} {i : Nat} {uncorr : Bool} {s s' t : State} {as : List Nat}
    (hs : OnlyEvents as s s') (has : R.ATT_MISS q ∉ as) (h : SlotMissing q st i uncorr s' t) : SlotMissing q st i uncorr s t :=
  ⟨h.cur, h.flag, h.count.trans (State.sat_of_regs hs.regs has 1), h.event, h.mem.trans hs.mem, h.pending.trans hs.pending⟩

/-! ### ATT_PAGE_ARRIVE -/

/-- The step after the rows of page p of slot i, from base on, have been added. -/
def pageAdded (s : State) (q : Nat) (st : AttStep) (i p j base : Nat) : AttStep :=
  { st with i := i, p := p + 1, j := if blockCode s st i p = 2 then j + 1 else j,
            busyEnd := max s.now st.busyEnd + attHkv s q * (st.q * attG s q * attD s q / 8),
            rows := (attVisit s q st i p j base).1 }

/-- The wait noted plays no role in it. -/
theorem pageAdded_of_stall {s t : State} {q : Nat} (h : OnlyEvents [R.ATT_STALL q] s t) (st : AttStep) (i p j base : Nat) :
    pageAdded t q st i p j base = pageAdded s q st i p j base := by
  obtain ⟨hd, -, hkv, hg⟩ := attConf_of_stall h
  have hblock : blockCode t st i p = blockCode s st i p := by
    simp only [blockCode, State.readLE_of_mem h.mem, State.byte_of_mem h.mem]
  rw [pageAdded, attVisit_of_stall h, hd, hkv, hg, hblock, h.now, ← pageAdded]

section
variable {s : State} {q : Nat} {st : AttStep} {i p j : Nat} (hcur : (attOf s q).cur = some st) (hpin : st.pinEnd ≤ s.now)
  (hnext : attNext s q st = (some (i, p, j), false))
include hcur hpin hnext

/-- The page due next is read in the state in which the engine has noted its wait. -/
theorem attPageRow_due (uncorr : Bool) : attPageRow s q uncorr =
    match leafEntryAt (stalled s q st) q (st.sids.getD i 0) p with
    | none => attMissing (stalled s q st) q st i uncorr
    | some la =>
      if uncorr then attMissing (stalled s q st) q st i true
      else if !(entryValid (fernEntry (stalled s q st) la)) then attMissing (stalled s q st) q st i false
      else if (stalled s q st).poisonedRange (pageOf (fernEntry (stalled s q st) la)) (pageBytes (stalled s q st) q) then
        attMissing (stalled s q st) q st i true
      else
        let s2 := setAtt (stalled s q st) q { attOf (stalled s q st) q with
          cur := some (pageAdded (stalled s q st) q st i p j (pageOf (fernEntry (stalled s q st) la))) }
        if (attVisit (stalled s q st) q st i p j (pageOf (fernEntry (stalled s q st) la))).2 then
          s2.setFld (F.ATT_STATUS_INV q) 1 else s2 := by
  have htick : tickDue s st.pinEnd = s := if_neg (Nat.not_lt.mpr hpin)
  rw [attPageRow, hcur]
  dsimp only
  rw [htick, attPageArrive, hcur]
  dsimp only
  rw [if_neg (Nat.not_lt.mpr hpin), hnext]
  dsimp only
  rw [if_neg Bool.false_ne_true, ← stalled, ← (stalled_onlyEvents s q st).now]
  rfl

/-- A page whose leaf entry has no leaf is missing. -/
theorem attPageRow_noLeaf (hleaf : leafEntryAt s q (st.sids.getD i 0) p = none) (uncorr : Bool) :
    SlotMissing q st i uncorr s (attPageRow s q uncorr) := by
  have hstall := stalled_onlyEvents s q st
  rw [attPageRow_due hcur hpin hnext, leafEntryAt_of_stall hstall, hleaf]
  exact (attMissing_spec _ q st i uncorr).of_start hstall (by simp)

variable {la : Nat} (hleaf : leafEntryAt s q (st.sids.getD i 0) p = some la)
include hleaf

/-- A page that stays uncorrectable is missing. -/
theorem attPageRow_uncorr : SlotMissing q st i true s (attPageRow s q true) := by
  have hstall := stalled_onlyEvents s q st
  rw [attPageRow_due hcur hpin hnext, leafEntryAt_of_stall hstall, hleaf]
  dsimp only
  rw [if_pos rfl]
  exact (attMissing_spec _ q st i true).of_start hstall (by simp)

/-- A page whose entry is not valid is missing. -/
theorem attPageRow_invalid (hinvalid : entryValid (fernEntry s la) = false) :
    SlotMissing q st i false s (attPageRow s q false) := by
  have hstall := stalled_onlyEvents s q st
  rw [attPageRow_due hcur hpin hnext, leafEntryAt_of_stall hstall, hleaf]
  dsimp only
  rw [fernEntry_of_stall hstall, if_neg Bool.false_ne_true, hinvalid, Bool.not_false, if_pos rfl]
  exact (attMissing_spec _ q st i false).of_start hstall (by simp)

variable (hvalid : entryValid (fernEntry s la) = true)
include hvalid

/-- A page with a poisoned unit is missing. -/
theorem attPageRow_poisoned (hpoison : s.poisonedRange (pageOf (fernEntry s la)) (pageBytes s q) = true) :
    SlotMissing q st i true s (attPageRow s q false) := by
  have hstall := stalled_onlyEvents s q st
  rw [attPageRow_due hcur hpin hnext, leafEntryAt_of_stall hstall, hleaf]
  dsimp only
  rw [fernEntry_of_stall hstall, poisonedRange_of_stall hstall, if_neg Bool.false_ne_true, hvalid, Bool.not_true,
    if_neg Bool.false_ne_true, hpoison, if_pos rfl]
  exact (attMissing_spec _ q st i true).of_start hstall (by simp)

/-- What a sound page leaves: the step with its rows added, the wait, and INV where the arithmetic has been invalid. -/
theorem attPageRow_sound (hsound : s.poisonedRange (pageOf (fernEntry s la)) (pageBytes s q) = false) :
    attOf (attPageRow s q false) q = { attOf s q with
      cur := some (pageAdded s q st i p j (pageOf (fernEntry s la))) } ∧
    ((attVisit s q st i p j (pageOf (fernEntry s la))).2 = true → (attPageRow s q false).fld (F.ATT_STATUS_INV q) = 1) ∧
    RegsExcept [R.ATT_STATUS q, R.ATT_STALL q] s (attPageRow s q false) ∧ (attPageRow s q false).mem = s.mem ∧
    (attPageRow s q false).cores = s.cores ∧ (attPageRow s q false).pending = s.pending := by
  have hstall := stalled_onlyEvents s q st
  have hregs : RegsExcept [R.ATT_STATUS q, R.ATT_STALL q] s (stalled s q st) := hstall.regs.mono (by simp)
  rw [attPageRow_due hcur hpin hnext, leafEntryAt_of_stall hstall, hleaf]
  dsimp only
  rw [fernEntry_of_stall hstall, poisonedRange_of_stall hstall, if_neg Bool.false_ne_true, hvalid, Bool.not_true,
    if_neg Bool.false_ne_true, hsound, if_neg Bool.false_ne_true, attVisit_of_stall hstall, pageAdded_of_stall hstall,
    attOf_of_att hstall.att]
  generalize pageAdded s q st i p j (pageOf (fernEntry s la)) = u
  generalize stalled s q st = w at *
  generalize hv : setAtt w q { attOf s q with cur := some u } = v
  have hatt : attOf v q = { attOf s q with cur := some u } := by rw [← hv, attOf_setAtt_same]
  have hregs' : RegsExcept [R.ATT_STATUS q, R.ATT_STALL q] s v := hv ▸ hregs.of_csr (setAtt_csr w q _)
  have hmem : v.mem = s.mem := by rw [← hv, setAtt_mem, hstall.mem]
  have hcores : v.cores = s.cores := by rw [← hv, setAtt_cores, hstall.cores]
  have hpending : v.pending = s.pending := by rw [← hv, setAtt_pending, hstall.pending]
  split
  · exact ⟨by rw [attOf_setFld, hatt], fun _ => State.fld_setFld_same v _ 1 (by simp), hregs'.setFld 1 (by simp),
      by rw [State.setFld_mem, hmem], by rw [State.setFld_cores, hcores], by rw [State.setFld_pending, hpending]⟩
  · next hno => exact ⟨hatt, fun h => absurd h hno, hregs', hmem, hcores, hpending⟩

end

end Sys2Proof.Machine
end

section
/-! SUPPORT. The end of a step of one row: its result, the record, the engine free (R357). -/

namespace Sys2Proof.Machine

/-- The engine is free again, with no release held back, and lets the sequences of step st go. -/
def stepFreed (s : State) (q : Nat) (st : AttStep) : State :=
  (setAtt (seqsHeld s q st.sids 0) q { attOf (seqsHeld s q st.sids 0) q with cur := none, rel := [] }).setFld
    (F.ATT_STATUS_STEP_BUSY q) 0

/-- A step that ends in a closing engine is counted (R361). -/
def stepCounted (s : State) (q : Nat) : State := if attState s q = 2 then s.incFld (F.ATT_CLOSE_DONE q) 1 else s

/-- The flags of ATT_STATUS, from bit 3 on, for the bits of a row's result. -/
def rowFlags (bits : Nat) : Nat :=
  16 * b2n (bits.testBit 2) + 8 * b2n (bits.testBit 1) + 4 * b2n (bits.testBit 0) + b2n (bits.testBit 3)

/-- The status of a step of which no slot is missing, for the bits of its rows' results. -/
def stepStatus (bits : Nat) : Nat :=
  1 + (if bits.testBit 0 then 16 else 0) + (if bits.testBit 1 then 32 else 0) + (if bits.testBit 2 then 64 else 0)

/-- STATUS of a step as the engine adds it up. -/
theorem stepStatus_eq (bits : Nat) : 1 + 16 * b2n (bits.testBit 0) + 32 * b2n (bits.testBit 1) + 64 * b2n (bits.testBit 2) +
    128 * b2n (!([] : List Nat).isEmpty) = stepStatus bits := by
  unfold stepStatus
  cases bits.testBit 0 <;> cases bits.testBit 1 <;> cases bits.testBit 2 <;> rfl

/-- The values of a row as bytes in the BF16 format, and the flags for it. -/
def rowWritten (s : State) (q : Nat) (st : AttStep) (out : RowOut) : State :=
  (unitWrite s st.obase (out.vals.flatMap fun v => leBytes 2 v)).orFld ⟨R.ATT_STATUS q, 7, 3⟩ (rowFlags out.bits)

section
variable (s : State) (q : Nat) (st : AttStep)

theorem stepFreed_spec : attOf (stepFreed s q st) q = { attOf s q with cur := none, rel := [] } ∧
    (∀ k ∈ st.sids, (stepFreed s q st).fld (F.SEQ_STATE_HELD q k) = 0) ∧ (stepFreed s q st).fld (F.ATT_STATUS_STEP_BUSY q) = 0 ∧
    RegsExcept (R.ATT_STATUS q :: st.sids.map (R.SEQ_STATE q)) s (stepFreed s q st) ∧ (stepFreed s q st).mem = s.mem ∧
    (stepFreed s q st).fab = s.fab ∧ (stepFreed s q st).pending = s.pending := by
  have hheld := seqsHeld_onlyEvents s q st.sids 0
  have hatt := attOf_of_att hheld.att q
  unfold stepFreed
  refine ⟨by rw [attOf_setFld, attOf_setAtt_same, hatt], fun k hk => ?_, State.fld_setFld_same _ _ 0 (by simp), ?_,
    by rw [State.setFld_mem, setAtt_mem, hheld.mem], by rw [State.setFld_fab, setAtt_fab, hheld.fab],
    by rw [State.setFld_pending, setAtt_pending, hheld.pending]⟩
  · rw [State.fld_setFld_ne _ _ _ _ (.inl (by simp only [R.SEQ_STATE, R.ATT_STATUS]; omega)), setAtt_fld]
    exact seqsHeld_held s q _ 0 hk
  · exact ((hheld.regs.mono (List.subset_cons_self _ _)).of_csr (setAtt_csr _ q _)).setFld 0 List.mem_cons_self

theorem stepCounted_onlyEvents : OnlyEvents [R.ATT_CLOSE q] s (stepCounted s q) := by
  unfold stepCounted
  split
  · exact incFld_onlyEvents s (F.ATT_CLOSE_DONE q) 1
  · exact OnlyEvents.refl _ s

theorem rowWritten_spec (out : RowOut) :
    (rowWritten s q st out).mem = (unitWrite s st.obase (out.vals.flatMap fun v => leBytes 2 v)).mem ∧
    (rowWritten s q st out).att = s.att ∧ (rowWritten s q st out).fab = s.fab ∧
    (rowWritten s q st out).pending = s.pending ∧ RegsExcept [R.ATT_STATUS q] s (rowWritten s q st out) := by
  unfold rowWritten State.orFld
  exact ⟨State.setFld_mem .., (State.setFld_att ..).trans (unitWrite_att ..), (State.setFld_fab ..).trans (unitWrite_fab ..),
    (State.setFld_pending ..).trans (unitWrite_pending ..),
    ((RegsExcept.refl _ s).of_csr (unitWrite_csr s _ _)).setFld _ (by simp)⟩

end

/-- Step st of engine q has one row: one sequence, one query, one head, BF16 results alone, nothing missing or held back. -/
structure OneRow (s : State) (q : Nat) (st : AttStep) : Prop where
  cur : (attOf s q).cur = some st
  ended : max st.pinEnd st.busyEnd ≤ s.now
  last : attNext s q st = (none, false)
  rel : (attOf s q).rel = []
  heads : attH s q = 1
  nseq : st.nseq = 1
  queries : st.q = 1
  flags : st.flags = 0
  missing : st.missing = []

/-- The result of a step's row 0 (R357). -/
abbrev rowZero (s : State) (q : Nat) (st : AttStep) : RowOut :=
  attRowOut (look (fun _ => AttRow.init (attD s q)) st.rows 0) false

namespace OneRow
variable {s : State} {q : Nat} {st : AttStep} (h : OneRow s q st)
include h

theorem attCompleteRow_eq : attCompleteRow s q =
    stepCounted (stepFreed (recordEnded (rowWritten s q st (rowZero s q st)) (st.addr + 60)
      (BitVec.ofNat 8 (stepStatus (rowZero s q st).bits)) st.notify st.nval (F.ATT_SPTR_HEAD q)) q st) q := by
  have htick : tickDue s (max st.pinEnd st.busyEnd) = s := if_neg (Nat.not_lt.mpr h.ended)
  have hkeys : (List.range st.nseq).flatMap (fun i => (List.range st.q).flatMap fun r => (List.range (attH s q)).map fun hd =>
      (i, r, hd)) = [(0, 0, 0)] := by rw [h.nseq, h.queries, h.heads]; rfl
  have hrel : (attOf (rowWritten s q st (rowZero s q st)) q).rel = [] := by
    rw [attOf_of_att (rowWritten_spec s q st (rowZero s q st)).2.1, h.rel]
  rw [attCompleteRow, h.cur]
  dsimp only
  rw [h.last, if_pos rfl, htick, attStepComplete, h.cur]
  dsimp only
  rw [h.last, if_neg (by simp [Nat.not_lt.mpr h.ended])]
  dsimp only
  rw [hkeys, h.flags, h.missing]
  simp only [List.foldl_cons, List.foldl_nil, Nat.zero_testBit, Bool.false_eq_true, if_false, Nat.not_lt_zero, List.contains_nil,
    Nat.zero_mul, Nat.add_zero, Nat.zero_or]
  rw [show (16 * b2n ((rowZero s q st).bits.testBit 2) + 8 * b2n ((rowZero s q st).bits.testBit 1) +
    4 * b2n ((rowZero s q st).bits.testBit 0) + b2n ((rowZero s q st).bits.testBit 3)) = rowFlags (rowZero s q st).bits from rfl,
    ← rowWritten, hrel, List.foldl_nil, stepStatus_eq]
  rfl

/-- What the end of the step leaves. -/
theorem attCompleteRow_spec
    (hapart : Apart [(st.obase, ((rowZero s q st).vals.flatMap fun v => leBytes 2 v).length), (st.addr + 60, 1)]) :
    let bs := (rowZero s q st).vals.flatMap fun v => leBytes 2 v
    let t := attCompleteRow s q
    Bytes t st.obase bs ∧ t.byte (st.addr + 60) = BitVec.ofNat 8 (stepStatus (rowZero s q st).bits) ∧
      MemExcept [(st.obase, bs.length), (st.addr + 60, 1)] s t ∧ Notified st.notify st.nval s t ∧
      t.fld (F.ATT_SPTR_HEAD q) = (s.fld (F.ATT_SPTR_HEAD q) + 1) % 2 ^ 32 ∧ attOf t q = { attOf s q with cur := none } ∧
      (∀ k ∈ st.sids, t.fld (F.SEQ_STATE_HELD q k) = 0) ∧ t.fld (F.ATT_STATUS_STEP_BUSY q) = 0 ∧ t.pending = s.pending := by
  dsimp only
  rw [h.attCompleteRow_eq]
  have hrel := h.rel
  obtain ⟨hwmem, hwatt, hwfab, hwpending, hwregs⟩ := rowWritten_spec s q st (rowZero s q st)
  generalize rowZero s q st = out at *
  generalize rowWritten s q st out = w at *
  generalize out.vals.flatMap (fun v => leBytes 2 v) = bs at *
  have hend := recordEnded_spec w (st.addr + 60) (BitVec.ofNat 8 (stepStatus out.bits)) st.notify st.nval
    (head := F.ATT_SPTR_HEAD q) (by simp) rfl
  generalize recordEnded w _ _ _ _ _ = e at *
  obtain ⟨hcur, hheld, hbusy, hfregs, hfmem, hffab, hfpending⟩ := stepFreed_spec e q st
  generalize stepFreed e q st = f at *
  have hcount := stepCounted_onlyEvents f q
  generalize stepCounted f q = t at *
  have hmem : t.mem = e.mem := hcount.mem.trans hfmem
  have hbytes : Bytes e st.obase bs := ((bytes_unitWrite s st.obase bs).of_mem hwmem).of_memExcept hend.others
    fun x hx => (List.pairwise_cons.mp hapart).1 x hx
  refine ⟨hbytes.of_mem hmem, (State.byte_of_mem hmem _).trans hend.status,
    (((memExcept_unitWrite s st.obase bs).of_mem hwmem).trans hend.others).of_mem hmem,
    (hend.line.from_fab hwfab).of_fab (hcount.fab.trans hffab), ?_, ?_, fun k hk => ?_, ?_, ?_⟩
  · rw [hcount.regs.fld (by simp), hfregs.fld ?_, hend.next, hwregs.fld (by simp)]
    exact List.mem_cons.not.mpr (not_or.mpr ⟨by simp, not_mem_seqRegs (by simp only [R.ATT_SPTR, R.SEQ_STATE]; omega) _⟩)
  · rw [attOf_of_att hcount.att, hcur, attOf_of_att (hend.att.trans hwatt), ← hrel]
  · rw [hcount.regs.fld (by simp only [R.SEQ_STATE, R.ATT_CLOSE, List.mem_singleton]; omega), hheld k hk]
  · rw [hcount.regs.fld (by simp), hbusy]
  · rw [hcount.pending, hfpending, hend.pending, hwpending]

end OneRow

end Sys2Proof.Machine
end

section
open Sys2Proof Sys2Proof.Machine

/-- Settles O46: a step is refused or taken, a page adds its rows or makes its slot go missing, and a step of one row ends. -/
theorem attentionSteps : Obligations.AttentionSteps := by
  unfold Obligations.AttentionSteps
  intro q s hup
  dsimp only
  have hstep : exec (.attStep q) s = ifUp (fun s => Machine.attStep s q) s := rfl
  have hpage : ∀ b, exec (.attPageArrive q b) s = ifUp (fun s => attPageRow s q b) s := fun _ => rfl
  have hdone : exec (.attStepComplete q) s = ifUp (fun s => attCompleteRow s q) s := rfl
  refine ⟨fun hidle => exec_row hup hstep (attStep_of_not_due hidle) rfl, fun hdue hbad => ?_, fun hdue hgood => ?_,
    fun hnone => ⟨fun b => exec_row hup (hpage b) ?_ rfl, exec_row hup hdone ?_ rfl⟩, fun st i p j hcur hpin hnext => ?_,
    fun st hcur hended hlast hrel hheads hnseq hq hflags hmissing hapart => ?_⟩
  · have hend := recordEnded_spec s ((stepRecord s q).1.addr + 60) 2#8 (stepRecord s q).1.notify (stepRecord s q).1.nval
      (head := F.ATT_SPTR_HEAD q) (by simp) rfl
    rw [← attStep_bad hdue hbad] at hend
    exact runs_row hup hstep hend.pending ⟨hend.status, hend.others, hend.line, hend.next, hend.regs⟩
  · obtain ⟨hatt, hheld, hbusy, hregs, hmem, hcores, hpending⟩ := attStep_good_spec hdue hgood
    exact runs_row hup hstep hpending ⟨hatt, rfl, hheld, hbusy, hregs, State.byte_of_mem hmem, fun n _ =>
      State.core_of_cores hcores n⟩
  · rw [attPageRow, hnone]
  · rw [attCompleteRow, hnone]
  · have hgone : ∀ {b uncorr}, SlotMissing q st i uncorr s (attPageRow s q b) → Runs (.attPageArrive q b) s fun t =>
        (attOf t q).cur = some { st with missing := i :: st.missing, i := i + 1, p := 0, j := 0 } ∧
        t.fld (if uncorr then F.ATT_STATUS_UNCORR q else F.ATT_STATUS_PAGE_MISSING q) = 1 ∧
        t.fld (F.ATT_MISS_COUNT q) = s.sat (F.ATT_MISS_COUNT q) 1 ∧ t.fld (rawFld (104 + q)) = 1 ∧ MemSame s t := fun h =>
      runs_row hup (hpage _) h.pending ⟨h.cur, h.flag, h.count, h.event, State.byte_of_mem h.mem⟩
    refine ⟨fun hleaf => hgone (attPageRow_noLeaf hcur hpin hnext hleaf false), fun la hleaf =>
      ⟨hgone (attPageRow_uncorr hcur hpin hnext hleaf), fun hinvalid => hgone (attPageRow_invalid hcur hpin hnext hleaf hinvalid),
        fun hvalid hpoison => hgone (attPageRow_poisoned hcur hpin hnext hleaf hvalid hpoison), fun hvalid hsound => ?_⟩⟩
    obtain ⟨hatt, hinv, hregs, hmem, hcores, hpending⟩ := attPageRow_sound hcur hpin hnext hleaf hvalid hsound
    exact runs_row hup (hpage false) hpending ⟨⟨_, congrArg Att.cur hatt, rfl, rfl, rfl, rfl, rfl⟩, hinv, hregs,
      State.byte_of_mem hmem, fun n _ => State.core_of_cores hcores n⟩
  · obtain ⟨hbytes, hstatus, hothers, hline, hhead, hatt, hheld, hbusy, hpending⟩ := OneRow.attCompleteRow_spec
      ⟨hcur, hended, hlast, hrel, hheads, hnseq, hq, hflags, hmissing⟩ hapart
    exact runs_row hup hdone hpending ⟨hbytes, hstatus, hothers, hline, hhead, hatt, hheld, hbusy⟩

end

section
/-! SUPPORT. Writes of units, and the words that they leave to be read. -/

namespace Sys2Proof.Machine

theorem leNat_leBytes (n v : Nat) : leNat (leBytes n v) = v % 256 ^ n := by
  induction n generalizing v with
  | zero => simp [leBytes, leNat, Nat.mod_one]
  | succ n ih =>
    rw [leBytes, leNat, ih, BitVec.toNat_ofNat, show 256 ^ (n + 1) = 256 * 256 ^ n from pow_succ' 256 n, Nat.mod_mul]

/-- A word whose bytes stand in memory reads as the word. -/
theorem Bytes.readLE {t : State} {a n v : Nat} (h : Bytes t a (leBytes n v)) : t.readLE (.flat a) n = v % 256 ^ n := by
  have hread : t.readBytes (.flat a) n = leBytes n v := by
    simp only [State.readBytes, State.readAt_eq_map, Place.addr, Nat.zero_add]
    refine List.ext_getElem (by simp) fun j hj hj' => ?_
    rw [List.getElem_map, List.getElem_range, h j hj', List.getD_eq_getElem _ _ hj']
  rw [State.readLE, hread, leNat_leBytes]

/-- An entry of 64 bits whose bytes stand in memory. -/
theorem Bytes.readEntry {t : State} {a e : Nat} (h : Bytes t a (leBytes 8 e)) (he : e < 2 ^ 64) : t.readLE (.flat a) 8 = e := by
  rw [h.readLE]
  exact Nat.mod_eq_of_lt he

section
variable {s t : State}

theorem State.writeAt_mem_of_mem (h : t.mem = s.mem) (p : Place) (bs : List Byte) (i : Nat) :
    (t.writeAt p i bs).mem = (s.writeAt p i bs).mem := by
  induction bs generalizing s t i with
  | nil => exact h
  | cons b bs ih =>
    rw [State.writeAt, State.writeAt]
    exact ih (congrArg (put memDefault · (p.addr i) b) h) (i + 1)

theorem unitWrite_mem_of_mem (h : t.mem = s.mem) (a : Nat) (bs : List Byte) :
    (unitWrite t a bs).mem = (unitWrite s a bs).mem := by
  rw [unitWrite_mem, unitWrite_mem]
  exact State.writeAt_mem_of_mem h (.flat a) bs 0

/-- One more write after those of a list. -/
theorem unitWrites_snoc {ws : List (Nat × List Byte)} (h : t.mem = (unitWrites s ws).mem) (a : Nat) (bs : List Byte) :
    (unitWrite t a bs).mem = (unitWrites s (ws ++ [(a, bs)])).mem := by
  rw [unitWrites, List.foldl_append]
  exact unitWrite_mem_of_mem h a bs

end

section
variable (s : State) (ws : List (Nat × List Byte))

theorem unitWrites_att : (unitWrites s ws).att = s.att := by
  induction ws generalizing s with
  | nil => rfl
  | cons w ws ih => rw [unitWrites_cons, ih, unitWrite_att]

theorem unitWrites_fab : (unitWrites s ws).fab = s.fab := by
  induction ws generalizing s with
  | nil => rfl
  | cons w ws ih => rw [unitWrites_cons, ih, unitWrite_fab]

end

end Sys2Proof.Machine
end

section
/-! SUPPORT. The commits of an attention engine: the commit that waits, is refused, or applies (R348 to R350). -/

namespace Sys2Proof.Machine

/-! ### The effect of a commit -/

section
variable {s : State} {q : Nat} {r : CommitRec}

theorem commitEffect_setLeaf (hop : r.op = 1) : commitEffect s q r =
    unitWrites s [(r.dst, leBytes 512 0), (rootAt s q r.sid r.index, leBytes 8 (2 ^ 63 + r.dst))] := by
  rw [commitEffect, hop]
  rfl

theorem commitEffect_setPage {a : Nat} (hop : r.op = 2) (hleaf : leafEntryAt s q r.sid r.index = some a) :
    commitEffect s q r = unitWrites s [(a, leBytes 8 (2 ^ 63 + r.dst))] := by
  rw [commitEffect, hop]
  dsimp only
  rw [hleaf]
  rfl

theorem commitEffect_freePage {a : Nat} (hop : r.op = 3) (hleaf : leafEntryAt s q r.sid r.index = some a) :
    commitEffect s q r = unitWrites s [(a, leBytes 8 0)] := by
  rw [commitEffect, hop]
  dsimp only
  rw [hleaf]
  rfl

theorem commitEffect_freeLeaf (hop : r.op = 4) :
    commitEffect s q r = unitWrites s [(rootAt s q r.sid r.index, leBytes 8 0)] := by
  rw [commitEffect, hop]
  rfl

theorem commitEffect_setLen (hop : r.op = 5) : commitEffect s q r = s.setFld (F.SEQ_STATE_LEN q r.sid) r.len := by
  rw [commitEffect, hop]
  rfl

/-- RESET_SEQ clears the leaves and then their root entries. -/
theorem commitEffect_resetSeq (hop : r.op = 6) : commitEffect s q r =
    (unitWrites s ((seqLeaves s q r.sid).map (fun p => (p.2, leBytes 512 0)) ++
      (seqLeaves s q r.sid).map fun p => (p.1, leBytes 8 0))).setFld (F.SEQ_STATE_LEN q r.sid) 0 := by
  rw [commitEffect, hop, unitWrites, List.foldl_append, List.foldl_map, List.foldl_map]
  rfl

end

/-- A commit writes memory and, at most, the length of its sequence. -/
theorem commitEffect_eq (s : State) (q : Nat) (r : CommitRec) : ∃ ws, commitEffect s q r = unitWrites s ws ∨
    ∃ n, commitEffect s q r = (unitWrites s ws).setFld (F.SEQ_STATE_LEN q r.sid) n := by
  by_cases hreset : r.op = 6
  · exact ⟨_, .inr ⟨_, commitEffect_resetSeq hreset⟩⟩
  · unfold commitEffect
    split
    · exact ⟨[(_, _), (_, _)], .inl rfl⟩
    · split
      · exact ⟨[(_, _)], .inl rfl⟩
      · exact ⟨[], .inl rfl⟩
    · split
      · exact ⟨[(_, _)], .inl rfl⟩
      · exact ⟨[], .inl rfl⟩
    · exact ⟨[(_, _)], .inl rfl⟩
    · exact ⟨[], .inr ⟨_, rfl⟩⟩
    · next hop => exact absurd hop hreset
    · exact ⟨[], .inl rfl⟩

theorem commitEffect_frame (s : State) (q : Nat) (r : CommitRec) : (commitEffect s q r).att = s.att ∧
    (commitEffect s q r).fab = s.fab ∧ (commitEffect s q r).pending = s.pending ∧
    RegsExcept [R.SEQ_STATE q r.sid] s (commitEffect s q r) := by
  obtain ⟨ws, heq | ⟨n, heq⟩⟩ := commitEffect_eq s q r <;> rw [heq]
  · exact ⟨unitWrites_att s ws, unitWrites_fab s ws, unitWrites_pending s ws,
      (RegsExcept.refl _ s).of_csr (unitWrites_csr s ws)⟩
  · exact ⟨(State.setFld_att ..).trans (unitWrites_att s ws), (State.setFld_fab ..).trans (unitWrites_fab s ws),
      (State.setFld_pending ..).trans (unitWrites_pending s ws),
      ((RegsExcept.refl _ s).of_csr (unitWrites_csr s ws)).setFld n (by simp)⟩

/-- A commit has taken effect: the tables or LEN, and the sequence's generation. -/
def commitApplied (s : State) (q : Nat) (r : CommitRec) : State :=
  (commitEffect s q r).setFld (F.SEQ_STATE_GEN q r.sid) ((s.fld (F.SEQ_STATE_GEN q r.sid) + 1) % 2 ^ 32)

theorem commitApplied_frame (s : State) (q : Nat) (r : CommitRec) : (commitApplied s q r).att = s.att ∧
    (commitApplied s q r).fab = s.fab ∧ (commitApplied s q r).pending = s.pending ∧
    RegsExcept [R.SEQ_STATE q r.sid] s (commitApplied s q r) := by
  obtain ⟨hatt, hfab, hpending, hregs⟩ := commitEffect_frame s q r
  exact ⟨(State.setFld_att ..).trans hatt, (State.setFld_fab ..).trans hfab, (State.setFld_pending ..).trans hpending,
    hregs.setFld _ (by simp)⟩

theorem commitApplied_gen (s : State) (q : Nat) (r : CommitRec) :
    (commitApplied s q r).fld (F.SEQ_STATE_GEN q r.sid) = (s.fld (F.SEQ_STATE_GEN q r.sid) + 1) % 2 ^ 32 := by
  rw [commitApplied, State.fld_setFld_same _ _ _ (by simp)]
  exact Nat.mod_mod _ _

/-! ### The release ring (R350) -/

/-- Where the next release is written. -/
def relSlot (s : State) (q : Nat) : Nat := s.fld (F.ATT_RRING_BASE q) + 8 * (s.fld (F.ATT_RPTR_REL_TAIL q) % 2 ^ relLog s q)

/-- These releases appended to the ring. -/
def relAppended (s : State) (q : Nat) (rel : List Nat) : State := rel.foldl (fun st e => appendRel st q e) s

theorem appendRel_eq (s : State) (q e : Nat) : appendRel s q e = (unitWrite s (relSlot s q) (leBytes 8 e)).setFld
    (F.ATT_RPTR_REL_TAIL q) ((s.fld (F.ATT_RPTR_REL_TAIL q) + 1) % 2 ^ 32) := rfl

theorem relAppended_one_mem (s : State) (q e : Nat) :
    (relAppended s q [e]).mem = (unitWrite s (relSlot s q) (leBytes 8 e)).mem := rfl

theorem relSlot_of_regs {s t : State} {q k : Nat} (h : RegsExcept [R.SEQ_STATE q k] s t) : relSlot t q = relSlot s q := by
  have hlog : relLog t q = relLog s q := by
    rw [relLog, h.fld (by simp only [R.SEQ_STATE, R.ATT_RRING, List.mem_singleton]; omega), relLog]
  rw [relSlot, hlog, h.fld (by simp only [R.SEQ_STATE, R.ATT_RRING, List.mem_singleton]; omega),
    h.fld (by simp only [R.SEQ_STATE, R.ATT_RPTR, List.mem_singleton]; omega), relSlot]

theorem relAppended_frame (s : State) (q : Nat) (rel : List Nat) : (relAppended s q rel).att = s.att ∧
    (relAppended s q rel).fab = s.fab ∧ (relAppended s q rel).pending = s.pending ∧
    RegsExcept [R.ATT_RPTR q] s (relAppended s q rel) := by
  induction rel generalizing s with
  | nil => exact ⟨rfl, rfl, rfl, RegsExcept.refl _ s⟩
  | cons e rel ih =>
    obtain ⟨hatt, hfab, hpending, hregs⟩ := ih (appendRel s q e)
    have hone : RegsExcept [R.ATT_RPTR q] s (appendRel s q e) := by
      rw [appendRel_eq]
      exact ((RegsExcept.refl _ s).of_csr (unitWrite_csr ..)).setFld _ (by simp)
    rw [appendRel_eq] at hatt hfab hpending
    exact ⟨hatt.trans ((State.setFld_att ..).trans (unitWrite_att ..)),
      hfab.trans ((State.setFld_fab ..).trans (unitWrite_fab ..)),
      hpending.trans ((State.setFld_pending ..).trans (unitWrite_pending ..)), (hone.trans hregs).mono (by simp)⟩

theorem relAppended_tail (s : State) (q : Nat) (rel : List Nat) : (relAppended s q rel).fld (F.ATT_RPTR_REL_TAIL q) =
    (s.fld (F.ATT_RPTR_REL_TAIL q) + rel.length) % 2 ^ 32 := by
  induction rel generalizing s with
  | nil => exact (Nat.mod_eq_of_lt (getBits_lt _ _ _)).symm
  | cons e rel ih =>
    have hone : (appendRel s q e).fld (F.ATT_RPTR_REL_TAIL q) = (s.fld (F.ATT_RPTR_REL_TAIL q) + 1) % 2 ^ 32 := by
      rw [appendRel_eq, State.fld_setFld_same _ _ _ (by simp)]
      exact Nat.mod_mod _ _
    refine (ih (appendRel s q e)).trans ?_
    rw [hone, Nat.mod_add_mod, List.length_cons, Nat.add_assoc, Nat.add_comm 1]

/-! ### The commit at the head of the ring (R348, R349) -/

section
variable {s : State} {q op : Nat}

/-- An engine that is not ON, an empty ring, a commit of another operation: nothing happens. -/
theorem commitRun_idle (h : attState s q ≠ 1 ∨ s.fld (F.ATT_CPTR_HEAD q) = s.fld (F.ATT_CPTR_TAIL q) ∨
    ((commitRecord s q).op ≠ op ∧ 1 ≤ (commitRecord s q).op ∧ (commitRecord s q).op ≤ 6)) : commitRun s q op = s := by
  unfold commitRun
  split
  · rfl
  · next hon => exact if_pos ((h.resolve_left fun hoff => hon (.inl hoff)).resolve_left fun hempty => hon (.inr hempty))

/-- A commit of a sequence that a step holds waits. -/
theorem commitRun_held (hop : (commitRecord s q).op = op) (hon : attState s q = 1)
    (hne : s.fld (F.ATT_CPTR_HEAD q) ≠ s.fld (F.ATT_CPTR_TAIL q)) (hheld : attHeld s q (commitRecord s q).sid = true)
    (hfirst : (attOf s q).waitFrom = none) :
    commitRun s q op = (setAtt s q { attOf s q with waitFrom := some s.now }).setFld (F.ATT_STATUS_COMMIT_WAITING q) 1 := by
  rw [commitRun, if_neg (by simp [hon, hne])]
  dsimp only
  rw [if_neg (by simp [hop]), hheld, Bool.true_or, Bool.true_or, if_pos rfl, hfirst]
  rfl

variable (hdue : commitDue s q)
include hdue

/-- A commit that is due is not held back: it applies or is refused. -/
theorem commitRun_due (hop : (commitRecord s q).op = op ∨ (commitRecord s q).op = 0 ∨ 6 < (commitRecord s q).op)
    (hroom : (commitReleases s q (commitRecord s q)).length ≤ relRoom s q) :
    commitRun s q op = recordEnded
      (relAppended (if commitOk s q (commitRecord s q) then commitApplied s q (commitRecord s q) else s) q
        (commitReleases s q (commitRecord s q))) ((commitRecord s q).addr + 28)
      (if commitOk s q (commitRecord s q) then 1#8 else 2#8) (commitRecord s q).notify (commitRecord s q).nval
      (F.ATT_CPTR_HEAD q) := by
  obtain ⟨hon, hne, hatt⟩ := hdue
  have hheld : attHeld s q (commitRecord s q).sid = false := by rw [attHeld, hatt]; rfl
  have hpin : attPinning s q = false := by rw [attPinning, hatt]; rfl
  have hstop : stopWaiting s q = s := by unfold stopWaiting; rw [hatt]; rfl
  have hfree : ∀ w : State, w.att = s.att → (attOf w q).cur.isSome = false := fun w hw => by
    rw [attOf_of_att hw, hatt]; rfl
  rw [commitRun, if_neg (by simp [hon, hne])]
  dsimp only
  rw [if_neg (by omega), hheld, hpin, hatt, if_neg (by simpa [Att.reset] using hroom), hstop, hfree]
  · rfl
  · split
    · exact (commitApplied_frame s q _).1
    · rfl

end

end Sys2Proof.Machine
end

section
/-! SUPPORT. What the commit at the head of the ring leaves (R348 to R350). -/

namespace Sys2Proof.Machine

/-- What a commit r that applies leaves, with these releases. -/
structure CommitDone (q : Nat) (r : CommitRec) (rel : List Nat) (s t : State) : Prop where
  ends : CommitEnds q r s t
  mem : t.mem = (unitWrite (relAppended (commitApplied s q r) q rel) (r.addr + 28) [1#8]).mem
  len : t.fld (F.SEQ_STATE_LEN q r.sid) = (commitEffect s q r).fld (F.SEQ_STATE_LEN q r.sid)
  tail : t.fld (F.ATT_RPTR_REL_TAIL q) = (s.fld (F.ATT_RPTR_REL_TAIL q) + rel.length) % 2 ^ 32
  ring : rel = [] → t.reg (R.ATT_RPTR q) = s.reg (R.ATT_RPTR q)
  pending : t.pending = s.pending

section
variable {s : State} {q op : Nat} (hdue : commitDue s q)
include hdue

theorem commitRun_refused (hop : (commitRecord s q).op = op ∨ (commitRecord s q).op = 0 ∨ 6 < (commitRecord s q).op)
    (hbad : commitOk s q (commitRecord s q) = false) :
    CommitEnds q (commitRecord s q) s (commitRun s q op) ∧ MemExcept [((commitRecord s q).addr + 28, 1)] s (commitRun s q op) ∧
      RegsExcept [R.ATT_CPTR q] s (commitRun s q op) ∧ (commitRun s q op).pending = s.pending := by
  have hnone : commitReleases s q (commitRecord s q) = [] := if_pos (by simp [hbad])
  have hend := recordEnded_spec s ((commitRecord s q).addr + 28) 2#8 (commitRecord s q).notify (commitRecord s q).nval
    (head := F.ATT_CPTR_HEAD q) (by simp) rfl
  rw [commitRun_due hdue hop (by rw [hnone]; exact Nat.zero_le _), hnone, hbad, if_neg Bool.false_ne_true,
    if_neg Bool.false_ne_true, relAppended, List.foldl_nil]
  exact ⟨⟨hend.status.trans (by rw [hbad]; rfl), hend.next, fun hok => absurd hok (by simp [hbad]), hend.line,
    hend.regs.mono (by simp)⟩, hend.others, hend.regs, hend.pending⟩

theorem commitRun_done (hop : (commitRecord s q).op = op) (hok : commitOk s q (commitRecord s q) = true)
    (hroom : (commitReleases s q (commitRecord s q)).length ≤ relRoom s q) :
    CommitDone q (commitRecord s q) (commitReleases s q (commitRecord s q)) s (commitRun s q op) := by
  rw [commitRun_due hdue (.inl hop) hroom, if_pos hok, if_pos hok]
  generalize commitRecord s q = r at *
  generalize commitReleases s q r = rel at *
  obtain ⟨-, hafab, hapending, haregs⟩ := commitApplied_frame s q r
  obtain ⟨-, hrfab, hrpending, hrregs⟩ := relAppended_frame (commitApplied s q r) q rel
  have htail := relAppended_tail (commitApplied s q r) q rel
  have hend := recordEnded_spec (relAppended (commitApplied s q r) q rel) (r.addr + 28) 1#8 r.notify r.nval
    (head := F.ATT_CPTR_HEAD q) (by simp) rfl
  have hregs := haregs.trans hrregs
  have hcptr : R.ATT_CPTR q ∉ [R.SEQ_STATE q r.sid] ++ [R.ATT_RPTR q] := by
    simp only [R.ATT_CPTR, R.SEQ_STATE, R.ATT_RPTR, List.cons_append, List.nil_append, List.mem_cons, List.not_mem_nil,
      or_false]
    omega
  have hrptr : R.ATT_RPTR q ∉ [R.SEQ_STATE q r.sid] := by simp only [R.SEQ_STATE, R.ATT_RPTR, List.mem_singleton]; omega
  have hseq : R.SEQ_STATE q r.sid ∉ [R.ATT_RPTR q] := by simp only [R.SEQ_STATE, R.ATT_RPTR, List.mem_singleton]; omega
  have hseq' : R.SEQ_STATE q r.sid ∉ [R.ATT_CPTR q] := by simp only [R.SEQ_STATE, R.ATT_CPTR, List.mem_singleton]; omega
  refine ⟨⟨hend.status.trans (if_pos hok).symm, ?_, fun _ => ?_, (hend.line.from_fab (hrfab.trans hafab)), ?_⟩, hend.mem, ?_, ?_,
    fun hnone => ?_, hend.pending.trans (hrpending.trans hapending)⟩
  · rw [hend.next, hregs.fld hcptr]
  · rw [hend.regs.fld hseq', hrregs.fld hseq, commitApplied_gen]
  · exact (hregs.trans hend.regs).mono (by simp)
  · rw [hend.regs.fld hseq', hrregs.fld hseq, commitApplied, State.fld_setFld_ne _ _ _ _ (by simp)]
  · rw [hend.regs.fld (by simp), htail, haregs.fld hrptr]
  · rw [hend.regs _ (by simp), hnone]
    exact haregs _ hrptr

end

/-! ### Memory -/

theorem commitApplied_mem (s : State) (q : Nat) (r : CommitRec) : (commitApplied s q r).mem = (commitEffect s q r).mem :=
  State.setFld_mem ..

section
variable {s t : State} {q : Nat} {r : CommitRec} {ws : List (Nat × List Byte)}
  (heffect : (commitEffect s q r).mem = (unitWrites s ws).mem)
include heffect

/-- The writes of a commit that releases nothing. -/
theorem CommitDone.mem_nil (h : CommitDone q r [] s t) : t.mem = (unitWrites s (ws ++ [(r.addr + 28, [1#8])])).mem := by
  rw [h.mem]
  exact unitWrites_snoc ((commitApplied_mem s q r).trans heffect) _ _

/-- The writes of a commit that releases one entry. -/
theorem CommitDone.mem_one {e : Nat} (h : CommitDone q r [e] s t) :
    t.mem = (unitWrites s (ws ++ [(relSlot s q, leBytes 8 e)] ++ [(r.addr + 28, [1#8])])).mem := by
  rw [h.mem]
  refine unitWrites_snoc ?_ _ _
  rw [relAppended_one_mem, relSlot_of_regs (commitApplied_frame s q r).2.2.2]
  exact unitWrites_snoc ((commitApplied_mem s q r).trans heffect) _ _

end

/-- Writes that stand apart: each stands, and nothing else changes. -/
theorem unitWrites_apart {s t : State} {ws : List (Nat × List Byte)} (hmem : t.mem = (unitWrites s ws).mem) (hapart : Apart (spans ws)) :
    (∀ x ∈ ws, Bytes t x.1 x.2) ∧ MemExcept (spans ws) s t :=
  ⟨fun x hx => (bytes_unitWrites s ws hapart x hx).of_mem hmem, (memExcept_unitWrites s ws).of_mem hmem⟩

/-- A commit that writes one entry and releases one. -/
theorem CommitDone.entry_release {s t : State} {q : Nat} {r : CommitRec} {a v e : Nat} (h : CommitDone q r [e] s t)
    (heffect : commitEffect s q r = unitWrites s [(a, leBytes 8 v)]) (hv : v < 2 ^ 64) (he : e < 2 ^ 64)
    (hapart : Apart [(a, 8), (relSlot s q, 8), (r.addr + 28, 1)]) :
    fernEntry t a = v ∧ t.readLE (.flat (relSlot s q)) 8 = e ∧
      t.fld (F.ATT_RPTR_REL_TAIL q) = (s.fld (F.ATT_RPTR_REL_TAIL q) + 1) % 2 ^ 32 ∧
      MemExcept [(a, 8), (relSlot s q, 8), (r.addr + 28, 1)] s t := by
  have hspans : spans ([(a, leBytes 8 v)] ++ [(relSlot s q, leBytes 8 e)] ++ [(r.addr + 28, [1#8])]) =
    [(a, 8), (relSlot s q, 8), (r.addr + 28, 1)] := by simp [spans]
  obtain ⟨hbytes, hothers⟩ := unitWrites_apart (h.mem_one (congrArg State.mem heffect)) (hspans ▸ hapart)
  exact ⟨(hbytes (a, leBytes 8 v) (by simp)).readEntry hv, (hbytes (relSlot s q, leBytes 8 e) (by simp)).readEntry he, h.tail,
    hspans ▸ hothers⟩

/-- A commit that writes one entry and releases nothing. -/
theorem CommitDone.entry_alone {s t : State} {q : Nat} {r : CommitRec} {a v : Nat} (h : CommitDone q r [] s t)
    (heffect : commitEffect s q r = unitWrites s [(a, leBytes 8 v)]) (hv : v < 2 ^ 64)
    (hapart : Apart [(a, 8), (r.addr + 28, 1)]) : fernEntry t a = v ∧ MemExcept [(a, 8), (r.addr + 28, 1)] s t := by
  have hspans : spans ([(a, leBytes 8 v)] ++ [(r.addr + 28, [1#8])]) = [(a, 8), (r.addr + 28, 1)] := by simp [spans]
  obtain ⟨hbytes, hothers⟩ := unitWrites_apart (h.mem_nil (congrArg State.mem heffect)) (hspans ▸ hapart)
  exact ⟨(hbytes (a, leBytes 8 v) (by simp)).readEntry hv, hspans ▸ hothers⟩

/-! ### The condition of a commit (Table 14.4) and its releases -/

section
variable {s : State} {q : Nat} {r : CommitRec} (hok : commitOk s q r = true)
include hok

theorem commitOk_sid : r.sid < 64 := by
  simp only [commitOk, Bool.and_eq_true, decide_eq_true_eq] at hok
  exact hok.1.1

/-- The address of a new leaf lies in the fern region. -/
theorem commitOk_leaf (hop : r.op = 1) : r.dst < 2 ^ 63 := by
  have hbase : fernBase s q < 2 ^ 48 := getBits_lt _ _ _
  have hsize : fernSize s q < 2 ^ 15 * 4096 := Nat.mul_lt_mul_of_pos_right (getBits_lt _ _ _) (by decide)
  rw [commitOk, hop] at hok
  simp only [Bool.and_eq_true, decide_eq_true_eq] at hok
  omega

/-- The address of a new page lies in memory. -/
theorem commitOk_page (hop : r.op = 2) : r.dst < 2 ^ 63 := by
  have husable : usableEnd s < 2 ^ 63 := by unfold usableEnd lpddrEnd; split <;> omega
  have hstack : stackEnd < 2 ^ 63 := by decide
  rw [commitOk, hop] at hok
  simp only [Bool.and_eq_true, decide_eq_true_eq, attRange, inRange, Bool.or_eq_true] at hok
  omega

/-- The length of a sequence fits its field. -/
theorem commitOk_len (hop : r.op = 5) : r.len ≤ 2 ^ 20 := by
  rw [commitOk, hop] at hok
  simp only [Bool.and_eq_true, decide_eq_true_eq] at hok
  exact hok.2

end

/-- An entry of the release ring has 64 bits. -/
theorem relEntry_lt {sid : Nat} (hsid : sid < 64) (leaf : Bool) (a : Nat) : relEntry leaf sid a < 2 ^ 64 := by
  unfold relEntry
  split <;> omega

end Sys2Proof.Machine
end

section
/-! SUPPORT. The rows of an attention engine's commits, from the command to the state that it leaves. -/

namespace Sys2Proof.Machine

/-! ### Releases -/

section
variable {s : State} {q : Nat} {r : CommitRec} (hok : commitOk s q r = true)
include hok

theorem commitReleases_setLeaf (hop : r.op = 1) : commitReleases s q r = [] := by
  rw [commitReleases, if_neg (by simp [hok]), hop]
  rfl

theorem commitReleases_setPage {a : Nat} (hop : r.op = 2) (hleaf : leafEntryAt s q r.sid r.index = some a) :
    commitReleases s q r = if entryValid (fernEntry s a) then [relEntry false r.sid (pageOf (fernEntry s a))] else [] := by
  rw [commitReleases, if_neg (by simp [hok]), hop]
  simp only [hleaf]

theorem commitReleases_freePage {a : Nat} (hop : r.op = 3) (hleaf : leafEntryAt s q r.sid r.index = some a) :
    commitReleases s q r = [relEntry false r.sid (pageOf (fernEntry s a))] := by
  rw [commitReleases, if_neg (by simp [hok]), hop]
  simp only [hleaf]

theorem commitReleases_freeLeaf (hop : r.op = 4) :
    commitReleases s q r = [relEntry true r.sid (leafOf (fernEntry s (rootAt s q r.sid r.index)))] := by
  rw [commitReleases, if_neg (by simp [hok]), hop]
  rfl

theorem commitReleases_setLen (hop : r.op = 5) : commitReleases s q r = [] := by
  rw [commitReleases, if_neg (by simp [hok]), hop]
  rfl

theorem commitReleases_resetSeq_length (hop : r.op = 6) :
    (commitReleases s q r).length = (seqPages s q r.sid).length + (seqLeaves s q r.sid).length := by
  rw [commitReleases, if_neg (by simp [hok]), hop]
  simp

end

/-! ### The rows -/

variable {q : Fin 16} {s : State} {r : CommitRec} {row : Instr} {op : Nat} (hup : s.up = true)
  (hrow : exec row s = ifUp (fun s => commitRun s q op) s) (hr : commitRecord s q = r)
include hup hrow hr

theorem exec_commit_idle (h : attState s q ≠ 1 ∨ s.fld (F.ATT_CPTR_HEAD q) = s.fld (F.ATT_CPTR_TAIL q) ∨
    (r.op ≠ op ∧ 1 ≤ r.op ∧ r.op ≤ 6)) : exec row s = .next s :=
  exec_row hup hrow (commitRun_idle (by rwa [hr])) rfl

theorem runs_commit_held (hop : r.op = op) (hon : attState s q = 1)
    (hne : s.fld (F.ATT_CPTR_HEAD q) ≠ s.fld (F.ATT_CPTR_TAIL q)) (hheld : attHeld s q r.sid = true)
    (hfirst : (attOf s q).waitFrom = none) : Runs row s fun t => (attOf t q).waitFrom = some s.now ∧
      t.fld (F.ATT_STATUS_COMMIT_WAITING q) = 1 ∧ RegsExcept [R.ATT_STATUS q] s t ∧ MemSame s t ∧ CoresExcept [] s t := by
  subst hr
  refine ⟨_, exec_row hup hrow (commitRun_held hop hon hne hheld hfirst) ?_, ?_, ?_, ?_, fun a => ?_, fun n _ => ?_⟩
  · rw [State.setFld_pending, setAtt_pending]
  · rw [attOf_setFld, attOf_setAtt_same]
  · exact State.fld_setFld_same _ _ 1 (by simp)
  · exact ((RegsExcept.refl _ s).of_csr (setAtt_csr ..)).setFld 1 (by simp)
  · exact State.byte_of_mem (by rw [State.setFld_mem, setAtt_mem]) a
  · exact State.core_of_cores (by rw [State.setFld_cores, setAtt_cores]) n

variable (hdue : commitDue s q)
include hdue

theorem runs_commit_refused (hop : r.op = op ∨ r.op = 0 ∨ 6 < r.op) (hbad : commitOk s q r = false) :
    Runs row s fun t => CommitEnds q r s t ∧ MemExcept [(r.addr + 28, 1)] s t ∧ RegsExcept [R.ATT_CPTR q] s t := by
  subst hr
  obtain ⟨hends, hmem, hregs, hpending⟩ := commitRun_refused hdue hop hbad
  exact runs_row hup hrow hpending ⟨hends, hmem, hregs⟩

variable (hop : r.op = op) (hok : commitOk s q r = true) (hroom : (commitReleases s q r).length ≤ relRoom s q)
include hop hok hroom

theorem runs_commit_setLeaf (hleaf : r.op = 1)
    (hapart : Apart [(r.dst, 512), (rootAt s q r.sid r.index, 8), (r.addr + 28, 1)]) :
    Runs row s fun t => CommitEnds q r s t ∧ Bytes t r.dst (List.replicate 512 0) ∧
      fernEntry t (rootAt s q r.sid r.index) = 2 ^ 63 + r.dst ∧
      t.fld (F.SEQ_STATE_LEN q r.sid) = s.fld (F.SEQ_STATE_LEN q r.sid) ∧
      MemExcept [(r.dst, 512), (rootAt s q r.sid r.index, 8), (r.addr + 28, 1)] s t := by
  subst hr
  have hdone := commitRun_done hdue hop hok hroom
  generalize commitRecord s q = r at *
  rw [commitReleases_setLeaf hok hleaf] at hdone
  have heffect := commitEffect_setLeaf (s := s) (q := q) hleaf
  have hspans : spans ([(r.dst, leBytes 512 0), (rootAt s q r.sid r.index, leBytes 8 (2 ^ 63 + r.dst))] ++
    [(r.addr + 28, [1#8])]) = [(r.dst, 512), (rootAt s q r.sid r.index, 8), (r.addr + 28, 1)] := by simp [spans]
  obtain ⟨hbytes, hothers⟩ := unitWrites_apart (hdone.mem_nil (congrArg State.mem heffect)) (hspans ▸ hapart)
  refine runs_row hup hrow hdone.pending ⟨hdone.ends, ?_,
    (hbytes (rootAt s q r.sid r.index, leBytes 8 (2 ^ 63 + r.dst)) (by simp)).readEntry ?_, ?_, hspans ▸ hothers⟩
  · exact leBytes_zero 512 ▸ hbytes (r.dst, leBytes 512 0) (by simp)
  · have := commitOk_leaf hok hleaf
    omega
  · rw [hdone.len, heffect, State.fld_of_csr (unitWrites_csr ..)]

theorem runs_commit_setPage {a : Nat} (hpage : r.op = 2) (hleaf : leafEntryAt s q r.sid r.index = some a)
    (hapart : Apart [(a, 8), (relSlot s q, 8), (r.addr + 28, 1)]) :
    Runs row s fun t => CommitEnds q r s t ∧ fernEntry t a = 2 ^ 63 + r.dst ∧
      (entryValid (fernEntry s a) = true →
        t.readLE (.flat (relSlot s q)) 8 = relEntry false r.sid (pageOf (fernEntry s a)) ∧
        t.fld (F.ATT_RPTR_REL_TAIL q) = (s.fld (F.ATT_RPTR_REL_TAIL q) + 1) % 2 ^ 32) ∧
      (entryValid (fernEntry s a) = false → t.reg (R.ATT_RPTR q) = s.reg (R.ATT_RPTR q)) ∧
      MemExcept [(a, 8), (relSlot s q, 8), (r.addr + 28, 1)] s t := by
  subst hr
  have hdone := commitRun_done hdue hop hok hroom
  generalize commitRecord s q = r at *
  rw [commitReleases_setPage hok hpage hleaf] at hdone
  have heffect := commitEffect_setPage hpage hleaf
  have hentry : 2 ^ 63 + r.dst < 2 ^ 64 := by have := commitOk_page hok hpage; omega
  cases hvalid : entryValid (fernEntry s a)
  · rw [hvalid, if_neg Bool.false_ne_true] at hdone
    obtain ⟨hfern, hothers⟩ := hdone.entry_alone heffect hentry (hapart.sublist (by simp))
    exact runs_row hup hrow hdone.pending ⟨hdone.ends, hfern, fun h => absurd h Bool.false_ne_true, fun _ => hdone.ring rfl,
      hothers.mono (by simp)⟩
  · rw [hvalid, if_pos rfl] at hdone
    obtain ⟨hfern, hrel, htail, hothers⟩ := hdone.entry_release heffect hentry (relEntry_lt (commitOk_sid hok) ..) hapart
    exact runs_row hup hrow hdone.pending ⟨hdone.ends, hfern, fun _ => ⟨hrel, htail⟩, fun h => absurd h.symm Bool.false_ne_true,
      hothers⟩

theorem runs_commit_freePage {a : Nat} (hpage : r.op = 3) (hleaf : leafEntryAt s q r.sid r.index = some a)
    (hapart : Apart [(a, 8), (relSlot s q, 8), (r.addr + 28, 1)]) :
    Runs row s fun t => CommitEnds q r s t ∧ fernEntry t a = 0 ∧
      t.readLE (.flat (relSlot s q)) 8 = relEntry false r.sid (pageOf (fernEntry s a)) ∧
      t.fld (F.ATT_RPTR_REL_TAIL q) = (s.fld (F.ATT_RPTR_REL_TAIL q) + 1) % 2 ^ 32 ∧
      MemExcept [(a, 8), (relSlot s q, 8), (r.addr + 28, 1)] s t := by
  subst hr
  have hdone := commitRun_done hdue hop hok hroom
  rw [commitReleases_freePage hok hpage hleaf] at hdone
  exact runs_row hup hrow hdone.pending ⟨hdone.ends, hdone.entry_release (commitEffect_freePage hpage hleaf) (Nat.two_pow_pos 64)
    (relEntry_lt (commitOk_sid hok) ..) hapart⟩

theorem runs_commit_freeLeaf (hleaf : r.op = 4) (hapart : Apart [(rootAt s q r.sid r.index, 8), (relSlot s q, 8), (r.addr + 28, 1)]) :
    Runs row s fun t => CommitEnds q r s t ∧ fernEntry t (rootAt s q r.sid r.index) = 0 ∧
      t.readLE (.flat (relSlot s q)) 8 = relEntry true r.sid (leafOf (fernEntry s (rootAt s q r.sid r.index))) ∧
      t.fld (F.ATT_RPTR_REL_TAIL q) = (s.fld (F.ATT_RPTR_REL_TAIL q) + 1) % 2 ^ 32 ∧
      MemExcept [(rootAt s q r.sid r.index, 8), (relSlot s q, 8), (r.addr + 28, 1)] s t := by
  subst hr
  have hdone := commitRun_done hdue hop hok hroom
  rw [commitReleases_freeLeaf hok hleaf] at hdone
  exact runs_row hup hrow hdone.pending ⟨hdone.ends, hdone.entry_release (commitEffect_freeLeaf hleaf) (Nat.two_pow_pos 64)
    (relEntry_lt (commitOk_sid hok) ..) hapart⟩

theorem runs_commit_setLen (hlen : r.op = 5) : Runs row s fun t => CommitEnds q r s t ∧
    t.fld (F.SEQ_STATE_LEN q r.sid) = r.len ∧ t.reg (R.ATT_RPTR q) = s.reg (R.ATT_RPTR q) ∧
    MemExcept [(r.addr + 28, 1)] s t := by
  subst hr
  have hdone := commitRun_done hdue hop hok hroom
  generalize commitRecord s q = r at *
  rw [commitReleases_setLen hok hlen] at hdone
  have heffect := commitEffect_setLen (s := s) (q := q) hlen
  refine runs_row hup hrow hdone.pending ⟨hdone.ends, ?_, hdone.ring rfl,
    (memExcept_unitWrites s _).of_mem (hdone.mem_nil (ws := []) ((congrArg State.mem heffect).trans (State.setFld_mem ..)))⟩
  have := commitOk_len hok hlen
  rw [hdone.len, heffect, State.fld_setFld_same _ _ _ (by simp)]
  exact Nat.mod_eq_of_lt (by simp only; omega)

theorem runs_commit_resetSeq (hreset : r.op = 6) : Runs row s fun t => CommitEnds q r s t ∧
    t.fld (F.SEQ_STATE_LEN q r.sid) = 0 ∧ t.fld (F.ATT_RPTR_REL_TAIL q) =
      (s.fld (F.ATT_RPTR_REL_TAIL q) + (seqPages s q r.sid).length + (seqLeaves s q r.sid).length) % 2 ^ 32 := by
  subst hr
  have hdone := commitRun_done hdue hop hok hroom
  refine runs_row hup hrow hdone.pending ⟨hdone.ends, ?_, ?_⟩
  · rw [hdone.len, commitEffect_resetSeq hreset, State.fld_setFld_same _ _ _ (by simp), Nat.zero_mod]
  · rw [hdone.tail, commitReleases_resetSeq_length hok hreset, Nat.add_assoc]

end Sys2Proof.Machine
end

section
/-! SUPPORT. Doorbells and configuration of an attention engine (R347, R362). -/

namespace Sys2Proof.Machine

theorem regAt_att {n o : Nat} (hn : n < 16) (ho : o < 0x10000) :
    regAt (0x7F0000A00000 + n * 0x10000 + o) = regTable_att.find? (RegDesc.atOff 0x7F0000A00000 o) :=
  regAt_block (by decide +kernel) hn ho (by
    unfold regTableAt
    iterate 9 rw [if_neg (by omega)]
    rw [if_pos (by omega)])

/-- ATT_CONF and ATT_FERN (Table 14.10). -/
def attConfDesc : RegDesc := ⟨0x7f0000a00008, 16, 0x10000, 1, 0x0, 1, 0x0, 0x0#64,
  [⟨33, 33, .rw⟩, ⟨32, 31, .rw⟩, ⟨26, 22, .rw⟩, ⟨21, 15, .rw⟩, ⟨14, 0, .rw⟩]⟩
def attFernDesc : RegDesc := ⟨0x7f0000a00010, 16, 0x10000, 1, 0x0, 1, 0x0, 0x0#64, [⟨47, 0, .rw⟩]⟩

theorem regAt_ATT_CONF {q : Nat} (hq : q < 16) : regAt (R.ATT_CONF q) = some attConfDesc := by
  rw [show R.ATT_CONF q = 0x7F0000A00000 + q * 0x10000 + 0x8 by unfold R.ATT_CONF; omega, regAt_att hq (by omega)]
  decide +kernel

theorem regAt_ATT_FERN {q : Nat} (hq : q < 16) : regAt (R.ATT_FERN q) = some attFernDesc := by
  rw [show R.ATT_FERN q = 0x7F0000A00000 + q * 0x10000 + 0x10 by unfold R.ATT_FERN; omega, regAt_att hq (by omega)]
  decide +kernel

/-- A write of a whole register of RW fields takes the bits of the fields from the data, and keeps the others. -/
theorem getLsbD_write_rw {d : RegDesc} (hrw : ∀ f ∈ d.fields, f.acc = .rw) (old v : Word) (i : Nat) :
    (d.write .w64 old v).getLsbD i = if (fieldsMask d.fields).getLsbD i then v.getLsbD i else old.getLsbD i := by
  have hmask : (fieldsMask d.fields &&& AccSz.w64.mask) = fieldsMask d.fields := BitVec.and_allOnes
  rw [RegDesc.write, foldl_write_getLsbD_uniform .rw _ _ _ _ _ hrw, hmask]
  rfl

theorem getBits_write_rw {d : RegDesc} (hrw : ∀ f ∈ d.fields, f.acc = .rw) (old v : Word) {hi lo : Nat} (hhi : hi < 64)
    (hin : ∀ i : Fin 64, lo ≤ i → i ≤ hi → (fieldsMask d.fields).getLsbD i = true) :
    getBits (d.write .w64 old v) hi lo = getBits v hi lo := Nat.eq_of_testBit_eq fun i => by
  rw [getBits_testBit, getBits_testBit]
  by_cases hi' : i < hi + 1 - lo
  · rw [getLsbD_write_rw hrw, hin ⟨lo + i, by omega⟩ (by simp) (by simp only; omega), if_pos rfl]
  · simp [hi']

/-- The fields of ATT_FERN are its bits 47:0. -/
theorem attFern_mask (i : Nat) : (fieldsMask attFernDesc.fields).getLsbD i = decide (i < 48) := by
  have hmask : fieldsMask attFernDesc.fields = BitVec.ofNat 64 (2 ^ 48 - 1) := by decide
  rw [hmask, BitVec.getLsbD_ofNat, Nat.testBit_two_pow_sub_one, Bool.and_eq_right_iff_imp.mpr]
  simp only [decide_eq_true_eq]
  omega

section
variable {s : State} {q : Nat} (hq : q < 16) (hoff : attState s q = 0) (v : Word)
include hq hoff

theorem attConfigWrite_conf : attConfigWrite s q 0x08 .w64 v =
    s.setReg (R.ATT_CONF q) (attConfDesc.write .w64 (s.reg (R.ATT_CONF q)) v) := by
  have haddr : R.ATT_CTRL q + 0x08 = R.ATT_CONF q := by simp only [R.ATT_CTRL, R.ATT_CONF]; omega
  rw [attConfigWrite]
  dsimp only
  rw [if_neg (by simp [hoff]), haddr, State.writeByType, regAt_ATT_CONF hq]
  rfl

theorem attConfigWrite_fern : attConfigWrite s q 0x10 .w64 v =
    (s.setReg (R.ATT_FERN q) (attFernDesc.write .w64 (s.reg (R.ATT_FERN q)) v)).setReg (R.ATT_FERN q)
      (setBits (attFernDesc.write .w64 (s.reg (R.ATT_FERN q)) v) 14 0 0) := by
  have haddr : R.ATT_CTRL q + 0x10 = R.ATT_FERN q := by simp only [R.ATT_CTRL, R.ATT_FERN]; omega
  rw [attConfigWrite]
  dsimp only
  rw [if_neg (by simp [hoff]), if_pos rfl, haddr, State.writeByType, regAt_ATT_FERN hq]
  dsimp only
  rw [State.reg_setReg_same]

end

/-- A fern base written over a register that holds no bit above it. -/
theorem fernWritten_eq {old : Word} (hold : getBits old 63 48 = 0) (v : Word) :
    setBits (attFernDesc.write .w64 old v) 14 0 0 = BitVec.ofNat 64 (getBits v 47 15 * 2 ^ 15) := by
  refine BitVec.eq_of_getLsbD_eq fun i hi => ?_
  have hhigh : 48 ≤ i → old.getLsbD i = false := fun h => by
    have hbit := getBits_testBit old 63 48 (i - 48)
    rw [hold, Nat.zero_testBit, Nat.add_sub_cancel' h, decide_eq_true (by omega), Bool.true_and] at hbit
    exact hbit.symm
  rw [setBits_getLsbD, BitVec.getLsbD_ofNat, Nat.testBit_mul_two_pow, getBits_testBit, getLsbD_write_rw (by decide), attFern_mask]
  by_cases hlow : i ≤ 14
  · simp [hlow, show ¬ 15 ≤ i by omega]
  · have hsum : 15 + (i - 15) = i := by omega
    by_cases hin : i < 48
    · simp [hlow, hin, hi, hsum, show 15 ≤ i by omega, show i - 15 < 33 by omega]
    · simp [hlow, hin, hhigh (by omega), show ¬ i - 15 < 33 by omega]

/-! ### The answer given -/

section
variable (s : State)

theorem okReply_fld (f : Fld) : (okReply s).fld f = s.fld f := rfl
theorem okReply_setFld (f : Fld) (v : Nat) : (okReply s).setFld f v = okReply (s.setFld f v) := rfl
theorem okReply_setReg (a : Nat) (v : Word) : (okReply s).setReg a v = okReply (s.setReg a v) := rfl
theorem okReply_pending : (okReply s).pending = s.pending := rfl

/-- A doorbell adds to TAIL, or is discarded with the ring's error flag. -/
theorem attDoor_stepRing (q k : Nat) : (attDoor s q k false).2 = if 2 ^ s.fld (F.ATT_SRING_LOG2N q) <
      ringUsed (s.fld (F.ATT_SPTR_HEAD q)) (s.fld (F.ATT_SPTR_TAIL q)) + k then s.setFld (F.ATT_STATUS_S_RING_ERR q) 1
    else s.setFld (F.ATT_SPTR_TAIL q) ((s.fld (F.ATT_SPTR_TAIL q) + k) % 2 ^ 32) := apply_ite Prod.snd ..

theorem attDoor_commitRing (q k : Nat) : (attDoor s q k true).2 = if 2 ^ s.fld (F.ATT_CRING_LOG2N q) <
      ringUsed (s.fld (F.ATT_CPTR_HEAD q)) (s.fld (F.ATT_CPTR_TAIL q)) + k then s.setFld (F.ATT_STATUS_C_RING_ERR q) 1
    else s.setFld (F.ATT_CPTR_TAIL q) ((s.fld (F.ATT_CPTR_TAIL q) + k) % 2 ^ 32) := apply_ite Prod.snd ..

end

/-- A row that answers that it is done, and whose meaning leaves the queue alone. -/
theorem exec_okReply {s t : State} {i : Instr} {f : State → State} (hup : s.up = true) (hrow : exec i s = ifUp f s)
    (hf : f s = okReply t) (hpending : t.pending = s.pending) : exec i s = .next (okReply t) :=
  exec_row hup hrow hf ((okReply_pending t).trans hpending)

/-! ### The rows -/

variable {q : Fin 16} {s : State} (hup : s.up = true)
include hup

theorem exec_attSdoor (k : BitVec 32) : exec (.attSdoor q k) s = .next { (if 2 ^ s.fld (F.ATT_SRING_LOG2N q) <
      ringUsed (s.fld (F.ATT_SPTR_HEAD q)) (s.fld (F.ATT_SPTR_TAIL q)) + k.toNat then s.setFld (F.ATT_STATUS_S_RING_ERR q) 1
    else s.setFld (F.ATT_SPTR_TAIL q) ((s.fld (F.ATT_SPTR_TAIL q) + k.toNat) % 2 ^ 32)) with reply := .ok } := by
  refine exec_okReply hup (f := fun s => (attDoor (okReply s) q k.toNat false).2) rfl ?_ (by split <;> rw [State.setFld_pending])
  rw [attDoor_stepRing, okReply_setFld, okReply_setFld, okReply_fld, okReply_fld, okReply_fld, ← apply_ite okReply]

theorem exec_attCdoor (k : BitVec 32) : exec (.attCdoor q k) s = .next { (if 2 ^ s.fld (F.ATT_CRING_LOG2N q) <
      ringUsed (s.fld (F.ATT_CPTR_HEAD q)) (s.fld (F.ATT_CPTR_TAIL q)) + k.toNat then s.setFld (F.ATT_STATUS_C_RING_ERR q) 1
    else s.setFld (F.ATT_CPTR_TAIL q) ((s.fld (F.ATT_CPTR_TAIL q) + k.toNat) % 2 ^ 32)) with reply := .ok } := by
  refine exec_okReply hup (f := fun s => (attDoor (okReply s) q k.toNat true).2) rfl ?_ (by split <;> rw [State.setFld_pending])
  rw [attDoor_commitRing, okReply_setFld, okReply_setFld, okReply_fld, okReply_fld, okReply_fld, ← apply_ite okReply]

/-- A register of the configuration written while the engine is not OFF. -/
theorem exec_attConfigWrite_on (hon : attState s q ≠ 0) {off : Nat} (hoff : attConfigOff off = true) (sz : AccSz) (v : Word) :
    exec (.attConfigWrite q off sz v) s = .next { s.setFld (F.ATT_STATUS_CONF_ERR q) 1 with reply := .ok } :=
  exec_okReply hup (f := fun s => if attConfigOff off then attConfigWrite (okReply s) q off sz v else accErrReply s) rfl
    ((if_pos hoff).trans ((if_pos (c := attState (okReply s) q ≠ 0) hon).trans (okReply_setFld ..))) (State.setFld_pending ..)

/-- ATT_CONF written while the engine is OFF. -/
theorem runs_attConfigWrite_conf (hoff : attState s q = 0) (v : Word) : Runs (.attConfigWrite q 0x08 .w64 v) s fun t =>
    attD t q = 64 * 2 ^ getBits v 32 31 ∧ attHkv t q = getBits v 26 22 ∧ attH t q = getBits v 21 15 ∧
      t.fld (F.ATT_CONF_FERN_KIB q) = getBits v 14 0 ∧ RegsExcept [R.ATT_CONF q] s t ∧ t.reply = .ok ∧ MemSame s t := by
  have hrow : exec (.attConfigWrite q 0x08 .w64 v) s = ifUp (fun s => attConfigWrite (okReply s) q 0x08 .w64 v) s := rfl
  have hwrite := (attConfigWrite_conf (s := okReply s) q.isLt hoff v).trans (okReply_setReg ..)
  generalize hw : attConfDesc.write .w64 ((okReply s).reg (R.ATT_CONF q)) v = w at hwrite
  have hexec := exec_okReply hup hrow hwrite (State.setReg_pending ..)
  have hbits : ∀ {hi lo : Nat}, hi < 64 → (∀ i : Fin 64, lo ≤ i → i ≤ hi → (fieldsMask attConfDesc.fields).getLsbD i = true) →
      (s.setReg (R.ATT_CONF q) w).fld ⟨R.ATT_CONF q, hi, lo⟩ = getBits v hi lo := fun hhi hin => by
    rw [State.fld_setReg_same s _ (R.ATT_CONF q) w rfl, ← hw, getBits_write_rw (by decide) _ _ hhi hin]
  have hframe := (OnlyEvents.refl [R.ATT_CONF q] s).setReg w List.mem_cons_self
  have hdcode := hbits (hi := 32) (lo := 31) (by decide) (by decide +kernel)
  have hhkv := hbits (hi := 26) (lo := 22) (by decide) (by decide +kernel)
  have hh := hbits (hi := 21) (lo := 15) (by decide) (by decide +kernel)
  have hkib := hbits (hi := 14) (lo := 0) (by decide) (by decide +kernel)
  generalize s.setReg (R.ATT_CONF q) w = t at *
  exact ⟨_, hexec, congrArg (64 * 2 ^ ·) hdcode, hhkv, hh, hkib, hframe.regs, rfl, State.byte_of_mem hframe.mem⟩

/-- ATT_FERN written while the engine is OFF, and held no bit above its field BASE before. -/
theorem runs_attConfigWrite_fern (hoff : attState s q = 0) (hold : getBits (s.reg (R.ATT_FERN q)) 63 48 = 0) (v : Word) :
    Runs (.attConfigWrite q 0x10 .w64 v) s fun t => t.reg (R.ATT_FERN q) = BitVec.ofNat 64 (getBits v 47 15 * 2 ^ 15) ∧
      RegsExcept [R.ATT_FERN q] s t ∧ t.reply = .ok ∧ MemSame s t := by
  have hrow : exec (.attConfigWrite q 0x10 .w64 v) s = ifUp (fun s => attConfigWrite (okReply s) q 0x10 .w64 v) s := rfl
  have hwrite := attConfigWrite_fern (s := okReply s) q.isLt hoff v
  rw [okReply_setReg, okReply_setReg] at hwrite
  have hframe := ((OnlyEvents.refl [R.ATT_FERN q] s).setReg (attFernDesc.write .w64 ((okReply s).reg (R.ATT_FERN q)) v)
    List.mem_cons_self).setReg (setBits (attFernDesc.write .w64 ((okReply s).reg (R.ATT_FERN q)) v) 14 0 0) List.mem_cons_self
  have hexec := exec_okReply hup hrow hwrite hframe.pending
  have hbase := State.reg_setReg_same (s.setReg (R.ATT_FERN q) (attFernDesc.write .w64 ((okReply s).reg (R.ATT_FERN q)) v))
    (R.ATT_FERN q) (setBits (attFernDesc.write .w64 ((okReply s).reg (R.ATT_FERN q)) v) 14 0 0)
  generalize State.setReg _ _ (setBits _ 14 0 0) = t at *
  exact ⟨_, hexec, hbase.trans (fernWritten_eq hold v), hframe.regs, rfl, State.byte_of_mem hframe.mem⟩

end Sys2Proof.Machine
end

section
/-! SUPPORT. A fern base written over a register that holds bits above the address (Table 14.10). -/

namespace Sys2Proof.Machine

/-- The engine is OFF, and bit 63 of ATT_FERN, which no field has, is set. -/
def fernBeyondField : State := State.reset.setReg (R.ATT_FERN 0) 0x8000000000000000#64

/-- A write of 0 leaves that bit: a software write changes the bits of fields alone (R5). -/
theorem fernBeyondField_written :
    (attConfigWrite (okReply fernBeyondField) 0 0x10 .w64 0#64).reg (R.ATT_FERN 0) = 0x8000000000000000#64 := by decide +kernel

end Sys2Proof.Machine
end

section
open Sys2Proof Sys2Proof.Machine

/-- Refutes O45: the statement takes every state, and one in which ATT_FERN holds a bit above its field BASE keeps it when BASE is
written. All else that it says holds: the doorbells (`exec_attSdoor`, `exec_attCdoor`); the configuration
(`exec_attConfigWrite_on`, `runs_attConfigWrite_conf`, and for an ATT_FERN without such a bit `runs_attConfigWrite_fern`); the
commit that is none of the row's (`exec_commit_idle`), that waits (`runs_commit_held`), that is refused (`runs_commit_refused`)
or that applies (`runs_commit_setLeaf`, `runs_commit_setPage`, `runs_commit_freePage`, `runs_commit_freeLeaf`,
`runs_commit_setLen`, `runs_commit_resetSeq`). -/
theorem not_attentionCommits : ¬ Obligations.AttentionCommits := by
  unfold Obligations.AttentionCommits
  intro h
  obtain ⟨-, -, hconfig, -⟩ := h 0 fernBeyondField rfl
  obtain ⟨hfern, -⟩ := (hconfig 0#64).2 (by decide +kernel)
  obtain ⟨hbase, -⟩ := Runs.of_row (f := fun s => attConfigWrite (okReply s) 0 0x10 .w64 0#64) rfl rfl hfern
  exact absurd (hbase.symm.trans fernBeyondField_written) (by decide)

end

section
/-! SUPPORT. The ports of the switch: a port that is set, what the setting leaves alone, and rows that are a step of one port. -/

namespace Sys2Proof.Machine

/-! ### A port that is set -/

section
variable {α : Type}

theorem dropKey_dropKey (m : List (Nat × α)) (k : Nat) : dropKey k (dropKey k m) = dropKey k m := by
  induction m with
  | nil => rfl
  | cons a m ih => by_cases h : a.1 = k <;> simp [dropKey, h, ih]

theorem dropKey_insKey (m : List (Nat × α)) (k : Nat) (v : α) : dropKey k (insKey k v m) = dropKey k m := by
  induction m with
  | nil => simp [insKey, dropKey]
  | cons a m ih =>
    by_cases hlt : k < a.1
    · simp [insKey, dropKey, hlt]
    · by_cases h : a.1 = k <;> simp [insKey, dropKey, hlt, h, ih]

/-- Of two values set at one key the later one stands. -/
theorem put_put [DecidableEq α] (d : Nat → α) (m : List (Nat × α)) (k : Nat) (v w : α) : put d (put d m k v) k w = put d m k w := by
  have hdrop : dropKey k (put d m k v) = dropKey k m := by
    unfold put
    split
    · exact dropKey_dropKey m k
    · rw [dropKey_insKey, dropKey_dropKey]
  rw [put, hdrop, put]

end

section
variable (s : State) (p : Nat) (x y : Port)

@[simp] theorem State.port_setPort_same : (s.setPort p x).port p = x := look_put_same _ _ _
theorem State.port_setPort_ne {k : Nat} (h : k ≠ p) : (s.setPort p x).port k = s.port k := look_put_ne _ _ h
@[simp] theorem State.setPort_setPort : (s.setPort p x).setPort p y = s.setPort p y := by
  simp only [State.setPort, put_put]

@[simp] theorem State.setPort_now : (s.setPort p x).now = s.now := rfl
@[simp] theorem State.setPort_csr : (s.setPort p x).csr = s.csr := rfl
@[simp] theorem State.setPort_mem : (s.setPort p x).mem = s.mem := rfl
@[simp] theorem State.setPort_cores : (s.setPort p x).cores = s.cores := rfl
@[simp] theorem State.setPort_late : (s.setPort p x).late = s.late := rfl
@[simp] theorem State.setPort_pending : (s.setPort p x).pending = s.pending := rfl
@[simp] theorem State.setPort_txs : (s.setPort p x).fab.txs = s.fab.txs := rfl
@[simp] theorem State.setPort_reg (a : Nat) : (s.setPort p x).reg a = s.reg a := rfl
@[simp] theorem State.setPort_fld (f : Fld) : (s.setPort p x).fld f = s.fld f := rfl
@[simp] theorem State.setPort_flag (f : Fld) : (s.setPort p x).flag f = s.flag f := rfl
@[simp] theorem State.setPort_tx (id : Nat) : (s.setPort p x).tx id = s.tx id := rfl
@[simp] theorem lstate_setPort (k : Nat) : lstate (s.setPort p x) k = lstate s k := rfl
@[simp] theorem portState_setPort (k : Nat) : portState (s.setPort p x) k = portState s k := rfl
@[simp] theorem ownNode_setPort : ownNode (s.setPort p x) = ownNode s := rfl
@[simp] theorem routePort_setPort (node : Nat) : routePort (s.setPort p x) node = routePort s node := rfl
@[simp] theorem nodeLocal_setPort (node : Nat) : (s.setPort p x).nodeLocal node = s.nodeLocal node := rfl

@[simp] theorem State.setReg_port (a : Nat) (v : Word) : (s.setReg a v).port p = s.port p := rfl
@[simp] theorem State.setFld_port (f : Fld) (v : Nat) : (s.setFld f v).port p = s.port p := rfl
@[simp] theorem State.incFld_port (f : Fld) (k : Nat) : (s.incFld f k).port p = s.port p := rfl

/-- Registers and ports are set in either order. -/
theorem State.setFld_setPort (f : Fld) (v : Nat) : (s.setPort p x).setFld f v = (s.setFld f v).setPort p x := rfl
theorem State.incFld_setPort (f : Fld) (k : Nat) : (s.setPort p x).incFld f k = (s.incFld f k).setPort p x := rfl

end

theorem State.port_of_fab {s t : State} (h : t.fab = s.fab) (p : Nat) : t.port p = s.port p := by rw [State.port, h, State.port]

/-! ### A step of one port -/

section
variable {s u : State} {p : Nat} {f : Port → Port} {as : List Nat} (h : OnlyEvents as s u)
include h

/-- A port that is set beside registers and events. -/
theorem portStep_setPort : PortStep p f as s (u.setPort p (f (s.port p))) where
  port := State.port_setPort_same _ _ _
  ports k hk := (State.port_setPort_ne _ _ _ hk).trans (State.port_of_fab h.fab k)
  txs := (State.setPort_txs _ _ _).trans (congrArg Fab.txs h.fab)
  regs := h.regs
  mem := State.byte_of_mem h.mem
  cores n _ := State.core_of_cores h.cores n

/-- Registers and events alone: no port changes. -/
theorem portStep_id : PortStep p (fun y => y) as s u where
  port := State.port_of_fab h.fab p
  ports k _ := State.port_of_fab h.fab k
  txs := congrArg Fab.txs h.fab
  regs := h.regs
  mem := State.byte_of_mem h.mem
  cores n _ := State.core_of_cores h.cores n

end

section
variable {s t : State} {i : Instr} {g : State → State} (hup : s.up = true) (hrow : exec i s = ifUp g s) (hg : g s = t)
  (hpending : t.pending = s.pending)
include hup hrow hg hpending

/-- What the state holds that a row's meaning gives. -/
theorem runs_of_eq {P : State → Prop} (h : P t) : Runs i s P := ⟨t, exec_row hup hrow hg hpending, h⟩

end

section
variable {s u : State} {i : Instr} {g : State → State} {p : Nat} {f : Port → Port} {as : List Nat}
  (hup : s.up = true) (hrow : exec i s = ifUp g s)
include hup hrow

/-- A row whose meaning leaves the state as it is. -/
theorem exec_same (hg : g s = s) : exec i s = .next s := exec_row hup hrow hg rfl

/-- A row whose meaning is a step of one port, beside registers and events. -/
theorem runs_portStep (h : OnlyEvents as s u) (hg : g s = u.setPort p (f (s.port p))) : Runs i s (PortStep p f as s) :=
  runs_of_eq hup hrow hg h.pending (portStep_setPort h)

end

end Sys2Proof.Machine
end

section
/-! SUPPORT. The traffic of a link: received flits, flit slots, replay, the schedule (R365, R368 to R373, R379 to R381). -/

namespace Sys2Proof.Machine

/-! ### A good flit (R370, R372, R373) -/

/-- A good flit is heard: its time, its acknowledgement, its credits. -/
def heard (s : State) (p : Nat) (raw : List Byte) : State :=
  let s1 := goodFlit s p
  let s2 := if hdr raw 22 22 = 1 then ackRx s1 p (hdr raw 32 23) else s1
  let n := hdr raw 19 12
  creditRx s2 p (if hdr raw 21 20 = 0 then n else 0) (if hdr raw 21 20 = 1 then n else 0) (if hdr raw 21 20 = 2 then n else 0)

/-- What a port that has heard a good flit in cycle u keeps. -/
structure HeardPort (u : Nat) (x y : Port) : Prop where
  rxExp : y.rxExp = x.rxExp
  rx : y.rx = x.rx
  q : y.q = x.q
  held : y.held = x.held
  lastGood : y.lastGood = u

section
variable {s : State} {p : Nat} {raw : List Byte}

theorem heard_of_noAck (hack : hdr raw 22 22 = 0) : heard s p raw = s.setPort p { s.port p with
    lastGood := s.now, credits := ((s.port p).credits.1 + (if hdr raw 21 20 = 0 then hdr raw 19 12 else 0),
      (s.port p).credits.2.1 + (if hdr raw 21 20 = 1 then hdr raw 19 12 else 0),
      (s.port p).credits.2.2 + (if hdr raw 21 20 = 2 then hdr raw 19 12 else 0)) } := by
  simp [heard, hack, goodFlit, creditRx]

theorem ackRx_port (a : Nat) (x : Port) : ∃ y, ackRx (s.setPort p x) p a = s.setPort p y ∧ HeardPort x.lastGood x y := by
  by_cases hnew : (x.retry.filter fun f => !(seqLe f.1 a)).length = x.retry.length
  · exact ⟨x, by simp [ackRx, hnew], ⟨rfl, rfl, rfl, rfl, rfl⟩⟩
  · exact ⟨{ x with
      retry := x.retry.filter fun f => !(seqLe f.1 a), replay := x.replay.filter fun f => !(seqLe f.1 a)
      replays := 0, ackAt := s.now }, by simp [ackRx, hnew], ⟨rfl, rfl, rfl, rfl, rfl⟩⟩

theorem heard_port : ∃ y, heard s p raw = s.setPort p y ∧ HeardPort s.now (s.port p) y := by
  have hack : ∃ y, (if hdr raw 22 22 = 1 then ackRx (goodFlit s p) p (hdr raw 32 23) else goodFlit s p) = s.setPort p y ∧
      HeardPort s.now (s.port p) y := by
    split
    · obtain ⟨y, hy, hkeeps⟩ := ackRx_port (s := s) (p := p) (hdr raw 32 23) { s.port p with lastGood := s.now }
      exact ⟨y, hy, ⟨hkeeps.rxExp, hkeeps.rx, hkeeps.q, hkeeps.held, hkeeps.lastGood⟩⟩
    · exact ⟨_, rfl, ⟨rfl, rfl, rfl, rfl, rfl⟩⟩
  obtain ⟨y, hy, hkeeps⟩ := hack
  unfold heard creditRx
  dsimp only
  rw [hy, State.port_setPort_same, State.setPort_setPort]
  exact ⟨_, rfl, ⟨hkeeps.rxExp, hkeeps.rx, hkeeps.q, hkeeps.held, hkeeps.lastGood⟩⟩

/-- Whether a flit is next rests on the link's state and the number expected. -/
theorem inOrder_heard : inOrder (heard s p raw) p raw = inOrder s p raw := by
  obtain ⟨y, hy, hkeeps⟩ := heard_port (s := s) (p := p) (raw := raw)
  rw [hy, inOrder, State.port_setPort_same, hkeeps.rxExp, lstate_setPort, inOrder]

/-- A flit that is neither a CONTROL flit nor the next in order is heard, and no more. -/
theorem acceptFlit_heard (clean : Bool) (hcontrol : hdr raw 45 43 ≠ 5) (horder : inOrder s p raw = false) :
    acceptFlit s p raw clean = heard s p raw := by
  have hnext : ¬ inOrder (heard s p raw) p raw = true := by rw [inOrder_heard, horder]; exact Bool.false_ne_true
  exact (if_neg hcontrol).trans (if_neg hnext)

/-- The one flit of a packet of one flit, clean and in order, is heard and delivered. -/
theorem acceptFlit_single (hkind : hdr raw 45 43 = 4) (horder : inOrder s p raw = true) : acceptFlit s p raw true =
    deliverFlit (advanceRx (heard s p raw) p) p
      ⟨hdr raw 63 48, hdr raw 47 46, 4, (raw.drop 8).take (hdr raw 11 4 + 1)⟩ := by
  have hnext : inOrder (heard s p raw) p raw = true := inOrder_heard.trans horder
  refine (if_neg (by simp [hkind])).trans ((if_pos hnext).trans ?_)
  dsimp only
  rw [hkind]
  rfl

end

/-! ### A flit that passes through (R376, R384) -/

theorem versionHas_newest (op : Nat) : versionHas 0x102 op = true := by simp [versionHas]

/-- A packet of one flit joins the egress queue of its route, whose link runs the newest version. -/
theorem routePkt_single {s : State} {k : Pkt} {f : Flit} {e : Nat} (hroute : routePort s k.dest = some e) (hflits : k.flits = [f])
    (hrun : (s.port e).running = 0x102) : routePkt s k = s.setPort e { s.port e with q := (s.port e).q ++ [k] } := by
  obtain ⟨dest, cls, flits, started, ingress, req⟩ := k
  obtain rfl : flits = [f] := hflits
  simp [routePkt, hroute, hrun, versionHas_newest, unpacked]

/-- A flit that this device passes on is queued at the egress of its route. -/
theorem deliverFlit_through {s : State} {p e : Nat} {f : Flit} (hfree : classStopped s p f.cls = false)
    (hdest : s.nodeLocal f.dest = false) (hkind : f.kind = 4) (hroute : routePort s f.dest = some e)
    (hrun : (s.port e).running = 0x102) : deliverFlit s p f = s.setPort e { s.port e with
      q := (s.port e).q ++ [⟨f.dest, f.cls, [f], false, some p, none⟩] } := by
  rw [deliverFlit, hfree, hdest, passFlit, if_neg (by simp), if_neg (by simp), if_pos (.inr hkind)]
  exact routePkt_single hroute rfl hrun

/-! ### FLIT_RECEIVE (R368, R369) -/

section
variable {s : State} {p : Nat} {raw : List Byte}

theorem flitReceive_ignored (h : lstate s p < 3 ∨ raw.length ≠ 256) : flitReceive s p raw = s := if_pos h

variable (hlink : 3 ≤ lstate s p) (hlen : raw.length = 256)
include hlink hlen

theorem flitReceive_verdict : flitReceive s p raw = match flitVerdict ((s.port p).feats.testBit 0) raw with
    | .clean r => acceptFlit s p r true
    | .corrected r => acceptFlit (s.incFld (F.FLIT_CORR_COUNT p) 1) p r false
    | .stomped =>
      if inOrder s p raw then
        oweCredit (advanceRx (countStomp s p (hdr raw 63 48) (hdr raw 47 46) (hdr raw 45 43)) p) p (hdr raw 47 46)
      else s
    | .uncorrectable =>
      let s1 := s.incFld (F.FLIT_UNCORR_COUNT p) 1
      if lstate s p = 4 then
        sendNak (if inOrder s1 p raw then countStomp s1 p (hdr raw 63 48) (hdr raw 47 46) (hdr raw 45 43) else s1) p
      else s1 := by
  have htaken : ¬ (lstate s p < 3 ∨ raw.length ≠ 256) := by omega
  exact (if_neg htaken).trans (by cases flitVerdict ((s.port p).feats.testBit 0) raw <;> rfl)

theorem flitReceive_clean {r : List Byte} (hverdict : flitVerdict ((s.port p).feats.testBit 0) raw = .clean r) :
    flitReceive s p raw = acceptFlit s p r true := by rw [flitReceive_verdict hlink hlen, hverdict]

theorem flitReceive_corrected {r : List Byte} (hverdict : flitVerdict ((s.port p).feats.testBit 0) raw = .corrected r) :
    flitReceive s p raw = acceptFlit (s.incFld (F.FLIT_CORR_COUNT p) 1) p r false := by
  rw [flitReceive_verdict hlink hlen, hverdict]

/-- A stomped flit for this device is passed over. -/
theorem flitReceive_stomped (hverdict : flitVerdict ((s.port p).feats.testBit 0) raw = .stomped)
    (horder : inOrder s p raw = true) (hdest : s.nodeLocal (hdr raw 63 48) = true) :
    flitReceive s p raw = s.setPort p { s.port p with
      rxExp := ((s.port p).rxExp + 1) % 1024, rxAny := true, rxDrop := false,
      owed := credAdd (s.port p).owed (hdr raw 47 46) 1 } := by
  have huncounted : countStomp s p (hdr raw 63 48) (hdr raw 47 46) (hdr raw 45 43) = s := if_pos hdest
  rw [flitReceive_verdict hlink hlen, hverdict]
  simp [horder, huncounted, advanceRx, oweCredit]

/-- An uncorrectable flit on an ACTIVE link is counted and answered with NAK. -/
theorem flitReceive_uncorrectable (hverdict : flitVerdict ((s.port p).feats.testBit 0) raw = .uncorrectable)
    (hactive : lstate s p = 4) (horder : inOrder s p raw = false) :
    flitReceive s p raw = (s.incFld (F.FLIT_UNCORR_COUNT p) 1).setPort p { s.port p with
      rxDrop := true, ctl := (s.port p).ctl ++ [.nak (s.port p).rxExp] } := by
  have hlstate : lstate (s.incFld (F.FLIT_UNCORR_COUNT p) 1) p = lstate s p :=
    State.fld_incFld_ne s (F.FLIT_UNCORR_COUNT p) (F.PORT_STATUS_LSTATE p) 1 (.inl (by simp))
  have hnext : inOrder (s.incFld (F.FLIT_UNCORR_COUNT p) 1) p raw = false := by
    rw [inOrder, hlstate, State.incFld_port]
    exact horder
  rw [flitReceive_verdict hlink hlen, hverdict]
  dsimp only
  rw [if_pos hactive, hnext, if_neg Bool.false_ne_true, sendNak, State.incFld_port]

end

/-! ### FLIT_SLOT (R365, R380) -/

/-- The port's place in its frame moves on by one slot. -/
def framed (x : Port) (mark : Bool) : Port :=
  { x with sinceMark := if mark then 0 else x.sinceMark + 1, slot := if x.flen ≤ x.slot + 1 then 0 else x.slot + 1 }

/-- A slot ends: the port's place in the frame, the credits it returns, and what it sent. -/
def slotEnds (s : State) (p : Nat) (mark : Bool) (o : TxOut) : State :=
  let y := payCredits (framed (s.port p) mark)
  let s1 := s.setPort p { y with tx := o }
  if y.slot = 0 then schedInstall s1 p else s1

theorem payCredits_none {x : Port} (howed : x.owed = (0, 0, 0)) : payCredits x = x := by
  simp [payCredits, howed, credOf]

theorem framed_inside {x : Port} (hinside : x.slot + 1 < x.flen) (mark : Bool) :
    framed x mark = { x with sinceMark := if mark then 0 else x.sinceMark + 1, slot := x.slot + 1 } := by
  rw [framed, if_neg (Nat.not_le.mpr hinside)]

/-- Inside the frame, with no credit to return. -/
theorem slotEnds_quiet {s : State} {p : Nat} (howed : (s.port p).owed = (0, 0, 0)) (hinside : (s.port p).slot + 1 < (s.port p).flen)
    (mark : Bool) (o : TxOut) : slotEnds s p mark o = s.setPort p { s.port p with
      sinceMark := if mark then 0 else (s.port p).sinceMark + 1, slot := (s.port p).slot + 1, tx := o } := by
  have hpaid : payCredits (framed (s.port p) mark) = framed (s.port p) mark := payCredits_none howed
  have hslot : (framed (s.port p) mark).slot ≠ 0 := by rw [framed_inside hinside]; exact Nat.succ_ne_zero _
  unfold slotEnds
  rw [hpaid]
  refine (if_neg hslot).trans ?_
  rw [framed_inside hinside]

/-- Inside the frame, after the port has been set. -/
theorem slotEnds_inside {s : State} {p : Nat} {x : Port} (howed : x.owed = (0, 0, 0)) (hinside : x.slot + 1 < x.flen) (mark : Bool)
    (o : TxOut) : slotEnds (s.setPort p x) p mark o =
      s.setPort p { x with sinceMark := if mark then 0 else x.sinceMark + 1, slot := x.slot + 1, tx := o } := by
  have hport := State.port_setPort_same s p x
  rw [slotEnds_quiet (by rw [hport]; exact howed) (by rw [hport]; exact hinside), hport, State.setPort_setPort]

/-- The flit of a class that a slot may send: the link ACTIVE, a credit, room in the retry buffer. -/
def sendable (s : State) (p c : Nat) : Option (Nat × Pkt × Flit) :=
  if 0 < credOf (s.port p).credits c ∧ (s.port p).retry.length < 512 ∧ lstate s p = 4 then
    (readyFlit (s.port p) c).map fun kf => (c, kf.1, kf.2)
  else none

/-- The port after a flit of class c has been sent. -/
def flitSent (x : Port) (now c : Nat) (f : Flit) : Port :=
  { x with q := popFlit c x.q, credits := credSub x.credits c 1, retry := x.retry ++ [(x.txSeq, f)],
           txSeq := (x.txSeq + 1) % 1024, ackAt := if x.retry.isEmpty then now else x.ackAt }

/-- What a slot sends, in the order of R365 and R380. -/
theorem flitSlot_eq (s : State) (p : Nat) : flitSlot s p =
    if lstate s p < 3 then s
    else if 16379 ≤ (s.port p).sinceMark then slotEnds (markerPass s p) p true .marker
    else match (s.port p).ctl with
      | m :: ms => slotEnds (s.setPort p { s.port p with ctl := ms }) p false (.ctl m)
      | [] => match (s.port p).replay with
        | f :: fs => slotEnds ((s.setPort p { s.port p with replay := fs }).incFld (F.REPLAY_COUNT_COUNT p) 1) p false (.replay f.1 f.2)
        | [] => match (classOrder (slotCode (s.port p) (s.port p).slot)).findSome? (sendable s p) with
          | none => slotEnds s p false .idle
          | some (c, k, f) => slotEnds (match k.ingress with
              | some i => oweCredit (s.setPort p (flitSent (s.port p) s.now c f)) i c
              | none => s.setPort p (flitSent (s.port p) s.now c f)) p false (.flit (s.port p).txSeq f) := rfl

section
variable {s : State} {p : Nat}

theorem flitSlot_down (h : lstate s p < 3) : flitSlot s p = s := if_pos h

theorem markerPass_none (hswap : (s.port p).swap = none) : markerPass s p = s := by simp [markerPass, hswap]

variable (hlink : 3 ≤ lstate s p)
include hlink

theorem flitSlot_marker (hmark : 16379 ≤ (s.port p).sinceMark) : flitSlot s p = slotEnds (markerPass s p) p true .marker := by
  rw [flitSlot_eq, if_neg (by omega), if_pos hmark]

variable (hmark : (s.port p).sinceMark < 16379)
include hmark

theorem flitSlot_control {m : CtlMsg} {ms : List CtlMsg} (hctl : (s.port p).ctl = m :: ms) :
    flitSlot s p = slotEnds (s.setPort p { s.port p with ctl := ms }) p false (.ctl m) := by
  rw [flitSlot_eq, if_neg (by omega), if_neg (by omega), hctl]

variable (hctl : (s.port p).ctl = [])
include hctl

theorem flitSlot_replay {f : Nat × Flit} {fs : List (Nat × Flit)} (hreplay : (s.port p).replay = f :: fs) :
    flitSlot s p = slotEnds ((s.incFld (F.REPLAY_COUNT_COUNT p) 1).setPort p { s.port p with replay := fs }) p false
      (.replay f.1 f.2) := by
  rw [flitSlot_eq, if_neg (by omega), if_neg (by omega), hctl, hreplay]
  dsimp only
  rw [State.incFld_setPort]

variable (hreplay : (s.port p).replay = [])
include hreplay

theorem flitSlot_idle (hnone : ∀ c, sendable s p c = none) : flitSlot s p = slotEnds s p false .idle := by
  have hpick : (classOrder (slotCode (s.port p) (s.port p).slot)).findSome? (sendable s p) = none :=
    List.findSome?_eq_none_iff.mpr fun c _ => hnone c
  rw [flitSlot_eq, if_neg (by omega), if_neg (by omega), hctl, hreplay, hpick]

/-- The first class of the slot sends the flit that is ready. -/
theorem flitSlot_flit {c : Nat} {k : Pkt} {f : Flit} (hclass : (classOrder (slotCode (s.port p) (s.port p).slot)).head? = some c)
    (hsend : sendable s p c = some (c, k, f)) (hown : k.ingress = none) :
    flitSlot s p = slotEnds (s.setPort p (flitSent (s.port p) s.now c f)) p false (.flit (s.port p).txSeq f) := by
  have hpick : (classOrder (slotCode (s.port p) (s.port p).slot)).findSome? (sendable s p) = some (c, k, f) := by
    obtain ⟨cs, hcs⟩ := List.head?_eq_some_iff.mp hclass
    rw [hcs, List.findSome?_cons, hsend]
  rw [flitSlot_eq, if_neg (by omega), if_neg (by omega), hctl, hreplay, hpick]
  dsimp only
  rw [hown]

end

/-- No class can send on a link that is not ACTIVE, with a full retry buffer, without credits, or with nothing queued. -/
theorem sendable_none {s : State} {p : Nat}
    (h : lstate s p ≠ 4 ∨ 512 ≤ (s.port p).retry.length ∨ (s.port p).credits = (0, 0, 0) ∨ (s.port p).q = [])
    (c : Nat) : sendable s p c = none := by
  unfold sendable
  rcases h with hstate | hretry | hcredits | hq
  · exact if_neg fun h => hstate h.2.2
  · exact if_neg fun h => absurd h.2.1 (by omega)
  · refine if_neg fun h => absurd h.1 ?_
    rw [hcredits]
    unfold credOf
    split <;> simp
  · have hready : readyFlit (s.port p) c = none := by simp [readyFlit, hq]
    simp [hready]

theorem sendable_some {s : State} {p c : Nat} {k : Pkt} {f : Flit} (hactive : lstate s p = 4) (hroom : (s.port p).retry.length < 512)
    (hcredit : 0 < credOf (s.port p).credits c) (hready : readyFlit (s.port p) c = some (k, f)) :
    sendable s p c = some (c, k, f) := by
  rw [sendable, if_pos ⟨hcredit, hroom, hactive⟩, hready]
  rfl

/-! ### Replay (R371) -/

/-- A replay that does not bring the port down. -/
theorem replayFrom_some {s : State} {p a : Nat} (hflits : (s.port p).retry.filter (fun f => seqLe a f.1) ≠ [])
    (hfew : (s.port p).replays < 15) : replayFrom s p a = s.setPort p { s.port p with
      replay := (s.port p).retry.filter (fun f => seqLe a f.1), replays := (s.port p).replays + 1, ackAt := s.now } := by
  have hlimit : ¬ 16 ≤ (s.port p).replays + 1 := by omega
  simp [replayFrom, hflits, hlimit]

theorem tickDue_past {s : State} {t : Nat} (h : t ≤ s.now) : tickDue s t = s := if_neg (by omega)

theorem ackTimeout_replays {s : State} {p : Nat} {f : Nat × Flit} {fs : List (Nat × Flit)} (hactive : lstate s p = 4)
    (hretry : (s.port p).retry = f :: fs) (htime : (s.port p).ackAt + 700 ≤ s.now) : ackTimeout s p = replayFrom s p f.1 := by
  simp [ackTimeout, hactive, hretry, tickDue_past htime]

/-! ### The schedule (R381) -/

def schedCtrlDesc : RegDesc :=
  ⟨0x7f0000400080, 24, 0x10000, 1, 0x0, 1, 0x0, 0x4000000040#64, [⟨44, 32, .ro⟩, ⟨16, 16, .w1s⟩, ⟨12, 0, .rw⟩]⟩

theorem regAt_SCHED_CTRL {p : Nat} (hp : p < 24) : regAt (R.SCHED_CTRL p) = some schedCtrlDesc := by
  have haddr : R.SCHED_CTRL p = 0x7F0000400000 + p * 0x10000 + 0x80 := by unfold R.SCHED_CTRL; omega
  have htable : regTable_port.find? (RegDesc.atOff 0x7F0000400000 0x80) = some schedCtrlDesc := by decide +kernel
  rw [haddr]
  exact (regAt_port hp (by omega)).trans htable

/-- A write of SCHED_CTRL: FLEN is written, SWAP is set and never cleared. -/
theorem writeByType_SCHED_CTRL (s : State) {p : Nat} (hp : p < 24) (v : Word) :
    ∃ w, s.writeByType (R.SCHED_CTRL p) .w64 v = s.setReg (R.SCHED_CTRL p) w ∧ getBits w 12 0 = getBits v 12 0 ∧
      getBits w 16 16 = if getBits v 16 16 = 1 then 1 else s.fld (F.SCHED_CTRL_SWAP p) := by
  refine ⟨schedCtrlDesc.write .w64 (s.reg (R.SCHED_CTRL p)) v, by rw [State.writeByType, regAt_SCHED_CTRL hp], ?_, ?_⟩
  · exact RegDesc.getBits_write_rw (f := ⟨12, 0, .rw⟩) _ v (by simp [schedCtrlDesc]) (by decide) (by decide) rfl
  · have hset := RegDesc.getBits_write_w1s (d := schedCtrlDesc) (f := ⟨16, 16, .w1s⟩) (s.reg (R.SCHED_CTRL p)) v
      (by simp [schedCtrlDesc]) (by decide) (by decide) rfl
    rw [hset, State.fld]
    rcases getBits_bit v 16 with hv | hv <;> rcases getBits_bit (s.reg (R.SCHED_CTRL p)) 16 with hold | hold <;> rw [hv, hold] <;> rfl

/-- The words that a schedule takes from the shadow. -/
theorem look_takenCodes (g : Nat → Word) (d : Nat → Word) (n : Nat) {k : Nat} (hk : k < n) :
    look d ((List.range n).foldl (fun m i => put d m i (g i)) []) k = g k := by
  induction n with
  | zero => exact absurd hk (Nat.not_lt_zero k)
  | succ n ih =>
    rw [List.range_succ, List.foldl_append, List.foldl_cons, List.foldl_nil, look_put]
    split
    · next heq => rw [heq]
    · exact ih (by omega)

/-- The words of the shadow schedule of a port, as a port keeps them. -/
def shadowCodes (s : State) (p : Nat) : List (Nat × Word) :=
  (List.range 128).foldl (fun m i => put (fun _ => 0xAAAAAAAAAAAAAAAA#64) m i (s.reg (R.SCHED p i))) []

theorem slotCode_shadowCodes (s : State) (p : Nat) {x : Port} (hcodes : x.codes = shadowCodes s p) {k : Nat} (hk : k < 4096) :
    slotCode x k = getBits (s.reg (R.SCHED p (k / 32))) (2 * (k % 32) + 1) (2 * (k % 32)) := by
  rw [slotCode, hcodes, shadowCodes, look_takenCodes _ _ _ (by omega)]

theorem schedInstall_none {s : State} {p : Nat} (h : s.fld (F.SCHED_CTRL_SWAP p) = 0) : schedInstall s p = s :=
  if_neg (by simp [State.flag, h])

theorem schedInstall_swap {s : State} {p : Nat} (h : s.fld (F.SCHED_CTRL_SWAP p) = 1) : schedInstall s p =
    ((s.setFld (F.SCHED_CTRL_SWAP p) 0).setFld (F.SCHED_CTRL_FLEN_CUR p) (s.fld (F.SCHED_CTRL_FLEN p))).setPort p
      { s.port p with flen := s.fld (F.SCHED_CTRL_FLEN p), codes := shadowCodes s p, slot := 0 } :=
  if_pos (by simp [State.flag, h])

/-! ### CONTROL flits as rows -/

section
variable {s : State} {p : Nat} {from3 : Bool} {f : State → State}

theorem linkCtl_taken (h : lstate s p = 4 ∨ (from3 = true ∧ lstate s p = 3)) : linkCtl s p from3 f = f (goodFlit s p) := if_pos h

theorem linkCtl_ignored (hactive : lstate s p ≠ 4) (hnegotiate : from3 = true → lstate s p ≠ 3) : linkCtl s p from3 f = s :=
  if_neg fun h => h.elim hactive fun h => hnegotiate h.1 h.2

end

theorem goodFlit_eq (s : State) (p : Nat) : goodFlit s p = s.setPort p { s.port p with lastGood := s.now } := rfl

/-! ### A lane swap (R379) -/

section
variable {s : State} {p : Nat} {x : Port} (idx lane : Nat) (ap : Bool)

theorem laneSwapRx_off (hoff : x.feats.testBit 1 = false) : laneSwapRx (s.setPort p x) p idx lane ap = s.setPort p x :=
  if_pos (.inr ((congrArg (·.feats.testBit 1) (State.port_setPort_same s p x)).trans hoff))

variable (hactive : lstate s p = 4) (hon : x.feats.testBit 1 = true)
include hactive hon

/-- The echo of this end's own swap. -/
theorem laneSwapRx_echo {k : Nat} (hswap : x.swap = some (k, false)) :
    laneSwapRx (s.setPort p x) p idx lane ap = s.setPort p { x with swap := some (2, true) } := by
  simp [laneSwapRx, hactive, hon, hswap]

/-- A swap begun by the partner is echoed. -/
theorem laneSwapRx_begun (hswap : x.swap = none) : ∃ w, laneSwapRx (s.setPort p x) p idx lane ap =
    (s.setReg (R.LANE_SPARE p) w).setPort p { x with ctl := x.ctl ++ [.laneSwap idx lane ap], swap := some (2, true) } := by
  refine ⟨_, (?_ : laneSwapRx (s.setPort p x) p idx lane ap = (s.setReg (R.LANE_SPARE p) (setBits (setBits
    (s.reg (R.LANE_SPARE p)) (8 * idx + 4) (8 * idx) (if ap then lane else 0)) (8 * idx + 7) (8 * idx + 7) (b2n ap))).setPort p _)⟩
  have hset : ∀ w y, ((s.setPort p x).setReg (R.LANE_SPARE p) w).setPort p y = (s.setReg (R.LANE_SPARE p) w).setPort p y :=
    fun w y => State.setPort_setPort (s.setReg (R.LANE_SPARE p) w) p x y
  simp [laneSwapRx, hactive, hon, hswap, hset]

end

end Sys2Proof.Machine
end

section
/-! SUPPORT. The rows of the traffic of a link, from the command to the state that it leaves. -/

namespace Sys2Proof.Machine

/-! ### FLIT_RECEIVE -/

section
variable {p : Fin 24} {s : State} {raw : List Byte} (hup : s.up = true)
include hup

theorem exec_flitReceive_ignored (h : lstate s p < 3 ∨ raw.length ≠ 256) : exec (.flitReceive p raw) s = .next s :=
  exec_same hup (g := fun s => flitReceive s p raw) rfl (flitReceive_ignored h)

variable (hlink : 3 ≤ lstate s p) (hlen : raw.length = 256)
include hlink hlen

/-- A NULL flit without an acknowledgement brings its credits of the planned class. -/
theorem runs_flitReceive_null (hverdict : flitVerdict ((s.port p).feats.testBit 0) raw = .clean raw) (hkind : hdr raw 45 43 = 0)
    (hack : hdr raw 22 22 = 0) (hclass : hdr raw 21 20 = 0) : Runs (.flitReceive p raw) s (PortStep p (fun y =>
      { y with lastGood := s.now, credits := (y.credits.1 + hdr raw 19 12, y.credits.2.1, y.credits.2.2) }) [] s) := by
  have horder : inOrder s p raw = false := by simp [inOrder, hkind]
  refine runs_portStep hup (g := fun s => flitReceive s p raw) rfl (OnlyEvents.refl [] s)
    ((flitReceive_clean hlink hlen hverdict).trans ((acceptFlit_heard true (by omega) horder).trans ((heard_of_noAck hack).trans ?_)))
  simp [hclass]

/-- A sequenced flit of another number than the expected one is heard, and no more. -/
theorem runs_flitReceive_outOfOrder (hverdict : flitVerdict ((s.port p).feats.testBit 0) raw = .clean raw)
    (hkind : hdr raw 45 43 ≤ 4) (hseq : hdr raw 42 33 ≠ (s.port p).rxExp) : Runs (.flitReceive p raw) s fun t =>
      (t.port p).rxExp = (s.port p).rxExp ∧ (t.port p).rx = (s.port p).rx ∧ (t.port p).q = (s.port p).q ∧
      (t.port p).lastGood = s.now ∧ RegsExcept [] s t ∧ MemSame s t := by
  have horder : inOrder s p raw = false := by simp [inOrder, hseq]
  obtain ⟨y, hy, hkeeps⟩ := heard_port (s := s) (p := p) (raw := raw)
  refine runs_of_eq hup (g := fun s => flitReceive s p raw) rfl
    (((flitReceive_clean hlink hlen hverdict).trans (acceptFlit_heard true (by omega) horder)).trans hy) rfl ?_
  rw [State.port_setPort_same]
  exact ⟨hkeeps.rxExp, hkeeps.rx, hkeeps.q, hkeeps.lastGood, fun _ _ => rfl, fun _ => rfl⟩

/-- The next flit, for another device, goes on to the egress of its route. -/
theorem runs_flitReceive_through (hverdict : flitVerdict ((s.port p).feats.testBit 0) raw = .clean raw) {e : Nat}
    (horder : inOrder s p raw = true) (hkind : hdr raw 45 43 = 4) (hfree : classStopped s p (hdr raw 47 46) = false)
    (hdest : s.nodeLocal (hdr raw 63 48) = false) (hroute : routePort s (hdr raw 63 48) = some e) (hne : e ≠ p)
    (hrun : (s.port e).running = 0x102) : Runs (.flitReceive p raw) s fun t =>
      (t.port p).rxExp = ((s.port p).rxExp + 1) % 1024 ∧ (t.port p).q = (s.port p).q ∧
      (t.port e).q = (s.port e).q ++ [⟨hdr raw 63 48, hdr raw 47 46, [⟨hdr raw 63 48, hdr raw 47 46, 4,
        (raw.drop 8).take (hdr raw 11 4 + 1)⟩], false, some p.val, none⟩] ∧ RegsExcept [] s t ∧ MemSame s t := by
  obtain ⟨y, hy, hkeeps⟩ := heard_port (s := s) (p := p) (raw := raw)
  have hnext : advanceRx (heard s p raw) p =
      s.setPort p { y with rxExp := (y.rxExp + 1) % 1024, rxAny := true, rxDrop := false } := by
    rw [hy, advanceRx, State.port_setPort_same, State.setPort_setPort]
  generalize hz : { y with rxExp := (y.rxExp + 1) % 1024, rxAny := true, rxDrop := false } = z at hnext
  have hheld : z.held = (s.port p).held := by rw [← hz]; exact hkeeps.held
  have hother : (s.setPort p z).port e = s.port e := State.port_setPort_ne s p z hne
  have hdeliver := deliverFlit_through (s := s.setPort p z) (p := p)
    (f := ⟨hdr raw 63 48, hdr raw 47 46, 4, (raw.drop 8).take (hdr raw 11 4 + 1)⟩)
    (by rw [classStopped, State.port_setPort_same, hheld]; exact hfree) hdest rfl hroute (by rw [hother]; exact hrun)
  rw [hother] at hdeliver
  refine runs_of_eq hup (g := fun s => flitReceive s p raw) rfl ((flitReceive_clean hlink hlen hverdict).trans
    ((acceptFlit_single hkind horder).trans ((congrArg (deliverFlit · p _) hnext).trans hdeliver))) rfl ?_
  rw [State.port_setPort_same, State.port_setPort_ne _ _ _ (Ne.symm hne), State.port_setPort_same, ← hz, ← hkeeps.rxExp, ← hkeeps.q]
  exact ⟨rfl, rfl, rfl, fun _ _ => rfl, fun _ => rfl⟩

theorem runs_flitReceive_uncorrectable (hverdict : flitVerdict ((s.port p).feats.testBit 0) raw = .uncorrectable)
    (hactive : lstate s p = 4) (horder : inOrder s p raw = false) : Runs (.flitReceive p raw) s fun t =>
      PortStep p (fun y => { y with rxDrop := true, ctl := y.ctl ++ [.nak y.rxExp] }) [R.FLIT_UNCORR p] s t ∧
      t.fld (F.FLIT_UNCORR_COUNT p) = s.sat (F.FLIT_UNCORR_COUNT p) 1 := by
  refine runs_of_eq hup (g := fun s => flitReceive s p raw) rfl (flitReceive_uncorrectable hlink hlen hverdict hactive horder) rfl
    ⟨portStep_setPort (incFld_onlyEvents s _ 1), ?_⟩
  rw [State.setPort_fld]
  exact State.fld_incFld_same s (F.FLIT_UNCORR_COUNT p) 1 (by simp)

theorem runs_flitReceive_stomped (hverdict : flitVerdict ((s.port p).feats.testBit 0) raw = .stomped)
    (horder : inOrder s p raw = true) (hdest : s.nodeLocal (hdr raw 63 48) = true) :
    Runs (.flitReceive p raw) s (PortStep p (fun y => { y with
      rxExp := (y.rxExp + 1) % 1024, rxAny := true, rxDrop := false, owed := credAdd y.owed (hdr raw 47 46) 1 }) [] s) :=
  runs_portStep hup (g := fun s => flitReceive s p raw) rfl (OnlyEvents.refl [] s) (flitReceive_stomped hlink hlen hverdict horder hdest)

/-- A NULL flit that was corrected is counted and heard. -/
theorem runs_flitReceive_corrected {r : List Byte} (hverdict : flitVerdict ((s.port p).feats.testBit 0) raw = .corrected r)
    (hkind : hdr r 45 43 = 0) (hack : hdr r 22 22 = 0) (hcredits : hdr r 19 12 = 0) : Runs (.flitReceive p raw) s fun t =>
      PortStep p (fun y => { y with lastGood := s.now }) [R.FLIT_CORR p] s t ∧
      t.fld (F.FLIT_CORR_COUNT p) = s.sat (F.FLIT_CORR_COUNT p) 1 := by
  have horder : inOrder (s.incFld (F.FLIT_CORR_COUNT p) 1) p r = false := by simp [inOrder, hkind]
  have hheard : heard (s.incFld (F.FLIT_CORR_COUNT p) 1) p r =
      (s.incFld (F.FLIT_CORR_COUNT p) 1).setPort p { s.port p with lastGood := s.now } := by
    rw [heard_of_noAck hack]
    simp [hcredits]
  refine runs_of_eq hup (g := fun s => flitReceive s p raw) rfl ((flitReceive_corrected hlink hlen hverdict).trans
    ((acceptFlit_heard false (by omega) horder).trans hheard)) rfl ⟨portStep_setPort (incFld_onlyEvents s _ 1), ?_⟩
  rw [State.setPort_fld]
  exact State.fld_incFld_same s (F.FLIT_CORR_COUNT p) 1 (by simp)

end

/-! ### FLIT_SLOT -/

section
variable {p : Fin 24} {s : State} (hup : s.up = true)
include hup

theorem exec_flitSlot_down (h : lstate s p < 3) : exec (.flitSlot p) s = .next s :=
  exec_same hup (g := fun s => flitSlot s p) rfl (flitSlot_down h)

variable (hlink : 3 ≤ lstate s p) (howed : (s.port p).owed = (0, 0, 0)) (hinside : (s.port p).slot + 1 < (s.port p).flen)
include hlink howed hinside

theorem runs_flitSlot_marker (hmark : 16379 ≤ (s.port p).sinceMark) (hswap : (s.port p).swap = none) :
    Runs (.flitSlot p) s (PortStep p (fun y => { y with sinceMark := 0, slot := y.slot + 1, tx := .marker }) [] s) := by
  have hpass := flitSlot_marker hlink hmark
  rw [markerPass_none hswap] at hpass
  exact runs_portStep hup (g := fun s => flitSlot s p) rfl (OnlyEvents.refl [] s) (hpass.trans (slotEnds_quiet howed hinside true .marker))

variable (hmark : (s.port p).sinceMark < 16379)
include hmark

theorem runs_flitSlot_control {m : CtlMsg} {ms : List CtlMsg} (hctl : (s.port p).ctl = m :: ms) :
    Runs (.flitSlot p) s (PortStep p (fun y =>
      { y with ctl := ms, sinceMark := y.sinceMark + 1, slot := y.slot + 1, tx := .ctl m }) [] s) :=
  runs_portStep hup (g := fun s => flitSlot s p) rfl (OnlyEvents.refl [] s)
    ((flitSlot_control hlink hmark hctl).trans (slotEnds_inside (x := { s.port p with ctl := ms }) howed hinside false _))

variable (hctl : (s.port p).ctl = [])
include hctl

theorem runs_flitSlot_replay {f : Nat × Flit} {fs : List (Nat × Flit)} (hreplay : (s.port p).replay = f :: fs) :
    Runs (.flitSlot p) s fun t => PortStep p (fun y =>
      { y with replay := fs, sinceMark := y.sinceMark + 1, slot := y.slot + 1, tx := .replay f.1 f.2 }) [R.REPLAY_COUNT p] s t ∧
      t.fld (F.REPLAY_COUNT_COUNT p) = s.sat (F.REPLAY_COUNT_COUNT p) 1 := by
  refine runs_of_eq hup (g := fun s => flitSlot s p) rfl
    ((flitSlot_replay hlink hmark hctl hreplay).trans (slotEnds_inside (x := { s.port p with replay := fs }) howed hinside false _)) rfl
    ⟨portStep_setPort (incFld_onlyEvents s _ 1), ?_⟩
  rw [State.setPort_fld]
  exact State.fld_incFld_same s (F.REPLAY_COUNT_COUNT p) 1 (by simp)

variable (hreplay : (s.port p).replay = [])
include hreplay

theorem runs_flitSlot_idle (h : lstate s p ≠ 4 ∨ 512 ≤ (s.port p).retry.length ∨ (s.port p).credits = (0, 0, 0) ∨ (s.port p).q = []) :
    Runs (.flitSlot p) s (PortStep p (fun y => { y with sinceMark := y.sinceMark + 1, slot := y.slot + 1, tx := .idle }) [] s) :=
  runs_portStep hup (g := fun s => flitSlot s p) rfl (OnlyEvents.refl [] s)
    ((flitSlot_idle hlink hmark hctl hreplay (sendable_none h)).trans (slotEnds_quiet howed hinside false .idle))

theorem runs_flitSlot_flit {c : Nat} {k : Pkt} {f : Flit} (hactive : lstate s p = 4) (hroom : (s.port p).retry.length < 512)
    (hcredit : 0 < credOf (s.port p).credits c) (hclass : (classOrder (slotCode (s.port p) (s.port p).slot)).head? = some c)
    (hready : readyFlit (s.port p) c = some (k, f)) (hown : k.ingress = none) : Runs (.flitSlot p) s (PortStep p (fun y =>
      { y with
        q := popFlit c y.q, credits := credSub y.credits c 1, retry := y.retry ++ [(y.txSeq, f)], txSeq := (y.txSeq + 1) % 1024,
        ackAt := if y.retry = [] then s.now else y.ackAt, sinceMark := y.sinceMark + 1, slot := y.slot + 1,
        tx := .flit (s.port p).txSeq f }) [] s) := by
  refine runs_portStep hup (g := fun s => flitSlot s p) rfl (OnlyEvents.refl [] s) ((flitSlot_flit hlink hmark hctl hreplay hclass
    (sendable_some hactive hroom hcredit hready) hown).trans ?_)
  refine (slotEnds_inside (x := flitSent (s.port p) s.now c f) howed hinside false _).trans ?_
  simp only [flitSent, List.isEmpty_iff]
  rfl

end

end Sys2Proof.Machine
end

section
/-! SUPPORT. Markers, credits, replays, the schedule and lane swaps as rows. -/

namespace Sys2Proof.Machine

section
variable {p : Fin 24} {s : State} (hup : s.up = true)
include hup

/-! ### Markers, credits, replays (R365, R371, R372) -/

theorem exec_marker_down (h : lstate s p < 2) : exec (.marker p) s = .next s :=
  exec_same hup (g := fun s => markerRow s p) rfl (if_pos h)

theorem runs_marker (h : 2 ≤ lstate s p) : Runs (.marker p) s (PortStep p (fun y => { y with lastGood := s.now }) [] s) :=
  runs_portStep hup (g := fun s => markerRow s p) rfl (OnlyEvents.refl [] s) (if_neg (by omega))

theorem exec_credit_inactive (h : lstate s p ≠ 4) (a b m : BitVec 16) : exec (.credit p a b m) s = .next s :=
  exec_same hup (g := fun s => linkCtl s p false fun s => creditRx s p a.toNat b.toNat m.toNat) rfl
    (linkCtl_ignored h fun h => absurd h Bool.false_ne_true)

theorem exec_nak_inactive (h : lstate s p ≠ 4) (sq : BitVec 10) : exec (.nak p sq) s = .next s :=
  exec_same hup (g := fun s => linkCtl s p false fun s => replayFrom s p sq.toNat) rfl
    (linkCtl_ignored h fun h => absurd h Bool.false_ne_true)

theorem runs_credit (h : lstate s p = 4) (a b m : BitVec 16) : Runs (.credit p a b m) s (PortStep p (fun y => { y with
    lastGood := s.now, credits := (y.credits.1 + a.toNat, y.credits.2.1 + b.toNat, y.credits.2.2 + m.toNat) }) [] s) := by
  refine runs_portStep hup (g := fun s => linkCtl s p false fun s => creditRx s p a.toNat b.toNat m.toNat) rfl
    (OnlyEvents.refl [] s) ((linkCtl_taken (.inl h)).trans ?_)
  simp [goodFlit_eq, creditRx]

theorem runs_nak (h : lstate s p = 4) (sq : BitVec 10) (hflits : (s.port p).retry.filter (fun f => seqLe sq.toNat f.1) ≠ [])
    (hfew : (s.port p).replays < 15) : Runs (.nak p sq) s (PortStep p (fun y => { y with
      lastGood := s.now, replay := y.retry.filter (fun f => seqLe sq.toNat f.1), replays := y.replays + 1, ackAt := s.now }) [] s) := by
  have hport := State.port_setPort_same s p { s.port p with lastGood := s.now }
  refine runs_portStep hup (g := fun s => linkCtl s p false fun s => replayFrom s p sq.toNat) rfl (OnlyEvents.refl [] s)
    ((linkCtl_taken (.inl h)).trans ((replayFrom_some ?_ ?_).trans ?_))
  · rw [goodFlit_eq, hport]
    exact hflits
  · rw [goodFlit_eq, hport]
    exact hfew
  · rw [goodFlit_eq, hport, State.setPort_setPort]
    rfl

theorem exec_ackTimeout_idle (h : lstate s p ≠ 4 ∨ (s.port p).retry = []) : exec (.ackTimeoutReplay p) s = .next s :=
  exec_same hup (g := fun s => ackTimeout s p) rfl (if_pos h)

/-- 1 µs after the acknowledgement last advanced the unacknowledged flits are sent again. -/
theorem runs_ackTimeout (h : lstate s p = 4) {f : Nat × Flit} {fs : List (Nat × Flit)} (hretry : (s.port p).retry = f :: fs)
    (htime : (s.port p).ackAt + 700 ≤ s.now) (hfew : (s.port p).replays < 15) (hself : seqLe f.1 f.1 = true) :
    Runs (.ackTimeoutReplay p) s (PortStep p (fun y =>
      { y with replay := y.retry.filter (fun g => seqLe f.1 g.1), replays := y.replays + 1, ackAt := s.now }) [] s) :=
  runs_portStep hup (g := fun s => ackTimeout s p) rfl (OnlyEvents.refl [] s)
    ((ackTimeout_replays h hretry htime).trans (replayFrom_some (by simp [hretry, hself]) hfew))

/-! ### The schedule (R381) -/

theorem runs_schedSwap (v : Word) : Runs (.schedSwap p .w64 v) s fun t => t.fld (F.SCHED_CTRL_FLEN p) = getBits v 12 0 ∧
    t.fld (F.SCHED_CTRL_SWAP p) = (if getBits v 16 16 = 1 then 1 else s.fld (F.SCHED_CTRL_SWAP p)) ∧ t.reply = .ok ∧
    PortStep p (fun y => y) [R.SCHED_CTRL p] s t := by
  obtain ⟨w, hw, hflen, hswap⟩ := writeByType_SCHED_CTRL s p.isLt v
  refine runs_of_eq hup (g := fun s => (okReply s).writeByType (R.SCHED_CTRL p) .w64 v) rfl
    ((okReply_writeByType s _ _ v).trans (congrArg okReply hw)) rfl ⟨?_, ?_, rfl, ?_⟩
  · exact (State.fld_setReg_same s (F.SCHED_CTRL_FLEN p) _ w rfl).trans hflen
  · exact (State.fld_setReg_same s (F.SCHED_CTRL_SWAP p) _ w rfl).trans hswap
  · have hstep := portStep_id (p := p) ((OnlyEvents.refl [R.SCHED_CTRL p] s).setReg w List.mem_cons_self)
    exact ⟨hstep.port, hstep.ports, hstep.txs, hstep.regs, hstep.mem, hstep.cores⟩

theorem exec_schedInstall_none (h : s.fld (F.SCHED_CTRL_SWAP p) = 0) : exec (.schedInstall p) s = .next s :=
  exec_same hup (g := fun s => schedInstall s p) rfl (schedInstall_none h)

theorem runs_schedInstall (h : s.fld (F.SCHED_CTRL_SWAP p) = 1) : Runs (.schedInstall p) s fun t =>
    t.fld (F.SCHED_CTRL_SWAP p) = 0 ∧ t.fld (F.SCHED_CTRL_FLEN_CUR p) = s.fld (F.SCHED_CTRL_FLEN p) ∧
    (t.port p).flen = s.fld (F.SCHED_CTRL_FLEN p) ∧ (t.port p).slot = 0 ∧ (∀ k, k < 4096 → slotCode (t.port p) k =
      getBits (s.reg (R.SCHED p (k / 32))) (2 * (k % 32) + 1) (2 * (k % 32))) ∧ RegsExcept [R.SCHED_CTRL p] s t ∧ MemSame s t := by
  have hevents : OnlyEvents [R.SCHED_CTRL p] s ((s.setFld (F.SCHED_CTRL_SWAP p) 0).setFld (F.SCHED_CTRL_FLEN_CUR p)
      (s.fld (F.SCHED_CTRL_FLEN p))) := ((OnlyEvents.refl _ s).setFld _ List.mem_cons_self).setFld _ List.mem_cons_self
  have hstep := portStep_setPort (p := p)
    (f := fun y => { y with flen := s.fld (F.SCHED_CTRL_FLEN p), codes := shadowCodes s p, slot := 0 }) hevents
  refine runs_of_eq hup (g := fun s => schedInstall s p) rfl (schedInstall_swap h) rfl
    ⟨?_, ?_, congrArg Port.flen hstep.port, congrArg Port.slot hstep.port,
      fun k hk => slotCode_shadowCodes s p (congrArg Port.codes hstep.port) hk, hstep.regs, hstep.mem⟩
  · rw [State.setPort_fld, State.fld_setFld_ne _ _ _ _ (.inr (.inr (by simp))), State.fld_setFld_same _ _ _ (by simp)]
    rfl
  · rw [State.setPort_fld, State.fld_setFld_same _ _ _ (by simp)]
    exact Nat.mod_eq_of_lt (getBits_lt _ _ _)

/-! ### Lane swaps (R379) -/

section
variable (h : lstate s p = 4) (i : BitVec 1) (l : BitVec 5) (ap : Bool)
include h

theorem runs_laneSwap_off (hoff : (s.port p).feats.testBit 1 = false) :
    Runs (.laneSwap p i l ap) s (PortStep p (fun y => { y with lastGood := s.now }) [] s) :=
  runs_portStep hup (g := fun s => linkCtl s p false fun s => laneSwapRx s p i.toNat l.toNat ap) rfl (OnlyEvents.refl [] s)
    ((linkCtl_taken (.inl h)).trans (laneSwapRx_off _ _ ap hoff))

theorem runs_laneSwap_echo {k : Nat} (hon : (s.port p).feats.testBit 1 = true) (hswap : (s.port p).swap = some (k, false)) :
    Runs (.laneSwap p i l ap) s (PortStep p (fun y => { y with lastGood := s.now, swap := some (2, true) }) [] s) :=
  runs_portStep hup (g := fun s => linkCtl s p false fun s => laneSwapRx s p i.toNat l.toNat ap) rfl (OnlyEvents.refl [] s)
    ((linkCtl_taken (.inl h)).trans (laneSwapRx_echo _ _ ap h hon hswap))

theorem runs_laneSwap_begun (hon : (s.port p).feats.testBit 1 = true) (hswap : (s.port p).swap = none) :
    Runs (.laneSwap p i l ap) s (PortStep p (fun y => { y with
      lastGood := s.now, swap := some (2, true), ctl := y.ctl ++ [.laneSwap i.toNat l.toNat ap] }) [R.LANE_SPARE p] s) := by
  obtain ⟨w, hw⟩ := laneSwapRx_begun (x := { s.port p with lastGood := s.now }) i.toNat l.toNat ap h hon hswap
  exact runs_portStep hup (g := fun s => linkCtl s p false fun s => laneSwapRx s p i.toNat l.toNat ap) rfl
    ((OnlyEvents.refl [R.LANE_SPARE p] s).setReg w List.mem_cons_self) ((linkCtl_taken (.inl h)).trans hw)

end

end

end Sys2Proof.Machine
end

section
open Sys2Proof Sys2Proof.Machine

/-- Settles O47: each row of a link's traffic in each of its cases, from its lemma above. -/
theorem linkTraffic : Obligations.LinkTraffic := by
  unfold Obligations.LinkTraffic
  intro p s hup x good
  refine ⟨fun raw => ⟨exec_flitReceive_ignored hup, fun hlink hlen => ?_⟩, exec_flitSlot_down hup, fun hlink howed hinside => ?_,
    exec_marker_down hup, runs_marker hup, fun a b m sq => ?_, fun f fs h => runs_ackTimeout hup h, exec_ackTimeout_idle hup,
    runs_schedSwap hup, exec_schedInstall_none hup, runs_schedInstall hup, fun i l ap hactive => ?_⟩
  · exact ⟨fun hv => ⟨runs_flitReceive_null hup hlink hlen hv, fun _ _ => runs_flitReceive_outOfOrder hup hlink hlen hv,
        fun e => runs_flitReceive_through hup hlink hlen hv⟩,
      runs_flitReceive_uncorrectable hup hlink hlen, runs_flitReceive_stomped hup hlink hlen,
      fun r => runs_flitReceive_corrected hup hlink hlen⟩
  · exact ⟨runs_flitSlot_marker hup hlink howed hinside, fun hmark => ⟨fun m ms => runs_flitSlot_control hup hlink howed hinside hmark,
      fun f fs hctl => runs_flitSlot_replay hup hlink howed hinside hmark hctl, runs_flitSlot_idle hup hlink howed hinside hmark,
      fun c k f hctl hreplay hactive hroom hcredit => runs_flitSlot_flit hup hlink howed hinside hmark hctl hreplay hactive hroom hcredit⟩⟩
  · exact ⟨fun h => ⟨exec_credit_inactive hup h a b m, exec_nak_inactive hup h sq⟩,
      fun h => ⟨runs_credit hup h a b m, runs_nak hup h sq⟩⟩
  · exact ⟨runs_laneSwap_off hup hactive i l ap, fun k => runs_laneSwap_echo hup hactive i l ap, runs_laneSwap_begun hup hactive i l ap⟩

end

section
/-! SUPPORT. The states of a link (R373 to R379, R385): a port that moves beside registers and events, training, the loss of a
link, and the negotiation. -/

namespace Sys2Proof.Machine

/-! ### A port that moves -/

/-- t is s with port p changed by f, and with these registers and the event controller changed. -/
def PortMove (p : Nat) (f : Port → Port) (as : List Nat) (s t : State) : Prop :=
  ∃ u, OnlyEvents as s u ∧ t = u.setPort p (f (s.port p))

theorem OnlyEvents.portMove {as : List Nat} {s u : State} (h : OnlyEvents as s u) (p : Nat) (f : Port → Port) :
    PortMove p f as s (u.setPort p (f (s.port p))) := ⟨u, h, rfl⟩

section
variable {p : Nat} {f : Port → Port} {as bs : List Nat} {s t t' : State} (h : PortMove p f as s t)
include h

theorem PortMove.step : PortStep p f as s t := by obtain ⟨u, hu, rfl⟩ := h; exact portStep_setPort hu
theorem PortMove.pending : t.pending = s.pending := by obtain ⟨u, hu, rfl⟩ := h; exact hu.pending
theorem PortMove.now : t.now = s.now := by obtain ⟨u, hu, rfl⟩ := h; exact hu.now
theorem PortMove.port : t.port p = f (s.port p) := h.step.port

theorem PortMove.events (h' : OnlyEvents as t t') : PortMove p f as s t' := by
  obtain ⟨u, hu, rfl⟩ := h
  obtain ⟨c, e, rfl, hregs⟩ := h'
  exact ⟨{ u with csr := c, evc := e }, hu.trans ⟨c, e, rfl, hregs⟩, rfl⟩

theorem PortMove.setFld {g : Fld} (v : Nat) (hg : g.addr ∈ as) : PortMove p f as s (t.setFld g v) := by
  obtain ⟨u, hu, rfl⟩ := h
  exact ⟨u.setFld g v, hu.setFld v hg, State.setFld_setPort u p _ g v⟩

theorem PortMove.setPort (g : Port → Port) : PortMove p (fun y => g (f y)) as s (t.setPort p (g (t.port p))) := by
  rw [h.port]
  obtain ⟨u, hu, rfl⟩ := h
  exact ⟨u, hu, State.setPort_setPort u p _ _⟩

theorem PortMove.mono (hsub : as ⊆ bs) : PortMove p f bs s t := by
  obtain ⟨u, hu, rfl⟩ := h
  exact ⟨u, hu.mono hsub, rfl⟩

theorem PortMove.raise (i : Nat) : PortMove p f (as ++ [R.RAW (i / 64), R.PEND (i / 64), R.EVC_MERGED]) s (t.raise i) :=
  (h.mono (List.subset_append_left _ _)).events ((raise_events t i).mono (List.subset_append_right _ _))

/-- What a row leaves whose meaning is such a move. -/
theorem runs_portMove {i : Instr} {g : State → State} {P : State → Prop} (hup : s.up = true) (hrow : exec i s = ifUp g s)
    (hg : g s = t) (hP : P t) : Runs i s P := runs_of_eq hup hrow hg h.pending hP

end

/-- A port that hears a flit in cycle u. -/
def heardIn (u : Nat) (y : Port) : Port := { y with lastGood := u }

theorem goodFlit_move (s : State) (p : Nat) : PortMove p (heardIn s.now) [] s (goodFlit s p) :=
  (OnlyEvents.refl [] s).portMove p (heardIn s.now)

/-- The status of a port is not among the registers of its event. -/
theorem portStatus_not_raised {p : Nat} (hp : p < 24) :
    R.PORT_STATUS p ∉ [R.RAW ((64 + p) / 64), R.PEND ((64 + p) / 64), R.EVC_MERGED] := by
  simp [R.PORT_STATUS, R.RAW, R.PEND, R.EVC_MERGED]; omega

/-! ### Training (R373) -/

theorem trainDone_eq {s : State} {p : Nat} (h : lstate s p = 1) :
    trainDone s p = (s.setFld (F.PORT_STATUS_LSTATE p) 2).setPort p (heardIn s.now (s.port p)) := if_pos h

theorem lstate_setFld (s : State) (p v : Nat) (hv : v < 8) : lstate (s.setFld (F.PORT_STATUS_LSTATE p) v) p = v :=
  (State.fld_setFld_same s _ v (by simp)).trans (Nat.mod_eq_of_lt hv)

/-- A port of an aligned link: it sends its offer. -/
def offering (u : Nat) (y : Port) : Port := { y with ctl := y.ctl ++ [.negotiate], lastGood := u }

theorem alignLock_eq {s : State} {p : Nat} (h : lstate s p = 2) :
    alignLock s p = (s.setFld (F.PORT_STATUS_LSTATE p) 3).setPort p (offering s.now (s.port p)) := if_pos h

/-- A port whose training starts in cycle u. -/
def trained (adv lanes : Word) (u : Nat) (y : Port) : Port :=
  { y with adv := adv, lanes := lanes, rxNeg := none, rxNegAck := none, txSeq := 0,
           retry := [], replay := [], replays := 0, rxExp := 0, rxAny := false, rxDrop := false, ctl := [],
           sinceMark := 0, slot := 0, swap := none, lastGood := u, downAt := none }

theorem portTrain_eq (s : State) (p : Nat) : portTrain s p = (s.setFld (F.PORT_STATUS_LSTATE p) 1).setPort p
    (trained (s.reg (R.PORT_ADV p)) (s.reg (R.LANE_SPARE p)) s.now (s.port p)) := rfl

/-! ### A link that is lost (R373, R385) -/

section
variable (s : State) (p : Nat)

theorem noLink_onlyEvents : OnlyEvents [R.PORT_STATUS p] s (noLink s p) := (OnlyEvents.refl _ s).setReg _ List.mem_cons_self

theorem noLink_lstate : lstate (noLink s p) p = 0 :=
  (State.fld_setReg_same s (F.PORT_STATUS_LSTATE p) _ _ rfl).trans (getBits_setBits _ 2 0 0 (by omega))

theorem noLink_partner : (noLink s p).fld (F.PORT_STATUS_PARTNER p) = 0xFFFF := by
  have hupper (w : Word) : getBits w 63 48 = getBits w 63 5 / 2 ^ 43 := by
    simp only [getBits, bitsOf, Nat.shiftRight_eq_div_pow]
    omega
  refine (State.fld_setReg_same s (F.PORT_STATUS_PARTNER p) _ _ rfl).trans ?_
  rw [getBits_setBits_ne _ _ _ _ _ _ (.inl (by simp)), hupper, getBits_setBits _ _ _ _ (by omega)]
  norm_num

/-- Registers and events of the loss of a link: no partner, the requests that wait for the port counted, and LINK_DOWN of an ACTIVE
one. -/
def lossNoted : State :=
  let wait := (s.fab.txs.filter fun x : TxReq => decide (x.st = .waiting) && routePort s x.node == some p).length
  let s1 := (noLink s p).incFld (F.FAILOVER_COUNT_COUNT p) wait
  if lstate s p == 4 then (s1.incFld (F.LINK_DOWN_COUNT_COUNT p) 1).raise (64 + p) else s1

/-- A port of a link that is lost in cycle u. -/
def lostLink (u : Nat) (x : Port) : Port :=
  { x with downAt := some u, retry := [], replay := [], replays := 0, ctl := [], rx := [], rxNeg := none, rxNegAck := none,
           running := 0, feats := 0, credits := (0, 0, 0), owed := (0, 0, 0), swap := none }

/-- The counters and the event of the loss of a link. -/
def lossRegs : List Nat :=
  [R.FAILOVER_COUNT p, R.LINK_DOWN_COUNT p, R.RAW ((64 + p) / 64), R.PEND ((64 + p) / 64), R.EVC_MERGED]

theorem lossNoted_noLink : OnlyEvents (lossRegs p) (noLink s p) (lossNoted s p) := by
  unfold lossNoted
  generalize (s.fab.txs.filter _).length = k
  dsimp only
  have hwait := (incFld_onlyEvents (noLink s p) (F.FAILOVER_COUNT_COUNT p) k).mono (bs := lossRegs p) (by simp [lossRegs])
  have hdown := (incFld_onlyEvents ((noLink s p).incFld (F.FAILOVER_COUNT_COUNT p) k) (F.LINK_DOWN_COUNT_COUNT p) 1).mono
    (bs := lossRegs p) (by simp [lossRegs])
  split
  · exact (hwait.trans hdown).trans ((raise_events _ _).mono (by simp [lossRegs]))
  · exact hwait

theorem lossNoted_onlyEvents : OnlyEvents (R.PORT_STATUS p :: lossRegs p) s (lossNoted s p) :=
  ((noLink_onlyEvents s p).mono (by simp)).trans ((lossNoted_noLink s p).mono (by simp))

theorem lossNoted_status (hp : p < 24) :
    lstate (lossNoted s p) p = 0 ∧ (lossNoted s p).fld (F.PORT_STATUS_PARTNER p) = 0xFFFF := by
  have hstatus : R.PORT_STATUS p ∉ lossRegs p := by
    simp [lossRegs, R.PORT_STATUS, R.FAILOVER_COUNT, R.LINK_DOWN_COUNT, R.RAW, R.PEND, R.EVC_MERGED]; omega
  have hregs := (lossNoted_noLink s p).regs
  exact ⟨(hregs.fld (f := F.PORT_STATUS_LSTATE p) hstatus).trans (noLink_lstate s p),
    (hregs.fld (f := F.PORT_STATUS_PARTNER p) hstatus).trans (noLink_partner s p)⟩

/-- The loss of an ACTIVE link is counted, with an event. -/
theorem lossNoted_active (hp : p < 24) (hactive : lstate s p = 4) :
    (lossNoted s p).fld (F.LINK_DOWN_COUNT_COUNT p) = s.sat (F.LINK_DOWN_COUNT_COUNT p) 1 ∧
      (lossNoted s p).fld (rawFld (64 + p)) = 1 := by
  have hraise : (R.LINK_DOWN_COUNT p) ∉ [R.RAW ((64 + p) / 64), R.PEND ((64 + p) / 64), R.EVC_MERGED] := by
    simp [R.LINK_DOWN_COUNT, R.RAW, R.PEND, R.EVC_MERGED]; omega
  have hearlier : R.LINK_DOWN_COUNT p ∉ [R.PORT_STATUS p, R.FAILOVER_COUNT p] := by
    simp [R.LINK_DOWN_COUNT, R.PORT_STATUS, R.FAILOVER_COUNT]
  unfold lossNoted
  generalize (s.fab.txs.filter _).length = k
  dsimp only
  rw [if_pos (by simp [hactive])]
  have hregs := ((noLink_onlyEvents s p).mono (bs := [R.PORT_STATUS p, R.FAILOVER_COUNT p]) (by simp)).trans
    ((incFld_onlyEvents (noLink s p) (F.FAILOVER_COUNT_COUNT p) k).mono (by simp))
  refine ⟨((raise_regs _ _).fld (f := F.LINK_DOWN_COUNT_COUNT p) hraise).trans ?_, raise_raw _ _⟩
  exact (State.fld_incFld_same _ _ _ (by simp)).trans (State.sat_of_regs hregs.regs hearlier 1)

variable {s p}

theorem rerouteQueue_empty (h : (s.port p).q = []) : rerouteQueue s p = s.setPort p { s.port p with q := [] } := by
  simp [rerouteQueue, h]

theorem portDown_eq (s : State) (p : Nat) : portDown s p =
    (rerouteQueue (lossNoted s p) p).setPort p (lostLink s.now ((rerouteQueue (lossNoted s p) p).port p)) := rfl

/-- A port whose queue is empty goes down. -/
theorem portDown_move (h : (s.port p).q = []) :
    PortMove p (fun y => lostLink s.now { y with q := [] }) (R.PORT_STATUS p :: lossRegs p) s (portDown s p) ∧
      (portDown s p).csr = (lossNoted s p).csr := by
  have hnoted := lossNoted_onlyEvents s p
  have hport : (lossNoted s p).port p = s.port p := State.port_of_fab hnoted.fab p
  rw [portDown_eq, rerouteQueue_empty (by rw [hport, h]), State.port_setPort_same, State.setPort_setPort, hport]
  exact ⟨hnoted.portMove p fun y => lostLink s.now { y with q := [] }, rfl⟩

end

end Sys2Proof.Machine
end

section
/-! SUPPORT. The negotiation of a link, and the end of a port's transactions (R374 to R377, R402). -/

namespace Sys2Proof.Machine

/-! ### What a port offers (R375) -/

section
variable {p : Nat} {f : Port → Port} {as : List Nat} {s t : State} (h : PortMove p f as s t)
  (hadv : (f (s.port p)).adv = (s.port p).adv) (hver : R.FAB_VER ∉ as)
include h hadv hver

theorem offerVers_of_move : offerVers t p = offerVers s p := by
  rw [offerVers, h.port, hadv, h.step.regs.fld hver, offerVers]

theorem offerFeat_of_move : offerFeat t p = offerFeat s p := by
  rw [offerFeat, h.port, hadv, h.step.regs.fld hver, offerFeat]

end

/-! ### The exchange of offers (R374 to R377) -/

/-- The status of a link that has become ACTIVE. -/
def activeNoted (s : State) (p unset run feats : Nat) : State :=
  ((((s.setFld (F.PORT_STATUS_NODE_UNSET p) unset).setFld (F.PORT_STATUS_LSTATE p) 4).setFld (F.PORT_STATUS_VER_MAJOR p) (run / 256)).setFld
    (F.PORT_STATUS_VER_MINOR p) (run % 256)).setFld (F.PORT_STATUS_FEAT_NEG p) feats

/-- A port that runs what both ends have offered. -/
def agreed (u run feats : Nat) (g : Nego) (y : Port) : Port :=
  { y with running := run, feats := feats, credits := (g.cp, g.cb, g.cm), ackAt := u, lastGood := u }

/-- A port that has the partner's offer, and answers it where there is a common version. -/
def offered (g : Nego) (common : Nat) (y : Port) : Port :=
  { y with rxNeg := some g, ctl := if common = 0 then y.ctl else y.ctl ++ [.negAck (chosenVersion common)] }

/-- A port whose offer the partner has. -/
def acked (chosen : Nat) (y : Port) : Port := { y with rxNegAck := some chosen }

section
variable {s : State} {p : Nat}

theorem negotiateCheck_noOffer (h : (s.port p).rxNeg = none) : negotiateCheck s p = s := by simp [negotiateCheck, h]

/-- A link that becomes ACTIVE with the partner's offer. -/
def negotiated (s : State) (p : Nat) (g : Nego) : State :=
  let run := chosenVersion (g.vers &&& offerVers s p)
  let feats := featuresOf run (g.feat &&& offerFeat s p)
  (activeNoted s p (b2n (ownNode s == 0xFFFF || g.node == 0xFFFF)) run feats).setPort p (agreed s.now run feats g (s.port p))

section
variable {g : Nego} (hneg : (s.port p).rxNeg = some g) (hstate : lstate s p = 3)
include hneg hstate

theorem negotiateCheck_offer : negotiateCheck s p =
    if g.vers &&& offerVers s p = 0 then (s.setFld (F.PORT_STATUS_VER_ERR p) 1).raise (64 + p)
    else if (ownNode s == 0xFFFF || g.node == 0xFFFF) || (s.port p).rxNegAck.isNone then
      s.setFld (F.PORT_STATUS_NODE_UNSET p) (b2n (ownNode s == 0xFFFF || g.node == 0xFFFF))
    else negotiated s p g := by
  unfold negotiateCheck
  extract_lets x
  split
  · next hnone => exact absurd (hneg.symm.trans hnone) (by simp)
  · next h heq =>
    obtain rfl : g = h := Option.some.inj (hneg.symm.trans heq)
    exact if_neg (not_not.mpr hstate)

theorem negotiateCheck_refused (hcommon : g.vers &&& offerVers s p = 0) :
    negotiateCheck s p = (s.setFld (F.PORT_STATUS_VER_ERR p) 1).raise (64 + p) := by
  rw [negotiateCheck_offer hneg hstate, if_pos hcommon]

variable (hcommon : g.vers &&& offerVers s p ≠ 0)
include hcommon

theorem negotiateCheck_waits (hack : (s.port p).rxNegAck = none) : negotiateCheck s p =
    s.setFld (F.PORT_STATUS_NODE_UNSET p) (b2n (ownNode s == 0xFFFF || g.node == 0xFFFF)) := by
  rw [negotiateCheck_offer hneg hstate, if_neg hcommon, if_pos (by simp [hack])]

theorem negotiateCheck_agreed {c : Nat} (hack : (s.port p).rxNegAck = some c) (hown : ownNode s ≠ 0xFFFF) (hnode : g.node ≠ 0xFFFF) :
    negotiateCheck s p = negotiated s p g := by
  rw [negotiateCheck_offer hneg hstate, if_neg hcommon, if_neg (by simp [hack, hown, hnode])]

end

theorem negotiateRx_eq (h : lstate s p = 3) (g : Nego) : negotiateRx s p g =
    negotiateCheck ((s.setFld (F.PORT_STATUS_PARTNER p) g.node).setPort p (offered g (g.vers &&& offerVers s p) (s.port p))) p :=
  (if_neg fun hno => hno.1 h).trans
    (congrArg (fun y => negotiateCheck ((s.setFld (F.PORT_STATUS_PARTNER p) g.node).setPort p (offered g (g.vers &&& offerVers s p) y)) p)
      (State.setFld_port s p (F.PORT_STATUS_PARTNER p) g.node))

theorem negAckRx_eq (h : lstate s p = 3) (c : Nat) : negAckRx s p c = negotiateCheck (s.setPort p (acked c (s.port p))) p :=
  if_neg (not_not.mpr h)

theorem activeNoted_onlyEvents (unset run feats : Nat) : OnlyEvents [R.PORT_STATUS p] s (activeNoted s p unset run feats) :=
  let h := OnlyEvents.refl [R.PORT_STATUS p] s
  ((((h.setFld unset List.mem_cons_self).setFld 4 List.mem_cons_self).setFld (run / 256) List.mem_cons_self).setFld (run % 256)
    List.mem_cons_self).setFld feats List.mem_cons_self

theorem activeNoted_fields (unset run feats : Nat) : lstate (activeNoted s p unset run feats) p = 4 ∧
    (activeNoted s p unset run feats).fld (F.PORT_STATUS_VER_MAJOR p) = run / 256 % 16 ∧
    (activeNoted s p unset run feats).fld (F.PORT_STATUS_VER_MINOR p) = run % 256 % 16 ∧
    (activeNoted s p unset run feats).fld (F.PORT_STATUS_NODE_UNSET p) = unset % 2 := by
  simp [activeNoted, lstate, State.fld_setFld_ne]

/-- The state in which a partner's offer has arrived, before it is compared. -/
def offerTaken (s : State) (p : Nat) (g : Nego) : State :=
  ((goodFlit s p).setFld (F.PORT_STATUS_PARTNER p) g.node).setPort p
    (offered g (g.vers &&& offerVers s p) (heardIn s.now (s.port p)))

theorem goodFlit_port : (goodFlit s p).port p = heardIn s.now (s.port p) := (goodFlit_move s p).port

theorem negotiateRx_goodFlit (h : lstate s p = 3) (g : Nego) :
    negotiateRx (goodFlit s p) p g = negotiateCheck (offerTaken s p g) p := by
  have hvers : offerVers (goodFlit s p) p = offerVers s p := offerVers_of_move (goodFlit_move s p) rfl (by simp)
  rw [negotiateRx_eq (s := goodFlit s p) h, hvers, goodFlit_port]
  rfl

theorem offerTaken_move (g : Nego) : PortMove p (fun y => offered g (g.vers &&& offerVers s p) (heardIn s.now y)) [R.PORT_STATUS p] s
    (offerTaken s p g) := by
  have hset := ((goodFlit_move s p).mono (List.nil_subset [R.PORT_STATUS p])).setFld (g := F.PORT_STATUS_PARTNER p) g.node
    List.mem_cons_self
  have hmove := hset.setPort (offered g (g.vers &&& offerVers s p))
  rwa [hset.port] at hmove

theorem offerTaken_lstate (g : Nego) : lstate (offerTaken s p g) p = lstate s p :=
  State.fld_setFld_ne (goodFlit s p) _ _ _ (.inr (.inr (by simp)))

theorem offerTaken_partner (g : Nego) : (offerTaken s p g).fld (F.PORT_STATUS_PARTNER p) = g.node % 2 ^ 16 :=
  State.fld_setFld_same (goodFlit s p) (F.PORT_STATUS_PARTNER p) _ (by simp)

theorem offerTaken_vers (hp : p < 24) (g : Nego) : offerVers (offerTaken s p g) p = offerVers s p :=
  offerVers_of_move (offerTaken_move g) rfl (by simp [R.PORT_STATUS, R.FAB_VER]; omega)

end

end Sys2Proof.Machine
end

section
/-! SUPPORT. Ports that are enabled, closed and OFF, the transactions that end with them, lane maps and the node ID (R373, R378, R387,
R402, R404). -/

namespace Sys2Proof.Machine

/-! ### Transactions (R387) -/

section
variable {s : State} {id : Nat} {f : TxReq → TxReq} (hid : ∀ q : TxReq, (f q).id = q.id)
include hid

theorem State.tx_mapTx_same : (s.mapTx id f).tx id = (s.tx id).map f := by
  have hmap : ∀ qs : List TxReq, (qs.map fun q => if q.id == id then f q else q).find? (fun q => q.id == id) =
      (qs.find? fun q => q.id == id).map f := by
    intro qs
    induction qs with
    | nil => rfl
    | cons q qs ih =>
      by_cases h : q.id = id
      · simp [h, hid]
      · simpa [h] using ih
  exact hmap s.fab.txs

end

/-- A transaction that has ended. -/
def finished (status value : Nat) (data : List Byte) (q : TxReq) : TxReq := { q with st := .done status value data }

/-- How a transaction of a core ends: with its status, its value and its bytes. -/
theorem State.endTx_core {s : State} {id n i : Nat} {q : TxReq} (hq : s.tx id = some q) (howner : q.owner = .core n i)
    (status value : Nat) (data : List Byte) : s.endTx id status value data = s.mapTx id (finished status value data) := by
  rw [State.endTx, hq]
  dsimp only
  rw [howner]
  rfl

theorem State.tx_endTx_core {s : State} {id n i : Nat} {q : TxReq} (hq : s.tx id = some q) (howner : q.owner = .core n i)
    (status value : Nat) (data : List Byte) : (s.endTx id status value data).tx id = some (finished status value data q) := by
  rw [State.endTx_core hq howner, State.tx_mapTx_same (f := finished status value data) fun _ => rfl, hq, Option.map_some]

/-! ### A port goes OFF (R402) -/

/-- A port that is OFF keeps its schedule and what it holds. -/
def offPort (x : Port) : Port := { Port.reset with held := x.held, flen := x.flen, codes := x.codes, sinceMark := 0 }

section
variable (s : State) (p : Nat)

theorem portOff_eq : portOff s p = (((noLink s p).setFld (F.PORT_CTRL_STATE p) 0).setPort p (offPort (s.port p))).raise (64 + p) := rfl

theorem portOff_move : PortMove p offPort
    [R.PORT_STATUS p, R.PORT_CTRL p, R.RAW ((64 + p) / 64), R.PEND ((64 + p) / 64), R.EVC_MERGED] s (portOff s p) := by
  have hoff := ((noLink_onlyEvents s p).mono (bs := [R.PORT_STATUS p, R.PORT_CTRL p]) (by simp)).setFld (f := F.PORT_CTRL_STATE p) 0
    (by simp)
  exact (hoff.portMove p offPort).raise (64 + p)

variable {p}

theorem portOff_fields (hp : p < 24) :
    portState (portOff s p) p = 0 ∧ lstate (portOff s p) p = 0 ∧ (portOff s p).fld (rawFld (64 + p)) = 1 := by
  have hregs := raise_regs (((noLink s p).setFld (F.PORT_CTRL_STATE p) 0).setPort p (offPort (s.port p))) (64 + p)
  have hctrl : R.PORT_CTRL p ∉ [R.RAW ((64 + p) / 64), R.PEND ((64 + p) / 64), R.EVC_MERGED] := by
    simp [R.PORT_CTRL, R.RAW, R.PEND, R.EVC_MERGED]; omega
  rw [portOff_eq]
  refine ⟨?_, ?_, raise_raw _ _⟩
  · rw [portState, hregs.fld (f := F.PORT_CTRL_STATE p) hctrl, State.setPort_fld, State.fld_setFld_same _ _ _ (by simp)]
    rfl
  · rw [lstate, hregs.fld (f := F.PORT_STATUS_LSTATE p) (portStatus_not_raised hp), State.setPort_fld,
      State.fld_setFld_ne _ _ _ _ (.inl (by simp))]
    exact noLink_lstate s p

end

/-! ### Enabling (R373, R442) -/

theorem portEnable_trains {s : State} {p : Nat} (hstate : portState s p = 0) (henable : s.fld (F.PORT_CTRL_ENABLE p) = 0)
    (hdown : (s.port p).downAt = none) :
    portEnable s p = portTrain ((s.setEnable (R.PORT_CTRL p) 1).pushLate 64 (s.now + 1) 0 (.engineOn (R.PORT_CTRL p))) p := by
  have hon : s.engineEnable (R.PORT_CTRL p) =
      (s.setEnable (R.PORT_CTRL p) 1).pushLate 64 (s.now + 1) 0 (.engineOn (R.PORT_CTRL p)) := if_pos ⟨hstate, henable⟩
  refine (if_pos ⟨hstate, henable⟩).trans ?_
  dsimp only
  rw [hdown, hon]

/-! ### Disabling (R402) -/

/-- A port that closes until cycle u. -/
def closingUntil (u : Nat) (y : Port) : Port := { y with closeAt := some u }

/-- The registers of a port that closes with nothing unsent. -/
def closingNoted (s : State) (p : Nat) : State :=
  (((s.setEnable (R.PORT_CTRL p) 0).setEngState (R.PORT_CTRL p) 2).setReg (R.PORT_CLOSE p) 0#64).setFld (F.PORT_CLOSE_ABANDONED p) 0

theorem closingNoted_onlyEvents (s : State) (p : Nat) : OnlyEvents [R.PORT_CTRL p, R.PORT_CLOSE p] s (closingNoted s p) := by
  let h := OnlyEvents.refl [R.PORT_CTRL p, R.PORT_CLOSE p] s
  exact (((h.setFld (f := ⟨R.PORT_CTRL p, 0, 0⟩) 0 (by simp)).setFld (f := ⟨R.PORT_CTRL p, 2, 1⟩) 2 (by simp)).setReg 0#64
    (by simp)).setFld (f := F.PORT_CLOSE_ABANDONED p) 0 (by simp)

/-- The rest of disabling, once the registers of the port are those of s1: unsent transactions end, queued packets are routed again. -/
def endUnsent (s1 s : State) (p : Nat) : State :=
  let x := s1.port p
  let unsent := x.q.filterMap fun k => if k.started then none else k.req
  let s2 := s1.setPort p { x with q := x.q.filter fun k => k.started || k.req.isNone,
                                  trk := x.trk.filter fun t => !(unsent.contains t.2),
                                  closeAt := some (s.now + s.fld (F.PORT_CONF_CLOSE_WAIT p)) }
  let s3 := (unsent.foldl (fun st id => st.endTx id csPORT_CLOSED 0 []) s2).setFld (F.PORT_CLOSE_ABANDONED p) unsent.length
  let y := s3.port p
  let go := y.q.filter fun k => !k.started
  closeCheck (go.foldl (fun st k => routePkt (st.incFld (F.FAILOVER_COUNT_COUNT p) 1) k)
    (s3.setPort p { y with q := y.q.filter fun k => k.started })) p

section
variable {s : State} {p : Nat}

theorem portDisable_eq (hon : portState s p = 1) (henable : s.fld (F.PORT_CTRL_ENABLE p) = 1) : portDisable s p =
    endUnsent (((s.setEnable (R.PORT_CTRL p) 0).setEngState (R.PORT_CTRL p) 2).setReg (R.PORT_CLOSE p) 0#64) s p := if_pos ⟨hon, henable⟩

variable (hq : (s.port p).q = [])
include hq

theorem endUnsent_unqueued {s1 : State} (hport : s1.port p = s.port p) : endUnsent s1 s p =
    closeCheck ((s1.setFld (F.PORT_CLOSE_ABANDONED p) 0).setPort p
      (closingUntil (s.now + s.fld (F.PORT_CONF_CLOSE_WAIT p)) (s.port p))) p := by
  have hqueue : { s.port p with q := [] } = s.port p := by rw [← hq]
  simp only [endUnsent, hport, hq, List.filterMap_nil, List.filter_nil, List.foldl_nil, List.length_nil, List.contains_nil,
    Bool.not_false, List.filter_true, State.setFld_setPort, State.port_setPort_same, State.setPort_setPort]
  exact congrArg (fun y => closeCheck ((s1.setFld (F.PORT_CLOSE_ABANDONED p) 0).setPort p
    (closingUntil (s.now + s.fld (F.PORT_CONF_CLOSE_WAIT p)) y)) p) hqueue

theorem portDisable_unqueued (hon : portState s p = 1) (henable : s.fld (F.PORT_CTRL_ENABLE p) = 1) : portDisable s p =
    closeCheck ((closingNoted s p).setPort p (closingUntil (s.now + s.fld (F.PORT_CONF_CLOSE_WAIT p)) (s.port p))) p :=
  (portDisable_eq hon henable).trans (endUnsent_unqueued hq rfl)

end

theorem closingNoted_fields (s : State) (p : Nat) : portState (closingNoted s p) p = 2 ∧
    (closingNoted s p).fld (F.PORT_CTRL_ENABLE p) = 0 ∧ (closingNoted s p).reg (R.PORT_CLOSE p) = 0#64 := by
  have hctrl : (closingNoted s p).reg (R.PORT_CTRL p) = setBits (setBits (s.reg (R.PORT_CTRL p)) 0 0 0) 2 1 2 := by
    simp [closingNoted, State.setFld, State.setEnable, State.setEngState, State.reg_setReg]
  refine ⟨?_, ?_, ?_⟩
  · exact (congrArg (getBits · 2 1) hctrl).trans (getBits_setBits _ 2 1 2 (by omega))
  · exact (congrArg (getBits · 0 0) hctrl).trans
      ((getBits_setBits_ne _ 2 1 2 0 0 (.inr (by omega))).trans (getBits_setBits _ 0 0 0 (by omega)))
  · have hzero : setBits 0#64 31 0 0 = 0#64 := by decide
    simp [closingNoted, State.setFld, hzero]

/-! ### The closing wait (R402) -/

theorem closeCheck_open {s : State} {p : Nat} (h : (s.port p).trk ≠ []) : closeCheck s p = s := if_neg fun hno => h hno.2

theorem closeCheck_off {s : State} {p : Nat} (hclosing : portState s p = 2) (h : (s.port p).trk = []) : closeCheck s p = portOff s p :=
  if_pos ⟨hclosing, h⟩

/-- A port with its trackers given up. -/
def untracked (y : Port) : Port := { y with trk := [] }

theorem closeWaitExpiry_one {s : State} {p k id : Nat} (hclosing : portState s p = 2) (htrk : (s.port p).trk = [(k, id)]) :
    closeWaitExpiry s p = portOff (((s.endTx id csPORT_CLOSED 0 []).setPort p
      (untracked ((s.endTx id csPORT_CLOSED 0 []).port p))).incFld (F.PORT_CLOSE_ABANDONED p) 1) p := by
  refine (if_pos hclosing).trans ?_
  dsimp only
  rw [htrk]
  rfl

/-! ### Lane maps (R378) -/

def laneSpareDesc : RegDesc :=
  ⟨0x7f0000400018, 24, 0x10000, 1, 0x0, 1, 0x0, 0x0#64, [⟨15, 15, .rw⟩, ⟨12, 8, .rw⟩, ⟨7, 7, .rw⟩, ⟨4, 0, .rw⟩]⟩

theorem regAt_LANE_SPARE {p : Nat} (hp : p < 24) : regAt (R.LANE_SPARE p) = some laneSpareDesc := by
  have haddr : R.LANE_SPARE p = 0x7F0000400000 + p * 0x10000 + 0x18 := by unfold R.LANE_SPARE; omega
  have htable : regTable_port.find? (RegDesc.atOff 0x7F0000400000 0x18) = some laneSpareDesc := by decide +kernel
  rw [haddr]
  exact (regAt_port hp (by omega)).trans htable

/-- A lane map that no port takes: a lane that does not exist, or one lane spared twice. -/
def badLanes (v : Word) : Prop :=
  17 < getBits v 4 0 ∨ 17 < getBits v 12 8 ∨ (getBits v 7 7 = 1 ∧ getBits v 15 15 = 1 ∧ getBits v 4 0 = getBits v 12 8)

theorem laneSpareDesc_write (old v : Word) : getBits (laneSpareDesc.write .w64 old v) 4 0 = getBits v 4 0 ∧
    getBits (laneSpareDesc.write .w64 old v) 7 7 = getBits v 7 7 ∧ getBits (laneSpareDesc.write .w64 old v) 12 8 = getBits v 12 8 ∧
    getBits (laneSpareDesc.write .w64 old v) 15 15 = getBits v 15 15 := by
  have hrw : ∀ f ∈ laneSpareDesc.fields, f.acc = .rw := by simp [laneSpareDesc]
  exact ⟨getBits_write_rw hrw old v (by omega) (by decide), getBits_write_rw hrw old v (by omega) (by decide),
    getBits_write_rw hrw old v (by omega) (by decide), getBits_write_rw hrw old v (by omega) (by decide)⟩

section
variable {s : State} {p : Nat} (hp : p < 24) (v : Word)
include hp

theorem laneSpareWrite_bad (h : badLanes v) : laneSpareWrite s p .w64 v = s.setFld (F.PORT_STATUS_MAP_ERR p) 1 := by
  obtain ⟨hl0, hv0, hl1, hv1⟩ := laneSpareDesc_write (s.reg (R.LANE_SPARE p)) v
  unfold laneSpareWrite
  rw [regAt_LANE_SPARE hp]
  dsimp only
  rw [hl0, hv0, hl1, hv1, if_pos]
  simpa [badLanes, or_assoc, and_assoc] using h

theorem laneSpareWrite_map (h : ¬ badLanes v) (hlink : lstate s p ≠ 4) :
    laneSpareWrite s p .w64 v = s.setReg (R.LANE_SPARE p) (laneSpareDesc.write .w64 (s.reg (R.LANE_SPARE p)) v) := by
  obtain ⟨hl0, hv0, hl1, hv1⟩ := laneSpareDesc_write (s.reg (R.LANE_SPARE p)) v
  unfold laneSpareWrite
  rw [regAt_LANE_SPARE hp]
  dsimp only
  rw [hl0, hv0, hl1, hv1, if_neg, if_pos (.inl hlink)]
  simpa [badLanes, or_assoc, and_assoc] using h

end

/-- A lane write of an idle arbiter runs at once. -/
theorem laneSpareRow_idle {s : State} (hidle : arbIdle s) (p : Nat) (sz : AccSz) (v : Word) :
    laneSpareRow s p sz v = arbEnd (laneSpareWrite (soleRun s ⟨9, p⟩) p sz v) ⟨9, p⟩ := by
  have hrequest : arbRequest s ⟨9, p⟩ = (true, soleRun s ⟨9, p⟩) := by
    simp [arbRequest, maintBlocked, arbBegin, soleRun, arb_eq_of_idle hidle]
  rw [laneSpareRow, hrequest]
  rfl

/-! ### The node ID (R404) -/

theorem regAt_FAB_NODE : regAt R.FAB_NODE = some ⟨0x7f0000580000, 1, 0x0, 1, 0x0, 1, 0x0, 0xffff#64, [⟨15, 0, .rw⟩]⟩ := by
  decide +kernel

section
variable {s : State} (sz : AccSz) (v : Word)

theorem fabNodeWrite_refused (h : ∃ k : Fin 24, portState s k ≠ 0) : fabNodeWrite s sz v = s.setFld F.FAB_STATUS_NODE_ERR 1 := by
  obtain ⟨k, hk⟩ := h
  refine if_neg fun hall => hk ?_
  simpa using List.all_eq_true.mp hall k (List.mem_range.mpr k.isLt)

theorem fabNodeWrite_off (h : ∀ k : Fin 24, portState s k = 0) : fabNodeWrite s sz v = s.writeByType R.FAB_NODE sz v :=
  if_pos (List.all_eq_true.mpr fun k hk => by simpa using h ⟨k, List.mem_range.mp hk⟩)

end

theorem ownNode_written (s : State) (v : Word) : ownNode (s.writeByType R.FAB_NODE .w64 v) = getBits v 15 0 := by
  rw [ownNode, State.writeByType, regAt_FAB_NODE]
  exact (State.fld_setReg_same s F.FAB_NODE_NODE _ _ rfl).trans (getBits_write_rw (by simp) _ v (by simp) (by decide))

end Sys2Proof.Machine
end

section
/-! SUPPORT. The rows of a link's states, from the command to the state that it leaves. -/

namespace Sys2Proof.Machine

section
variable {p : Fin 24} {s : State} (hup : s.up = true)
include hup

/-! ### Training and alignment (R373, R374) -/

theorem exec_trainDone_other (h : lstate s p ≠ 1) : exec (.trainDone p) s = .next s :=
  exec_same hup (g := fun s => trainDone s p) rfl (if_neg h)

theorem runs_trainDone (h : lstate s p = 1) : Runs (.trainDone p) s fun t => lstate t p = 2 ∧
    PortStep p (fun y => { y with lastGood := s.now }) [R.PORT_STATUS p] s t := by
  have hmove := ((OnlyEvents.refl [R.PORT_STATUS p] s).setFld (f := F.PORT_STATUS_LSTATE p) 2 List.mem_cons_self).portMove p (heardIn s.now)
  exact runs_portMove hmove (g := fun s => trainDone s p) hup rfl (trainDone_eq h) ⟨lstate_setFld s p 2 (by omega), hmove.step⟩

theorem exec_alignLock_other (h : lstate s p ≠ 2) : exec (.alignLock p) s = .next s :=
  exec_same hup (g := fun s => alignLock s p) rfl (if_neg h)

theorem runs_alignLock (h : lstate s p = 2) : Runs (.alignLock p) s fun t => lstate t p = 3 ∧
    PortStep p (fun y => { y with lastGood := s.now, ctl := y.ctl ++ [.negotiate] }) [R.PORT_STATUS p] s t := by
  have hmove := ((OnlyEvents.refl [R.PORT_STATUS p] s).setFld (f := F.PORT_STATUS_LSTATE p) 3 List.mem_cons_self).portMove p (offering s.now)
  exact runs_portMove hmove (g := fun s => alignLock s p) hup rfl (alignLock_eq h) ⟨lstate_setFld s p 3 (by omega), hmove.step⟩

/-! ### A link that is lost (R373, R385) -/

/-- What the loss of a link leaves. -/
def LinkLost (p : Fin 24) (s t : State) : Prop :=
  lstate t p = 0 ∧ t.fld (F.PORT_STATUS_PARTNER p) = 0xFFFF ∧ (t.port p).downAt = some s.now ∧
    (t.port p).retry = [] ∧ (t.port p).ctl = [] ∧ (t.port p).credits = (0, 0, 0) ∧
    (lstate s p = 4 → t.fld (F.LINK_DOWN_COUNT_COUNT p) = s.sat (F.LINK_DOWN_COUNT_COUNT p) 1 ∧ t.fld (rawFld (64 + p)) = 1) ∧
    (∀ k, k ≠ p.val → t.port k = s.port k) ∧ MemSame s t

omit hup in
theorem portDown_lost (h : (s.port p).q = []) : LinkLost p s (portDown s p) := by
  obtain ⟨hmove, hcsr⟩ := portDown_move h
  obtain ⟨hstate, hpartner⟩ := lossNoted_status s p p.isLt
  have hfld (f : Fld) : (portDown s p).fld f = (lossNoted s p).fld f := State.fld_of_csr hcsr f
  refine ⟨(hfld _).trans hstate, (hfld _).trans hpartner, congrArg Port.downAt hmove.port, congrArg Port.retry hmove.port,
    congrArg Port.ctl hmove.port, congrArg Port.credits hmove.port, fun hactive => ?_, hmove.step.ports, hmove.step.mem⟩
  obtain ⟨hcount, hraw⟩ := lossNoted_active s p p.isLt hactive
  exact ⟨(hfld _).trans hcount, (hfld _).trans hraw⟩

theorem exec_laneLockLoss_down (h : lstate s p = 0) : exec (.laneLockLoss p) s = .next s :=
  exec_same hup (g := fun s => laneLockLoss s p) rfl (if_pos h)

theorem runs_laneLockLoss (h : lstate s p ≠ 0) (hq : (s.port p).q = []) : Runs (.laneLockLoss p) s (LinkLost p s) :=
  runs_portMove (portDown_move hq).1 (g := fun s => laneLockLoss s p) hup rfl (if_neg h) (portDown_lost hq)

theorem exec_linkIdle_down (h : lstate s p < 2) : exec (.linkIdleTimeout p) s = .next s :=
  exec_same hup (g := fun s => linkIdle s p) rfl (if_pos h)

theorem runs_linkIdle (h : 2 ≤ lstate s p) (hq : (s.port p).q = []) (htime : (s.port p).lastGood + 1400 ≤ s.now) :
    Runs (.linkIdleTimeout p) s (LinkLost p s) := by
  have hlinked : ¬ lstate s p < 2 := by omega
  refine runs_portMove (portDown_move hq).1 (g := fun s => linkIdle s p) hup rfl ((if_neg hlinked).trans ?_) (portDown_lost hq)
  rw [tickDue_past htime]

theorem exec_trainBackoff_none (h : (s.port p).downAt = none) : exec (.trainBackoffExpiry p) s = .next s :=
  exec_same hup (g := fun s => trainBackoff s p) rfl (by rw [trainBackoff, h])

theorem runs_trainBackoff {d : Nat} (hdown : (s.port p).downAt = some d) (hon : portState s p = 1) (hlink : lstate s p = 0)
    (htime : d + 7000000 ≤ s.now) : Runs (.trainBackoffExpiry p) s fun t =>
      lstate t p = 1 ∧ (t.port p).adv = s.reg (R.PORT_ADV p) ∧ (t.port p).lanes = s.reg (R.LANE_SPARE p) ∧
      (t.port p).txSeq = 0 ∧ (t.port p).rxExp = 0 ∧ (t.port p).downAt = none ∧ RegsExcept [R.PORT_STATUS p] s t ∧ MemSame s t := by
  have hmove := ((OnlyEvents.refl [R.PORT_STATUS p] s).setFld (f := F.PORT_STATUS_LSTATE p) 1 List.mem_cons_self).portMove p
    (trained (s.reg (R.PORT_ADV p)) (s.reg (R.LANE_SPARE p)) s.now)
  have htrain : trainBackoff s p = portTrain s p := by
    rw [trainBackoff, hdown]
    exact (if_pos ⟨hon, hlink⟩).trans (by rw [tickDue_past htime])
  exact runs_portMove hmove (g := fun s => trainBackoff s p) hup rfl (htrain.trans (portTrain_eq s p))
    ⟨lstate_setFld s p 1 (by omega), congrArg Port.adv hmove.port, congrArg Port.lanes hmove.port, congrArg Port.txSeq hmove.port,
      congrArg Port.rxExp hmove.port, congrArg Port.downAt hmove.port, hmove.step.regs, hmove.step.mem⟩

/-! ### Negotiation (R374 to R377) -/

section
variable (vers feat : BitVec 32) (node a b m : BitVec 16)

theorem exec_negotiate_ignored (h : lstate s p < 3 ∨ 4 < lstate s p) : exec (.negotiate p vers feat node a b m) s = .next s :=
  exec_same hup (g := fun s => linkCtl s p true fun s =>
    negotiateRx s p ⟨vers.toNat, feat.toNat, node.toNat, a.toNat, b.toNat, m.toNat⟩) rfl (linkCtl_ignored (by omega) fun _ => by omega)

/-- The offer of a NEGOTIATE flit. -/
def offerOf : Nego := ⟨vers.toNat, feat.toNat, node.toNat, a.toNat, b.toNat, m.toNat⟩

variable (h : lstate s p = 3)
include h

omit hup in
theorem linkCtl_negotiate (g : Nego) : (linkCtl s p true fun s => negotiateRx s p g) = negotiateCheck (offerTaken s p g) p :=
  (linkCtl_taken (.inr ⟨rfl, h⟩)).trans (negotiateRx_goodFlit h g)

omit hup in
theorem offerTaken_common (g : Nego) : (offerTaken s p g).port p = offered g (g.vers &&& offerVers s p) (heardIn s.now (s.port p)) ∧
    lstate (offerTaken s p g) p = 3 ∧ g.vers &&& offerVers (offerTaken s p g) p = g.vers &&& offerVers s p :=
  ⟨(offerTaken_move g).port, (offerTaken_lstate g).trans h, by rw [offerTaken_vers p.isLt]⟩

theorem runs_negotiate_refused (hcommon : vers.toNat &&& offerVers s p = 0) :
    Runs (.negotiate p vers feat node a b m) s fun t => lstate t p = 3 ∧
      t.fld (F.PORT_STATUS_VER_ERR p) = 1 ∧ t.fld (F.PORT_STATUS_PARTNER p) = node.toNat ∧ t.fld (rawFld (64 + p)) = 1 ∧
      (t.port p).rxNeg = some (offerOf vers feat node a b m) ∧ (t.port p).ctl = (s.port p).ctl ∧ MemSame s t := by
  obtain ⟨hport, hstate, hvers⟩ := offerTaken_common h (offerOf vers feat node a b m)
  have hcheck := negotiateCheck_refused (congrArg Port.rxNeg hport) hstate (hvers.trans hcommon)
  have hpartner := offerTaken_partner (s := s) (p := p) (offerOf vers feat node a b m)
  have hmove := offerTaken_move (s := s) (p := p) (offerOf vers feat node a b m)
  have hrow := linkCtl_negotiate h (offerOf vers feat node a b m)
  generalize offerTaken s p (offerOf vers feat node a b m) = u at *
  have hstatus := portStatus_not_raised p.isLt
  have hregs := raise_regs (u.setFld (F.PORT_STATUS_VER_ERR p) 1) (64 + p)
  have hmove' := (hmove.setFld (g := F.PORT_STATUS_VER_ERR p) 1 List.mem_cons_self).raise (64 + p)
  refine runs_portMove hmove' (g := fun s => linkCtl s p true fun s => negotiateRx s p (offerOf vers feat node a b m)) hup rfl
    (hrow.trans hcheck) ⟨?_, ?_, ?_, raise_raw _ _, congrArg Port.rxNeg hmove'.port,
      (congrArg Port.ctl hmove'.port).trans (if_pos hcommon), hmove'.step.mem⟩
  · rw [lstate, hregs.fld (f := F.PORT_STATUS_LSTATE p) hstatus, State.fld_setFld_ne _ _ _ _ (.inr (.inr (by simp)))]
    exact hstate
  · rw [hregs.fld (f := F.PORT_STATUS_VER_ERR p) hstatus, State.fld_setFld_same _ _ _ (by simp)]
    rfl
  · rw [hregs.fld (f := F.PORT_STATUS_PARTNER p) hstatus, State.fld_setFld_ne _ _ _ _ (.inr (.inl (by simp))), hpartner]
    exact Nat.mod_eq_of_lt node.isLt

theorem runs_negotiate_answered (hcommon : vers.toNat &&& offerVers s p ≠ 0) (hack : (s.port p).rxNegAck = none) :
    Runs (.negotiate p vers feat node a b m) s fun t => lstate t p = 3 ∧
      t.fld (F.PORT_STATUS_NODE_UNSET p) = (if ownNode s = 0xFFFF ∨ node.toNat = 0xFFFF then 1 else 0) ∧
      PortStep p (fun y => { y with
        lastGood := s.now, rxNeg := some (offerOf vers feat node a b m)
        ctl := y.ctl ++ [.negAck (chosenVersion (vers.toNat &&& offerVers s p))] }) [R.PORT_STATUS p] s t := by
  obtain ⟨hport, hstate, hvers⟩ := offerTaken_common h (offerOf vers feat node a b m)
  have hcheck := negotiateCheck_waits (congrArg Port.rxNeg hport) hstate (fun hno => hcommon (hvers.symm.trans hno))
    ((congrArg Port.rxNegAck hport).trans hack)
  have hown : ownNode (offerTaken s p (offerOf vers feat node a b m)) = ownNode s :=
    (offerTaken_move (offerOf vers feat node a b m)).step.regs.fld (f := F.FAB_NODE_NODE) (by simp [R.PORT_STATUS, R.FAB_NODE]; omega)
  have hmove := offerTaken_move (s := s) (p := p) (offerOf vers feat node a b m)
  have hrow := linkCtl_negotiate h (offerOf vers feat node a b m)
  generalize offerTaken s p (offerOf vers feat node a b m) = u at *
  have hmove' := hmove.setFld (g := F.PORT_STATUS_NODE_UNSET p) (b2n (ownNode u == 0xFFFF || node.toNat == 0xFFFF)) List.mem_cons_self
  have hoffered (y : Port) : offered (offerOf vers feat node a b m) (vers.toNat &&& offerVers s p) (heardIn s.now y) = { y with
      lastGood := s.now, rxNeg := some (offerOf vers feat node a b m)
      ctl := y.ctl ++ [.negAck (chosenVersion (vers.toNat &&& offerVers s p))] } := by
    rw [offered, if_neg hcommon]
    rfl
  refine runs_portMove hmove' (g := fun s => linkCtl s p true fun s => negotiateRx s p (offerOf vers feat node a b m)) hup rfl
    (hrow.trans hcheck) ⟨?_, ?_, ?_⟩
  · exact (State.fld_setFld_ne _ _ _ _ (.inr (.inr (by simp)))).trans hstate
  · rw [State.fld_setFld_same _ _ _ (by simp), hown]
    by_cases hunset : ownNode s = 0xFFFF ∨ node.toNat = 0xFFFF
    · simp [hunset, b2n]
    · simp [b2n, not_or.mp hunset]
  · have hstep := hmove'.step
    exact ⟨hstep.port.trans (hoffered _), hstep.ports, hstep.txs, hstep.regs, hstep.mem, hstep.cores⟩

end

end

end Sys2Proof.Machine
end

section
/-! SUPPORT. The rows of NEG_ACK, of ports that are enabled and closed, of lane maps and of the node ID. -/

namespace Sys2Proof.Machine

section
variable {p : Fin 24} {s : State} (hup : s.up = true)

/-! ### NEG_ACK (R375) -/

/-- The state in which the partner's NEG_ACK has arrived. -/
def ackTaken (s : State) (p c : Nat) : State := (goodFlit s p).setPort p (acked c (heardIn s.now (s.port p)))

theorem ackTaken_move (s : State) (p c : Nat) : PortMove p (fun y => acked c (heardIn s.now y)) [] s (ackTaken s p c) := by
  have hmove := (goodFlit_move s p).setPort (acked c)
  rwa [(goodFlit_move s p).port] at hmove

theorem linkCtl_negAck {s : State} {p : Nat} (h : lstate s p = 3) (c : Nat) :
    (linkCtl s p true fun s => negAckRx s p c) = negotiateCheck (ackTaken s p c) p := by
  refine (linkCtl_taken (.inr ⟨rfl, h⟩)).trans ((negAckRx_eq (s := goodFlit s p) h c).trans ?_)
  rw [goodFlit_port, ackTaken]

include hup

theorem exec_negAck_ignored (h3 : lstate s p ≠ 3) (h4 : lstate s p ≠ 4) (c : BitVec 16) : exec (.negAck p c) s = .next s :=
  exec_same hup (g := fun s => linkCtl s p true fun s => negAckRx s p c.toNat) rfl (linkCtl_ignored h4 fun _ => h3)

theorem runs_negAck_early (h : lstate s p = 3) (hneg : (s.port p).rxNeg = none) (c : BitVec 16) :
    Runs (.negAck p c) s (PortStep p (fun y => { y with lastGood := s.now, rxNegAck := some c.toNat }) [] s) := by
  have hmove := ackTaken_move s p c.toNat
  exact runs_portMove hmove (g := fun s => linkCtl s p true fun s => negAckRx s p c.toNat) hup rfl
    ((linkCtl_negAck h _).trans (negotiateCheck_noOffer ((congrArg Port.rxNeg hmove.port).trans hneg))) hmove.step

theorem runs_negAck_active (c : BitVec 16) {g : Nego} (h : lstate s p = 3) (hneg : (s.port p).rxNeg = some g)
    (hcommon : g.vers &&& offerVers s p ≠ 0) (hown : ownNode s ≠ 0xFFFF) (hnode : g.node ≠ 0xFFFF) {run : Nat}
    (hrun : chosenVersion (g.vers &&& offerVers s p) = run) :
    Runs (.negAck p c) s fun t => lstate t p = 4 ∧ t.fld (F.PORT_STATUS_VER_MAJOR p) = run / 256 % 16 ∧
      t.fld (F.PORT_STATUS_VER_MINOR p) = run % 256 % 16 ∧ t.fld (F.PORT_STATUS_NODE_UNSET p) = 0 ∧
      PortStep p (fun y =>
        { y with rxNegAck := some c.toNat, running := run, feats := featuresOf run (g.feat &&& offerFeat s p),
                 credits := (g.cp, g.cb, g.cm), ackAt := s.now, lastGood := s.now }) [R.PORT_STATUS p] s t := by
  have hmove := ackTaken_move s p c.toNat
  have hvers : offerVers (ackTaken s p c.toNat) p = offerVers s p := offerVers_of_move hmove rfl (by simp)
  have hfeat : offerFeat (ackTaken s p c.toNat) p = offerFeat s p := offerFeat_of_move hmove rfl (by simp)
  have hrow := linkCtl_negAck h c.toNat
  have hown' : ownNode (ackTaken s p c.toNat) = ownNode s := rfl
  have hstate : lstate (ackTaken s p c.toNat) p = 3 := h
  generalize ackTaken s p c.toNat = u at *
  have hcheck := negotiateCheck_agreed ((congrArg Port.rxNeg hmove.port).trans hneg) hstate (by rwa [hvers])
    (congrArg Port.rxNegAck hmove.port) (by rwa [hown']) hnode
  rw [negotiated, hvers, hfeat, hown', hrun, hmove.now] at hcheck
  have hset : b2n (ownNode s == 0xFFFF || g.node == 0xFFFF) = 0 := by simp [hown, hnode, b2n]
  rw [hset] at hcheck
  have hnoted := activeNoted_onlyEvents (s := u) (p := p) 0 run (featuresOf run (g.feat &&& offerFeat s p))
  have hmove' := (((hmove.mono (List.nil_subset [R.PORT_STATUS p])).events hnoted).setPort
    (agreed s.now run (featuresOf run (g.feat &&& offerFeat s p)) g))
  rw [State.port_of_fab hnoted.fab] at hmove'
  obtain ⟨hactive, hmajor, hminor, hunset⟩ := activeNoted_fields (s := u) (p := p) 0 run (featuresOf run (g.feat &&& offerFeat s p))
  refine runs_portMove hmove' (g := fun s => linkCtl s p true fun s => negAckRx s p c.toNat) hup rfl (hrow.trans hcheck)
    ⟨(lstate_setPort _ _ _ _).trans hactive, (State.setPort_fld _ _ _ _).trans hmajor, (State.setPort_fld _ _ _ _).trans hminor,
      (State.setPort_fld _ _ _ _).trans hunset, hmove'.step⟩

/-! ### NEGOTIATE_RESEND (R374) -/

theorem runs_negotiateResend (h : lstate s p = 3) (hopen : (s.port p).rxNeg = none ∨ (s.port p).rxNegAck = none) :
    Runs (.negotiateResend p) s (PortStep p (fun y => { y with ctl := y.ctl ++ [.negotiate] }) [] s) := by
  have hmissing : ¬ (lstate s p ≠ 3 ∨ ((s.port p).rxNeg.isSome ∧ (s.port p).rxNegAck.isSome)) := by
    rcases hopen with hnone | hnone <;> simp [h, hnone]
  exact runs_portStep hup (g := fun s => negotiateResend s p) rfl (OnlyEvents.refl [] s) (if_neg hmissing)

theorem exec_negotiateResend_over (h : lstate s p ≠ 3 ∨ ((s.port p).rxNeg ≠ none ∧ (s.port p).rxNegAck ≠ none)) :
    exec (.negotiateResend p) s = .next s :=
  exec_same hup (g := fun s => negotiateResend s p) rfl (if_pos (by simpa [Option.isSome_iff_ne_none] using h))

/-! ### Ports (R373, R402) -/

theorem exec_portEnable_other (h : portState s p ≠ 0 ∨ s.fld (F.PORT_CTRL_ENABLE p) = 1) : exec (.portEnable p) s = .next s :=
  exec_same hup (g := fun s => portEnable s p) rfl (if_neg (by omega))

theorem runs_portEnable (hstate : portState s p = 0) (henable : s.fld (F.PORT_CTRL_ENABLE p) = 0) (hdown : (s.port p).downAt = none) :
    Runs (.portEnable p) s fun t => t.fld (F.PORT_CTRL_ENABLE p) = 1 ∧ lstate t p = 1 ∧ (t.port p).lastGood = s.now ∧
      (∃ l ∈ t.late, l.due = s.now + 1 ∧ l.op = .engineOn (R.PORT_CTRL p)) ∧
      RegsExcept [R.PORT_CTRL p, R.PORT_STATUS p] s t ∧ MemSame s t := by
  have hregs := (((OnlyEvents.refl [R.PORT_CTRL p, R.PORT_STATUS p] s).setFld (f := F.PORT_CTRL_ENABLE p) 1 (by simp)).setFld
    (f := F.PORT_STATUS_LSTATE p) 1 (by simp)).regs
  refine runs_of_eq hup (g := fun s => portEnable s p) rfl ((portEnable_trains hstate henable hdown).trans (portTrain_eq _ _)) rfl
    ⟨?_, lstate_setFld _ p 1 (by omega), by rw [State.port_setPort_same]; rfl, ?_, fun a ha => hregs a ha, fun a => rfl⟩
  · rw [State.setPort_fld, State.fld_setFld_ne _ _ _ _ (.inl (by simp))]
    exact State.fld_setFld_same s (F.PORT_CTRL_ENABLE p) 1 (by simp)
  · exact ⟨_, (mem_insertLate _ _ _).mpr (.inl rfl), rfl, rfl⟩

theorem exec_portDisable_other (h : portState s p ≠ 1 ∨ s.fld (F.PORT_CTRL_ENABLE p) = 0) : exec (.portDisable p) s = .next s :=
  exec_same hup (g := fun s => portDisable s p) rfl (if_neg (by omega))

section
variable (hstate : portState s p = 1) (henable : s.fld (F.PORT_CTRL_ENABLE p) = 1) (hq : (s.port p).q = [])
include hstate henable hq

theorem runs_portDisable_closing (htrk : (s.port p).trk ≠ []) : Runs (.portDisable p) s fun t =>
    portState t p = 2 ∧ t.fld (F.PORT_CTRL_ENABLE p) = 0 ∧ t.reg (R.PORT_CLOSE p) = 0#64 ∧
    PortStep p (fun y => { y with closeAt := some (s.now + s.fld (F.PORT_CONF_CLOSE_WAIT p)) }) [R.PORT_CTRL p, R.PORT_CLOSE p] s t := by
  have hmove := (closingNoted_onlyEvents s p).portMove p (closingUntil (s.now + s.fld (F.PORT_CONF_CLOSE_WAIT p)))
  obtain ⟨hclosing, hoff, hclose⟩ := closingNoted_fields s p
  exact runs_portMove hmove (g := fun s => portDisable s p) hup rfl ((portDisable_unqueued hq hstate henable).trans
    (closeCheck_open (by rw [State.port_setPort_same]; exact htrk)))
    ⟨(portState_setPort _ _ _ _).trans hclosing, (State.setPort_fld _ _ _ _).trans hoff, (State.setPort_reg _ _ _ _).trans hclose, hmove.step⟩

theorem runs_portDisable_off (htrk : (s.port p).trk = []) : Runs (.portDisable p) s fun t =>
    portState t p = 0 ∧ lstate t p = 0 ∧ t.fld (rawFld (64 + p)) = 1 ∧ MemSame s t := by
  have hclosing := (closingNoted_onlyEvents s p).portMove p (closingUntil (s.now + s.fld (F.PORT_CONF_CLOSE_WAIT p)))
  have hmove := portOff_move ((closingNoted s p).setPort p (closingUntil (s.now + s.fld (F.PORT_CONF_CLOSE_WAIT p)) (s.port p))) p
  obtain ⟨hoff, hlink, hraw⟩ := portOff_fields
    ((closingNoted s p).setPort p (closingUntil (s.now + s.fld (F.PORT_CONF_CLOSE_WAIT p)) (s.port p))) p.isLt
  refine runs_of_eq hup (g := fun s => portDisable s p) rfl ((portDisable_unqueued hq hstate henable).trans
    (closeCheck_off ((portState_setPort _ _ _ _).trans (closingNoted_fields s p).1) (by rw [State.port_setPort_same]; exact htrk)))
    (hmove.pending.trans hclosing.pending) ⟨hoff, hlink, hraw, fun a => (hmove.step.mem a).trans (hclosing.step.mem a)⟩

end

theorem exec_closeWait_none (h : (s.port p).closeAt = none) : exec (.closeWaitExpiry p) s = .next s :=
  exec_same hup (g := fun s => closeWaitRow s p) rfl (by rw [closeWaitRow, h])

theorem runs_closeWait {d k id : Nat} (hclose : (s.port p).closeAt = some d) (hstate : portState s p = 2) (htime : d ≤ s.now)
    (htrk : (s.port p).trk = [(k, id)]) {q : TxReq} {n i : Nat} (hq : s.tx id = some q) (howner : q.owner = .core n i) :
    Runs (.closeWaitExpiry p) s fun t => t.tx id = some { q with st := .done csPORT_CLOSED 0 [] } ∧ portState t p = 0 ∧
      lstate t p = 0 ∧ (t.port p).trk = [] ∧ t.fld (F.PORT_CLOSE_ABANDONED p) = s.sat (F.PORT_CLOSE_ABANDONED p) 1 ∧
      t.fld (rawFld (64 + p)) = 1 ∧ MemSame s t := by
  have hrow : closeWaitRow s p = closeWaitExpiry s p := by
    rw [closeWaitRow, hclose]
    exact (if_pos hstate).trans (by rw [tickDue_past htime])
  have hexpiry := hrow.trans (closeWaitExpiry_one hstate htrk)
  have hend := State.endTx_core hq howner csPORT_CLOSED 0 []
  have htx := State.tx_endTx_core hq howner csPORT_CLOSED 0 []
  have hcsr : (s.endTx id csPORT_CLOSED 0 []).csr = s.csr := by rw [hend]; rfl
  have hmem : (s.endTx id csPORT_CLOSED 0 []).mem = s.mem := by rw [hend]; rfl
  have hpending : (s.endTx id csPORT_CLOSED 0 []).pending = s.pending := by rw [hend]; rfl
  generalize s.endTx id csPORT_CLOSED 0 [] = e at *
  have hcount := ((OnlyEvents.refl [R.PORT_CLOSE p] e).portMove p untracked).events (incFld_onlyEvents _ (F.PORT_CLOSE_ABANDONED p) 1)
  have habandoned : ((e.setPort p (untracked (e.port p))).incFld (F.PORT_CLOSE_ABANDONED p) 1).fld (F.PORT_CLOSE_ABANDONED p) =
      s.sat (F.PORT_CLOSE_ABANDONED p) 1 := by
    rw [State.fld_incFld_same _ _ _ (by simp), State.setPort_fld, State.fld_of_csr hcsr]
    rfl
  generalize (e.setPort p (untracked (e.port p))).incFld (F.PORT_CLOSE_ABANDONED p) 1 = c at *
  have hmove := portOff_move c p
  obtain ⟨hoff, hlink, hraw⟩ := portOff_fields c p.isLt
  have hkept : R.PORT_CLOSE p ∉ [R.PORT_STATUS p, R.PORT_CTRL p, R.RAW ((64 + p.val) / 64), R.PEND ((64 + p.val) / 64), R.EVC_MERGED] := by
    simp [R.PORT_CLOSE, R.PORT_STATUS, R.PORT_CTRL, R.RAW, R.PEND, R.EVC_MERGED]; omega
  have htxs : (portOff c p).tx id = e.tx id := by rw [State.tx, hmove.step.txs, hcount.step.txs, State.tx]
  exact runs_of_eq hup (g := fun s => closeWaitRow s p) rfl hexpiry (hmove.pending.trans (hcount.pending.trans hpending))
    ⟨htxs.trans htx, hoff, hlink, congrArg Port.trk hmove.port, (hmove.step.regs.fld hkept).trans habandoned, hraw,
      fun a => (hmove.step.mem a).trans ((hcount.step.mem a).trans (State.byte_of_mem hmem a))⟩

/-! ### Lane maps (R378) -/

section
variable (hidle : arbIdle s) {v : Word}
include hidle

theorem runs_laneSpare_bad (h : badLanes v) : Runs (.laneSpareWrite p .w64 v) s fun t =>
    t.fld (F.PORT_STATUS_MAP_ERR p) = 1 ∧ t.arb = s.arb ∧ PortStep p (fun y => y) [R.PORT_STATUS p] s t := by
  have hwrite := laneSpareWrite_bad (s := soleRun (okReply s) ⟨9, p⟩) p.isLt v h
  have hstep := portStep_id (p := p)
    ((OnlyEvents.refl [R.PORT_STATUS p] s).setFld (f := F.PORT_STATUS_MAP_ERR p) 1 List.mem_cons_self)
  refine runs_of_eq hup (g := fun s => laneSpareRow (okReply s) p .w64 v) rfl
    ((laneSpareRow_idle (s := okReply s) hidle p .w64 v).trans (congrArg (arbEnd · ⟨9, p⟩) hwrite)) rfl
    ⟨?_, arbEnd_of_idle (s := s) hidle rfl, hstep.port, hstep.ports, hstep.txs, hstep.regs, hstep.mem, hstep.cores⟩
  exact State.fld_setFld_same (soleRun (okReply s) ⟨9, p⟩) (F.PORT_STATUS_MAP_ERR p) 1 (by simp)

theorem runs_laneSpare_map (h : ¬ badLanes v) (hlink : lstate s p ≠ 4) : Runs (.laneSpareWrite p .w64 v) s fun t =>
    t.fld ⟨R.LANE_SPARE p, 4, 0⟩ = getBits v 4 0 ∧ t.fld ⟨R.LANE_SPARE p, 7, 7⟩ = getBits v 7 7 ∧
    t.fld ⟨R.LANE_SPARE p, 12, 8⟩ = getBits v 12 8 ∧ t.fld ⟨R.LANE_SPARE p, 15, 15⟩ = getBits v 15 15 ∧ t.reply = .ok ∧ t.arb = s.arb ∧
    PortStep p (fun y => y) [R.LANE_SPARE p] s t := by
  have hwrite := laneSpareWrite_map (s := soleRun (okReply s) ⟨9, p⟩) p.isLt v h hlink
  obtain ⟨hl0, hv0, hl1, hv1⟩ := laneSpareDesc_write ((soleRun (okReply s) ⟨9, p⟩).reg (R.LANE_SPARE p)) v
  generalize laneSpareDesc.write .w64 ((soleRun (okReply s) ⟨9, p⟩).reg (R.LANE_SPARE p)) v = w at *
  have hstep := portStep_id (p := p) ((OnlyEvents.refl [R.LANE_SPARE p] s).setReg w List.mem_cons_self)
  have hfld (hi lo : Nat) : (arbEnd ((soleRun (okReply s) ⟨9, p⟩).setReg (R.LANE_SPARE p) w) ⟨9, p⟩).fld ⟨R.LANE_SPARE p, hi, lo⟩ =
      getBits w hi lo := State.fld_setReg_same (soleRun (okReply s) ⟨9, p⟩) ⟨R.LANE_SPARE p, hi, lo⟩ _ w rfl
  exact runs_of_eq hup (g := fun s => laneSpareRow (okReply s) p .w64 v) rfl
    ((laneSpareRow_idle (s := okReply s) hidle p .w64 v).trans (congrArg (arbEnd · ⟨9, p⟩) hwrite)) rfl
    ⟨(hfld _ _).trans hl0, (hfld _ _).trans hv0, (hfld _ _).trans hl1, (hfld _ _).trans hv1, rfl, arbEnd_of_idle (s := s) hidle rfl,
      hstep.port, hstep.ports, hstep.txs, hstep.regs, hstep.mem, hstep.cores⟩

end

/-! ### The node ID (R404) -/

theorem exec_fabNode_refused (v : Word) (h : ∃ k : Fin 24, portState s k ≠ 0) :
    exec (.fabNodeWrite .w64 v) s = .next { s.setFld F.FAB_STATUS_NODE_ERR 1 with reply := .ok } :=
  exec_row hup (f := fun s => fabNodeWrite (okReply s) .w64 v) rfl (fabNodeWrite_refused (s := okReply s) .w64 v h) rfl

theorem runs_fabNode (v : Word) (h : ∀ k : Fin 24, portState s k = 0) : Runs (.fabNodeWrite .w64 v) s fun t =>
    ownNode t = getBits v 15 0 ∧ t.reply = .ok ∧ RegsExcept [R.FAB_NODE] s t ∧ MemSame s t := by
  have hevents := writeByType_onlyEvents (okReply s) R.FAB_NODE .w64 v
  exact runs_of_eq hup (g := fun s => fabNodeWrite (okReply s) .w64 v) rfl (fabNodeWrite_off (s := okReply s) .w64 v h) hevents.pending
    ⟨ownNode_written _ v, by obtain ⟨c, e, heq, -⟩ := hevents; rw [heq]; rfl, fun a ha => hevents.regs a ha,
      fun a => State.byte_of_mem hevents.mem a⟩

end

end Sys2Proof.Machine
end

section
open Sys2Proof Sys2Proof.Machine

/-- Settles O48: each row of a link's states, of ports, lane maps and the node ID in each of its cases, from its lemma above. -/
theorem linkStates : Obligations.LinkStates := by
  unfold Obligations.LinkStates
  intro p s hup x down
  refine ⟨exec_trainDone_other hup, runs_trainDone hup, exec_alignLock_other hup, runs_alignLock hup, exec_laneLockLoss_down hup,
    runs_laneLockLoss hup, exec_linkIdle_down hup, runs_linkIdle hup, exec_trainBackoff_none hup, fun d => runs_trainBackoff hup,
    fun vers feat node a b m => ⟨exec_negotiate_ignored hup vers feat node a b m, runs_negotiate_refused hup vers feat node a b m,
      runs_negotiate_answered hup vers feat node a b m⟩,
    fun c => ⟨fun h3 h4 => exec_negAck_ignored hup h3 h4 c, fun h hneg => runs_negAck_early hup h hneg c,
      fun g h hneg hcommon hown hnode => runs_negAck_active hup c h hneg hcommon hown hnode rfl⟩,
    runs_negotiateResend hup, exec_negotiateResend_over hup, fun hstate henable _ hdown => runs_portEnable hup hstate henable hdown,
    exec_portEnable_other hup, runs_portDisable_closing hup, runs_portDisable_off hup, exec_portDisable_other hup,
    fun d k id hclose hstate htime htrk q n i => runs_closeWait hup hclose hstate htime htrk, exec_closeWait_none hup,
    fun v hidle => ⟨runs_laneSpare_bad hup hidle, runs_laneSpare_map hup hidle⟩,
    fun v => ⟨exec_fabNode_refused hup v, runs_fabNode hup v⟩⟩

end

section
/-! SUPPORT. Transactions of this device: trackers, completion, timeout (R384, R387, R391). -/

namespace Sys2Proof.Machine

/-! ### What a transaction's end leaves alone -/

/-- t differs from s in the switch alone. -/
def OnlyFab (s t : State) : Prop := ∃ f, t = { s with fab := f }

theorem OnlyFab.refl (s : State) : OnlyFab s s := ⟨s.fab, rfl⟩

section
variable {s t u : State} (h : OnlyFab s t)
include h

theorem OnlyFab.trans (h' : OnlyFab t u) : OnlyFab s u := by obtain ⟨f, rfl⟩ := h; obtain ⟨f', rfl⟩ := h'; exact ⟨f', rfl⟩
theorem OnlyFab.csr : t.csr = s.csr := by obtain ⟨f, rfl⟩ := h; rfl
theorem OnlyFab.mem : t.mem = s.mem := by obtain ⟨f, rfl⟩ := h; rfl
theorem OnlyFab.cores : t.cores = s.cores := by obtain ⟨f, rfl⟩ := h; rfl
theorem OnlyFab.pending : t.pending = s.pending := by obtain ⟨f, rfl⟩ := h; rfl
theorem OnlyFab.regs (as : List Nat) : RegsExcept as s t := (RegsExcept.refl as s).of_csr h.csr
theorem OnlyFab.memSame : MemSame s t := fun a => State.byte_of_mem h.mem a
theorem OnlyFab.coresSame : CoresExcept [] s t := fun n _ => State.core_of_cores h.cores n

end

theorem onlyFab_setPort (s : State) (p : Nat) (x : Port) : OnlyFab s (s.setPort p x) := ⟨_, rfl⟩
theorem onlyFab_mapTx (s : State) (id : Nat) (f : TxReq → TxReq) : OnlyFab s (s.mapTx id f) := ⟨_, rfl⟩

@[simp] theorem State.mapTx_port (s : State) (id p : Nat) (f : TxReq → TxReq) : (s.mapTx id f).port p = s.port p := rfl
@[simp] theorem State.setPort_mapTx_tx (s : State) (id k p : Nat) (f : TxReq → TxReq) (x : Port) :
    ((s.setPort p x).mapTx id f).tx k = (s.mapTx id f).tx k := rfl

/-- A dropped transaction is no more. -/
theorem State.tx_dropTx_same (s : State) (id : Nat) : (s.dropTx id).tx id = none := by
  simp [State.tx, State.dropTx, List.find?_eq_none]

section
variable {s : State} {id n i : Nat} {q : TxReq} (hq : s.tx id = some q)
include hq

theorem onlyFab_endTx_core (howner : q.owner = .core n i) (status value : Nat) (data : List Byte) :
    OnlyFab s (s.endTx id status value data) := by
  rw [State.endTx_core hq howner]
  exact onlyFab_mapTx s id _

theorem port_endTx_core (howner : q.owner = .core n i) (status value : Nat) (data : List Byte) (p : Nat) :
    (s.endTx id status value data).port p = s.port p := by
  rw [State.endTx_core hq howner]
  rfl

/-- A fence of the supervisor ends at once. -/
theorem State.endTx_fence {k : Nat} (howner : q.owner = .fence k) (status value : Nat) (data : List Byte) :
    s.endTx id status value data = { (s.dropTx id).setFld (F.SUP_FENCE_FENCE k) 0 with reply := .ok } := by
  rw [State.endTx, hq]
  dsimp only
  rw [howner]

/-- A load of the supervisor from the aperture ends with its data. -/
theorem State.endTx_apertureRead {k : Nat} (howner : q.owner = .aperture k) (hop : q.op = opREAD) (value : Nat) (data : List Byte) :
    s.endTx id csOK value data = { s.dropTx id with reply := .value (BitVec.ofNat 64 (leNat data)) } := by
  rw [State.endTx, hq]
  dsimp only
  rw [howner]
  have hread : q.op = 1 := hop
  exact (if_pos rfl).trans (by rw [hread]; rfl)

end

/-- A transaction that is not an access of the supervisor ends within the switch. -/
theorem onlyFab_endTx {s : State} {id : Nat}
    (hplain : ∀ q, s.tx id = some q → ∀ k, q.owner ≠ .aperture k ∧ q.owner ≠ .fence k) (status value : Nat) (data : List Byte) :
    OnlyFab s (s.endTx id status value data) := by
  unfold State.endTx
  split
  · exact OnlyFab.refl s
  · next q hq =>
    split
    · exact ⟨_, rfl⟩
    · next k howner => exact absurd howner (hplain q hq k).1
    · next k howner => exact absurd howner (hplain q hq k).2
    · exact onlyFab_mapTx s id _

/-! ### Trackers (R387) -/

/-- A port that gives up a tracker. -/
def trackerFreed (k : Nat) (x : Port) : Port := { x with trk := x.trk.filter fun t => t.1 ≠ k }

theorem freeTrk_eq (s : State) (p k : Nat) : freeTrk s p k = s.setPort p (trackerFreed k (s.port p)) := by
  have hne : (fun t : Nat × Nat => t.1 != k) = fun t => decide (t.1 ≠ k) := funext fun t => Bool.eq_iff_iff.mpr (by simp)
  rw [freeTrk, trackerFreed, hne]

/-- A port with a transaction sent under a tracker. -/
def tracked (k id : Nat) (pkt : Pkt) (x : Port) : Port := { x with trk := x.trk ++ [(k, id)], q := x.q ++ [pkt] }

/-- The packet of a request sent under a tracker of a port. -/
def requestPkt (s : State) (q : TxReq) (p k : Nat) : Pkt :=
  ⟨q.node, q.cls, requestFlits q.node q.cls q.op (txHeader (ownNode s) q.op q.sz (k + 512 * p) q.len q.addr) q.data, false, none, some q.id⟩

/-- A transaction that is sent. -/
def sentAs (st : TxState) (q : TxReq) : TxReq := { q with st := st }

section
variable {s : State} {id : Nat} {q : TxReq} (hq : s.tx id = some q)
include hq

/-- A transaction is found under its number. -/
theorem tx_id : q.id = id := by simpa using List.find?_some hq

theorem trackerGrant_other (h : q.st ≠ .waiting) (choose : Option Nat) : trackerGrant s id choose = s := by
  rw [trackerGrant, hq]
  exact if_pos h

variable (hwait : q.st = .waiting)
include hwait

theorem trackerGrant_noRoute (hroute : routePort s q.node = none) : trackerGrant s id none = s.endTx id csNO_ROUTE 0 [] := by
  rw [trackerGrant, hq]
  exact (if_neg (not_not.mpr hwait)).trans (by rw [hroute])

variable {p : Nat} (hroute : routePort s q.node = some p) (hver : versionHas (s.port p).running q.op = true)
include hroute hver

theorem trackerGrant_full (hfree : freeTracker (s.port p) = none) : trackerGrant s id none = s := by
  rw [trackerGrant, hq]
  refine (if_neg (not_not.mpr hwait)).trans ?_
  rw [hroute]
  exact (if_neg (by simp [hver])).trans (by rw [hfree])

theorem trackerGrant_sent {k : Nat} (hfree : freeTracker (s.port p) = some k) (htmo : s.fld (F.PORT_CONF_TRK_TIMEOUT p) ≠ 0) :
    trackerGrant s id none = (s.setPort p (tracked k id (requestPkt s q p k) (s.port p))).mapTx id
      (sentAs (.sent p k (s.now + s.fld (F.PORT_CONF_TRK_TIMEOUT p)) false)) := by
  rw [trackerGrant, hq]
  refine (if_neg (not_not.mpr hwait)).trans ?_
  rw [hroute]
  refine (if_neg (by simp [hver])).trans ?_
  rw [hfree]
  dsimp only
  rw [if_neg htmo, requestPkt, tx_id hq]
  rfl

end

theorem fabTrackerGrant_core {s : State} {id n i : Nat} {q : TxReq} (hq : s.tx id = some q) (howner : q.owner = .core n i) :
    fabTrackerGrant s id = trackerGrant s id none := by
  rw [fabTrackerGrant, hq]
  dsimp only
  rw [howner]

theorem closeCheck_idle {s : State} {p : Nat} (h : portState s p ≠ 2) : closeCheck s p = s := if_neg fun hno => h hno.1

/-- A transaction that is not asked for again ends at its deadline. -/
theorem trkTimeout_ends {s : State} {id p k dl : Nat} {again : Bool} {q : TxReq} (hq : s.tx id = some q) (hst : q.st = .sent p k dl again)
    (hdl : dl ≠ 0) (hlast : (q.op ≠ opREAD ∧ q.op ≠ opGET) ∨ again = true) :
    trkTimeout s id = closeCheck ((freeTrk s p k).endTx id csTIMEOUT 0 []) p := by
  have hends : ¬ ((q.op = opREAD ∨ q.op = opGET) ∧ again = false ∧ q.again = false) := by
    rintro ⟨hop, hagain, -⟩
    rcases hlast with ⟨hread, hget⟩ | htrue
    · exact hop.elim hread hget
    · rw [htrue] at hagain; cases hagain
  rw [trkTimeout, hq]
  dsimp only
  rw [hst]
  exact (if_neg hdl).trans (if_neg hends)

theorem completionReceive_unknown {s : State} {tag : Nat}
    (h : (s.port (bitsOf tag 13 9)).trk.find? (fun t => t.1 == tag % 512) = none) (st v : Nat) (data : List Byte) :
    completionReceive s tag st v data = s := by
  rw [completionReceive]
  dsimp only
  rw [h]

theorem completionReceive_tracked {s : State} {tag id : Nat} {e : Nat × Nat}
    (h : (s.port (bitsOf tag 13 9)).trk.find? (fun t => t.1 == tag % 512) = some e) (hid : e.2 = id)
    (hopen : portState s (bitsOf tag 13 9) ≠ 2) (st v : Nat) (data : List Byte) :
    completionReceive s tag st v data =
      closeCheck ((freeTrk s (bitsOf tag 13 9) (tag % 512)).endTx id st v data) (bitsOf tag 13 9) := by
  rw [completionReceive]
  dsimp only
  rw [h, ← hid]
  dsimp only
  rw [if_neg hopen]

/-! ### The rows -/

section
variable {s : State} (hup : s.up = true) {id n i : Nat} {q : TxReq} (hq : s.tx id = some q) (howner : q.owner = .core n i)

section
include hq howner

/-- A tracker is freed and its transaction ends, while its port does not close. -/
theorem freed_ends {p k : Nat} (hopen : portState s p ≠ 2) (st v : Nat) (data : List Byte) :
    let t := closeCheck ((freeTrk s p k).endTx id st v data) p
    OnlyFab s t ∧ t.tx id = some { q with st := .done st v data } ∧ (t.port p).trk = (s.port p).trk.filter (fun e => e.1 ≠ k) := by
  have hq' : (freeTrk s p k).tx id = some q := hq
  have hfab := (freeTrk_eq s p k ▸ onlyFab_setPort s p _ : OnlyFab s (freeTrk s p k)).trans
    (onlyFab_endTx_core hq' howner st v data)
  have hopen' : portState ((freeTrk s p k).endTx id st v data) p ≠ 2 := by rwa [portState, State.fld_of_csr hfab.csr]
  dsimp only
  rw [closeCheck_idle hopen']
  refine ⟨hfab, State.tx_endTx_core hq' howner st v data, ?_⟩
  rw [port_endTx_core hq' howner, freeTrk_eq, State.port_setPort_same]
  rfl

end

include hup hq howner

theorem exec_trackerGrant_other (h : q.st ≠ .waiting) : exec (.fabricTrackerGrant id) s = .next s :=
  exec_same hup (g := fun s => fabTrackerGrant s id) rfl ((fabTrackerGrant_core hq howner).trans (trackerGrant_other hq h none))

theorem runs_trackerGrant_noRoute (hwait : q.st = .waiting) (hroute : routePort s q.node = none) :
    Runs (.fabricTrackerGrant id) s fun t => t.tx id = some { q with st := .done csNO_ROUTE 0 [] } ∧ t.fab.ports = s.fab.ports ∧
      RegsExcept [] s t ∧ MemSame s t := by
  have hfab := onlyFab_endTx_core hq howner csNO_ROUTE 0 []
  exact runs_of_eq hup (g := fun s => fabTrackerGrant s id) rfl
    ((fabTrackerGrant_core hq howner).trans (trackerGrant_noRoute hq hwait hroute)) hfab.pending
    ⟨State.tx_endTx_core hq howner _ _ _, by rw [State.endTx_core hq howner]; rfl, hfab.regs [], hfab.memSame⟩

theorem exec_trackerGrant_full {p : Nat} (hwait : q.st = .waiting) (hroute : routePort s q.node = some p)
    (hver : versionHas (s.port p).running q.op = true) (hfree : freeTracker (s.port p) = none) :
    exec (.fabricTrackerGrant id) s = .next s :=
  exec_same hup (g := fun s => fabTrackerGrant s id) rfl
    ((fabTrackerGrant_core hq howner).trans (trackerGrant_full hq hwait hroute hver hfree))

theorem runs_trackerGrant_sent {p k : Nat} (hwait : q.st = .waiting) (hroute : routePort s q.node = some p)
    (hver : versionHas (s.port p).running q.op = true) (hfree : freeTracker (s.port p) = some k)
    (htmo : s.fld (F.PORT_CONF_TRK_TIMEOUT p) ≠ 0) : Runs (.fabricTrackerGrant id) s fun t =>
      t.tx id = some { q with st := .sent p k (s.now + s.fld (F.PORT_CONF_TRK_TIMEOUT p)) false } ∧
      (t.port p).trk = (s.port p).trk ++ [(k, id)] ∧
      (t.port p).q = (s.port p).q ++ [⟨q.node, q.cls, requestFlits q.node q.cls q.op
        (txHeader (ownNode s) q.op q.sz (k + 512 * p) q.len q.addr) q.data, false, none, some id⟩] ∧
      (∀ e, e ≠ p → t.port e = s.port e) ∧ RegsExcept [] s t ∧ MemSame s t := by
  have hrow := (fabTrackerGrant_core hq howner).trans (trackerGrant_sent hq hwait hroute hver hfree htmo)
  refine runs_of_eq hup (g := fun s => fabTrackerGrant s id) rfl hrow rfl
    ⟨?_, ?_, ?_, fun e he => State.port_setPort_ne _ _ _ he, RegsExcept.refl [] s, fun _ => rfl⟩
  · exact (State.setPort_mapTx_tx s id id p _ _).trans
      ((State.tx_mapTx_same (f := sentAs (.sent p k (s.now + s.fld (F.PORT_CONF_TRK_TIMEOUT p)) false)) fun _ => rfl).trans (by rw [hq]; rfl))
  · rw [State.mapTx_port, State.port_setPort_same]
    rfl
  · rw [State.mapTx_port, State.port_setPort_same, tracked, requestPkt, tx_id hq]

theorem runs_trkTimeout {p k dl : Nat} {again : Bool} (hst : q.st = .sent p k dl again) (hdl : dl ≠ 0) (htime : dl ≤ s.now)
    (hopen : portState s p ≠ 2) (hlast : (q.op ≠ opREAD ∧ q.op ≠ opGET) ∨ again = true) : Runs (.trkTimeout id) s fun t =>
      t.tx id = some { q with st := .done csTIMEOUT 0 [] } ∧ (t.port p).trk = (s.port p).trk.filter (fun e => e.1 ≠ k) ∧
      RegsExcept [] s t ∧ MemSame s t := by
  have hrow : trkTimeoutRow s id = trkTimeout s id := by
    rw [trkTimeoutRow, hq, Option.map_some, hst]
    exact (if_neg hdl).trans (by rw [tickDue_past htime])
  obtain ⟨hfab, htx, htrk⟩ := freed_ends hq howner (k := k) hopen csTIMEOUT 0 []
  exact runs_of_eq hup (g := fun s => trkTimeoutRow s id) rfl (hrow.trans (trkTimeout_ends hq hst hdl hlast)) hfab.pending
    ⟨htx, htrk, hfab.regs [], hfab.memSame⟩

omit howner in
theorem exec_trkTimeout_never {p k : Nat} {again : Bool} (hst : q.st = .sent p k 0 again) : exec (.trkTimeout id) s = .next s := by
  refine exec_same hup (g := fun s => trkTimeoutRow s id) rfl ?_
  rw [trkTimeoutRow, hq, Option.map_some, hst]
  exact if_pos rfl

end

section
variable {s : State} (hup : s.up = true) (tag : BitVec 16) (st : BitVec 8) (v : Word) (data : List Byte)
include hup

theorem exec_completion_unknown (h : (s.port (bitsOf tag.toNat 13 9)).trk.find? (fun t => t.1 == tag.toNat % 512) = none) :
    exec (.completionReceive tag st v data) s = .next s :=
  exec_same hup (g := fun s => completionReceive s tag.toNat st.toNat v.toNat data) rfl (completionReceive_unknown h _ _ _)

theorem runs_completion {q : TxReq} {id n i : Nat}
    (h : (s.port (bitsOf tag.toNat 13 9)).trk.find? (fun t => t.1 == tag.toNat % 512) = some (tag.toNat % 512, id))
    (hopen : portState s (bitsOf tag.toNat 13 9) ≠ 2) (hq : s.tx id = some q) (howner : q.owner = .core n i) :
    Runs (.completionReceive tag st v data) s fun t => t.tx id = some { q with st := .done st.toNat v.toNat data } ∧
      (t.port (bitsOf tag.toNat 13 9)).trk = (s.port (bitsOf tag.toNat 13 9)).trk.filter (fun e => e.1 ≠ tag.toNat % 512) ∧
      RegsExcept [] s t ∧ MemSame s t ∧ CoresExcept [] s t := by
  obtain ⟨hfab, htx, htrk⟩ := freed_ends hq howner (k := tag.toNat % 512) hopen st.toNat v.toNat data
  exact runs_of_eq hup (g := fun s => completionReceive s tag.toNat st.toNat v.toNat data) rfl
    (completionReceive_tracked h rfl hopen _ _ _) hfab.pending ⟨htx, htrk, hfab.regs [], hfab.memSame, hfab.coresSame⟩

end

end Sys2Proof.Machine
end

section
/-! SUPPORT. What a transaction does at its destination: memory, counters and claims (R389, R390, R392, R395, R477). -/

namespace Sys2Proof.Machine

/-! ### Sound memory (R258, R259) -/

section
variable {s : State} {a len : Nat} (h : MemGood s a len)
include h

theorem memGood_below : a + len ≤ stackEnd := by
  have hend : usableEnd s ≤ stackEnd := by
    unfold usableEnd
    split <;> decide
  rcases h.inside with hin | hin <;> simp [lpddrOk, stackOk, inRange] at hin <;> omega

theorem memGood_memOk : memOk s a len = true := by
  rw [memOk]
  rcases h.inside with hin | hin <;> simp [hin]

theorem memGood_noFlash : ¬ (flashBase ≤ a ∧ a < flashEnd) := by
  have hbelow := memGood_below h
  simp only [flashBase, stackEnd] at hbelow ⊢
  omega

theorem memRead_good : memRead s a len = (csOK, s.readBytes (.flat a) len, s) := by
  rw [memRead, if_neg (memGood_noFlash h)]
  dsimp only
  rw [h.opened, h.sound]
  rfl

end

/-- A range of memory that a fabric request writes. -/
def fabWrite (s : State) (a : Nat) (bs : List Byte) : State := (s.writeBytes (.flat a) bs).wholeUnits a bs.length

theorem memWrite_good {s : State} {a : Nat} {bs : List Byte} (h : MemGood s a bs.length) (hfern : s.fernTouched a bs.length = false) :
    memWrite s a bs = (csOK, fabWrite s a bs) := by
  rw [memWrite, hfern, if_neg Bool.false_ne_true, if_neg (memGood_noFlash h)]
  dsimp only
  rw [h.opened]
  rfl

section
variable (s : State) (a : Nat) (bs : List Byte)

theorem fabWrite_eq : ∃ k, fabWrite s a bs = { s with mem := (s.writeBytes (.flat a) bs).mem, mc := k } := by
  obtain ⟨m, hm⟩ := s.writeAt_eq bs (.flat a) 0
  obtain ⟨k, hk, -⟩ := (s.writeBytes (.flat a) bs).wholeUnits_eq a bs.length
  refine ⟨k, ?_⟩
  rw [fabWrite, hk, State.writeBytes, hm]

theorem fabWrite_mem : (fabWrite s a bs).mem = (unitWrite s a bs).mem := by
  obtain ⟨k, hk⟩ := fabWrite_eq s a bs
  rw [hk, unitWrite_mem]

theorem fabWrite_csr : (fabWrite s a bs).csr = s.csr := by obtain ⟨k, hk⟩ := fabWrite_eq s a bs; rw [hk]
theorem fabWrite_fab : (fabWrite s a bs).fab = s.fab := by obtain ⟨k, hk⟩ := fabWrite_eq s a bs; rw [hk]
theorem fabWrite_cores : (fabWrite s a bs).cores = s.cores := by obtain ⟨k, hk⟩ := fabWrite_eq s a bs; rw [hk]
theorem fabWrite_pending : (fabWrite s a bs).pending = s.pending := by obtain ⟨k, hk⟩ := fabWrite_eq s a bs; rw [hk]

/-- The bytes of a fabric write stand, and no others change. -/
theorem bytes_fabWrite : Bytes (fabWrite s a bs) a bs := (bytes_unitWrite s a bs).of_mem (fabWrite_mem s a bs)
theorem memExcept_fabWrite : MemExcept [(a, bs.length)] s (fabWrite s a bs) := (memExcept_unitWrite s a bs).of_mem (fabWrite_mem s a bs)

end

/-! ### The transactions (R389, R390) -/

section
variable {s : State} {q : TxnIn}

theorem doREAD_memory (hctl : isCtl q = false) (hsize : rwSize q = true) (hmem : MemGood s q.addr q.len) :
    doREAD s q = ⟨csOK, 0, s.readBytes (.flat q.addr) q.len, s⟩ := by
  rw [doREAD, hctl, if_neg Bool.false_ne_true, if_pos (by rw [hsize, memGood_memOk hmem]; rfl)]
  dsimp only
  rw [memRead_good hmem]

theorem doWRITE_memory (hctl : isCtl q = false) (hlen : q.data.length = q.len) (hsize : rwSize q = true) (hmem : MemGood s q.addr q.len)
    (hfern : s.fernTouched q.addr q.len = false) (hbox : q.cls = 2 ∨ inMailbox q.addr q.len = false) :
    doWRITE s q = ⟨csOK, 0, [], fabWrite s q.addr q.data⟩ := by
  have hopen : (q.cls == 2 || !(inMailbox q.addr q.len)) = true := by simpa using hbox
  rw [doWRITE, if_neg (not_not.mpr hlen), hctl, if_neg Bool.false_ne_true, if_pos (by rw [hsize, memGood_memOk hmem, hopen]; rfl)]
  dsimp only
  rw [memWrite_good (hlen ▸ hmem) (hlen ▸ hfern)]
  rfl

theorem doGET_memory (hsz : q.sz < 6) (halign : q.addr % 64 = 0) (hmem : MemGood s q.addr (tileLen q.sz)) :
    doGET s q = ⟨csOK, 0, s.readBytes (.flat q.addr) (tileLen q.sz), s⟩ := by
  have hok : (decide (q.sz < 6) && q.addr % 64 == 0 && memOk s q.addr (tileLen q.sz)) = true := by
    simp [hsz, halign, memGood_memOk hmem]
  rw [doGET]
  dsimp only
  rw [if_pos hok, memRead_good hmem]

theorem doPUT_memory (hsz : q.sz < 6) (halign : q.addr % 64 = 0) (hlen : q.data.length = tileLen q.sz)
    (hmem : MemGood s q.addr (tileLen q.sz)) (hfern : s.fernTouched q.addr (tileLen q.sz) = false)
    (hbox : q.cls = 2 ∨ inMailbox q.addr (tileLen q.sz) = false) : doPUT s q = ⟨csOK, 0, [], fabWrite s q.addr q.data⟩ := by
  have hok : (decide (q.sz < 6) && q.data.length == tileLen q.sz && q.addr % 64 == 0 && memOk s q.addr (tileLen q.sz) &&
      (q.cls == 2 || !(inMailbox q.addr (tileLen q.sz)))) = true := by
    have hopen : (q.cls == 2 || !(inMailbox q.addr (tileLen q.sz))) = true := by simpa using hbox
    simp [hsz, halign, hlen, memGood_memOk hmem, hopen]
  rw [doPUT]
  dsimp only
  rw [if_pos hok, memWrite_good (hlen ▸ hmem) (hlen ▸ hfern)]
  rfl

/-- The word that a fetch-add leaves. -/
def faddSum (s : State) (q : TxnIn) : Nat := (s.readLE (.flat q.addr) 8 + leNat (q.data.take 8)) % 2 ^ 64

theorem doFADD_memory (halign : q.addr % 8 = 0) (hmem : MemGood s q.addr 8) (hfern : s.fernTouched q.addr 8 = false)
    (hbox : q.cls = 2 ∨ inMailbox q.addr 8 = false) :
    doFADD s q = ⟨csOK, s.readLE (.flat q.addr) 8, [], fabWrite s q.addr (leBytes 8 (faddSum s q))⟩ := by
  have hok : (q.addr % 8 == 0 && (lpddrOk s q.addr 8 || stackOk q.addr 8) && (q.cls == 2 || !(inMailbox q.addr 8)) &&
      !(s.fernTouched q.addr 8)) = true := by
    have hopen : (q.cls == 2 || !(inMailbox q.addr 8)) = true := by simpa using hbox
    have hin : (lpddrOk s q.addr 8 || stackOk q.addr 8) = true := by simpa using hmem.inside
    simp [halign, hin, hopen, hfern]
  have hlen : (leBytes 8 (faddSum s q)).length = 8 := leBytes_length _ _
  rw [doFADD, if_pos hok]
  dsimp only
  rw [memRead_good hmem]
  dsimp only
  rw [if_neg (not_not.mpr rfl)]
  have hwrite := memWrite_good (s := s) (a := q.addr) (bs := leBytes 8 (faddSum s q)) (by rwa [hlen]) (by rwa [hlen])
  exact congrArg (fun w : Nat × State => (⟨w.1, s.readLE (.flat q.addr) 8, [], w.2⟩ : TxnOut)) hwrite

/-- The doorbell of a COMP counter (R392). -/
theorem doorbellAt_COMP (n : Fin 64) (c : Fin 16) : doorbellAt (R.COMP n c) = some (.comp n c) := by
  have hblock : coreBlock 0 ≤ R.COMP n c ∧ R.COMP n c < coreBlock 64 := by simp only [coreBlock, R.COMP]; omega
  have hoff : (R.COMP n c - coreBlock 0) % 0x10000 = 0x1100 + 8 * c := by simp only [coreBlock, R.COMP]; omega
  have hcore : (R.COMP n c - coreBlock 0) / 0x10000 = n := by simp only [coreBlock, R.COMP]; omega
  rw [doorbellAt, if_neg (by simp only [R.COMP, R.EVC_SWSET]; omega), if_pos hblock]
  dsimp only
  have hslot : (0x1100 + 8 * c.val - 0x1100) / 8 = c := by omega
  rw [hoff, hcore, if_pos (by omega), hslot]

theorem doMSG_COMP {n : Fin 64} {c : Fin 16} (haddr : q.addr = R.COMP n c) :
    doMSG s q = ⟨csOK, 0, [], compAdd s n c (leNat (q.data.take 4))⟩ := by
  rw [doMSG, haddr, doorbellAt_COMP]
  rfl

theorem doCLAIM_counter {i : Fin 64} (haddr : q.addr = R.CLAIM_STATE i) :
    doCLAIM s q = ⟨csOK, claimPair (claimTake s i).1, [], (claimTake s i).2⟩ := by
  have hfind : ((List.range 64).find? fun j => q.addr == R.CLAIM_STATE j) = some i.val := by
    refine List.find?_eq_some_iff_getElem.mpr ⟨by simp [haddr], i.val, by simp, by simp, fun j hj => ?_⟩
    simp [haddr]
    omega
  rw [doCLAIM, hfind]

/-- A claim changes its counter alone. -/
theorem claimTake_onlyEvents (s : State) (i : Nat) : OnlyEvents [R.CLAIM_STATE i] s (claimTake s i).2 := by
  unfold claimTake
  dsimp only
  split
  · exact (OnlyEvents.refl _ s).setFld (f := F.CLAIM_STATE_NEXT i) _ List.mem_cons_self
  · exact OnlyEvents.refl _ s

/-! ### Who is served in the safe state (R477) -/

theorem txnEffect_refused (hsafe : safeActive s = true) (hcls : q.cls ≠ 2) : txnEffect s q = ⟨csPORT_CLOSED, 0, [], s⟩ :=
  if_pos (by simp [hsafe, hcls])

variable (hsafe : safeTakes s q)
include hsafe

theorem txnEffect_taken : txnEffect s q =
    if q.op = opREAD then doREAD s q
    else if q.op = opWRITE then doWRITE s q
    else if q.op = opGET then doGET s q
    else if q.op = opPUT then doPUT s q
    else if q.op = opFADD then doFADD s q
    else if q.op = opMSG then doMSG s q
    else if q.op = opFENCE then .ok s
    else if q.op = opCLAIM then doCLAIM s q
    else .fail s csADDR_ERR := by
  have hserved : ¬ (safeActive s && q.cls != 2) = true := by
    rcases hsafe with hoff | hcls
    · simp [hoff]
    · simp [hcls]
  exact if_neg hserved

theorem txnEffect_read (hop : q.op = opREAD) : txnEffect s q = doREAD s q := by rw [txnEffect_taken hsafe, hop]; rfl
theorem txnEffect_write (hop : q.op = opWRITE) : txnEffect s q = doWRITE s q := by rw [txnEffect_taken hsafe, hop]; rfl
theorem txnEffect_get (hop : q.op = opGET) : txnEffect s q = doGET s q := by rw [txnEffect_taken hsafe, hop]; rfl
theorem txnEffect_put (hop : q.op = opPUT) : txnEffect s q = doPUT s q := by rw [txnEffect_taken hsafe, hop]; rfl
theorem txnEffect_fadd (hop : q.op = opFADD) : txnEffect s q = doFADD s q := by rw [txnEffect_taken hsafe, hop]; rfl
theorem txnEffect_msg (hop : q.op = opMSG) : txnEffect s q = doMSG s q := by rw [txnEffect_taken hsafe, hop]; rfl
theorem txnEffect_fence (hop : q.op = opFENCE) : txnEffect s q = ⟨csOK, 0, [], s⟩ := by rw [txnEffect_taken hsafe, hop]; rfl
theorem txnEffect_claim (hop : q.op = opCLAIM) : txnEffect s q = doCLAIM s q := by rw [txnEffect_taken hsafe, hop]; rfl

end

end Sys2Proof.Machine
end

section
/-! SUPPORT. Arriving transactions and their answers (R387, R391, R394), and the rows. -/

namespace Sys2Proof.Machine

/-! ### Routes (R383) -/

/-- No register of the switch: no port, no route, no node ID. -/
def OffSwitch (as : List Nat) : Prop := ∀ a ∈ as, a < 0x7f0000400000 ∨ 0x7f0000600000 ≤ a

section
variable {s t : State} {as : List Nat} (h : RegsExcept as s t) (has : OffSwitch as)
include h has

theorem reg_of_offSwitch {a : Nat} (hlo : 0x7f0000400000 ≤ a) (hhi : a < 0x7f0000600000) : t.reg a = s.reg a :=
  h a fun hin => by have := has a hin; omega

theorem ownNode_of_offSwitch : ownNode t = ownNode s :=
  congrArg (getBits · 15 0) (reg_of_offSwitch h has (a := R.FAB_NODE) (by decide) (by decide))

theorem portTakes_of_offSwitch {p : Nat} (hp : p < 32) : portTakes t p = portTakes s p := by
  have hstatus := reg_of_offSwitch h has (a := R.PORT_STATUS p) (by simp only [R.PORT_STATUS]; omega) (by simp only [R.PORT_STATUS]; omega)
  have hctrl := reg_of_offSwitch h has (a := R.PORT_CTRL p) (by simp only [R.PORT_CTRL]; omega) (by simp only [R.PORT_CTRL]; omega)
  simp only [portTakes, portActive, lstate, portState, State.fld, hstatus, hctrl]

theorem routePort_of_offSwitch {node : Nat} (hnode : node < 2 ^ 16) : routePort t node = routePort s node := by
  have hentry : routeEntry t node = routeEntry s node := congrArg (getBits · (16 * (node % 4) + 15) (16 * (node % 4)))
    (reg_of_offSwitch h has (a := R.ROUTE (node / 4)) (by simp only [R.ROUTE]; omega) (by simp only [R.ROUTE]; omega))
  have hport (hi lo : Nat) (hsize : hi + 1 - lo = 5) : bitsOf (routeEntry s node) hi lo < 32 := by
    have := Nat.mod_lt (routeEntry s node >>> lo) (Nat.two_pow_pos (hi + 1 - lo))
    rw [hsize] at this
    rwa [bitsOf, hsize]
  simp only [routePort, hentry, portTakes_of_offSwitch h has (hport 4 0 rfl), portTakes_of_offSwitch h has (hport 9 5 rfl)]

end

/-! ### Answers (R391, R394) -/

theorem onlyFab_sendResponse (s : State) (node cls : Nat) (rec data : List Byte) : OnlyFab s (sendResponse s node cls rec data) := by
  unfold sendResponse
  split
  · exact OnlyFab.refl s
  · exact onlyFab_setPort s _ _

section
variable {s u : State} {q : TxnIn} (hfab : u.fab = s.fab) (st v : Nat) (data : List Byte)
include hfab

theorem State.tx_of_fab (id : Nat) : u.tx id = s.tx id := by rw [State.tx, hfab, State.tx]

theorem onlyFab_replyTxn
    (hplain : q.port = loopPort → ∀ x, s.tx q.tag = some x → ∀ k, x.owner ≠ .aperture k ∧ x.owner ≠ .fence k) :
    OnlyFab u (replyTxn u q.port q.cls q.src q.tag q.op st v data) := by
  unfold replyTxn
  split
  · next hloop => exact onlyFab_endTx (fun x hx => hplain hloop x ((State.tx_of_fab hfab _).symm.trans hx)) _ _ _
  · exact onlyFab_sendResponse _ _ _ _ _

theorem answered_replyTxn (hroute : q.port ≠ loopPort → routePort u q.src = routePort s q.src) (hnode : ownNode u = ownNode s) :
    Answered s (replyTxn u q.port q.cls q.src q.tag q.op st v data) q st v data := by
  refine ⟨fun hlink e he => ?_, fun hloop x n id hx howner => ?_⟩
  · rw [replyTxn, if_neg hlink, sendResponse, hroute hlink, he]
    dsimp only
    rw [State.port_setPort_same, Port.enqueue, State.port_of_fab hfab, hnode]
  · rw [replyTxn, if_pos hloop]
    exact State.tx_endTx_core ((State.tx_of_fab hfab _).trans hx) howner st v data

end

/-! ### Arrivals (R387) -/

section
variable {s : State} {op : Nat} {a : Arr} {q : TxnIn}

theorem arrival_op (h : arrival s op a = some q) : q.op = op := by
  cases a with
  | loop cls =>
    obtain ⟨x, -, hx⟩ := Option.bind_eq_some_iff.mp h
    split at hx
    · next hop => cases hx; exact hop
    · cases hx
  | link p cls src tag sz len addr data =>
    rw [arrival] at h
    split at h
    · cases h; rfl
    · cases h

/-- The source of a packet is a node. -/
theorem arrival_src (h : arrival s op a = some q) (hlink : q.port ≠ loopPort) : q.src < 2 ^ 16 := by
  cases a with
  | loop cls =>
    obtain ⟨x, -, hx⟩ := Option.bind_eq_some_iff.mp h
    split at hx
    · cases hx; exact absurd rfl hlink
    · cases hx
  | link p cls src tag sz len addr data =>
    rw [arrival] at h
    split at h
    · cases h; exact src.isLt
    · cases h

theorem txnRow_none (h : arrival s op a = none) : txnRow op a s = s := by
  cases a with
  | loop cls =>
    rw [arrival] at h
    rw [txnRow]
    cases hhead : loopHead s cls.val with
    | none => rfl
    | some x =>
      rw [hhead, Option.bind_some] at h
      exact if_neg fun hop => by rw [if_pos hop] at h; cases h
  | link p cls src tag sz len addr data =>
    rw [arrival] at h
    exact if_neg fun hlink => by rw [if_pos hlink] at h; cases h

theorem txnRow_some (h : arrival s op a = some q) : txnRow op a s = arriveTxn s q := by
  cases a with
  | loop cls =>
    obtain ⟨x, hhead, hx⟩ := Option.bind_eq_some_iff.mp h
    rw [txnRow, hhead]
    split at hx
    · next hop => cases hx; exact if_pos hop
    · cases hx
  | link p cls src tag sz len addr data =>
    rw [arrival] at h
    split at h
    · next hlink => cases h; exact if_pos hlink
    · cases h

theorem arriveTxn_free (h : classStopped s q.port q.cls = false) : arriveTxn s q = applyTxn s q := if_neg (by simp [h])

end

section
variable {s : State} (hup : s.up = true) {op : Nat} {a : Arr} {c : Instr} (hrow : ∀ s, exec c s = ifUp (txnRow op a) s)
include hup hrow

theorem exec_txn_none (h : arrival s op a = none) : exec c s = .next s := exec_same hup (hrow s) (txnRow_none h)

/-- What a transaction that arrives leaves: its effect, in a state with the same switch, and its answer. -/
theorem runs_txn {q : TxnIn} (harr : Arrives s op a q) {st v : Nat} {data : List Byte} {u : State}
    (heffect : txnEffect s q = ⟨st, v, data, u⟩) {as : List Nat} (hfab : u.fab = s.fab) (hpending : u.pending = s.pending)
    (hregs : RegsExcept as s u) (has : OffSwitch as) {P : State → Prop} (hP : ∀ t, Answered s t q st v data → OnlyFab u t → P t) :
    Runs c s P := by
  have hreply := onlyFab_replyTxn hfab st v data harr.plain
  have happly : txnRow op a s = replyTxn u q.port q.cls q.src q.tag q.op st v data := by
    rw [txnRow_some harr.arrival, arriveTxn_free harr.free, applyTxn, heffect]
  exact runs_of_eq hup (hrow s) happly (hreply.pending.trans hpending) (hP _ (answered_replyTxn hfab st v data
    (fun hlink => routePort_of_offSwitch hregs has (arrival_src harr.arrival hlink)) (ownNode_of_offSwitch hregs has)) hreply)

/-- A transaction that only reads. -/
theorem runs_txn_same {q : TxnIn} (harr : Arrives s op a q) {st v : Nat} {data : List Byte} (heffect : txnEffect s q = ⟨st, v, data, s⟩) :
    Runs c s fun t => Answered s t q st v data ∧ RegsExcept [] s t ∧ MemSame s t ∧ CoresExcept [] s t :=
  runs_txn hup hrow harr heffect rfl rfl (RegsExcept.refl [] s) (by simp [OffSwitch]) fun _ hanswer honly =>
    ⟨hanswer, honly.regs [], honly.memSame, honly.coresSame⟩

/-- A transaction that writes memory. -/
theorem runs_txn_write {q : TxnIn} (harr : Arrives s op a q) {v len : Nat} {bs : List Byte} (hlen : bs.length = len)
    (heffect : txnEffect s q = ⟨csOK, v, [], fabWrite s q.addr bs⟩) : Runs c s fun t =>
      Answered s t q csOK v [] ∧ Bytes t q.addr bs ∧ MemExcept [(q.addr, len)] s t ∧ RegsExcept [] s t ∧ CoresExcept [] s t := by
  have hregs := (RegsExcept.refl [] s).of_csr (fabWrite_csr s q.addr bs)
  refine runs_txn hup hrow harr heffect (fabWrite_fab _ _ _) (fabWrite_pending _ _ _) hregs (by simp [OffSwitch])
    fun t hanswer honly => ⟨hanswer, (bytes_fabWrite s q.addr bs).of_mem honly.mem, ?_, hregs.of_csr honly.csr,
      fun n _ => State.core_of_cores (honly.cores.trans (fabWrite_cores s q.addr bs)) n⟩
  rw [← hlen]
  exact (memExcept_fabWrite s q.addr bs).of_mem honly.mem

end

/-! ### The rows of the transactions -/

section
variable {s : State} (hup : s.up = true) {a : Arr} {q : TxnIn}
include hup

theorem runs_fadd (harr : Arrives s opFADD a q) (hsafe : safeTakes s q) (halign : q.addr % 8 = 0) (hmem : MemGood s q.addr 8)
    (hfern : s.fernTouched q.addr 8 = false) (hbox : q.cls = 2 ∨ inMailbox q.addr 8 = false) : Runs (.fadd a) s fun t =>
      Answered s t q csOK (s.readLE (.flat q.addr) 8) [] ∧
      t.readLE (.flat q.addr) 8 = (s.readLE (.flat q.addr) 8 + leNat (q.data.take 8)) % 2 ^ 64 ∧
      MemExcept [(q.addr, 8)] s t ∧ RegsExcept [] s t ∧ CoresExcept [] s t := by
  obtain ⟨t, ht, hanswer, hbytes, hmem', hregs, hcores⟩ := runs_txn_write hup (c := .fadd a) (fun _ => rfl) harr (leBytes_length 8 (faddSum s q))
    ((txnEffect_fadd hsafe (arrival_op harr.arrival)).trans (doFADD_memory halign hmem hfern hbox))
  exact ⟨t, ht, hanswer, hbytes.readEntry (Nat.mod_lt _ (by omega)), hmem', hregs, hcores⟩

theorem runs_msg (n : Fin 64) (c : Fin 16) (harr : Arrives s opMSG a q) (hsafe : safeTakes s q) (haddr : q.addr = R.COMP n c) :
    Runs (.msg a) s fun t => Answered s t q csOK 0 [] ∧
      t.fld (F.COMP_COUNT n c) = (s.fld (F.COMP_COUNT n c) + leNat (q.data.take 4)) % 2 ^ 32 ∧
      RegsExcept [R.COMP n c] s t ∧ CoresExcept [n.val] s t ∧ MemSame s t := by
  obtain ⟨-, -, hpending, hmem, hregs, hcores, hcount⟩ := compAdd_spec (s := s) (n := n) c (leNat (q.data.take 4))
  have hoff : OffSwitch [R.COMP n c] := by simp only [OffSwitch, List.mem_singleton, forall_eq, R.COMP]; omega
  exact runs_txn hup (fun _ => rfl) harr ((txnEffect_msg hsafe (arrival_op harr.arrival)).trans (doMSG_COMP haddr)) rfl hpending
    hregs hoff fun t hanswer honly => ⟨hanswer, (State.fld_of_csr honly.csr _).trans hcount, hregs.of_csr honly.csr,
      fun m hm => (State.core_of_cores honly.cores m).trans (hcores m hm), fun b => State.byte_of_mem (honly.mem.trans hmem) b⟩

theorem runs_fabClaim (i : Fin 64) (harr : Arrives s opCLAIM a q) (hsafe : safeTakes s q) (haddr : q.addr = R.CLAIM_STATE i) :
    Runs (.fabClaim a) s fun t => Answered s t q csOK (claimPair (claimTake s i).1) [] ∧
      t.reg (R.CLAIM_STATE i) = (claimTake s i).2.reg (R.CLAIM_STATE i) ∧ RegsExcept [R.CLAIM_STATE i] s t ∧ MemSame s t := by
  have htake := claimTake_onlyEvents s i
  have hoff : OffSwitch [R.CLAIM_STATE i] := by simp only [OffSwitch, List.mem_singleton, forall_eq, R.CLAIM_STATE]; omega
  exact runs_txn hup (fun _ => rfl) harr ((txnEffect_claim hsafe (arrival_op harr.arrival)).trans (doCLAIM_counter haddr)) htake.fab
    htake.pending htake.regs hoff fun t hanswer honly => ⟨hanswer, State.reg_of_csr honly.csr _, htake.regs.of_csr honly.csr,
      fun b => State.byte_of_mem (honly.mem.trans htake.mem) b⟩

omit hup in
/-- The commands of the transactions, each with its type. -/
theorem exec_txnRow {op : Nat} {c : Instr} (h : (op, c) ∈ [(opREAD, Instr.read a), (opWRITE, .write a), (opGET, .get a),
    (opPUT, .put a), (opFADD, .fadd a), (opMSG, .msg a), (opFENCE, .fence a), (opCLAIM, .fabClaim a)]) (s : State) :
    exec c s = ifUp (txnRow op a) s := by
  simp only [List.mem_cons, Prod.mk.injEq, List.not_mem_nil, or_false] at h
  rcases h with ⟨rfl, rfl⟩ | ⟨rfl, rfl⟩ | ⟨rfl, rfl⟩ | ⟨rfl, rfl⟩ | ⟨rfl, rfl⟩ | ⟨rfl, rfl⟩ | ⟨rfl, rfl⟩ | ⟨rfl, rfl⟩ <;> rfl

end

/-! ### The supervisor's own transactions on the loopback path (R387, R432) -/

section
variable {s : State} (hup : s.up = true) {cls : Fin 3} {x : TxReq} {k : Nat} (hhead : loopHead s cls = some x) (htx : s.tx x.id = some x)
  (hcls : x.cls = cls.val) (hfree : classStopped s loopPort cls = false) (hsafe : safeActive s = false)
include hhead hcls hfree

theorem txnRow_loop {op : Nat} (hop : x.op = op) : txnRow op (.loop cls) s = applyTxn s (x.arrives (ownNode s)) := by
  have harrives : classStopped s (x.arrives (ownNode s)).port (x.arrives (ownNode s)).cls = false :=
    (congrArg (classStopped s loopPort) hcls).trans hfree
  rw [txnRow, hhead]
  exact (if_pos hop).trans (arriveTxn_free harrives)

include hup htx hsafe

theorem runs_fence_supervisor (hop : x.op = opFENCE) (howner : x.owner = .fence k) : Runs (.fence (.loop cls)) s fun t =>
    t.fld (F.SUP_FENCE_FENCE k) = 0 ∧ t.tx x.id = none ∧ t.reply = .ok ∧ RegsExcept [R.SUP_FENCE k] s t ∧ MemSame s t := by
  have hrow : txnRow opFENCE (.loop cls) s = { (s.dropTx x.id).setFld (F.SUP_FENCE_FENCE k) 0 with reply := .ok } := by
    rw [txnRow_loop hhead hcls hfree hop, applyTxn, txnEffect_fence (.inl hsafe) hop]
    exact (if_pos rfl).trans (State.endTx_fence htx howner csOK 0 [])
  refine runs_of_eq hup (g := fun s => txnRow opFENCE (.loop cls) s) rfl hrow rfl
    ⟨State.fld_setFld_same (s.dropTx x.id) (F.SUP_FENCE_FENCE k) 0 (by simp), State.tx_dropTx_same s x.id, rfl, ?_, fun _ => rfl⟩
  exact ((RegsExcept.refl [R.SUP_FENCE k] s).of_csr rfl).setFld (f := F.SUP_FENCE_FENCE k) 0 List.mem_cons_self

theorem runs_read_supervisor (hop : x.op = opREAD) (howner : x.owner = .aperture k) (hlen : x.len = 8) (halign : x.addr % 8 = 0)
    (hmem : MemGood s x.addr 8) : Runs (.read (.loop cls)) s fun t =>
      t.reply = .value (BitVec.ofNat 64 (s.readLE (.flat x.addr) 8)) ∧ t.tx x.id = none ∧ RegsExcept [] s t ∧ MemSame s t := by
  have hbelow := memGood_below hmem
  have hctl : isCtl (x.arrives (ownNode s)) = false := by
    have hlow : ¬ ctlBase ≤ x.addr := by simp only [ctlBase, stackEnd] at hbelow ⊢; omega
    simp [isCtl, inRange, TxReq.arrives, hlow]
  have hsize : rwSize (x.arrives (ownNode s)) = true := by simp [rwSize, TxReq.arrives, hlen, halign]
  have hread := doREAD_memory (s := s) (q := x.arrives (ownNode s)) hctl hsize (show MemGood s x.addr x.len from hlen ▸ hmem)
  have hrow : txnRow opREAD (.loop cls) s =
      { s.dropTx x.id with reply := .value (BitVec.ofNat 64 (s.readLE (.flat x.addr) 8)) } := by
    rw [txnRow_loop hhead hcls hfree hop, applyTxn, txnEffect_read (.inl hsafe) hop, hread]
    refine (if_pos rfl).trans ((State.endTx_apertureRead htx howner hop 0 _).trans ?_)
    rw [State.readLE, ← hlen]
    rfl
  exact runs_of_eq hup (g := fun s => txnRow opREAD (.loop cls) s) rfl hrow rfl
    ⟨rfl, State.tx_dropTx_same s x.id, RegsExcept.refl [] s, fun _ => rfl⟩

end

end Sys2Proof.Machine
end

section
open Sys2Proof Sys2Proof.Machine

/-- Settles O49: trackers, completions and timeouts, then each arriving transaction by its effect and its answer. -/
theorem fabricTransactions : Obligations.FabricTransactions := by
  unfold Obligations.FabricTransactions
  intro s hup
  refine ⟨fun id q n i hq howner _ => ?_, fun tag st v data q id n i => ?_, fun a q => ?_,
    fun cls x k hhead htx hcls hfree hsafe => ⟨runs_fence_supervisor hup hhead htx hcls hfree hsafe,
      runs_read_supervisor hup hhead htx hcls hfree hsafe⟩⟩
  · exact ⟨exec_trackerGrant_other hup hq howner, runs_trackerGrant_noRoute hup hq howner,
      fun p k => runs_trackerGrant_sent hup hq howner, fun p => exec_trackerGrant_full hup hq howner,
      fun p k dl again hst hdl htime hopen hlast => runs_trkTimeout hup hq howner hst hdl htime hopen hlast,
      fun p k again => exec_trkTimeout_never hup hq⟩
  · exact ⟨exec_completion_unknown hup tag st v data, runs_completion hup tag st v data⟩
  · refine ⟨fun harr hsafe hctl hsize hmem => ?_, fun harr hsafe hctl hlen hsize hmem hfern hbox => ?_,
      fun harr hsafe hsz halign hmem => ?_, fun harr hsafe hsz halign hlen hmem hfern hbox => ?_, runs_fadd hup, runs_msg hup,
      fun harr hsafe => ?_, runs_fabClaim hup, fun op c hc => exec_txn_none hup (exec_txnRow hc),
      fun op c hc harr hsafe hcls => ?_⟩
    · exact runs_txn_same hup (fun _ => rfl) harr
        ((txnEffect_read hsafe (arrival_op harr.arrival)).trans (doREAD_memory hctl hsize hmem))
    · exact runs_txn_write hup (fun _ => rfl) harr hlen
        ((txnEffect_write hsafe (arrival_op harr.arrival)).trans (doWRITE_memory hctl hlen hsize hmem hfern hbox))
    · exact runs_txn_same hup (fun _ => rfl) harr
        ((txnEffect_get hsafe (arrival_op harr.arrival)).trans (doGET_memory hsz halign hmem))
    · exact runs_txn_write hup (fun _ => rfl) harr hlen
        ((txnEffect_put hsafe (arrival_op harr.arrival)).trans (doPUT_memory hsz halign hlen hmem hfern hbox))
    · exact runs_txn_same hup (fun _ => rfl) harr (txnEffect_fence hsafe (arrival_op harr.arrival))
    · obtain ⟨t, ht, hanswer, hregs, hmem, -⟩ := runs_txn_same hup (exec_txnRow hc) harr (txnEffect_refused hsafe hcls)
      exact ⟨t, ht, hanswer, hregs, hmem⟩

end
